-- ==== Sys2Proof/Word.lean ====
section
/-! DEFINITION. The words of the FH22: bytes of the framed links and the 32-bit device time. -/

namespace Sys2Proof

/-- One byte of a framed link. -/
abbrev Byte := BitVec 8

/-- A time or duration in milliseconds, counted modulo 2³² (R213). -/
abbrev Time := BitVec 32

end Sys2Proof
end

