-- ==== Sys2Proof/Syntax.lean ====
section
/-! DEFINITION. The commands of the FH22: one constructor of `Instr` per row of spec/opcode_table.json,
and the operand types they use. -/

namespace Sys2Proof

/-- The two serial ports: C (control room) and S (station panel). -/
inductive Port where
  | C | S
  deriving DecidableEq, Repr

/-- The two cars. -/
inductive Car where
  | A | B
  deriving DecidableEq, Repr

/-- An index among four like things: compartments 1..4, e-stop loops 1..4, watches 0..3. -/
inductive Ix4 where
  | i1 | i2 | i3 | i4
  deriving DecidableEq, Repr

/-- A door, named by car and compartment (conventions of 00_scope.md). -/
structure Door where
  car : Car
  comp : Ix4
  deriving DecidableEq, Repr

/-- The two brakes at the drive station (R99). -/
inductive BrakeId where
  | service | sheave
  deriving DecidableEq, Repr

/-- The four brake confirmation contacts (R98). -/
inductive Contact where
  | sbApplied | sbReleased | ebApplied | ebReleased
  deriving DecidableEq, Repr

/-- Four values, one per `Ix4`. -/
structure Quad (α : Type) where
  q1 : α
  q2 : α
  q3 : α
  q4 : α
  deriving DecidableEq, Repr

/-- The levels of the wired inputs that a reset reads (R98, R107, R187). -/
structure Inputs where
  /-- KEY: on is true. -/
  key : Bool
  /-- ESTOP 1..4: closed (healthy) is true. -/
  loops : Quad Bool
  /-- SB APPLIED, closed is true. -/
  sbApplied : Bool
  sbReleased : Bool
  ebApplied : Bool
  ebReleased : Bool
  deriving DecidableEq, Repr

/-! Entries of the line tables, as a LOAD part carries them: stored as given (R2). -/

/-- The line record (R5). -/
structure LineRecord where
  length : Int
  defaultCap : Nat
  maxCruise : Nat
  scale : Nat
  loopStart : Int
  loopEnd : Int
  deriving DecidableEq, Repr

/-- A gradient segment (R6). -/
structure Segment where
  start : Int
  sine : Int
  deriving DecidableEq, Repr

/-- A zone (R7); `stop` is the exclusive end. `side` is the raw code: 1 LEFT, 2 RIGHT, 3 BOTH. -/
structure Zone where
  enabled : Bool
  start : Int
  stop : Int
  cap : Nat
  release : Bool
  side : Nat
  station : Nat
  deriving DecidableEq, Repr

/-- A station (R8). -/
structure Station where
  number : Nat
  stopPos : Int
  terminal : Bool
  autoRelease : Bool
  deriving DecidableEq, Repr

/-- A halt (R9): the station numbers of car A and car B. -/
structure Halt where
  stationA : Nat
  stationB : Nat
  deriving DecidableEq, Repr

/-- A marker (R10). `track` is the raw code: 0 ANY, 1 A_ONLY, 2 B_ONLY. -/
structure Marker where
  id : Nat
  pos : Int
  track : Nat
  deriving DecidableEq, Repr

/-- One entry of the car data (R11). -/
structure CarData where
  emptyMass : Nat
  capacity : Nat
  offsets : Quad Int
  stepFree : Quad Bool
  deriving DecidableEq, Repr

/-- The braking data (R12). -/
structure Braking where
  force : Nat
  mEq : Nat
  tR : Nat
  aMin : Nat
  aSvcCfg : Nat
  aAcc : Nat
  overrun : Nat
  reserve : Nat
  tolerance : Nat
  stretchBound : Nat
  deriving DecidableEq, Repr

/-- One entry of the gate table (R13). -/
structure GateEntry where
  address : Nat
  station : Nat
  compartment : Nat
  deriving DecidableEq, Repr

/-- One entry of the fare class table as LOAD_CLASSES carries it (R158): raw values. -/
structure ClassBytes where
  enabled : Nat
  persons : Nat
  mass : Nat
  stepFree : Nat
  deriving DecidableEq, Repr

/-- The fields of a SET_WATCH body after the index (R90), raw codes. -/
structure WatchBytes where
  car : Nat
  pos : Int
  sense : Nat
  action : Nat
  keep : Nat
  deriving DecidableEq, Repr

/-- The requests of the catalogue (section 11.3) with their body fields (section 11.6). -/
inductive Request where
  | loadSegments (n i : Nat) (line : Option LineRecord) (es : List Segment)
  | loadZones (n i : Nat) (es : List Zone)
  | loadStations (n i : Nat) (es : List Station)
  | loadHalts (n i : Nat) (es : List Halt)
  | loadMarkers (n i : Nat) (es : List Marker)
  | loadCars (n i : Nat) (es : List CarData)
  | loadBraking (n i : Nat) (es : List Braking)
  | loadGates (n i : Nat) (es : List GateEntry)
  | commitGeometry
  | discardGeometry
  | readGeometry (table copy first : Nat)
  | setMode (mode : Nat)
  | clearSeverity
  | restart
  | readStatus
  | setReference (halt : Nat)
  | readPosition
  | announceRun (halt : Option Nat)
  | startRun (target cruise : Nat)
  | holdRun
  | resumeRun
  | cancelRun
  | setWatch (index : Nat) (w : WatchBytes)
  | clearWatch (index : Nat)
  | readRun
  | clearTrip
  | releaseTrackBrakes
  | readTrip
  | releaseDoors (cars comps : Nat)
  | lockDoors (cars : Nat)
  | isolateDoor (door : Nat)
  | restoreDoor (door : Nat)
  | readDoors
  | releaseGateBus
  | setGate (address enabled mode scale verify : Nat)
  | openStation (station : Nat)
  | closeStation (station : Nat)
  | loadClasses (es : List ClassBytes)
  | setPassback (minutes : Nat)
  | readGates (first : Nat)
  | readTally
  | setNotice (cls enabled priority route : Nat)
  | setThreshold (port threshold : Nat)
  deriving DecidableEq, Repr

/-- What every request command carries beside its body: the milliseconds since the command before it,
the port, the tag and the guard code. -/
structure ReqHead where
  dt : Time
  port : Port
  tag : Byte
  guard : Nat
  deriving DecidableEq, Repr

/-- The commands, one constructor per row of spec/opcode_table.json. `dt` is the time in milliseconds
since the command before it. -/
inductive Instr where
  | powerOn (pins : Inputs)
  | resetLine
  | positionSample (dt : Time)
  | encoderFault (dt : Time)
  | markerReport (dt : Time) (car : Car) (id : Nat)
  | plannedWaitExpiry (dt : Time)
  | torqueTimeout (dt : Time)
  | contactChange (dt : Time) (contact : Contact) (closed : Bool)
  | brakeTimerExpiry (dt : Time) (brake : BrakeId)
  | trackBrakeTimerExpiry (dt : Time) (car : Car)
  | estopChange (dt : Time) (loop : Ix4) (closed : Bool)
  | keyChange (dt : Time) (on : Bool)
  | carFrameSend (dt : Time)
  | carFrameReceived (dt : Time) (car : Car) (bytes : List Byte)
  | linkStaleExpiry (dt : Time) (car : Car)
  | linkLostExpiry (dt : Time) (car : Car)
  | driveStatusFrame (dt : Time) (bytes : List Byte)
  | driveSilenceExpiry (dt : Time)
  | gateAnswer (dt : Time) (bytes : List Byte)
  | gateResponseTimeout (dt : Time)
  | passageTimeout (dt : Time) (gate : Nat)
  | passbackExpiry (dt : Time) (ticket : Nat)
  | reopenTimerExpiry (dt : Time) (door : Door)
  | closeTimerExpiry (dt : Time) (door : Door)
  | controlFrameReceived (dt : Time) (port : Port) (bytes : List Byte)
  | receiveTimeout (dt : Time) (port : Port)
  | transmitterFree (dt : Time) (port : Port)
  | loadSegments (h : ReqHead) (n i : Nat) (line : Option LineRecord) (es : List Segment)
  | loadZones (h : ReqHead) (n i : Nat) (es : List Zone)
  | loadStations (h : ReqHead) (n i : Nat) (es : List Station)
  | loadHalts (h : ReqHead) (n i : Nat) (es : List Halt)
  | loadMarkers (h : ReqHead) (n i : Nat) (es : List Marker)
  | loadCars (h : ReqHead) (n i : Nat) (es : List CarData)
  | loadBraking (h : ReqHead) (n i : Nat) (es : List Braking)
  | loadGates (h : ReqHead) (n i : Nat) (es : List GateEntry)
  | commitGeometry (h : ReqHead)
  | discardGeometry (h : ReqHead)
  | readGeometry (h : ReqHead) (table copy first : Nat)
  | setMode (h : ReqHead) (mode : Nat)
  | clearSeverity (h : ReqHead)
  | restart (h : ReqHead)
  | readStatus (h : ReqHead)
  | setReference (h : ReqHead) (halt : Nat)
  | readPosition (h : ReqHead)
  | announceRun (h : ReqHead) (halt : Option Nat)
  | startRun (h : ReqHead) (target cruise : Nat)
  | holdRun (h : ReqHead)
  | resumeRun (h : ReqHead)
  | cancelRun (h : ReqHead)
  | setWatch (h : ReqHead) (index : Nat) (w : WatchBytes)
  | clearWatch (h : ReqHead) (index : Nat)
  | readRun (h : ReqHead)
  | clearTrip (h : ReqHead)
  | releaseTrackBrakes (h : ReqHead)
  | readTrip (h : ReqHead)
  | releaseDoors (h : ReqHead) (cars comps : Nat)
  | lockDoors (h : ReqHead) (cars : Nat)
  | isolateDoor (h : ReqHead) (door : Nat)
  | restoreDoor (h : ReqHead) (door : Nat)
  | readDoors (h : ReqHead)
  | releaseGateBus (h : ReqHead)
  | setGate (h : ReqHead) (address enabled mode scale verify : Nat)
  | openStation (h : ReqHead) (station : Nat)
  | closeStation (h : ReqHead) (station : Nat)
  | loadClasses (h : ReqHead) (es : List ClassBytes)
  | setPassback (h : ReqHead) (minutes : Nat)
  | readGates (h : ReqHead) (first : Nat)
  | readTally (h : ReqHead)
  | setNotice (h : ReqHead) (cls enabled priority route : Nat)
  | setThreshold (h : ReqHead) (port threshold : Nat)
  | quadratureStep (dt : Time) (up : Bool)
  | controlByteReceived (dt : Time) (port : Port) (byte : Byte)
  deriving DecidableEq, Repr

end Sys2Proof
end

