-- ==== Sys2Proof/Decode.lean ====
section
/-! DEFINITION. The command that a word of opcode-table bits spells. No row of spec/opcode_table.json gives
bits (every row's "fields" is empty), so no word spells a command. The frames of the serial ports are
decoded in Machine/Frames.lean, from the layouts of section 11.6. -/

namespace Sys2Proof

/-- The command a word spells by the table's bits: none, for every word. -/
def decodeTableWord (_nbits _w : Nat) : Option Instr := none

end Sys2Proof
end

