-- ==== Sys2Proof/Config.lean ====
section
/-! DEFINITION. What the manual fixes as constants of the device, and the free values: constants with no
body, which no proof can see into (logs 7, 8 and 9). -/

namespace Sys2Proof.Config

/-- a_cap, the upper clamp on guaranteed deceleration, mm/s² (R12, R46). -/
def aCap : Nat := 2500

/-- The stop tolerance of a car at a station or halt, mm (R121, R147, R164, R185). -/
def stopTolerance : Int := 300

/-- The position figure of an emergency taken before the first sample after a reset, which the manual
leaves open (log 7). -/
opaque freePosition : Nat → Int

/-- The speed figure of such an emergency (log 7). -/
opaque freeSpeed : Nat → Int

/-- The permitted-speed figure of such an emergency (log 7). -/
opaque freeEnvelope : Nat → Nat

/-- a_min and the admission reserve "in force" while no tables are committed (R175, log 9). -/
opaque freeAccel : Nat → Nat

/-- The bytes of a one-byte field whose value needs more than one byte (R212, log 8). -/
opaque unstated8 : Nat → BitVec 8

/-- The bytes of a two-byte field whose value needs more than two bytes (R212, log 8). -/
opaque unstated16 : Nat → BitVec 16

/-- The bytes of a four-byte field whose value needs more than four bytes (R212, log 8). -/
opaque unstated32 : Int → BitVec 32

end Sys2Proof.Config
end

