-- ==== Sys2Proof/Machine/State.lean ====
section
/-! DEFINITION. The state of the FH22, block by block as the Block Overview of 00_scope.md lists them, the
faults and refusals, and the state right after power-on. -/

namespace Sys2Proof

/-- The value of an indexed four. -/
def Quad.get {α : Type} (q : Quad α) : Ix4 → α
  | .i1 => q.q1
  | .i2 => q.q2
  | .i3 => q.q3
  | .i4 => q.q4

/-- An indexed four with one value replaced. -/
def Quad.set {α : Type} (q : Quad α) (i : Ix4) (x : α) : Quad α :=
  match i with
  | .i1 => { q with q1 := x }
  | .i2 => { q with q2 := x }
  | .i3 => { q with q3 := x }
  | .i4 => { q with q4 := x }

/-- The four values in order. -/
def Quad.toList {α : Type} (q : Quad α) : List α := [q.q1, q.q2, q.q3, q.q4]

/-- The same value four times. -/
def Quad.const {α : Type} (x : α) : Quad α := ⟨x, x, x, x⟩

def Quad.map {α β : Type} (f : α → β) (q : Quad α) : Quad β := ⟨f q.q1, f q.q2, f q.q3, f q.q4⟩

/-- One value per car. -/
structure PerCar (α : Type) where
  a : α
  b : α
  deriving DecidableEq, Repr

def PerCar.get {α : Type} (p : PerCar α) : Car → α
  | .A => p.a
  | .B => p.b

def PerCar.set {α : Type} (p : PerCar α) (c : Car) (x : α) : PerCar α :=
  match c with
  | .A => { p with a := x }
  | .B => { p with b := x }

def PerCar.const {α : Type} (x : α) : PerCar α := ⟨x, x⟩

/-- One value per serial port. -/
structure PerPort (α : Type) where
  c : α
  s : α
  deriving DecidableEq, Repr

def PerPort.get {α : Type} (p : PerPort α) : Port → α
  | .C => p.c
  | .S => p.s

def PerPort.set {α : Type} (p : PerPort α) (k : Port) (x : α) : PerPort α :=
  match k with
  | .C => { p with c := x }
  | .S => { p with s := x }

def PerPort.const {α : Type} (x : α) : PerPort α := ⟨x, x⟩

namespace Machine

/-! ### Fields of notices and replies (R212) -/

/-- One field of a reply body or a notice body, by the width R212 gives its kind of value. -/
inductive Field where
  /-- a value drawn from a named set: one byte -/
  | code (n : Nat)
  /-- a flag: one byte, 0 clear and 1 set -/
  | flag (b : Bool)
  /-- every other number, count, index, id and station number: one byte -/
  | num (n : Nat)
  /-- positions, distances, errors, σ, d_limit, stop errors: four bytes signed -/
  | pos (x : Int)
  /-- speeds, v_E, c, v_ref, cruise values: four bytes signed -/
  | speed (x : Int)
  /-- accelerations and k: two bytes unsigned -/
  | accel (n : Nat)
  /-- masses and forces: four bytes signed -/
  | mass (x : Int)
  /-- times and durations: four bytes unsigned -/
  | time (t : Nat)
  /-- encoder counts, count bases, ticket ids: four bytes unsigned -/
  | word (n : Nat)
  /-- a list's count byte -/
  | count (n : Nat)
  /-- the presence byte of an optional field that is absent -/
  | absent
  /-- the presence byte of an optional field whose value fields follow -/
  | present
  deriving DecidableEq, Repr

/-- The reply statuses of section 11.3. -/
inductive Status where
  | done | accepted | guardFalse | busy | authority | mode | state | range | malformed
  | brakeMargin | target | position
  deriving DecidableEq, Repr

/-- The STATE reason codes of section 11.3. -/
inductive Reason where
  | run | motion | gates | key | trip | estop | brakes | doors | link | drive | service
  | noTrip | torque | noCar | sequence
  deriving DecidableEq, Repr

/-- A formed reply: its status byte and its body. -/
structure Reply where
  status : Status
  body : List Field
  deriving DecidableEq, Repr

/-! ### Geometry Store -/

/-- A staging table that is PARTIAL (fewer entries than declared) or COMPLETE (all of them). ABSENT is
`none` (R1). -/
structure Part (α : Type) where
  declared : Nat
  entries : List α
  deriving DecidableEq, Repr

/-- The staged segments table: the line record travels with the segments. -/
structure SegPart where
  line : LineRecord
  part : Part Segment
  deriving DecidableEq, Repr

/-- The staging copy (R1). -/
structure Staging where
  segments : Option SegPart
  zones : Option (Part Zone)
  stations : Option (Part Station)
  halts : Option (Part Halt)
  markers : Option (Part Marker)
  cars : Option (Part CarData)
  braking : Option (Part Braking)
  gates : Option (Part GateEntry)
  deriving DecidableEq, Repr

/-- The staging copy with every table ABSENT. -/
def Staging.empty : Staging := ⟨none, none, none, none, none, none, none, none⟩

/-- The committed tables, with the stations marked no-release by R9. -/
structure Tables where
  line : LineRecord
  segments : List Segment
  zones : List Zone
  stations : List Station
  halts : List Halt
  markers : List Marker
  cars : PerCar CarData
  braking : Braking
  gates : List GateEntry
  noRelease : List Nat
  deriving DecidableEq, Repr

/-- The Geometry Store. -/
structure Geometry where
  committed : Option Tables
  staging : Staging
  deriving DecidableEq, Repr

/-! ### Position Tracker -/

/-- A run direction or a direction of motion that is not NONE. -/
inductive Dir where
  | up | down
  deriving DecidableEq, Repr

/-- Confidence (R26). -/
inductive Confidence where
  | unknown | referenced | confirmed | degraded | lost
  deriving DecidableEq, Repr

/-- An expected marker (R33): its id and position, and whether the sense it was formed in is
increasing. -/
structure Expected where
  id : Nat
  pos : Int
  increasing : Bool
  deriving DecidableEq, Repr

structure Tracker where
  count : BitVec 32
  countBase : BitVec 32
  xBase : Int
  sigma : Int
  /-- up to ten positions, oldest first (R22) -/
  window : List Int
  xA : Int
  xB : Int
  v : Int
  stillCount : Nat
  still : Bool
  /-- STILL has been set at some sample since the last reset (R111, R135) -/
  stillSeen : Bool
  /-- direction of motion, NONE is `none` (R24) -/
  motion : Option Dir
  lastDir : Option Dir
  sampleTime : Time
  conf : Confidence
  expected : PerCar (Option Expected)
  misses : PerCar Nat
  good : Nat
  lastMarker : PerCar (Option Nat)
  stretch : Bool
  deriving DecidableEq, Repr

/-! ### Overspeed Supervisor -/

/-- The envelope record (R42). -/
structure Envelope where
  runId : Nat
  dir : Dir
  xFrom : Int
  xTo : Int
  pA : Int
  limit : Int
  mDesc : Nat
  mAsc : Nat
  m : Nat
  fAid : Int
  cut : Int
  aGuar : Nat
  k : Nat
  aSvc : Nat
  deriving DecidableEq, Repr

/-- The supervision bands. -/
inductive Band where
  | none | warning | service | emergency
  deriving DecidableEq, Repr

/-- The source of a warning or of the SERVICE latch. -/
inductive Source where
  | curve | ceiling | both
  deriving DecidableEq, Repr

/-- The last evaluated values (R42, R53). -/
structure LastEval where
  time : Time
  xA : Int
  v : Int
  vE : Nat
  c : Option Nat
  dLimit : Option Int
  deriving DecidableEq, Repr

/-- The band record (R42). -/
structure BandRec where
  warning : Option Source
  latch : Option Source
  emergency : Bool
  highest : Band
  umCount : Nat
  umArmed : Bool
  last : Option LastEval
  deriving DecidableEq, Repr

/-- Emergency causes (R105), with what the emergency names. -/
inductive Cause where
  | overspeedCurve | overspeedCeiling | limitPassed | rollback | uncommandedMotion | positionLost
  | doorOpen (door : Door)
  | linkLost (car : Car)
  | driveFault (fault silent : Bool)
  | estop (loop : Ix4)
  | brakeApply (brake : BrakeId)
  | carTrackBrake (car : Car)
  deriving DecidableEq, Repr

/-- Escalation causes (R108). -/
inductive EscCause where
  | sheaveApply | decelShort | rope | carTrackBrake
  deriving DecidableEq, Repr

/-- The figures an emergency carries (R61, R105). -/
structure Figures where
  runId : Option Nat
  xA : Int
  v : Int
  vE : Nat
  dLimit : Option Int
  sinceRelease : Option Nat
  deriving DecidableEq, Repr

/-- A valid trip record (R108). The record that is not valid is `none`. `level` is TRACK when true. -/
structure TripRec where
  cause : Cause
  track : Bool
  fig : Figures
  later : Nat
  highest : Option EscCause
  deriving DecidableEq, Repr

structure Supervisor where
  env : Option Envelope
  band : BandRec
  trip : Option TripRec
  deriving DecidableEq, Repr

/-! ### Run Planner -/

/-- The states of a run under way; IDLE is the absence of a run record. -/
inductive RunState where
  | planned | starting | accelerating | cruising | braking | holding | tripped
  deriving DecidableEq, Repr

/-- Hold causes (R64). -/
inductive HoldCause where
  | holdRequest | watch (n : Ix4) | service | door | link | cancel
  deriving DecidableEq, Repr

/-- Stop points (R64). -/
inductive StopPoint where
  | target
  | watch (n : Ix4) (x : Int)
  | asap (vh : Nat) (since : Time)
  deriving DecidableEq, Repr

/-- The fields of the run record that are absent in PLANNED. -/
structure RunDyn where
  aGuar : Nat
  k : Nat
  aSvc : Nat
  aAcc : Nat
  limit : Int
  deriving DecidableEq, Repr

/-- What a resumed run keeps of the hold it leaves, until the start sequence reports (R87). -/
structure LeftHold where
  cause : Option HoldCause
  resumeTarget : Option Nat
  stop : StopPoint
  deriving DecidableEq, Repr

/-- The run record outside IDLE (R64). -/
structure Run where
  id : Nat
  origin : Option Nat
  target : Nat
  pA : Int
  dir : Dir
  requested : Nat
  cruise : Nat
  dyn : Option RunDyn
  stop : StopPoint
  resumeTarget : Option Nat
  holdCause : Option HoldCause
  pendingStop : Option HoldCause
  highest : Band
  releaseTime : Option Time
  planTime : Time
  state : RunState
  leaving : Option LeftHold
  deriving DecidableEq, Repr

inductive RunOutcome where
  | arrived | cancelled | tripped
  deriving DecidableEq, Repr

/-- Closing reasons (R65). -/
inductive CloseReason where
  | arrived | cancelRequest | waitExpired | brakeMargin | estop | position | emergency (c : Cause)
  deriving DecidableEq, Repr

structure LastRun where
  id : Nat
  target : Nat
  outcome : RunOutcome
  reason : CloseReason
  stopError : Option Int
  deriving DecidableEq, Repr

inductive WatchSense where
  | up | down | either
  deriving DecidableEq, Repr

/-- A watch record (R90): `hold` is the action HOLD, `keep` is KEEP. -/
structure Watch where
  enabled : Bool
  car : Car
  pos : Int
  sense : WatchSense
  hold : Bool
  keep : Bool
  deriving DecidableEq, Repr

structure Planner where
  run : Option Run
  nextId : Nat
  pendingRun : Option Nat
  lastRun : Option LastRun
  watches : Quad Watch
  /-- the reference the planner last handed to the Drive Port, forced to 0 by a trip (R89) -/
  ref : Int
  /-- x_A and x_B of the previous sample (R91) -/
  prev : Option (Int × Int)
  deriving DecidableEq, Repr

/-! ### Brake Controller -/

inductive BrakeState where
  | applied | releasing | released | applying | failed
  deriving DecidableEq, Repr

/-- The record of the service or the sheave brake (R99): its state and the start of its running confirm
timer, 1,500 ms in RELEASING and 800 ms in APPLYING. -/
structure BrakeRec where
  state : BrakeState
  timer : Option Time
  deriving DecidableEq, Repr

inductive TrackCmd where
  | hold | apply | release
  deriving DecidableEq, Repr

/-- The record of a car's track brake (R100). -/
structure TrackRec where
  cmd : TrackCmd
  state : Option BrakeState
  timer : Option Time
  deriving DecidableEq, Repr

/-- The sequence states of section 5.3. -/
inductive SeqState where
  | rest | torqueWait | releaseWait | moving | stopWait | abortWait
  deriving DecidableEq, Repr

/-- Reasons of a failed start (R73); BRAKE_RELEASE comes with the detail DOORS where a door that is neither LOCKED nor
isolated failed it (R102). -/
inductive StartFail where
  | drive
  | brakeRelease (doors : Bool)
  deriving DecidableEq, Repr

/-- A running escalation watch (R110). -/
structure EscWatch where
  start : Time
  vTrip : Nat
  aTest : Nat
  deriving DecidableEq, Repr

structure Brakes where
  sbr : Bool
  ebr : Bool
  ten : Bool
  seq : SeqState
  abort : Option StartFail
  torque : Option Time
  service : BrakeRec
  sheave : BrakeRec
  sbApplied : Bool
  sbReleased : Bool
  ebApplied : Bool
  ebReleased : Bool
  track : PerCar TrackRec
  watch : Option EscWatch
  deriving DecidableEq, Repr

/-! ### Door Release Unit -/

inductive DoorState where
  | unknown | locked | released | opened | obstructed | fault
  deriving DecidableEq, Repr

/-- A platform side or release side that is not none. -/
inductive Side where
  | left | right | both
  deriving DecidableEq, Repr

/-- A door record (R118). The timers hold their start. -/
structure DoorRec where
  reported : DoorState
  release : Bool
  isolated : Bool
  attempts : Nat
  close : Option Time
  reopen : Option Time
  failed : Bool
  deriving DecidableEq, Repr

structure Doors where
  recs : PerCar (Quad DoorRec)
  side : PerCar (Option Side)
  deriving DecidableEq, Repr

/-! ### Gate Controller -/

inductive GateState where
  | held | disabled | offline | closed | opened | passing
  deriving DecidableEq, Repr

/-- Refusal reasons sent to a gate (section 11.6). -/
inductive TicketRefusal where
  | cls | stepFree | duplicate | capacity | margin | noService
  deriving DecidableEq, Repr

/-- Commands of the gate bus. -/
inductive GateCmd where
  | opn | shut | admits (persons : Nat) | refuse (r : TicketRefusal)
  deriving DecidableEq, Repr

/-- A command in an outbox; `sent` once its first transaction has been made (R142). -/
structure OutCmd where
  cmd : GateCmd
  sent : Bool
  deriving DecidableEq, Repr

/-- A held admission (R138). `leaf` is the completion mode LEAF_CLOSED. -/
structure Admission where
  ticket : Nat
  car : Car
  persons : Nat
  mass : Nat
  leaf : Bool
  granted : Time
  /-- the passage timeout, from the grant: 2,000 ms times the scale (R151) -/
  span : Nat
  deriving DecidableEq, Repr

/-- A gate record (R138). -/
structure Gate where
  address : Nat
  station : Nat
  compartment : Nat
  enabled : Bool
  leaf : Bool
  scale : Nat
  verify : Bool
  state : GateState
  admission : Option Admission
  /-- ticket id and car of the last admission closed without an outcome -/
  overdue : Option (Nat × Car)
  closePending : Bool
  /-- the commands waiting, first to be sent first: 0 to 2 by R138, three where the joining rules of R142 give three (log 84,
  DESIGN CHOICE) -/
  outbox : List OutCmd
  missed : Nat
  streak : Nat
  retries : Nat
  deriving DecidableEq, Repr

/-- The transaction in progress on the gate bus (R141, R142): `cmd` is the command it carries, a poll
when absent; `final` marks a DISABLED gate's final SHUT. -/
structure Transaction where
  address : Nat
  cmd : Option GateCmd
  verify : Bool
  final : Bool
  inserted : Bool
  start : Time
  frame : List Byte
  deriving DecidableEq, Repr

/-- A fare class (R158). -/
structure FareClass where
  enabled : Bool
  persons : Nat
  mass : Nat
  stepFree : Bool
  deriving DecidableEq, Repr

/-- An entry of the recent-ticket list (R156). -/
structure Recent where
  ticket : Nat
  gate : Nat
  time : Time
  deriving DecidableEq, Repr

/-- A station marked open, with the car its gates are open for (R148). -/
structure OpenMark where
  station : Nat
  car : Car
  deriving DecidableEq, Repr

structure Gates where
  busReleased : Bool
  gates : List Gate
  trans : Option Transaction
  lastMain : Option Nat
  round : List Nat
  openMarks : List OpenMark
  /-- eight fare classes, classes 0..7 in order -/
  classes : List FareClass
  recent : List Recent
  passback : Nat
  deriving DecidableEq, Repr

/-! ### Load Tally -/

inductive CheckOutcome where
  | grant | capacity | margin
  deriving DecidableEq, Repr

/-- A load record (R162). -/
structure Load where
  reading : Option (Nat × Bool)
  window : Option Nat
  released : Bool
  arrival : Option Nat
  departure : Option Nat
  carryMass : Nat
  carryPersons : Nat
  admPersons : Nat
  admMass : Nat
  resPersons : Nat
  resMass : Nat
  lastUpper : Option Nat
  excess : Bool
  short : Bool
  /-- frozen upper and lower while frozen -/
  frozen : Option (Nat × Nat)
  /-- outcome and a_guar of the last admission check (R172) -/
  lastCheck : Option (CheckOutcome × Option Nat)
  deriving DecidableEq, Repr

/-! ### Line Status Unit -/

inductive Mode where
  | unconfigured | locked | automatic | recovery
  deriving DecidableEq, Repr

inductive Severity where
  | clear | degraded | fatal
  deriving DecidableEq, Repr

/-- The entries of the table of present conditions (R181), in the table's order. -/
inductive Condition where
  | confDegraded | confLost | gateOffline
  | linkStale (car : Car) | linkLost (car : Car)
  | doorIsolated | closeFailed
  | excess (car : Car)
  | brakeFailed | trackBrake | driveStart | tripValid
  deriving DecidableEq, Repr

/-- Which conditions are present. -/
structure Conditions where
  confDegraded : Bool
  confLost : Bool
  gateOffline : Bool
  linkStale : PerCar Bool
  linkLost : PerCar Bool
  doorIsolated : Bool
  closeFailed : Bool
  excess : PerCar Bool
  brakeFailed : Bool
  trackBrake : Bool
  driveStart : Bool
  tripValid : Bool
  deriving DecidableEq, Repr

/-- The line flags of R184; ATSTOP is held with its halt in `LineStatus.atStop`. -/
structure Flags where
  still : Bool
  doorsLocked : Bool
  noRun : Bool
  noTrip : Bool
  gateShut : Bool
  confirmed : Bool
  clear : Bool
  deriving DecidableEq, Repr

structure LineStatus where
  mode : Mode
  memory : Severity
  conds : Conditions
  flags : Flags
  /-- the halt at which ATSTOP holds; the flag is clear when absent (R185) -/
  atStop : Option Nat
  key : Bool
  loops : Quad Bool
  restartPending : Bool
  deriving DecidableEq, Repr

/-! ### Car Link Controller and Drive Port -/

inductive LinkState where
  | live | stale | lost
  deriving DecidableEq, Repr

/-- One car's link (R189 to R191, R193, R194). -/
structure CarLink where
  state : LinkState
  /-- start of the silence timer -/
  since : Time
  /-- the 300 ms and the 1,000 ms expiry of the running timer have been taken -/
  took300 : Bool
  took1000 : Bool
  streak : Nat
  invalid : Nat
  nextSeq : BitVec 8
  sent : List Byte
  fault : Nat
  lastFrame : List Byte
  /-- marker ids delivered and not yet taken by the tracker, in passing order -/
  markers : List Nat
  deriving DecidableEq, Repr

/-- A drive status (R196). -/
structure DriveStatus where
  ready : Bool
  torqueOn : Bool
  fault : Bool
  deriving DecidableEq, Repr

structure Drive where
  status : Option DriveStatus
  silent : Bool
  timer : Option Time
  lastRef : Int
  lastFrame : List Byte
  deriving DecidableEq, Repr

/-! ### Control Link and Notice Queue -/

/-- A port's receiver (R199): hunting, or inside a frame whose start byte came at `t0`. -/
inductive Receiver where
  | hunting
  | started (t0 : Time)
  | lengthLow (t0 : Time) (low : Byte) (t1 : Time)
  | body (t0 : Time) (length : Nat) (got : List Byte)
  deriving DecidableEq, Repr

/-- What an entry of a reply list holds (R202). -/
inductive EntryState where
  | waiting (guard : Nat) (req : Request)
  | ready (reply : Reply)
  deriving DecidableEq, Repr

/-- An entry of a reply list: tag and kind of one arrived frame. -/
structure ReplyEntry where
  tag : Byte
  kind : Nat
  state : EntryState
  deriving DecidableEq, Repr

/-- The frame a transmitter is sending; `restartDone` marks the DONE reply to an accepted RESTART. -/
structure Sending where
  frame : List Byte
  restartDone : Bool
  deriving DecidableEq, Repr

structure PortState where
  rx : Receiver
  replies : List ReplyEntry
  tx : Option Sending
  deriving DecidableEq, Repr

/-- The notice classes, in the order of their numbers (section 11.4). -/
inductive NoticeClass where
  | run | arrival | intervention | trip | position | door | gate | admission | load | severity
  | watch | link | brake | mode | geometry | queue
  deriving DecidableEq, Repr

/-- A class setting (R206); `toC` and `toS` are the route. -/
structure NoticeSetting where
  enabled : Bool
  priority : Nat
  toC : Bool
  toS : Bool
  deriving DecidableEq, Repr

/-- An entry of the notice queue (R207). `toC` and `toS` are the route of its class as it stood when it was queued. -/
structure Notice where
  cls : NoticeClass
  kind : Nat
  time : Time
  body : List Field
  priority : Nat
  toC : Bool
  toS : Bool
  owedC : Bool
  owedS : Bool
  deriving DecidableEq, Repr

/-- One setting per notice class. -/
structure Settings where
  run : NoticeSetting
  arrival : NoticeSetting
  intervention : NoticeSetting
  trip : NoticeSetting
  position : NoticeSetting
  door : NoticeSetting
  gate : NoticeSetting
  admission : NoticeSetting
  load : NoticeSetting
  severity : NoticeSetting
  watch : NoticeSetting
  link : NoticeSetting
  brake : NoticeSetting
  mode : NoticeSetting
  geometry : NoticeSetting
  queue : NoticeSetting
  deriving DecidableEq, Repr

structure NoticeQueue where
  entries : List Notice
  settings : Settings
  threshold : PerPort Nat
  lost : PerPort Nat
  deriving DecidableEq, Repr

/-! ### The whole device -/

/-- The state of the device, and the queue of commands waiting. -/
structure State where
  /-- the device time (R213) -/
  now : Time
  geo : Geometry
  trk : Tracker
  sup : Supervisor
  plan : Planner
  brk : Brakes
  doors : Doors
  gates : Gates
  tally : PerCar Load
  line : LineStatus
  links : PerCar CarLink
  drive : Drive
  ctl : PerPort PortState
  notices : NoticeQueue
  /-- the model's own counter of free values taken (log 7) -/
  freeSeq : Nat
  /-- the model's own queue of commands, first in, first out -/
  pending : List Instr
  deriving DecidableEq, Repr

/-- The device stops at no event the manual describes, so there is no fault. -/
inductive Fault where
  deriving DecidableEq, Repr

/-- Reasons a command has no meaning in the model. -/
inductive Refusal where
  /-- Raised by an arm of `exec` for a row that has no meaning yet; safe: the run stops there. -/
  | notModelled (mnemonic : String)
  deriving DecidableEq, Repr

/-! ### The state after power-on -/

/-- The inputs as State.reset finds them: the key off, every loop closed, every contact open
(DESIGN CHOICE, log 6). -/
def Inputs.atReset : Inputs := ⟨false, Quad.const true, false, false, false, false⟩

/-- A class setting at its default, routed to C (R206). -/
def NoticeSetting.default (priority : Nat) : NoticeSetting := ⟨true, priority, true, false⟩

/-- The default settings of section 11.4. -/
def Settings.default : Settings where
  run := .default 8
  arrival := .default 8
  intervention := .default 14
  trip := .default 15
  position := .default 8
  door := .default 8
  gate := .default 8
  admission := .default 2
  load := .default 8
  severity := .default 12
  watch := .default 8
  link := .default 8
  brake := .default 8
  mode := .default 8
  geometry := .default 8
  queue := .default 8

/-- The tracker after a reset that finds the encoder at `count` and the track length at `length`
(R41). -/
def Tracker.afterReset (count : BitVec 32) (length : Int) : Tracker where
  count := count
  countBase := count
  xBase := 0
  sigma := 0
  window := []
  xA := 0
  xB := length
  v := 0
  stillCount := 0
  still := false
  stillSeen := false
  motion := none
  lastDir := none
  sampleTime := 0
  conf := .unknown
  expected := .const none
  misses := .const 0
  good := 0
  lastMarker := .const none
  stretch := false

/-- The band record after a reset (R42). -/
def BandRec.afterReset : BandRec := ⟨none, none, false, .none, 0, true, none⟩

/-- A watch record after a reset (R64; its fields other than enabled are log 15). -/
def Watch.afterReset : Watch := ⟨false, .A, 0, .up, false, false⟩

/-- The planner after a reset (R64). -/
def Planner.afterReset : Planner := ⟨none, 1, none, none, Quad.const Watch.afterReset, 0, none⟩

/-- A track brake record after a reset (R117). -/
def TrackRec.afterReset : TrackRec := ⟨.hold, none, none⟩

/-- A door record after a reset, its isolation given (R137). -/
def DoorRec.afterReset (isolated : Bool) : DoorRec := ⟨.unknown, false, isolated, 0, none, none, false⟩

/-- The default class table (R158). -/
def FareClass.table : List FareClass :=
  ⟨true, 1, 80, false⟩ :: List.replicate 7 ⟨false, 0, 0, false⟩

/-- The Gate Controller after power-on (R161). That there is no last main transaction after a reset is the model's choice
(log 77). -/
def Gates.afterPowerOn : Gates := ⟨false, [], none, none, [], [], FareClass.table, [], 15⟩

/-- A load record after a reset (R162). -/
def Load.afterReset : Load :=
  ⟨none, none, false, none, none, 0, 0, 0, 0, 0, 0, none, false, false, none, none⟩

/-- The table of present conditions with nothing present. -/
def Conditions.none : Conditions :=
  ⟨false, false, false, .const false, .const false, false, false, .const false, false, false, false, false⟩

/-- A car link after a reset (R194). -/
def CarLink.afterReset : CarLink := ⟨.stale, 0, false, false, 0, 0, 0, [], 0, [], []⟩

/-- The Drive Port after a reset (R197). -/
def Drive.afterReset : Drive := ⟨none, false, none, 0, []⟩

/-- A port of the Control Link after a reset (R205). -/
def PortState.afterReset : PortState := ⟨.hunting, [], none⟩

/-- The state right after power-on: every block at its power-on value. Of the two notices of the reset (R180, R183), port C is
sending MODE STARTED (POWER_ON, UNCONFIGURED, DEGRADED), since its transmitter was free (R204, R209, log 4), and SEVERITY (CLEAR
to DEGRADED, both links STALE) stands in the queue. -/
def State.reset : State where
  now := 0
  geo := ⟨none, Staging.empty⟩
  trk := Tracker.afterReset 0 0
  sup := ⟨none, BandRec.afterReset, none⟩
  plan := Planner.afterReset
  brk :=
    { sbr := false, ebr := false, ten := false, seq := .rest, abort := none, torque := none,
      service := ⟨.applying, some 0⟩, sheave := ⟨.applying, some 0⟩,
      sbApplied := false, sbReleased := false, ebApplied := false, ebReleased := false,
      track := .const TrackRec.afterReset, watch := none }
  doors := ⟨.const (Quad.const (DoorRec.afterReset false)), .const none⟩
  gates := Gates.afterPowerOn
  tally := .const Load.afterReset
  line :=
    { mode := .unconfigured, memory := .degraded,
      conds := { Conditions.none with linkStale := .const true },
      flags := ⟨false, false, true, true, true, false, false⟩,
      atStop := none, key := false, loops := Quad.const true, restartPending := false }
  links := .const CarLink.afterReset
  drive := Drive.afterReset
  ctl :=
    { c := { PortState.afterReset with
        tx := some
          ⟨[0xA5#8, 0x0B#8, 0x00#8, 0xF0#8, 0x0D#8, 0x00#8,
            0x01#8, 0x00#8, 0x00#8, 0x00#8, 0x00#8, 0x00#8, 0x00#8, 0x01#8, 0x02#8, 0x01#8], false⟩ },
      s := PortState.afterReset }
  notices :=
    { entries :=
        [⟨.severity, 0, 0,
          [.code 0, .code 1, .present, .code 3, .present, .code 0,
           .count 2, .code 3, .present, .code 0, .code 2, .code 1, .code 3, .present, .code 1, .code 2, .code 1],
          12, true, false, true, false⟩],
      settings := Settings.default, threshold := .const 0, lost := .const 0 }
  freeSeq := 0
  pending := []

end Machine
end Sys2Proof
end

