-- ==== Sys2Proof/Machine/Operands.lean ====
section
/-! DEFINITION. Bytes: little-endian fields, the CRC-16 of every framed link (R198), the widths of R212 and
the codes of the named sets (section 11.6, R212). -/

namespace Sys2Proof

/-! ### Codes of the command operands' sets (sections 11.3 and 11.6) -/

def Car.code : Car → Nat
  | .A => 0 | .B => 1

def Ix4.index : Ix4 → Nat
  | .i1 => 0 | .i2 => 1 | .i3 => 2 | .i4 => 3

/-- The number 1..4 of a compartment or e-stop loop. -/
def Ix4.number (i : Ix4) : Nat := i.index + 1

/-- The four with index n, 0..3. -/
def Ix4.ofIndex? : Nat → Option Ix4
  | 0 => some .i1 | 1 => some .i2 | 2 => some .i3 | 3 => some .i4 | _ => none

/-- The four indices in order. -/
def Ix4.all : List Ix4 := [.i1, .i2, .i3, .i4]

/-- Door codes of ISOLATE_DOOR: 0..3 for A1..A4, 4..7 for B1..B4. -/
def Door.code (d : Door) : Nat := 4 * d.car.code + d.comp.index

/-- The door with a code, if the code names one. -/
def Door.ofCode? (n : Nat) : Option Door :=
  if n < 4 then (Ix4.ofIndex? n).map (Door.mk .A) else (Ix4.ofIndex? (n - 4)).map (Door.mk .B)

/-- The eight doors, A1 to A4 and then B1 to B4. -/
def Door.all : List Door := Ix4.all.map (Door.mk .A) ++ Ix4.all.map (Door.mk .B)

def BrakeId.code : BrakeId → Nat
  | .service => 0 | .sheave => 1

/-- The kind byte of a request (section 11.3). -/
def Request.kind : Request → Nat
  | .loadSegments .. => 0x01 | .loadZones .. => 0x02 | .loadStations .. => 0x03
  | .loadHalts .. => 0x04 | .loadMarkers .. => 0x05 | .loadCars .. => 0x06
  | .loadBraking .. => 0x07 | .loadGates .. => 0x08 | .commitGeometry => 0x09
  | .discardGeometry => 0x0A | .readGeometry .. => 0x0B | .setMode .. => 0x0C
  | .clearSeverity => 0x0D | .restart => 0x0E | .readStatus => 0x0F | .setReference .. => 0x10
  | .readPosition => 0x11 | .announceRun .. => 0x12 | .startRun .. => 0x13 | .holdRun => 0x14
  | .resumeRun => 0x15 | .cancelRun => 0x16 | .setWatch .. => 0x17 | .clearWatch .. => 0x18
  | .readRun => 0x19 | .clearTrip => 0x1A | .releaseTrackBrakes => 0x1B | .readTrip => 0x1C
  | .releaseDoors .. => 0x1D | .lockDoors .. => 0x1E | .isolateDoor .. => 0x1F
  | .restoreDoor .. => 0x20 | .readDoors => 0x21 | .releaseGateBus => 0x22 | .setGate .. => 0x23
  | .openStation .. => 0x24 | .closeStation .. => 0x25 | .loadClasses .. => 0x26
  | .setPassback .. => 0x27 | .readGates .. => 0x28 | .readTally => 0x29 | .setNotice .. => 0x2A
  | .setThreshold .. => 0x2B

namespace Machine

/-! ### Little-endian fields -/

/-- The low and high byte of a 16-bit value, low first. -/
def bytes16 (w : BitVec 16) : List Byte := [w.extractLsb' 0 8, w.extractLsb' 8 8]

/-- The four bytes of a 32-bit value, low first. -/
def bytes32 (w : BitVec 32) : List Byte :=
  [w.extractLsb' 0 8, w.extractLsb' 8 8, w.extractLsb' 16 8, w.extractLsb' 24 8]

/-- An unsigned little-endian value. -/
def ofBytes : List Byte → Nat
  | [] => 0
  | b :: bs => b.toNat + 256 * ofBytes bs

/-- A two's complement little-endian value: of two bytes, or of four. -/
def ofBytesSigned (bs : List Byte) : Int :=
  let n := ofBytes bs
  let top := 256 ^ bs.length
  if 2 * n < top then n else (n : Int) - top

/-! ### CRC-16 (R198) -/

/-- One bit of the check sequence: polynomial 0x1021, most significant bit first. -/
def crcBit (r : BitVec 16) : BitVec 16 :=
  if r.msb then (r <<< 1) ^^^ 0x1021#16 else r <<< 1

/-- One byte of the check sequence. -/
def crcByte (r : BitVec 16) (b : Byte) : BitVec 16 :=
  crcBit (crcBit (crcBit (crcBit (crcBit (crcBit (crcBit (crcBit
    (r ^^^ ((b.setWidth 16) <<< 8)))))))))

/-- The check sequence of a list of bytes: initial value 0xFFFF, nothing reflected, no final XOR. -/
def crc16 (bs : List Byte) : BitVec 16 := bs.foldl crcByte 0xFFFF#16

/-- The two check bytes, low byte first. -/
def crcBytes (bs : List Byte) : List Byte := bytes16 (crc16 bs)

/-! ### Fields of replies and notices (R212) -/

/-- One byte, when the value fits one. -/
def enc8 (n : Nat) : List Byte := [if n < 256 then BitVec.ofNat 8 n else Config.unstated8 n]

/-- Two bytes, when the value fits two. -/
def enc16 (n : Nat) : List Byte := bytes16 (if n < 65536 then BitVec.ofNat 16 n else Config.unstated16 n)

/-- Four bytes unsigned, when the value fits four. -/
def enc32 (n : Nat) : List Byte :=
  bytes32 (if n < 4294967296 then BitVec.ofNat 32 n else Config.unstated32 n)

/-- Four bytes signed, when the value fits four. -/
def encI32 (x : Int) : List Byte :=
  bytes32 (if -2147483648 ≤ x ∧ x < 2147483648 then BitVec.ofInt 32 x else Config.unstated32 x)

/-- The bytes of one field (R212). -/
def Field.encode : Field → List Byte
  | .code n => enc8 n
  | .flag b => enc8 (if b then 1 else 0)
  | .num n => enc8 n
  | .pos x => encI32 x
  | .speed x => encI32 x
  | .accel n => enc16 n
  | .mass x => encI32 x
  | .time t => enc32 t
  | .word n => enc32 n
  | .count n => enc8 n
  | .absent => enc8 0
  | .present => enc8 1

/-- The bytes of a body: its fields in order. -/
def encodeBody (fs : List Field) : List Byte := fs.flatMap Field.encode

/-- The number of bytes of a field. -/
def Field.size : Field → Nat
  | .pos _ | .speed _ | .mass _ | .time _ | .word _ => 4
  | .accel _ => 2
  | .code _ | .flag _ | .num _ | .count _ | .absent | .present => 1

/-- The number of bytes of a body. -/
def bodySize (fs : List Field) : Nat := (fs.map Field.size).sum

/-- An optional field: the presence byte, and the value's fields when present. -/
def optF {α : Type} (f : α → List Field) : Option α → List Field
  | none => [.absent]
  | some x => .present :: f x

/-- A list: the count byte, and the entries in order. -/
def listF {α : Type} (f : α → List Field) (xs : List α) : List Field :=
  .count xs.length :: xs.flatMap f

/-! ### Codes of the named sets: the code section 11.6 or 11.3 gives, otherwise the place in the owning
chapter's first list (R212, log 11) -/

def Status.code : Status → Nat
  | .done => 0 | .accepted => 1 | .guardFalse => 2 | .busy => 3 | .authority => 4 | .mode => 5
  | .state => 6 | .range => 7 | .malformed => 8 | .brakeMargin => 9 | .target => 10 | .position => 11

def Reason.code : Reason → Nat
  | .run => 1 | .motion => 2 | .gates => 3 | .key => 4 | .trip => 5 | .estop => 6 | .brakes => 7
  | .doors => 8 | .link => 9 | .drive => 10 | .service => 11 | .noTrip => 12 | .torque => 13
  | .noCar => 14 | .sequence => 15

/-- The direction of a run, and the last direction, in a reply: the places of UP or DOWN. That they are not the 1 UP and 2 DOWN
of the drive's reference frame is the model's choice (log 86). -/
def Dir.code : Dir → Nat
  | .up => 0 | .down => 1

/-- Direction of motion: the places of R24's list. That they are not the codes of the drive's reference frame, 0 NONE, 1 UP and
2 DOWN (`driveDir`), is the model's choice (log 86). -/
def motionCode : Option Dir → Nat
  | some .up => 0 | some .down => 1 | none => 2

def Confidence.code : Confidence → Nat
  | .unknown => 0 | .referenced => 1 | .confirmed => 2 | .degraded => 3 | .lost => 4

def Band.code : Band → Nat
  | .none => 0 | .warning => 1 | .service => 2 | .emergency => 3

def Source.code : Source → Nat
  | .curve => 0 | .ceiling => 1 | .both => 2

/-- Emergency causes: the places of R105's table. -/
def Cause.code : Cause → Nat
  | .overspeedCurve => 0 | .overspeedCeiling => 1 | .limitPassed => 2 | .rollback => 3
  | .uncommandedMotion => 4 | .positionLost => 5 | .doorOpen _ => 6 | .linkLost _ => 7
  | .driveFault .. => 8 | .estop _ => 9 | .brakeApply _ => 10 | .carTrackBrake _ => 11

/-- A cause field: its code, and for ESTOP n the loop number n (log 11). -/
def Cause.fields (c : Cause) : List Field :=
  match c with
  | .estop n => [.code c.code, .num n.number]
  | _ => [.code c.code]

def EscCause.code : EscCause → Nat
  | .sheaveApply => 0 | .decelShort => 1 | .rope => 2 | .carTrackBrake => 3

def RunState.code : RunState → Nat
  | .planned => 1 | .starting => 2 | .accelerating => 3 | .cruising => 4 | .braking => 5
  | .holding => 6 | .tripped => 7

/-- The state code of a run record, 0 for IDLE. -/
def runCode : Option Run → Nat
  | none => 0
  | some r => r.state.code

/-- A hold cause field: its place in R64's list, and for WATCH n the index n. -/
def HoldCause.fields : HoldCause → List Field
  | .holdRequest => [.code 0]
  | .watch n => [.code 1, .num n.index]
  | .service => [.code 2]
  | .door => [.code 3]
  | .link => [.code 4]
  | .cancel => [.code 5]

/-- A stop point field (R64). -/
def StopPoint.fields : StopPoint → List Field
  | .target => [.code 0]
  | .watch n x => [.code 1, .num n.index, .pos x]
  | .asap vh t => [.code 2, .speed vh, .time t.toNat]

def RunOutcome.code : RunOutcome → Nat
  | .arrived => 0 | .cancelled => 1 | .tripped => 2

/-- A closing reason field: its place in R65's list, and after TRIPPED the emergency cause. -/
def CloseReason.fields : CloseReason → List Field
  | .arrived => [.code 0]
  | .cancelRequest => [.code 1]
  | .waitExpired => [.code 2]
  | .brakeMargin => [.code 3]
  | .estop => [.code 4]
  | .position => [.code 5]
  | .emergency c => .code 6 :: c.fields

/-- A start failure field: the place of its reason in R73's table, and the detail DOORS when R102 names it (log 11). -/
def StartFail.fields : StartFail → List Field
  | .drive => [.code 0, .absent]
  | .brakeRelease false => [.code 1, .absent]
  | .brakeRelease true => [.code 1, .present, .code 0]

def WatchSense.code : WatchSense → Nat
  | .up => 0 | .down => 1 | .either => 2

def BrakeState.code : BrakeState → Nat
  | .applied => 0 | .releasing => 1 | .released => 2 | .applying => 3 | .failed => 4

/-- Track brake states: the places of R100's list. That they are not the 1 APPLIED and 2 RELEASED of the car frame, which names
two of the five, is the model's choice (log 86). -/
def trackStateCode : BrakeState → Nat
  | .applied => 0 | .releasing => 1 | .released => 2 | .applying => 3 | .failed => 4

def TrackCmd.code : TrackCmd → Nat
  | .hold => 0 | .apply => 1 | .release => 2

def SeqState.code : SeqState → Nat
  | .rest => 0 | .torqueWait => 1 | .releaseWait => 2 | .moving => 3 | .stopWait => 4 | .abortWait => 5

def DoorState.code : DoorState → Nat
  | .unknown => 0 | .locked => 1 | .released => 2 | .opened => 3 | .obstructed => 4 | .fault => 5

/-- The reported state a car frame's door byte gives: a value other than 1..5 is FAULT (R211). -/
def DoorState.ofByte (b : Byte) : DoorState :=
  match b.toNat with
  | 1 => .locked | 2 => .released | 3 => .opened | 4 => .obstructed | _ => .fault

def Side.code : Side → Nat
  | .left => 1 | .right => 2 | .both => 3

/-- Sides with none: 0 none, 1 LEFT, 2 RIGHT, 3 BOTH. -/
def sideCode : Option Side → Nat
  | none => 0
  | some x => x.code

/-- The side a zone entry's code names. -/
def Side.ofCode? : Nat → Option Side
  | 1 => some .left | 2 => some .right | 3 => some .both | _ => none

def GateState.code : GateState → Nat
  | .held => 0 | .disabled => 1 | .offline => 2 | .closed => 3 | .opened => 4 | .passing => 5

def TicketRefusal.code : TicketRefusal → Nat
  | .cls => 1 | .stepFree => 2 | .duplicate => 3 | .capacity => 4 | .margin => 5 | .noService => 6

/-- The kind byte of a gate command (section 11.6). -/
def GateCmd.kind : GateCmd → Nat
  | .opn => 0x11 | .shut => 0x12 | .admits _ => 0x13 | .refuse _ => 0x14

/-- The argument byte of a gate command. -/
def GateCmd.arg : GateCmd → Nat
  | .opn => 0 | .shut => 0 | .admits n => n | .refuse r => r.code

/-- The outcome of an admission check: the places of GRANT, CAPACITY or MARGIN in section 8.6. That the two refusals are not the
REFUSE codes of the gate bus is the model's choice (log 86). -/
def CheckOutcome.code : CheckOutcome → Nat
  | .grant => 0 | .capacity => 1 | .margin => 2

def Mode.code : Mode → Nat
  | .unconfigured => 0 | .locked => 1 | .automatic => 2 | .recovery => 3

def Severity.code : Severity → Nat
  | .clear => 0 | .degraded => 1 | .fatal => 2

/-- The blocks that hand conditions over, in the order in which the third column of R181's table first names them. -/
inductive Block where
  | positionTracker | gateController | carLinkController | doorReleaseUnit
  | loadTally | brakeController | runPlanner | overspeedSupervisor
  deriving DecidableEq, Repr

/-- The place of a block in that order. No list of the chapter names just these blocks: the codes are the model's choice
(log 73). -/
def Block.code : Block → Nat
  | .positionTracker => 0 | .gateController => 1 | .carLinkController => 2 | .doorReleaseUnit => 3
  | .loadTally => 4 | .brakeController => 5 | .runPlanner => 6 | .overspeedSupervisor => 7

/-- The source of a condition: the block that hands it over (R181). -/
def Condition.source : Condition → Block
  | .confDegraded | .confLost => .positionTracker
  | .gateOffline => .gateController
  | .linkStale _ | .linkLost _ => .carLinkController
  | .doorIsolated | .closeFailed => .doorReleaseUnit
  | .excess _ => .loadTally
  | .brakeFailed | .trackBrake => .brakeController
  | .driveStart => .runPlanner
  | .tripValid => .overspeedSupervisor

/-- A condition field: its place in R181's table, and the car where the condition is held per car, after a presence byte: the
model's choice (log 73). -/
def Condition.fields : Condition → List Field
  | .confDegraded => [.code 0, .absent]
  | .confLost => [.code 1, .absent]
  | .gateOffline => [.code 2, .absent]
  | .linkStale c => [.code 3, .present, .code c.code]
  | .linkLost c => [.code 4, .present, .code c.code]
  | .doorIsolated => [.code 5, .absent]
  | .closeFailed => [.code 6, .absent]
  | .excess c => [.code 7, .present, .code c.code]
  | .brakeFailed => [.code 8, .absent]
  | .trackBrake => [.code 9, .absent]
  | .driveStart => [.code 10, .absent]
  | .tripValid => [.code 11, .absent]

def LinkState.code : LinkState → Nat
  | .live => 0 | .stale => 1 | .lost => 2

def NoticeClass.number : NoticeClass → Nat
  | .run => 0 | .arrival => 1 | .intervention => 2 | .trip => 3 | .position => 4 | .door => 5
  | .gate => 6 | .admission => 7 | .load => 8 | .severity => 9 | .watch => 10 | .link => 11
  | .brake => 12 | .mode => 13 | .geometry => 14 | .queue => 15

/-- The notice class with a number, if there is one. -/
def NoticeClass.ofNumber? : Nat → Option NoticeClass
  | 0 => some .run | 1 => some .arrival | 2 => some .intervention | 3 => some .trip
  | 4 => some .position | 5 => some .door | 6 => some .gate | 7 => some .admission
  | 8 => some .load | 9 => some .severity | 10 => some .watch | 11 => some .link
  | 12 => some .brake | 13 => some .mode | 14 => some .geometry | 15 => some .queue
  | _ => none

/-- The kind byte of the reply to a frame of a kind: the kind plus 0x80, and 0xFF for a kind the
catalogue does not list (R200). -/
def replyKind (kind : Nat) : Nat := if 1 ≤ kind ∧ kind ≤ 0x2B then kind + 0x80 else 0xFF

/-! ### Square roots -/

/-- Binary digits of the root, from bit `k - 1` down: the greatest r at or above the given one, built of
those bits, whose square does not exceed n. -/
def isqrtBits (n : Nat) : Nat → Nat → Nat
  | 0, r => r
  | k + 1, r => if (r + 2 ^ k) * (r + 2 ^ k) ≤ n then isqrtBits n k (r + 2 ^ k) else isqrtBits n k r

/-- isqrt(n), the floor of the square root (00_scope.md, Conventions). -/
def isqrt (n : Nat) : Nat := isqrtBits n (n.log2 / 2 + 1) 0

/-- ceil(a / b) of naturals. -/
def ceilDiv (a b : Nat) : Nat := (a + b - 1) / b

/-- ceil(a / b) of integers, b positive: rounded toward plus infinity. -/
def ceilDivI (a : Int) (b : Int) : Int := -(Int.fdiv (-a) b)

/-- The magnitude of an integer. -/
def mag (x : Int) : Nat := x.natAbs

end Machine
end Sys2Proof
end

