-- ==== Sys2Proof/Machine/Ops.lean ====
section
/-! DEFINITION. The named operations every block uses: elapsed time (R213), the notice queue (R207 to R209),
the table of present conditions and the severity memory (R181 to R183), the line flags (R184, R185) and replies. -/

namespace Sys2Proof

/-- The other car. -/
def Car.other : Car → Car
  | .A => .B
  | .B => .A

namespace Machine

/-! ### Time (R213) -/

/-- The elapsed time between two times: their difference modulo 2³², read as 0..4,294,967,295 (R213). -/
def elapsed (since now : Time) : Nat := (now - since).toNat

/-- The time remaining of a timer of `span` ms started at `since`. -/
def remaining (span : Nat) (since now : Time) : Nat := span - elapsed since now

/-- A timer of `span` ms that runs and has been reached. -/
def due (span : Nat) (timer : Option Time) (now : Time) : Bool :=
  match timer with
  | some t => decide (span ≤ elapsed t now)
  | none => false

/-- Time passes by `dt` ms (R213). -/
def State.advance (s : State) (dt : Time) : State := { s with now := s.now + dt }

/-! ### The notice queue -/

/-- The setting of a class. -/
def Settings.get (t : Settings) : NoticeClass → NoticeSetting
  | .run => t.run | .arrival => t.arrival | .intervention => t.intervention | .trip => t.trip
  | .position => t.position | .door => t.door | .gate => t.gate | .admission => t.admission
  | .load => t.load | .severity => t.severity | .watch => t.watch | .link => t.link
  | .brake => t.brake | .mode => t.mode | .geometry => t.geometry | .queue => t.queue

/-- The settings with one class's setting replaced. -/
def Settings.put (t : Settings) (c : NoticeClass) (x : NoticeSetting) : Settings :=
  match c with
  | .run => { t with run := x } | .arrival => { t with arrival := x }
  | .intervention => { t with intervention := x } | .trip => { t with trip := x }
  | .position => { t with position := x } | .door => { t with door := x }
  | .gate => { t with gate := x } | .admission => { t with admission := x }
  | .load => { t with load := x } | .severity => { t with severity := x }
  | .watch => { t with watch := x } | .link => { t with link := x }
  | .brake => { t with brake := x } | .mode => { t with mode := x }
  | .geometry => { t with geometry := x } | .queue => { t with queue := x }

/-- Room of the notice queue (R207). -/
def noticeRoom : Nat := 32

/-- A count 0..255 that saturates. -/
def satInc (n : Nat) : Nat := if n < 255 then n + 1 else 255

/-- The lost counts after a notice is lost to the ports given (R208). -/
def countLost (lost : PerPort Nat) (toC toS : Bool) : PerPort Nat :=
  ⟨if toC then satInc lost.c else lost.c, if toS then satInc lost.s else lost.s⟩

/-- The lowest priority among entries, `p` when there are none below it. -/
def lowestPriority (es : List Notice) (p : Nat) : Nat := es.foldl (fun m e => min m e.priority) p

/-- The first entry of a priority. -/
def firstOf (p : Nat) (es : List Notice) : Option Notice := es.find? (fun e => e.priority == p)

/-- The entries without the first one of a priority. -/
def dropFirst (p : Nat) (es : List Notice) : List Notice := es.eraseP (fun e => e.priority == p)

/-- A notice joins the queue, with its class's priority and route and an owed mark for each port of the route: discarded
when its class is disabled, at the end when there is room (R207);
otherwise the oldest of the lowest priority gives way to a higher one, or the new one is lost (R208). -/
def NoticeQueue.add (q : NoticeQueue) (cls : NoticeClass) (kind : Nat) (now : Time)
    (body : List Field) : NoticeQueue :=
  let t := q.settings.get cls
  let n : Notice := ⟨cls, kind, now, body, t.priority, t.toC, t.toS, t.toC, t.toS⟩
  if t.enabled = false then q
  else if q.entries.length < noticeRoom then { q with entries := q.entries ++ [n] }
  else
    match firstOf (lowestPriority q.entries t.priority) q.entries with
    | some old =>
      if old.priority < t.priority then
        { q with entries := dropFirst old.priority q.entries ++ [n],
                 lost := countLost q.lost old.owedC old.owedS }
      else { q with lost := countLost q.lost t.toC t.toS }
    | none => { q with lost := countLost q.lost t.toC t.toS }

/-- Queue a notice at the present time. -/
def State.notice (s : State) (cls : NoticeClass) (kind : Nat) (body : List Field) : State :=
  { s with notices := s.notices.add cls kind s.now body }

/-- Queue a notice when a test holds. -/
def State.noticeIf (s : State) (b : Bool) (cls : NoticeClass) (kind : Nat) (body : List Field) : State :=
  { s with notices := if b then s.notices.add cls kind s.now body else s.notices }

/-- The entry owed to a port. -/
def Notice.owed (n : Notice) : Port → Bool
  | .C => n.owedC
  | .S => n.owedS

/-- The entry once it has been sent on a port. -/
def Notice.clearOwed (n : Notice) : Port → Notice
  | .C => { n with owedC := false }
  | .S => { n with owedS := false }

/-- The entry a port's transmitter is handed: the highest priority above the threshold, the oldest of
those (R209). -/
def NoticeQueue.choose (q : NoticeQueue) (p : Port) : Option Notice :=
  q.entries.foldl (fun best n =>
    if n.owed p && decide (q.threshold.get p < n.priority) then
      match best with
      | none => some n
      | some b => if b.priority < n.priority then some n else best
    else best) none

/-- The queue once the chosen entry has been handed to a port: its owed mark cleared, the entry gone when
owed to no port, the lost count 0 (R209). -/
def NoticeQueue.handed (q : NoticeQueue) (p : Port) (n : Notice) : NoticeQueue :=
  let m := n.clearOwed p
  { q with
    entries := if m.owedC || m.owedS then q.entries.replace n m else q.entries.erase n,
    lost := q.lost.set p 0 }

/-! ### Severity (R181 to R183) -/

/-- The higher of two severities. -/
def Severity.max : Severity → Severity → Severity
  | .fatal, _ => .fatal
  | _, .fatal => .fatal
  | .degraded, _ => .degraded
  | _, .degraded => .degraded
  | .clear, .clear => .clear

/-- The level of a condition (R181). -/
def Condition.level : Condition → Severity
  | .confDegraded | .gateOffline | .linkStale _ | .doorIsolated | .closeFailed | .excess _
  | .brakeFailed | .driveStart => .degraded
  | .confLost | .linkLost _ | .trackBrake | .tripValid => .fatal

/-- The entries of the table in the order of R181. -/
def Condition.all : List Condition :=
  [.confDegraded, .confLost, .gateOffline, .linkStale .A, .linkStale .B, .linkLost .A, .linkLost .B,
   .doorIsolated, .closeFailed, .excess .A, .excess .B, .brakeFailed, .trackBrake, .driveStart, .tripValid]

/-- Whether a condition is present. -/
def Conditions.has (t : Conditions) : Condition → Bool
  | .confDegraded => t.confDegraded | .confLost => t.confLost | .gateOffline => t.gateOffline
  | .linkStale c => t.linkStale.get c | .linkLost c => t.linkLost.get c
  | .doorIsolated => t.doorIsolated | .closeFailed => t.closeFailed | .excess c => t.excess.get c
  | .brakeFailed => t.brakeFailed | .trackBrake => t.trackBrake | .driveStart => t.driveStart
  | .tripValid => t.tripValid

/-- The table with a condition handed over as present or not. -/
def Conditions.put (t : Conditions) (c : Condition) (b : Bool) : Conditions :=
  match c with
  | .confDegraded => { t with confDegraded := b } | .confLost => { t with confLost := b }
  | .gateOffline => { t with gateOffline := b }
  | .linkStale k => { t with linkStale := t.linkStale.set k b }
  | .linkLost k => { t with linkLost := t.linkLost.set k b }
  | .doorIsolated => { t with doorIsolated := b } | .closeFailed => { t with closeFailed := b }
  | .excess k => { t with excess := t.excess.set k b }
  | .brakeFailed => { t with brakeFailed := b } | .trackBrake => { t with trackBrake := b }
  | .driveStart => { t with driveStart := b } | .tripValid => { t with tripValid := b }

/-- The conditions present, in the table's order. -/
def Conditions.list (t : Conditions) : List Condition := Condition.all.filter t.has

/-- The present level: the highest level among the entries present (R181). -/
def Conditions.level (t : Conditions) : Severity :=
  t.list.foldl (fun m c => m.max c.level) .clear

/-- The reported severity: the higher of the memory and the present level (R182). -/
def LineStatus.reported (l : LineStatus) : Severity := l.memory.max l.conds.level

/-- A condition present, as the lists of notices and replies carry it: the condition, its source and its level (R181, R188).
That the lists of R182 and R183 carry source and level too is the model's choice (log 73). -/
def Condition.entry (c : Condition) : List Field := c.fields ++ [.code c.source.code, .code c.level.code]

/-- The list of conditions present, in the order of R181's table (log 79). -/
def Conditions.fields (t : Conditions) : List Field := listF Condition.entry t.list

/-- The body of a SEVERITY notice (R182): before, after, the condition that caused it, absent for CLEAR_SEVERITY (log 73,
DESIGN CHOICE), and the conditions present. -/
def severityBody (before after : Severity) (cause : Option Condition) (t : Conditions) : List Field :=
  [.code before.code, .code after.code] ++ optF Condition.fields cause ++ t.fields

/-- The line status after a condition is handed over: the table, and the memory raised to the reported
severity (R181, R182). -/
def LineStatus.handOver (l : LineStatus) (c : Condition) (b : Bool) : LineStatus :=
  let l' := { l with conds := l.conds.put c b }
  { l' with memory := l'.reported }

/-- An owner hands over a condition: the table, the memory, and a SEVERITY notice when the reported
severity changes (R181, R182). -/
def State.handOver (s : State) (c : Condition) (b : Bool) : State :=
  let after := s.line.handOver c b
  { s with
    line := after,
    notices :=
      if s.line.reported = after.reported then s.notices
      else s.notices.add .severity 0 s.now
        (severityBody s.line.reported after.reported (some c) after.conds) }

/-! ### What blocks read of each other -/

/-- The direction sign: +1 for UP, −1 for DOWN. -/
def Dir.sign : Dir → Int
  | .up => 1
  | .down => -1

/-- The run state is one of STARTING, ACCELERATING, CRUISING, BRAKING. -/
def RunState.inMotion : RunState → Bool
  | .starting | .accelerating | .cruising | .braking => true
  | .planned | .holding | .tripped => false

/-- The run state is one of ACCELERATING, CRUISING, BRAKING. -/
def RunState.moving : RunState → Bool
  | .accelerating | .cruising | .braking => true
  | .planned | .starting | .holding | .tripped => false

/-- The run state is one in which the bands are evaluated (R53). -/
def RunState.evaluated : RunState → Bool
  | .starting | .accelerating | .cruising | .braking | .holding => true
  | .planned | .tripped => false

/-- A run is STARTING, ACCELERATING, CRUISING or BRAKING. -/
def State.runInMotion (s : State) : Bool := s.plan.run.any (fun r => r.state.inMotion)

/-- STILL is clear, or a run is STARTING or in a moving phase: the condition of R36, R107, R111, R134 and
R192. -/
def State.carsMoving (s : State) : Bool := !s.trk.still || s.runInMotion

/-- The same, STILL being clear counted only once STILL has been seen since the reset (R111, R134,
R135). -/
def State.carsMovingSeen (s : State) : Bool := (!s.trk.still && s.trk.stillSeen) || s.runInMotion

/-- The position of a car. -/
def Tracker.pos (t : Tracker) : Car → Int
  | .A => t.xA
  | .B => t.xB

/-- A door is locked for every interlock (R118). -/
def DoorRec.interlocked (d : DoorRec) : Bool := d.isolated || d.reported == .locked

/-- The record of a door. -/
def Doors.door (d : Doors) (x : Door) : DoorRec := (d.recs.get x.car).get x.comp

/-- The doors with one record replaced. -/
def Doors.put (d : Doors) (x : Door) (r : DoorRec) : Doors :=
  { d with recs := d.recs.set x.car ((d.recs.get x.car).set x.comp r) }

/-- Every door record is LOCKED or isolated (R118). -/
def Doors.allLocked (d : Doors) : Bool := Door.all.all (fun x => (d.door x).interlocked)

/-- A gate is OPEN or PASSING. -/
def Gate.openOrPassing (g : Gate) : Bool := g.state == .opened || g.state == .passing

/-- No gate is OPEN or PASSING (GATESHUT, R184). -/
def Gates.shut (g : Gates) : Bool := g.gates.all (fun x => !x.openOrPassing)

/-- Any e-stop loop is open (the ESTOP condition, R107). -/
def LineStatus.estop (l : LineStatus) : Bool := l.loops.toList.any (fun closed => !closed)

/-- A car's track brake is clear: command HOLD and state RELEASED (R100). -/
def TrackRec.clear (t : TrackRec) : Bool := t.cmd == .hold && t.state == some .released

/-- Both cars' track brakes are clear. -/
def Brakes.trackClear (b : Brakes) : Bool := b.track.a.clear && b.track.b.clear

/-- Both car links are LIVE. -/
def State.linksLive (s : State) : Bool := s.links.a.state == .live && s.links.b.state == .live

/-- The drive is faulted: its last status reports a fault, or the silent mark is set (R196). -/
def Drive.faulted (d : Drive) : Bool := d.silent || d.status.any (fun x => x.fault)

/-- The drive is ready and not faulted (R70, R196). -/
def Drive.ok (d : Drive) : Bool := d.status.any (fun x => x.ready) && !d.faulted

/-- The confidence condition of R39 as the table's two entries. -/
def Confidence.isDegraded : Confidence → Bool
  | .referenced | .degraded => true
  | .unknown | .confirmed | .lost => false

/-- UNKNOWN or LOST: runs refused (R39). -/
def Confidence.noRuns : Confidence → Bool
  | .unknown | .lost => true
  | .referenced | .confirmed | .degraded => false

/-- The cruise cap that follows confidence (R39); none for CONFIRMED, and none of use in UNKNOWN or
LOST. -/
def Confidence.cruiseCap : Confidence → Option Nat
  | .referenced | .degraded => some 3000
  | .unknown | .confirmed | .lost => none

/-- A stop tolerance test: |x − y| ≤ 300. -/
def within (x y : Int) : Bool := decide (mag (x - y) ≤ mag Config.stopTolerance)

/-! ### Replies -/

def Reply.done (body : List Field) : Reply := ⟨.done, body⟩
def Reply.accepted (body : List Field) : Reply := ⟨.accepted, body⟩
def Reply.plain (t : Status) : Reply := ⟨t, []⟩

/-- The reply STATE with its reason code. -/
def Reply.reason (r : Reason) : Reply := ⟨.state, [.code r.code]⟩

/-- The reply RANGE with no detail. -/
def Reply.range : Reply := ⟨.range, []⟩

/-! ### The line flags -/

/-- The line flags as their owners stand (R184). -/
def State.flagsNow (s : State) : Flags where
  still := s.trk.still
  doorsLocked := s.doors.allLocked
  noRun := s.plan.run.isNone
  noTrip := s.sup.trip.isNone
  gateShut := s.gates.shut
  confirmed := s.trk.conf == .confirmed
  clear := s.line.reported == .clear

/-- The flags are handed to the Line Status Unit at the end of the event that changed them (R184). -/
def State.refreshFlags (s : State) : State := { s with line := { s.line with flags := s.flagsNow } }

end Machine
end Sys2Proof
end

