-- ==== Sys2Proof/Machine/Frames.lean ====
section
/-! DEFINITION. The frames of every link (section 11.6): building the frames the device sends, and reading the
frames it receives. -/

namespace Sys2Proof
namespace Machine

/-! ### The common framing: start byte, length, content, check sequence -/

/-- A framed message: the length counts the content, the check covers length through content. -/
def frame (start : Byte) (content : List Byte) : List Byte :=
  let n := bytes16 (BitVec.ofNat 16 content.length)
  start :: (n ++ content ++ crcBytes (n ++ content))

/-- The content of a frame that begins with the start byte, is as long as it says, and has a good check. -/
def unframe (start : Byte) (bs : List Byte) : Option (List Byte) :=
  match bs with
  | b :: l0 :: l1 :: rest =>
    let n := ofBytes [l0, l1]
    let content := rest.take n
    if b = start ∧ rest.length = n + 2 ∧ rest.drop n = crcBytes (l0 :: l1 :: content) then some content
    else none
  | _ => none

/-- One byte at a place, 0 beyond the end. -/
def u8 (bs : List Byte) (i : Nat) : Nat := (bs.getD i 0).toNat

/-- Two bytes unsigned at a place. -/
def u16 (bs : List Byte) (i : Nat) : Nat := ofBytes ((bs.drop i).take 2)

/-- Four bytes unsigned at a place. -/
def u32 (bs : List Byte) (i : Nat) : Nat := ofBytes ((bs.drop i).take 4)

/-- Two bytes signed at a place. -/
def i16 (bs : List Byte) (i : Nat) : Int := ofBytesSigned ((bs.drop i).take 2)

/-- Four bytes signed at a place. -/
def i32 (bs : List Byte) (i : Nat) : Int := ofBytesSigned ((bs.drop i).take 4)

/-- A flag byte: set unless 0, which R211 says of a car frame and which is the model's choice for a zone and a station (log 25). -/
def flagAt (bs : List Byte) (i : Nat) : Bool := u8 bs i != 0

/-- `k` entries of `size` bytes each, read in order. -/
def entries {α : Type} (size k : Nat) (f : List Byte → α) (bs : List Byte) : List α :=
  (List.range k).map (fun j => f (bs.drop (size * j)))

/-! ### Request bodies -/

def readLine (bs : List Byte) : LineRecord :=
  ⟨u32 bs 0, u16 bs 4, u16 bs 6, u16 bs 8, u32 bs 10, u32 bs 14⟩

def readSegment (bs : List Byte) : Segment := ⟨u32 bs 0, i16 bs 4⟩

def readZone (bs : List Byte) : Zone :=
  ⟨flagAt bs 0, u32 bs 1, u32 bs 5, u16 bs 9, flagAt bs 11, u8 bs 12, u8 bs 13⟩

def readStation (bs : List Byte) : Station := ⟨u8 bs 0, u32 bs 1, flagAt bs 5, flagAt bs 6⟩

def readHalt (bs : List Byte) : Halt := ⟨u8 bs 0, u8 bs 1⟩

def readMarker (bs : List Byte) : Marker := ⟨u8 bs 0, u32 bs 1, u8 bs 5⟩

/-- Bit n of a byte, as a mask or as step-free flags carry it. -/
def bitOf (n i : Nat) : Bool := n.testBit i

/-- A car entry. The step-free flag of compartment 1 is bit 0, and bits 4 to 7 are dropped (log 43, DESIGN CHOICE: section
11.6 says one bit per compartment). -/
def readCar (bs : List Byte) : CarData :=
  let f := u8 bs 12
  ⟨u16 bs 0, u16 bs 2, ⟨i16 bs 4, i16 bs 6, i16 bs 8, i16 bs 10⟩,
   ⟨bitOf f 0, bitOf f 1, bitOf f 2, bitOf f 3⟩⟩

def readBraking (bs : List Byte) : Braking :=
  ⟨u32 bs 0, u16 bs 4, u16 bs 6, u16 bs 8, u16 bs 10, u16 bs 12, u16 bs 14, u16 bs 16, u16 bs 18,
   u16 bs 20⟩

def readGate (bs : List Byte) : GateEntry := ⟨u8 bs 0, u8 bs 1, u8 bs 2⟩

def readClass (bs : List Byte) : ClassBytes := ⟨u8 bs 0, u8 bs 1, u16 bs 2, u8 bs 4⟩

def readWatch (bs : List Byte) : WatchBytes := ⟨u8 bs 0, i32 bs 1, u8 bs 5, u8 bs 6, u8 bs 7⟩

/-- A LOAD body with entries of a size: n, first index, entry count, entries. -/
def loadBody {α : Type} (size : Nat) (f : List Byte → α) (mk : Nat → Nat → List α → Request)
    (bs : List Byte) : Option Request :=
  let k := u8 bs 2
  if bs.length = 3 + size * k then some (mk (u8 bs 0) (u8 bs 1) (entries size k f (bs.drop 3))) else none

/-- A segments body: the first part carries the line record before the entries. -/
def loadSegmentsBody (bs : List Byte) : Option Request :=
  let k := u8 bs 2
  if u8 bs 1 = 0 then
    if bs.length = 3 + 18 + 6 * k then
      some (.loadSegments (u8 bs 0) 0 (some (readLine (bs.drop 3))) (entries 6 k readSegment (bs.drop 21)))
    else none
  else if bs.length = 3 + 6 * k then
    some (.loadSegments (u8 bs 0) (u8 bs 1) none (entries 6 k readSegment (bs.drop 3)))
  else none

/-- A body of a fixed length. -/
def fixedBody (n : Nat) (r : Request) (bs : List Byte) : Option Request :=
  if bs.length = n then some r else none

/-- The request of a kind and body, when the catalogue lists the kind and the body has the length it
gives (R200). -/
def readRequest (kind : Nat) (bs : List Byte) : Option Request :=
  match kind with
  | 0x01 => loadSegmentsBody bs
  | 0x02 => loadBody 14 readZone .loadZones bs
  | 0x03 => loadBody 7 readStation .loadStations bs
  | 0x04 => loadBody 2 readHalt .loadHalts bs
  | 0x05 => loadBody 6 readMarker .loadMarkers bs
  | 0x06 => loadBody 13 readCar .loadCars bs
  | 0x07 => loadBody 22 readBraking .loadBraking bs
  | 0x08 => loadBody 3 readGate .loadGates bs
  | 0x09 => fixedBody 0 .commitGeometry bs
  | 0x0A => fixedBody 0 .discardGeometry bs
  | 0x0B => fixedBody 3 (.readGeometry (u8 bs 0) (u8 bs 1) (u8 bs 2)) bs
  | 0x0C => fixedBody 1 (.setMode (u8 bs 0)) bs
  | 0x0D => fixedBody 0 .clearSeverity bs
  | 0x0E => fixedBody 0 .restart bs
  | 0x0F => fixedBody 0 .readStatus bs
  | 0x10 => fixedBody 1 (.setReference (u8 bs 0)) bs
  | 0x11 => fixedBody 0 .readPosition bs
  | 0x12 => fixedBody 1 (.announceRun (if u8 bs 0 = 255 then none else some (u8 bs 0))) bs
  | 0x13 => fixedBody 3 (.startRun (u8 bs 0) (u16 bs 1)) bs
  | 0x14 => fixedBody 0 .holdRun bs
  | 0x15 => fixedBody 0 .resumeRun bs
  | 0x16 => fixedBody 0 .cancelRun bs
  | 0x17 => fixedBody 9 (.setWatch (u8 bs 0) (readWatch (bs.drop 1))) bs
  | 0x18 => fixedBody 1 (.clearWatch (u8 bs 0)) bs
  | 0x19 => fixedBody 0 .readRun bs
  | 0x1A => fixedBody 0 .clearTrip bs
  | 0x1B => fixedBody 0 .releaseTrackBrakes bs
  | 0x1C => fixedBody 0 .readTrip bs
  | 0x1D => fixedBody 2 (.releaseDoors (u8 bs 0) (u8 bs 1)) bs
  | 0x1E => fixedBody 1 (.lockDoors (u8 bs 0)) bs
  | 0x1F => fixedBody 1 (.isolateDoor (u8 bs 0)) bs
  | 0x20 => fixedBody 1 (.restoreDoor (u8 bs 0)) bs
  | 0x21 => fixedBody 0 .readDoors bs
  | 0x22 => fixedBody 0 .releaseGateBus bs
  | 0x23 => fixedBody 5 (.setGate (u8 bs 0) (u8 bs 1) (u8 bs 2) (u8 bs 3) (u8 bs 4)) bs
  | 0x24 => fixedBody 1 (.openStation (u8 bs 0)) bs
  | 0x25 => fixedBody 1 (.closeStation (u8 bs 0)) bs
  | 0x26 => fixedBody 40 (.loadClasses (entries 5 8 readClass bs)) bs
  | 0x27 => fixedBody 1 (.setPassback (u8 bs 0)) bs
  | 0x28 => fixedBody 1 (.readGates (u8 bs 0)) bs
  | 0x29 => fixedBody 0 .readTally bs
  | 0x2A => fixedBody 4 (.setNotice (u8 bs 0) (u8 bs 1) (u8 bs 2) (u8 bs 3)) bs
  | 0x2B => fixedBody 2 (.setThreshold (u8 bs 0) (u8 bs 1)) bs
  | _ => none

/-- A kind of the catalogue (section 11.3). -/
def knownKind (kind : Nat) : Bool := decide (1 ≤ kind) && decide (kind ≤ 0x2B)

/-- An arrived control frame: its kind, tag, guard byte and body. -/
structure ControlFrame where
  kind : Nat
  tag : Byte
  guard : Nat
  body : List Byte
  deriving DecidableEq, Repr

/-- The content of a control frame: kind, tag, guard, body. -/
def ControlFrame.ofContent : List Byte → Option ControlFrame
  | k :: t :: g :: body => some ⟨k.toNat, t, g.toNat, body⟩
  | _ => none

/-- A length that can delimit a control frame (R199). -/
def goodLength (n : Nat) : Bool := decide (3 ≤ n) && decide (n ≤ 243)

/-- A control frame that has arrived whole: start byte 0xA5, a length that delimits it, a good check
(R199). -/
def readControl (bs : List Byte) : Option ControlFrame :=
  if goodLength (ofBytes ((bs.drop 1).take 2)) then (unframe 0xA5#8 bs).bind ControlFrame.ofContent
  else none

/-- The frame of a reply: kind, tag, status, body. -/
def replyFrame (kind : Nat) (tag : Byte) (r : Reply) : List Byte :=
  frame 0xA5#8 (BitVec.ofNat 8 (replyKind kind) :: tag :: BitVec.ofNat 8 r.status.code :: encodeBody r.body)

/-- The frame of a notice: kind 0xF0, class in the tag byte, lost count in the status byte, and a body that
begins with the notice's kind and time (R209). -/
def noticeFrame (n : Notice) (lost : Nat) : List Byte :=
  frame 0xA5#8
    (0xF0#8 :: BitVec.ofNat 8 n.cls.number :: BitVec.ofNat 8 lost :: BitVec.ofNat 8 n.kind ::
      (bytes32 n.time ++ encodeBody n.body))

/-! ### Car frames -/

/-- What a car's frame carries. A track brake state that is neither 1 nor 2 is no report (R211). -/
structure CarReport where
  echo : Byte
  doors : Quad DoorState
  kg : Nat
  settled : Bool
  track : Option Bool
  fault : Nat
  markers : List Nat
  deriving DecidableEq, Repr

/-- The report of a track brake state byte: APPLIED is true (R211). -/
def trackReport : Nat → Option Bool
  | 1 => some true
  | 2 => some false
  | _ => none

/-- A frame from a car: kind 0x02, with a marker count of 0 to 4 and the length that goes with it
(R190, section 11.6). That a frame with another start byte than 0x5A or another kind is invalid like one of a wrong length or
check is the model's choice (log 85): R190 names length, check and echo. -/
def readCarFrame (bs : List Byte) : Option CarReport :=
  match unframe 0x5A#8 bs with
  | some (k :: body) =>
    let m := u8 body 10
    if k = 0x02#8 ∧ m ≤ 4 ∧ body.length = 11 + m then
      some
        { echo := body.getD 0 0
          doors :=
            ⟨.ofByte (body.getD 1 0), .ofByte (body.getD 2 0), .ofByte (body.getD 3 0),
             .ofByte (body.getD 4 0)⟩
          kg := u16 body 5
          settled := flagAt body 7
          track := trackReport (u8 body 8)
          fault := u8 body 9
          markers := (body.drop 11).map (fun b => b.toNat) }
    else none
  | _ => none

/-- A frame to a car: kind 0x01, sequence, door commands, release side, track brake command, moving flag
(R189). -/
def carFrame (seq : BitVec 8) (release : Quad Bool) (side : Option Side) (track : TrackCmd)
    (moving : Bool) : List Byte :=
  let bit (b : Bool) (n : Nat) : Nat := if b then n else 0
  let mask := bit release.q1 1 + bit release.q2 2 + bit release.q3 4 + bit release.q4 8
  frame 0x5A#8
    [0x01#8, seq, BitVec.ofNat 8 mask, BitVec.ofNat 8 (sideCode side), BitVec.ofNat 8 track.code,
     if moving then 1 else 0]

/-! ### Drive frames -/

/-- A status frame from the drive: kind 0x32, one flag byte whose other bits are ignored (R196, R211). That a frame with another
start byte than 0x5A or another kind is discarded like one of a wrong length or check is the model's choice (log 85): R196 names
length and check. -/
def readDriveFrame (bs : List Byte) : Option DriveStatus :=
  match unframe 0x5A#8 bs with
  | some [k, f] => if k = 0x32#8 then some ⟨bitOf f.toNat 0, bitOf f.toNat 1, bitOf f.toNat 2⟩ else none
  | _ => none

/-- The direction byte of a reference frame: 0 NONE, 1 UP, 2 DOWN. -/
def driveDir : Option Dir → Byte
  | none => 0
  | some .up => 1
  | some .down => 2

/-- A reference frame to the drive: kind 0x31, signed reference, direction (R195). -/
def driveFrame (ref : Int) (dir : Option Dir) : List Byte :=
  frame 0x5A#8 (0x31#8 :: (bytes16 (BitVec.ofInt 16 ref) ++ [driveDir dir]))

/-! ### Gate bus frames -/

/-- A frame of the gate bus: address, kind, body, check. -/
def gateFrame (address kind : Nat) (body : List Byte) : List Byte :=
  let c := BitVec.ofNat 8 address :: BitVec.ofNat 8 kind :: body
  c ++ crcBytes c

/-- The frame of a transaction: a poll, or the command it carries (R142). -/
def transactionFrame (address : Nat) : Option GateCmd → List Byte
  | none => gateFrame address 0x10 []
  | some c => gateFrame address c.kind (enc8 c.arg)

/-- A gate's answers. -/
inductive Answer where
  | idle
  | ticket (id cls party : Nat)
  | passed
  | turnedBack
  | fault (code : Nat)
  | echo (kind arg : Nat)
  deriving DecidableEq, Repr

/-- The answer of a kind and body, when the length matches the kind. -/
def readAnswerBody (kind : Nat) (body : List Byte) : Option Answer :=
  match kind, body.length with
  | 0x20, 0 => some .idle
  | 0x21, 6 => some (.ticket (u32 body 0) (u8 body 4) (u8 body 5))
  | 0x22, 0 => some .passed
  | 0x23, 0 => some .turnedBack
  | 0x24, 1 => some (.fault (u8 body 0))
  | 0x25, 2 => some (.echo (u8 body 0) (u8 body 1))
  | _, _ => none

/-- An answer of the gate polled. None stands for a bad check, which a wrong address, an unknown kind and a
wrong length are taken as (R211). -/
def readAnswer (address : Nat) (bs : List Byte) : Option Answer :=
  match bs with
  | a :: k :: rest =>
    let n := rest.length - 2
    let body := rest.take n
    if a.toNat = address ∧ 2 ≤ rest.length ∧ rest.drop n = crcBytes (a :: k :: body) then
      readAnswerBody k.toNat body
    else none
  | _ => none

/-! ### Authority (R201) -/

/-- The request needs the maintenance key (R187). -/
def keyLevel : Request → Bool
  | .setReference _ | .releaseTrackBrakes | .isolateDoor _ | .restoreDoor _ => true
  | _ => false

/-- Port S may send the request (R201). A SET_THRESHOLD naming port C is refused, one naming no port is
passed on. -/
def portMaySend : Request → Bool
  | .readGeometry .. | .readStatus | .readPosition | .readRun | .readTrip | .readDoors | .readGates _
  | .readTally | .holdRun | .releaseDoors .. | .lockDoors _ | .openStation _ | .closeStation _ => true
  | .setThreshold port _ => port != 0
  | _ => false

/-- The port has authority for the request, with the key as the link holds it (R187, R201). -/
def authorised (port : Port) (key : Bool) (r : Request) : Bool :=
  if keyLevel r then key
  else
    match port with
    | .C => true
    | .S => portMaySend r

end Machine
end Sys2Proof
end

