-- ==== Sys2Proof/Machine/Flags.lean ====
section
/-! DEFINITION. The guards of R186 over the line flags, and the evaluation of ATSTOP (R185). -/

namespace Sys2Proof
namespace Machine

/-- A guard code over the flags as they stand (R186). A code above 15 never holds (it is refused before,
as MALFORMED). -/
def LineStatus.guard (l : LineStatus) (code : Nat) : Bool :=
  let f := l.flags
  let atStop := l.atStop.isSome
  match code with
  | 0 => true
  | 1 => f.still
  | 2 => f.still && f.doorsLocked
  | 3 => atStop
  | 4 => atStop && f.doorsLocked
  | 5 => f.noRun
  | 6 => f.noRun && f.still && f.noTrip
  | 7 => f.gateShut
  | 8 => f.gateShut && f.doorsLocked
  | 9 => f.confirmed
  | 10 => f.clear
  | 11 => f.noTrip
  | 12 => f.noTrip && f.clear
  | 13 => f.still && f.noTrip && f.doorsLocked
  | 14 => !f.still
  | _ => false

/-- The station with a number. -/
def Tables.station? (t : Tables) (n : Nat) : Option Station := t.stations.find? (fun x => x.number == n)

/-- What the halt lookup returns (R18). -/
structure HaltInfo where
  pA : Int
  posB : Int
  stationA : Station
  stationB : Station
  deriving DecidableEq, Repr

/-- The halt's two stations, both of them entries of the table. -/
def Tables.haltInfo (t : Tables) (h : Halt) : Option HaltInfo :=
  match t.station? h.stationA, t.station? h.stationB with
  | some a, some b => some ⟨a.stopPos, b.stopPos, a, b⟩
  | _, _ => none

/-- The halt lookup (R18). -/
def Geometry.halt? (g : Geometry) (h : Nat) : Option HaltInfo :=
  match g.committed with
  | none => none
  | some t => (t.halts[h]?).bind t.haltInfo

/-- The first halt, from index `i` on, whose two stops hold both cars (R185). -/
def findStop (t : Tables) (xA xB : Int) : Nat → List Halt → Option Nat
  | _, [] => none
  | i, h :: hs =>
    match t.haltInfo h with
    | some x => if within xA x.pA && within xB x.posB then some i else findStop t xA xB (i + 1) hs
    | none => findStop t xA xB (i + 1) hs

/-- The halt at which ATSTOP holds (R185). -/
def State.findAtStop (s : State) : Option Nat :=
  match s.geo.committed with
  | none => none
  | some t => if s.trk.still then findStop t s.trk.xA s.trk.xB 0 t.halts else none

/-- ATSTOP is evaluated (R185). -/
def State.evalAtStop (s : State) : State := { s with line := { s.line with atStop := s.findAtStop } }

end Machine
end Sys2Proof
end

