-- ==== Sys2Proof/Machine/Lookup.lean ====
section
/-! DEFINITION. The lookup services of the Geometry Store (R17, R18) and the values that stand in for them
while no tables are committed (R20). -/

namespace Sys2Proof
namespace Machine

/-- What the zone lookup returns (R17). -/
structure ZoneInfo where
  cap : Nat
  release : Bool
  side : Option Side
  station : Nat
  index : Option Nat
  deriving DecidableEq, Repr

/-- The lowest-indexed enabled zone, counted from `i`, with start ≤ x < end (R17). -/
def findZone (x : Int) : Nat → List Zone → Option (Nat × Zone)
  | _, [] => none
  | i, z :: zs =>
    if z.enabled && decide (z.start ≤ x) && decide (x < z.stop) then some (i, z)
    else findZone x (i + 1) zs

/-- The zone lookup over a table of zones, with the default cap of the line (R17). -/
def lookupZone (zones : List Zone) (defaultCap : Nat) (x : Int) : ZoneInfo :=
  match findZone x 0 zones with
  | some (i, z) => ⟨z.cap, z.release, Side.ofCode? z.side, z.station, some i⟩
  | none => ⟨defaultCap, false, none, 0, none⟩

/-- The zone lookup (R17). -/
def Geometry.zone (g : Geometry) (x : Int) : ZoneInfo :=
  match g.committed with
  | some t => lookupZone t.zones t.line.defaultCap x
  | none => ⟨0, false, none, 0, none⟩

/-- The sine of the segment that covers x, the first below 0 and the last beyond the end (R18). -/
def sineAt (x : Int) : List Segment → Int
  | [] => 0
  | [g] => g.sine
  | g :: h :: rest => if x < h.start then g.sine else sineAt x (h :: rest)

/-- L, 0 while no tables are committed (R20). -/
def Geometry.length (g : Geometry) : Int :=
  match g.committed with
  | some t => t.line.length
  | none => 0

/-- E, 1,000 while no tables are committed (R20). -/
def Geometry.scale (g : Geometry) : Nat :=
  match g.committed with
  | some t => t.line.scale
  | none => 1000

/-- The stretch bound; no marker can be used without tables. -/
def Geometry.stretchBound (g : Geometry) : Nat :=
  match g.committed with
  | some t => t.braking.stretchBound
  | none => 0

/-- The weigh tolerance, 0 while no tables are committed (R168). -/
def Geometry.tolerance (g : Geometry) : Nat :=
  match g.committed with
  | some t => t.braking.tolerance
  | none => 0

/-- The marker lookup (R18). -/
def Geometry.marker? (g : Geometry) (id : Nat) : Option Marker :=
  match g.committed with
  | some t => t.markers.find? (fun m => m.id == id)
  | none => none

/-- The station with a number, if a committed table holds it. -/
def Geometry.station? (g : Geometry) (n : Nat) : Option Station :=
  match g.committed with
  | some t => t.station? n
  | none => none

/-- The committed stations. -/
def Geometry.stations (g : Geometry) : List Station :=
  match g.committed with
  | some t => t.stations
  | none => []

/-- The station within 300 mm of a position, if there is one. -/
def Geometry.stationAt? (g : Geometry) (x : Int) : Option Station :=
  g.stations.find? (fun p => within x p.stopPos)

/-- The car lies inside the loop, its ends included (R5, R28). -/
def Geometry.inLoop (g : Geometry) (x : Int) : Bool :=
  match g.committed with
  | some t => decide (t.line.loopStart ≤ x) && decide (x ≤ t.line.loopEnd)
  | none => false

/-- The compartment position of a door: the car's position plus the offset (R121). -/
def State.doorPos (s : State) (d : Door) : Int :=
  match s.geo.committed with
  | some t => s.trk.pos d.car + (t.cars.get d.car).offsets.get d.comp
  | none => s.trk.pos d.car

end Machine
end Sys2Proof
end

