-- ==== Sys2Proof/Machine/Envelope.lean ====
section
/-! DEFINITION. The envelope arithmetic of section 3.2: stages 1 to 4 over a span, and the permitted speed of
stage 5. Exact integers stand for the manual's 64-bit intermediates (log 16). -/

namespace Sys2Proof
namespace Machine

/-- The masses a span computation is handed (R43). -/
structure Masses where
  desc : Nat
  asc : Nat
  cars : Nat
  deriving DecidableEq, Repr

/-- What a span computation returns (R43). -/
structure Span where
  fAid : Int
  cut : Int
  m : Nat
  aGuar : Nat
  k : Nat
  aSvc : Nat
  deriving DecidableEq, Repr

/-- Stage 1: the aiding force at position x of car A, rounded toward plus infinity (R44). -/
def aidingForce (t : Tables) (dir : Dir) (ms : Masses) (x : Int) : Int :=
  let sA := sineAt x t.segments
  let sB := sineAt (t.line.length - x) t.segments
  let (sDesc, sAsc) := match dir with
    | .down => (sA, sB)
    | .up => (sB, sA)
  ceilDivI (981 * (ms.desc * sDesc - ms.asc * sAsc)) 1000000

/-- A point into an increasing list without repeats. -/
def insertPoint (x : Int) : List Int → List Int
  | [] => [x]
  | y :: ys => if x < y then x :: y :: ys else if x = y then y :: ys else y :: insertPoint x ys

/-- The cut points of a span in increasing order without repeats (R45). -/
def cutPoints (t : Tables) (xFrom xTo : Int) : List Int :=
  let lo := min xFrom xTo
  let hi := max xFrom xTo
  let starts := t.segments.map (fun g => g.start)
  let mirrored := starts.map (fun x => t.line.length - x)
  let inside := (starts ++ mirrored).filter (fun x => decide (lo ≤ x) && decide (x ≤ hi))
  inside.foldr insertPoint (insertPoint lo [hi])

/-- The points of evaluation: the cut points and the midpoints of consecutive pairs (R45). -/
def withMidpoints : List Int → List Int
  | a :: b :: rest => a :: Int.fdiv (a + b) 2 :: withMidpoints (b :: rest)
  | xs => xs

/-- The greatest of the forces at the points, with the first point that gave it. -/
def worstForce (f : Int → Int) (x0 : Int) (xs : List Int) : Int × Int :=
  xs.foldl (fun best x => if best.1 < f x then (f x, x) else best) (f x0, x0)

/-- Stage 3: the guaranteed deceleration (R46). -/
def guaranteed (force : Nat) (fAid : Int) (m : Nat) : Nat :=
  if m = 0 then 0
  else if (force : Int) ≤ fAid then 0
  else min Config.aCap (((force : Int) - fAid).toNat * 1000 / m)

/-- Stage 4: the reaction constant (R47). -/
def reaction (aGuar tR : Nat) : Nat := ceilDiv (aGuar * tR) 1000

/-- Stage 4: the service deceleration (R47). -/
def service (aSvcCfg aGuar : Nat) : Nat := min aSvcCfg (aGuar * 70 / 100)

/-- Stages 1 to 4 over a span (R43 to R47). -/
def span (t : Tables) (xFrom xTo : Int) (dir : Dir) (ms : Masses) : Span :=
  let lo := min xFrom xTo
  let w := worstForce (aidingForce t dir ms) lo (withMidpoints (cutPoints t xFrom xTo))
  let fAid := max w.1 0
  let m := ms.cars + t.braking.mEq
  let a := guaranteed t.braking.force fAid m
  ⟨fAid, w.2, m, a, reaction a t.braking.tR, service t.braking.aSvcCfg a⟩

/-- The distance to the limit point in the run direction (R48). -/
def Envelope.dLimit (e : Envelope) (x : Int) : Int := (e.limit - x) * e.dir.sign

/-- Stage 5: the permitted speed for a distance (R48). -/
def permitted (aGuar k : Nat) (d : Int) : Nat :=
  if d ≤ 0 then 0 else isqrt (k * k + 2 * aGuar * d.toNat) - k

/-- Stage 5 at a position of car A (R48). -/
def Envelope.vE (e : Envelope) (x : Int) : Nat := permitted e.aGuar e.k (e.dLimit x)

/-- The permitted speed while the envelope record may be absent: 0 then (R48). -/
def Supervisor.vE (p : Supervisor) (x : Int) : Nat :=
  match p.env with
  | some e => e.vE x
  | none => 0

/-- The envelope record a run's span gives (R42, R49). -/
def Envelope.make (id : Nat) (dir : Dir) (xFrom pA overrun : Int) (ms : Masses) (r : Span) :
    Envelope where
  runId := id
  dir := dir
  xFrom := xFrom
  xTo := pA
  pA := pA
  limit := pA + dir.sign * overrun
  mDesc := ms.desc
  mAsc := ms.asc
  m := r.m
  fAid := r.fAid
  cut := r.cut
  aGuar := r.aGuar
  k := r.k
  aSvc := r.aSvc

/-! ### Load bounds (R168) and the masses formed from them (R49, R69, R174) -/

/-- The expected load (R168). -/
def Load.expected (l : Load) : Nat := l.carryMass + l.admMass + l.resMass

/-- The upper load bound, with the weigh tolerance (R168). -/
def Load.upper (l : Load) (tol : Nat) : Nat :=
  match l.frozen with
  | some f => f.1
  | none =>
    match l.departure with
    | some d => max l.expected (d + tol)
    | none => l.expected

/-- The lower load bound (R168). -/
def Load.lower (l : Load) (tol : Nat) : Nat :=
  match l.frozen with
  | some f => f.2
  | none =>
    match l.departure with
    | some d => d - tol
    | none => 0

/-- The car that descends in a direction. -/
def Dir.descending : Dir → Car
  | .up => .B
  | .down => .A

/-- The masses of a run from the bounds as they stand (R49, R69). -/
def runMasses (t : Tables) (tally : PerCar Load) (dir : Dir) : Masses :=
  let tol := t.braking.tolerance
  let d := dir.descending
  let a := d.other
  let eD := (t.cars.get d).emptyMass
  let eA := (t.cars.get a).emptyMass
  ⟨eD + (tally.get d).upper tol, eA + (tally.get a).lower tol,
   eD + (tally.get d).upper tol + eA + (tally.get a).upper tol⟩

/-- The masses of an admission check for car `c` with a new mass (R174). -/
def checkMasses (t : Tables) (tally : PerCar Load) (c : Car) (new : Nat) (dir : Dir) : Masses :=
  let tol := t.braking.tolerance
  let o := c.other
  let eC := (t.cars.get c).emptyMass
  let eO := (t.cars.get o).emptyMass
  let uC := (tally.get c).upper tol
  let uO := (tally.get o).upper tol
  let cars := eC + uC + new + eO + uO
  if dir.descending = c then ⟨eC + uC + new, eO + (tally.get o).lower tol, cars⟩
  else ⟨eO + uO, eC + (tally.get c).lower tol, cars⟩

end Machine
end Sys2Proof
end

