-- ==== Sys2Proof/Machine/Tally.lean ====
section
/-! DEFINITION. The Load Tally: readings and weighs, admitted and reserved, the freeze and the admission check
(chapter 8). -/

namespace Sys2Proof
namespace Machine

/-- Carry persons of a carry mass (R164, R165, R170). -/
def massPersons (mass : Nat) : Nat := ceilDiv mass 75

/-- The tally with one record replaced. -/
def State.setLoad (s : State) (c : Car) (l : Load) : State := { s with tally := s.tally.set c l }

/-- The record with weighs and their flags gone (R164, R166). -/
def Load.discard (l : Load) : Load := { l with departure := none, excess := false, short := false }

/-- The carry of a window that opens at a station (R164). -/
def Load.windowCarry (l : Load) (terminal : Bool) (capacity : Nat) : Nat :=
  if terminal then 0 else l.lastUpper.getD (capacity * 80)

/-- The record when its window opens at a station (R164). -/
def Load.openWindow (l : Load) (st : Station) (capacity : Nat) : Load :=
  let carry := l.windowCarry st.terminal capacity
  { l.discard with
    window := some st.number, released := false, arrival := none, admPersons := 0, admMass := 0,
    carryMass := carry, carryPersons := massPersons carry }

/-- The station at which a car's stop window opens, if it opens (R164). -/
def State.windowStation (s : State) (c : Car) : Option Station :=
  if (s.tally.get c).window.isNone && s.trk.still && s.plan.run.isNone then
    s.geo.stationAt? (s.trk.pos c)
  else none

/-- The capacity of a car. -/
def Geometry.capacity (g : Geometry) (c : Car) : Nat :=
  match g.committed with
  | some t => (t.cars.get c).capacity
  | none => 0

/-- A car's stop window opens where R164 says so. That the carry of the notice is its mass and then its persons is the model's
choice (log 64). -/
def State.tryWindow (s : State) (c : Car) : State :=
  match s.windowStation c with
  | none => s
  | some st =>
    let l := (s.tally.get c).openWindow st (s.geo.capacity c)
    ((s.setLoad c l).handOver (.excess c) false).notice .load 0
      [.code c.code, .num st.number, .mass l.carryMass, .num l.carryPersons]

/-- Both cars' windows are tested (R164). -/
def State.tallyWindows (s : State) : State := (s.tryWindow .A).tryWindow .B

/-- The tests of R169 for a car that has a departure weigh. -/
def State.weighTests (s : State) (c : Car) : State :=
  let l := s.tally.get c
  let tol := s.geo.tolerance
  match l.departure with
  | none => s
  | some d =>
    let excess := !l.excess && decide (l.expected + tol < d)
    let short := !l.short && decide (d + tol < l.admMass)
    let s := s.setLoad c { l with excess := l.excess || excess, short := l.short || short }
    let s := if excess then
        (s.handOver (.excess c) true).notice .load 4
          [.code c.code, .mass d, .mass l.expected, .mass tol]
      else s
    s.noticeIf short .load 5 [.code c.code, .mass d, .mass tol, .mass l.admMass]

/-- A grant is reserved (R167). -/
def State.tallyGrant (s : State) (c : Car) (persons mass : Nat) : State :=
  let l := s.tally.get c
  (s.setLoad c { l with resPersons := l.resPersons + persons, resMass := l.resMass + mass }).weighTests c

/-- A reservation is converted to admitted (R167). -/
def State.tallyConvert (s : State) (c : Car) (persons mass : Nat) : State :=
  let l := s.tally.get c
  (s.setLoad c { l with
    resPersons := l.resPersons - persons, resMass := l.resMass - mass,
    admPersons := l.admPersons + persons, admMass := l.admMass + mass }).weighTests c

/-- A reservation is released (R167). -/
def State.tallyRelease (s : State) (c : Car) (persons mass : Nat) : State :=
  let l := s.tally.get c
  (s.setLoad c { l with resPersons := l.resPersons - persons, resMass := l.resMass - mass }).weighTests c

/-- The record frozen as its run leaves PLANNED (R170). -/
def Load.freeze (l : Load) (tol : Nat) : Load :=
  let u := l.upper tol
  { l with
    frozen := some (u, l.lower tol), lastUpper := some u, window := none,
    carryMass := u, carryPersons := massPersons u, admPersons := 0, admMass := 0 }

/-- One car's bounds are frozen (R170). -/
def State.freezeCar (s : State) (c : Car) : State :=
  let tol := s.geo.tolerance
  let l := s.tally.get c
  (s.setLoad c (l.freeze tol)).notice .load 6 [.code c.code, .mass (l.upper tol), .mass (l.lower tol)]

/-- Both cars' bounds are frozen (R170). -/
def State.freeze (s : State) : State := (s.freezeCar .A).freezeCar .B

/-- One car's freeze is released, when it stands (R171). -/
def State.unfreezeCar (s : State) (c : Car) : State :=
  let l := s.tally.get c
  if l.frozen.isSome then
    ((s.setLoad c { l with frozen := none, excess := false }).handOver (.excess c) false).notice .load 7
      [.code c.code]
  else s

/-- Both cars' freezes are released (R171). -/
def State.unfreeze (s : State) : State := (s.unfreezeCar .A).unfreezeCar .B

/-- The tally takes a release event for a car (R166). -/
def State.releaseEvent (s : State) (c : Car) : State :=
  let l := s.tally.get c
  let l1 := { l with released := l.released || l.window.isSome }
  if l.departure.isSome then
    ((s.setLoad c l1.discard).handOver (.excess c) false).notice .load 3 [.code c.code]
  else s.setLoad c l1

/-- Every non-isolated door of a car is reported LOCKED (R163). -/
def Doors.carReportedLocked (d : Doors) (c : Car) : Bool :=
  (d.recs.get c).toList.all (fun r => r.interlocked)

/-- A reading passes R163, apart from its settled flag. -/
def State.mayWeigh (s : State) (c : Car) : Bool :=
  s.trk.still && (s.tally.get c).frozen.isNone && s.doors.carReportedLocked c

/-- The window's station is a terminal. That a window open at a number the tables no longer hold counts as one elsewhere, and that
the answer is that of the tables as the reading comes, is the model's choice (log 82). -/
def State.windowTerminal (s : State) (c : Car) : Bool :=
  match (s.tally.get c).window with
  | some n => (s.geo.station? n).any (fun st => st.terminal)
  | none => false

/-- The arrival weigh (R165), its notice with the carry mass and the carry persons (log 64). -/
def State.arrivalWeigh (s : State) (c : Car) (kg : Nat) : State :=
  let l := s.tally.get c
  if l.window.isSome && !l.released && l.arrival.isNone then
    let carry := if s.windowTerminal c then l.carryMass else kg
    let persons := if s.windowTerminal c then l.carryPersons else massPersons kg
    (s.setLoad c { l with arrival := some kg, carryMass := carry, carryPersons := persons }).notice .load 1
      [.code c.code, .mass kg, .mass carry, .num persons]
  else s

/-- The departure weigh (R166). -/
def State.departureWeigh (s : State) (c : Car) (kg : Nat) : State :=
  let l := s.tally.get c
  if l.departure.isNone then
    let l := { l with departure := some kg }
    let tol := s.geo.tolerance
    ((s.setLoad c l).notice .load 2
      [.code c.code, .mass kg, .mass (l.upper tol), .mass (l.lower tol)]).weighTests c
  else s

/-- A load reading from a valid frame (R163): kept as the last reading, and used for a weigh when it
passes. -/
def State.reading (s : State) (c : Car) (kg : Nat) (settled : Bool) : State :=
  let kg := min kg 65000
  let s := s.setLoad c { s.tally.get c with reading := some (kg, settled) }
  if settled && s.mayWeigh c then (s.arrivalWeigh c kg).departureWeigh c kg else s

/-! ### The admission check -/

/-- The span or spans of the margin test, with their directions (R173). -/
def State.checkSpans (s : State) (t : Tables) : List (Int × Int × Dir) :=
  let start :=
    match s.line.atStop.bind s.geo.halt? with
    | some h => h.pA
    | none => s.trk.xA
  let line := [(0, t.line.length, Dir.up), (0, t.line.length, Dir.down)]
  match s.plan.pendingRun.bind s.geo.halt? with
  | some h =>
    if within h.pA start then line
    else [(start, h.pA, if start < h.pA then .up else .down)]
  | none => line

/-- The a_guar of a check: the smaller one where two spans are computed (R173, R174). -/
def State.checkGuar (s : State) (t : Tables) (c : Car) (mass : Nat) : Nat :=
  (s.checkSpans t).foldl (fun a x =>
    min a (span t x.1 x.2.1 x.2.2 (checkMasses t s.tally c mass x.2.2)).aGuar) Config.aCap

/-- The outcome of an admission check, with the a_guar it found (R172, R174). -/
def State.admissionCheck (s : State) (c : Car) (persons mass : Nat) : CheckOutcome × Option Nat :=
  let l := s.tally.get c
  match s.geo.committed with
  | none => (.margin, none)
  | some t =>
    if l.frozen.isSome then (.margin, none)
    else if (t.cars.get c).capacity < l.carryPersons + l.admPersons + l.resPersons + persons then
      (.capacity, none)
    else
      let a := s.checkGuar t c mass
      (if t.braking.aMin + t.braking.reserve ≤ a then .grant else .margin, some a)

end Machine
end Sys2Proof
end

