-- ==== Sys2Proof/Machine/Gates.lean ====
section
/-! DEFINITION. The Gate Controller: serving cars, closing stations, bus transactions and their answers, the
ticket check and the outcomes of a passage (chapter 7). -/

namespace Sys2Proof
namespace Machine

/-- What caused a change of a gate's state, for the STATE notice (R159). No list of the chapter names the set: these eleven
events and their codes, 0 to 10 in this order, are the model's choice (log 71). -/
inductive GateEvent where
  | setGate | busRelease | openStation | closeStation | closeLead | servingCar | modeChange
  | grant | passed | turnedBack | timeout
  deriving DecidableEq, Repr

def GateEvent.code : GateEvent → Nat
  | .setGate => 0 | .busRelease => 1 | .openStation => 2 | .closeStation => 3 | .closeLead => 4
  | .servingCar => 5 | .modeChange => 6 | .grant => 7 | .passed => 8 | .turnedBack => 9 | .timeout => 10

/-- Why a gate becomes OFFLINE (R143, R144). -/
inductive OfflineCause where
  | missed
  | fault (code : Nat)
  | verify
  deriving DecidableEq, Repr

/-- The cause in an OFFLINE notice (R145). No list of the chapter names the set: the codes 0 MISSED, 1 FAULT with its fault code
after it, and 2 VERIFY are the model's choice (log 78). -/
def OfflineCause.fields : OfflineCause → List Field
  | .missed => [.code 0]
  | .fault c => [.code 1, .num c]
  | .verify => [.code 2]

/-- An outcome a gate reports. -/
inductive Passage where
  | passed | turnedBack
  deriving DecidableEq, Repr

/-- The outcome in a LATE or STRAY notice (R155). No list of the chapter names just this set: the codes 0 PASSED and
1 TURNED_BACK are the model's choice (log 78). -/
def Passage.code : Passage → Nat
  | .passed => 0 | .turnedBack => 1

/-! ### Records -/

/-- The record of an address. -/
def Gates.find? (g : Gates) (a : Nat) : Option Gate := g.gates.find? (fun x => x.address == a)

/-- The records with the record of one address changed. -/
def Gates.update (g : Gates) (a : Nat) (f : Gate → Gate) : Gates :=
  { g with gates := g.gates.map (fun x => if x.address = a then f x else x) }

/-- The record of one address changed. -/
def State.gate (s : State) (a : Nat) (f : Gate → Gate) : State := { s with gates := s.gates.update a f }

/-- Any gate record is OFFLINE: the DEGRADED condition (R159). -/
def Gates.anyOffline (g : Gates) : Bool := g.gates.any (fun x => x.state == .offline)

/-- The OFFLINE condition is handed to the Line Status Unit (R159). -/
def State.gateCondition (s : State) : State := s.handOver .gateOffline s.gates.anyOffline

/-- OPEN or SHUT. -/
def GateCmd.isLeaf : GateCmd → Bool
  | .opn | .shut => true
  | .admits _ | .refuse _ => false

/-- An OPEN or SHUT into an outbox: in place of an unsent one, otherwise at the end (R142). Behind a sent OPEN or SHUT and a
REFUSE it is the third command, where R138 gives the outbox 0 to 2: that the outbox then holds three is the model's choice
(log 84). -/
def putLeaf (c : GateCmd) : List OutCmd → List OutCmd
  | [] => [⟨c, false⟩]
  | o :: os => if o.cmd.isLeaf && !o.sent then ⟨c, false⟩ :: os else o :: putLeaf c os

/-- A leaf command for a gate (R142). -/
def Gate.leafCmd (g : Gate) (c : GateCmd) : Gate := { g with outbox := putLeaf c g.outbox }

/-- An ADMIT or REFUSE joins the end of the outbox (R142). -/
def Gate.answerCmd (g : Gate) (c : GateCmd) : Gate := { g with outbox := g.outbox ++ [⟨c, false⟩] }

/-- The gate out of service, a final SHUT to be sent (R145, R146, R152). The verify retries go with the
commands the outbox held (log 21). -/
def Gate.disable (g : Gate) : Gate :=
  { g with state := .disabled, outbox := [⟨.shut, false⟩], closePending := false, retries := 0 }

/-- The body of a STATE notice (R159). -/
def stateBody (a : Nat) (before after : GateState) (e : GateEvent) : List Field :=
  [.num a, .code before.code, .code after.code, .code e.code]

/-! ### Serving cars and closing -/

/-- The run is IDLE or PLANNED. -/
def State.idleOrPlanned (s : State) : Bool := s.plan.run.all (fun r => r.state == .planned)

/-- The car serves the station (R147). -/
def State.serves (s : State) (st : Station) (c : Car) : Bool :=
  within (s.trk.pos c) st.stopPos && s.trk.still && s.idleOrPlanned
    && (s.tally.get c).window == some st.number

/-- The serving car of a station, car A first (R147), from the positions and windows as they stand. That OPEN_STATION, the gate
close lead and READ_GATES find it afresh, and not as the last sample or run change found it, is the model's choice (log 69). -/
def State.serving (s : State) (st : Station) : Option Car :=
  if s.serves st .A then some .A else if s.serves st .B then some .B else none

/-- The serving car of a station number; none when the number names no station. -/
def State.servingOf (s : State) (n : Nat) : Option Car := (s.geo.station? n).bind s.serving

/-- The car a station's gates are open for, when the station is marked open. -/
def Gates.openFor (g : Gates) (n : Nat) : Option Car :=
  (g.openMarks.find? (fun m => m.station == n)).map (fun m => m.car)

/-- A gate of a station that closes (R149). -/
def Gate.close (g : Gate) : Gate :=
  match g.state with
  | .opened => { g.leafCmd .shut with state := .closed }
  | .passing => { g with closePending := true }
  | _ => g

/-- The records after a station closes: its mark gone, its gates closing (R149). -/
def Gates.close (g : Gates) (n : Nat) : Gates :=
  { g with
    openMarks := g.openMarks.filter (fun m => m.station != n)
    gates := g.gates.map (fun x => if x.station = n then x.close else x) }

/-- The notices of a station that closes: one STATE for each gate that was OPEN. -/
def State.closeNotices (s : State) (e : GateEvent) (gs : List Gate) : State :=
  gs.foldl (fun s g => s.notice .gate 0 (stateBody g.address .opened .closed e)) s

/-- The gates of a station in a state. -/
def Gates.inState (g : Gates) (n : Nat) (x : GateState) : List Gate :=
  g.gates.filter (fun y => y.station == n && y.state == x)

/-- A station closes (R149). -/
def State.closeStation (s : State) (n : Nat) (e : GateEvent) : State :=
  ({ s with gates := s.gates.close n }).closeNotices e (s.gates.inState n .opened)

/-- Stations close one after another. -/
def State.closeStations (s : State) (e : GateEvent) (ns : List Nat) : State :=
  ns.foldl (fun s n => s.closeStation n e) s

/-- Every station closes, as the mode leaves AUTOMATIC (R149, R178). -/
def State.closeAll (s : State) : State :=
  s.closeStations .modeChange (s.geo.stations.map (fun x => x.number))

/-- The serving cars are found again, and a station whose serving car is not the one it was opened for
closes (R147, R149). -/
def State.servingUpdate (s : State) : State :=
  s.closeStations .servingCar
    ((s.gates.openMarks.filter (fun m => s.servingOf m.station != some m.car)).map (fun m => m.station))

/-- The stations a gate close lead of a car names (R130). -/
def State.leadStations (s : State) (c : Car) : List Nat :=
  (s.geo.stations.filter (fun x => within (s.trk.pos c) x.stopPos)).map (fun x => x.number)

/-- A gate close lead: each station it names whose serving car is the lead's car, or that has none, closes
(R130, R149). -/
def State.closeLead (s : State) (c : Car) : State :=
  s.closeStations .closeLead
    ((s.leadStations c).filter (fun n => s.servingOf n == some c || s.servingOf n == none))

/-! ### Transactions (R141, R142) -/

/-- A gate of the main order (R141). -/
def Gate.inMain (g : Gate) : Bool :=
  match g.state with
  | .offline | .closed | .opened | .passing => true
  | .disabled => !g.outbox.isEmpty
  | .held => false

/-- The addresses of the main order, ascending (R141). -/
def Gates.mainOrder (g : Gates) : List Nat :=
  (List.range 17).filter (fun a => (g.find? a).any Gate.inMain)

/-- The addresses of the gates in PASSING, ascending. -/
def Gates.passing (g : Gates) : List Nat :=
  (List.range 17).filter (fun a => (g.find? a).any (fun x => x.state == .passing))

/-- The next gate of the main order after the last one, wrapping (R141). With no main transaction since the reset it is the
first of the order (log 77, DESIGN CHOICE). -/
def Gates.nextMain (g : Gates) : Option Nat :=
  let order := g.mainOrder
  match g.lastMain with
  | none => order.head?
  | some l => (order.find? (fun a => decide (l < a))).or order.head?

/-- What a transaction with a gate carries: the command, none for a poll (R142, R146). -/
def Gate.toSend (g : Gate) : Option GateCmd :=
  match g.state with
  | .offline => none
  | _ => g.outbox.head?.map (fun o => o.cmd)

/-- The gate once its transaction has begun: without verify the command leaves, with verify it stays first
and counts as sent (R142). -/
def Gate.onSend (g : Gate) : Gate :=
  match g.state, g.outbox with
  | .offline, _ => g
  | _, [] => g
  | .disabled, _ :: os => { g with outbox := os }
  | _, o :: os =>
    if g.verify then { g with outbox := { o with sent := true } :: os }
    else { g with outbox := os, retries := 0 }

/-- A transaction with a gate begins (R141, R142). -/
def Gates.begin_ (g : Gates) (now : Time) (x : Gate) (inserted : Bool) : Gates :=
  let final := x.state == .disabled
  { g.update x.address Gate.onSend with
    trans := some
      { address := x.address, cmd := x.toSend, verify := x.verify && !final, final := final,
        inserted := inserted, start := now, frame := transactionFrame x.address x.toSend } }

/-- The rest of a round of inserted transactions from its first gate still in PASSING. -/
def Gates.roundLeft (g : Gates) : List Nat :=
  g.round.dropWhile (fun a => !(g.find? a).any (fun x => x.state == .passing))

/-- The next transaction begins, when the bus is released and none is in progress (R141). -/
def Gates.next (g : Gates) (now : Time) : Gates :=
  if g.busReleased && g.trans.isNone then
    match g.roundLeft with
    | a :: rest =>
      match g.find? a with
      | some x => ({ g with round := rest }).begin_ now x true
      | none => g
    | [] =>
      match g.nextMain with
      | some a =>
        match g.find? a with
        | some x => ({ g with round := [], lastMain := some a }).begin_ now x false
        | none => g
      | none => { g with round := [] }
  else g

/-- The next transaction begins. -/
def State.nextTransaction (s : State) : State := { s with gates := s.gates.next s.now }

/-! ### Becoming OFFLINE (R145) -/

/-- The record as the gate becomes OFFLINE, or DISABLED when its setting was cleared in the passage. -/
def Gate.goOffline (g : Gate) : Gate :=
  let g1 :=
    { g with
      overdue := (g.admission.map (fun (a : Admission) => (a.ticket, a.car))).or g.overdue
      admission := none, outbox := [], closePending := false, retries := 0, missed := 0, streak := 0 }
  if g.enabled then { g1 with state := .offline } else g1.disable

/-- The tally counts a held admission aboard. -/
def State.convertHeld (s : State) (g : Gate) : State :=
  match g.admission with
  | some a => s.tallyConvert a.car a.persons a.mass
  | none => s

/-- A gate in CLOSED, OPEN or PASSING becomes OFFLINE (R145). That the notice begins with the gate's address is the model's
choice (log 62). -/
def State.gateOffline (s : State) (g : Gate) (cause : OfflineCause) : State :=
  (((s.convertHeld g).gate g.address Gate.goOffline).notice .gate 3
    (.num g.address :: cause.fields ++ [.code g.state.code]
      ++ optF (fun a : Admission => [.word a.ticket]) g.admission)).gateCondition

/-! ### The end of a passage (R152 to R154) -/

/-- The record once its passage has ended, the station being open or not (R152). -/
def Gate.endPassage (stationOpen : Bool) (g : Gate) : Gate :=
  let g1 := { g with admission := none }
  if !g.enabled then g1.disable
  else if !g.closePending && stationOpen then { g1 with state := .opened }
  else { g1.leafCmd .shut with state := .closed, closePending := false }

/-- The passage of a gate ends, with its STATE notice. -/
def State.endPassage (s : State) (g : Gate) (e : GateEvent) : State :=
  let f := Gate.endPassage (s.gates.openFor g.station).isSome
  (s.gate g.address f).notice .gate 0 (stateBody g.address g.state (f g).state e)

/-- The fields of an ADMISSION notice about a held admission, alike in GRANTED, PASSED and TURNED_BACK: the model's choice
(log 62). -/
def Admission.fields (a : Admission) (gate : Nat) : List Field :=
  [.num gate, .word a.ticket, .code a.car.code, .num a.persons, .mass a.mass]

/-- PASSED from a gate in PASSING (R152). -/
def State.passed (s : State) (g : Gate) (a : Admission) (e : GateEvent) : State :=
  (((s.tallyConvert a.car a.persons a.mass).endPassage g e).notice .admission 2 (a.fields g.address))

/-- The recent-ticket list without the entry of an admission: that ticket, at that gate, at its grant (R156). -/
def dropAdmission (a : Admission) (gate : Nat) (rs : List Recent) : List Recent :=
  rs.filter (fun r => r != ⟨a.ticket, gate, a.granted⟩)

/-- TURNED_BACK from a gate in PASSING (R153). -/
def State.turnedBack (s : State) (g : Gate) (a : Admission) : State :=
  if a.leaf then s.passed g a .turnedBack
  else
    let s := s.tallyRelease a.car a.persons a.mass
    let s := { s with gates := { s.gates with recent := dropAdmission a g.address s.gates.recent } }
    (s.endPassage g .turnedBack).notice .admission 3 (a.fields g.address)

/-- The passage timeout of a gate expires (R154). -/
def State.passageTimeout (s : State) (g : Gate) (a : Admission) : State :=
  let s := s.tallyConvert a.car a.persons a.mass
  let s := s.endPassage g .timeout
  let s := s.gate g.address (fun x => { x with overdue := some (a.ticket, a.car) })
  s.notice .gate 5 [.num g.address, .word a.ticket, .code a.car.code]

/-- A late or stray outcome (R155). -/
def State.lateOutcome (s : State) (g : Gate) (p : Passage) : State :=
  match g.overdue with
  | some o =>
    (s.gate g.address (fun x => { x with overdue := none })).notice .gate 6
      [.num g.address, .code p.code, .word o.1, .code o.2.code]
  | none => s.notice .gate 7 [.num g.address, .code p.code]

/-! ### The ticket check (R150, R151) -/

/-- The class a ticket is taken as (R150, test 1). -/
def takenClass (cls : Nat) : Nat := if 7 < cls then 0 else cls

/-- A ticket is refused: REFUSE to the gate and the notice (R151). That a refusal NOSERVICE, made without any test, also sends
class 0 for a class above 7 is the model's choice (log 70). -/
def State.refuse (s : State) (a ticket cls : Nat) (r : TicketRefusal) : State :=
  (s.gate a (fun x => x.answerCmd (.refuse r))).notice .admission 1
    [.num a, .word ticket, .num (takenClass cls), .code r.code]

/-- The compartment of a car is step-free. -/
def State.stepFree (s : State) (c : Car) (compartment : Nat) : Bool :=
  match s.geo.committed, Ix4.ofIndex? (compartment - 1) with
  | some t, some i => (t.cars.get c).stepFree.get i
  | _, _ => false

/-- Room of the recent-ticket list (R156). -/
def recentRoom : Nat := 128

/-- A ticket joins the recent-ticket list, the oldest leaving a full one (R156). -/
def pushRecent (r : Recent) (rs : List Recent) : List Recent :=
  (if rs.length < recentRoom then rs else rs.drop 1) ++ [r]

/-- The tests 3 to 5 of the ticket check (R150): the refusal, if one fails. -/
def State.ticketRefusal (s : State) (g : Gate) (c : Car) (k : FareClass) (ticket party : Nat) :
    Option TicketRefusal :=
  if !k.enabled || decide (party < 1) || decide (6 < party) then some .cls
  else if k.stepFree && !s.stepFree c g.compartment then some .stepFree
  else if s.gates.recent.any (fun r => r.ticket == ticket) then some .duplicate
  else none

/-- A grant (R151). -/
def State.grant (s : State) (g : Gate) (c : Car) (ticket persons mass : Nat) : State :=
  let adm : Admission := ⟨ticket, c, persons, mass, g.leaf, s.now, 2000 * g.scale⟩
  let s := s.tallyGrant c persons mass
  let s := s.gate g.address (fun x =>
    { x.answerCmd (.admits persons) with state := .passing, admission := some adm, overdue := none })
  let s := { s with gates := { s.gates with recent := pushRecent ⟨ticket, g.address, s.now⟩ s.gates.recent } }
  (s.notice .gate 0 (stateBody g.address .opened .passing .grant)).notice .admission 0 (adm.fields g.address)

/-- A TICKET answer from a gate in OPEN (R150). The serving car is the one its station was opened for. -/
def State.ticket (s : State) (g : Gate) (ticket cls party : Nat) : State :=
  match s.gates.openFor g.station, s.gates.classes[takenClass cls]? with
  | some c, some k =>
    match s.ticketRefusal g c k ticket party with
    | some r => s.refuse g.address ticket cls r
    | none =>
      let persons := party * k.persons
      let mass := party * k.mass
      let r := s.admissionCheck c persons mass
      let s := s.setLoad c { s.tally.get c with lastCheck := some r }
      match r.1 with
      | .grant => s.grant g c ticket persons mass
      | .capacity => s.refuse g.address ticket cls .capacity
      | .margin => s.refuse g.address ticket cls .margin
  | _, _ => s.refuse g.address ticket cls .noService

/-! ### Answers -/

/-- A missed poll (R143); at the third the gate becomes OFFLINE. -/
def State.missed (s : State) (g : Gate) : State :=
  if g.missed < 2 then s.gate g.address (fun x => { x with missed := g.missed + 1 })
  else s.gateOffline g .missed

/-- The answer to a poll of a gate in CLOSED, OPEN or PASSING, by its kind (R143). That FAULT is queued before OFFLINE is the
model's choice (log 17), and so is the address in its fields (log 62). -/
def State.pollAnswer (s : State) (g : Gate) (ans : Answer) : State :=
  match ans with
  | .idle => s
  | .echo _ _ => s
  | .fault c => (s.notice .gate 1 [.num g.address, .num c]).gateOffline g (.fault c)
  | .ticket id cls party =>
    if g.state = .opened then s.ticket g id cls party else s.refuse g.address id cls .noService
  | .passed =>
    match g.admission with
    | some a => s.passed g a .passed
    | none => s.lateOutcome g .passed
  | .turnedBack =>
    match g.admission with
    | some a => s.turnedBack g a
    | none => s.lateOutcome g .turnedBack

/-- The record with its missed-poll count back at 0. -/
def Gate.answered (g : Gate) : Gate := { g with missed := 0 }

/-- The first command of the outbox leaves at its echo, the retries return to 0 (R144). -/
def Gate.echoed (g : Gate) : Gate := { g.answered with outbox := g.outbox.drop 1, retries := 0 }

/-- A mismatch under verify (R144): a retry, or OFFLINE with cause VERIFY; a missing answer counts as a
missed poll too. That VERIFY_FAILED is queued before OFFLINE is the model's choice (log 17), and so are its fields (log 62). -/
def State.mismatch (s : State) (g : Gate) (c : GateCmd) (answered : Bool) : State :=
  if g.retries < 2 then
    let s := s.gate g.address (fun x => { x with retries := g.retries + 1 })
    if answered then s.gate g.address Gate.answered else s.missed { g with retries := g.retries + 1 }
  else
    (s.notice .gate 2 [.num g.address, .code c.kind, .num c.arg]).gateOffline g .verify

/-- The end of a transaction with a gate in CLOSED, OPEN or PASSING (R143, R144). -/
def State.answerInService (s : State) (t : Transaction) (g : Gate) (ans : Option Answer) : State :=
  match t.cmd with
  | none =>
    match ans with
    | none => s.missed g
    | some (.echo _ _) => s.missed g
    | some x => (s.gate g.address Gate.answered).pollAnswer g x
  | some c =>
    if t.verify then
      if ans = some (.echo c.kind c.arg) then s.gate g.address Gate.echoed
      else s.mismatch g c ans.isSome
    else if ans.isSome then s.gate g.address Gate.answered
    else s.missed g

/-- The record back in service with SHUT in its outbox (R146). -/
def Gate.online (g : Gate) : Gate := { g.leafCmd .shut with state := .closed, missed := 0 }

/-- An answer from an OFFLINE gate that counts toward its return (R146). The fields of ONLINE are the model's choice
(log 62). -/
def State.streak (s : State) (g : Gate) : State :=
  let n := g.streak + 1
  let s := s.gate g.address (fun x => { x with streak := n })
  if n < 2 then s
  else ((s.gate g.address Gate.online).notice .gate 4 [.num g.address]).gateCondition

/-- The end of a transaction with an OFFLINE gate (R146). That its FAULT answer queues no GATE FAULT notice is the model's
choice (log 61). -/
def State.answerOffline (s : State) (g : Gate) (ans : Option Answer) : State :=
  match ans with
  | some .idle => s.streak g
  | some (.ticket _ _ _) => s.streak g
  | some .passed => (s.lateOutcome g .passed).streak g
  | some .turnedBack => (s.lateOutcome g .turnedBack).streak g
  | some (.fault _) => s.gate g.address (fun x => { x with streak := 0 })
  | some (.echo _ _) => s.gate g.address (fun x => { x with streak := 0 })
  | none => s.gate g.address (fun x => { x with streak := 0 })

/-- The answer as the gate's state takes it. A final SHUT's answer is neither read nor counted (R142). -/
def State.takeAnswer (s : State) (t : Transaction) (ans : Option Answer) : State :=
  match s.gates.find? t.address with
  | none => s
  | some g =>
    if t.final then s
    else
      match g.state with
      | .held => s
      | .disabled => s
      | .offline => s.answerOffline g ans
      | .closed => s.answerInService t g ans
      | .opened => s.answerInService t g ans
      | .passing => s.answerInService t g ans

/-- The end of a transaction: the answer is taken, a main transaction is followed by a round of inserted
ones, and the next transaction begins (R141, R143). -/
def State.endTransaction (s : State) (t : Transaction) (ans : Option Answer) : State :=
  let s := ({ s with gates := { s.gates with trans := none } }).takeAnswer t ans
  let s :=
    { s with gates :=
        { s.gates with round := if t.inserted then s.gates.round else s.gates.passing } }
  s.nextTransaction

/-! ### Building the records (R14) -/

/-- A new record with the default settings (R138). -/
def Gate.make (e : GateEntry) (state : GateState) : Gate where
  address := e.address
  station := e.station
  compartment := e.compartment
  enabled := true
  leaf := false
  scale := 1
  verify := false
  state := state
  admission := none
  overdue := none
  closePending := false
  outbox := []
  missed := 0
  streak := 0
  retries := 0

/-- The records a commit builds from the gate table (R14, step 6). A gate that is kept keeps every other field of its record,
and the transaction in progress, the round and the last main transaction stand: the model's choice (log 80). -/
def Gates.rebuild (g : Gates) (es : List GateEntry) : Gates :=
  { g with gates := es.map (fun e =>
      match g.find? e.address with
      | some x =>
        { x with
          station := e.station, compartment := e.compartment,
          state := if g.busReleased then x.state else .held }
      | none => Gate.make e (if g.busReleased then .offline else .held)) }

/-- A record after a RESTART (R161): HELD with its settings. -/
def Gate.restart (g : Gate) : Gate :=
  { g with state := .held, admission := none, overdue := none, closePending := false, outbox := [],
           missed := 0, streak := 0, retries := 0 }

/-- The Gate Controller after a RESTART at time `now` (R161); the recent tickets keep the time remaining
before their expiry (R213). That there is no last main transaction after a reset is the model's choice (log 77). -/
def Gates.afterRestart (g : Gates) (now : Time) : Gates :=
  { g with
    busReleased := false, trans := none, lastMain := none, round := [], openMarks := [],
    gates := g.gates.map Gate.restart,
    recent := g.recent.map (fun r => { r with time := r.time - now }) }

/-- The passback age in milliseconds (R156). -/
def Gates.passbackSpan (g : Gates) : Nat := g.passback * 60000

end Machine
end Sys2Proof
end

