-- ==== Sys2Proof/Machine/Doors.lean ====
section
/-! DEFINITION. The Door Release Unit: release decisions, withdrawal, locking, isolation and the timers of a
close operation (chapter 6). Reports and the motion tests are in Machine/DoorMotion.lean. -/

namespace Sys2Proof
namespace Machine

/-- Why a door is not released, in the order of the tests (R121). -/
inductive DoorRefusal where
  | run | motion | torque | link | notAtStop | isolated | zone | side
  deriving DecidableEq, Repr

/-- The refusal codes of R212. -/
def DoorRefusal.code : DoorRefusal → Nat
  | .run => 0 | .motion => 1 | .torque => 2 | .link => 3 | .notAtStop => 4 | .isolated => 5
  | .zone => 6 | .side => 7

/-- The decision about one door (R121): already commanded RELEASE, granted with the station and side of its
zone, or refused. -/
inductive Decision where
  | already
  | granted (station : Nat) (side : Side)
  | refused (r : DoorRefusal)
  deriving DecidableEq, Repr

/-- One door record replaced. -/
def State.setDoor (s : State) (x : Door) (r : DoorRec) : State := { s with doors := s.doors.put x r }

/-- The four doors of a car, in the order of their compartments. -/
def carDoors (c : Car) : List Door := Ix4.all.map (Door.mk c)

/-- Any door has CLOSE_FAILED set (R129). -/
def Doors.anyFailed (d : Doors) : Bool := Door.all.any (fun x => (d.door x).failed)

/-- Any door is isolated (R131). -/
def Doors.anyIsolated (d : Doors) : Bool := Door.all.any (fun x => (d.door x).isolated)

/-- The CLOSE_FAILED condition is handed to the Line Status Unit (R129). -/
def State.failedCondition (s : State) : State := s.handOver .closeFailed s.doors.anyFailed

/-- The isolation condition is handed to the Line Status Unit (R131, R133). -/
def State.isolatedCondition (s : State) : State := s.handOver .doorIsolated s.doors.anyIsolated

/-! ### The release side (R120) -/

/-- Every door of a car is commanded LOCK and locked in the sense of R118. -/
def Doors.carLocked (d : Doors) (c : Car) : Bool :=
  (d.recs.get c).toList.all (fun r => !r.release && r.interlocked)

/-- The release side returns to none where R120 says so. -/
def Doors.returnSide (d : Doors) (c : Car) : Doors :=
  { d with side := d.side.set c (if d.carLocked c then none else d.side.get c) }

def State.returnSide (s : State) (c : Car) : State := { s with doors := s.doors.returnSide c }

/-! ### Locking (R125, R126) -/

/-- The record when its door is commanded LOCK by LOCK_DOORS (R126). -/
def DoorRec.lock (d : DoorRec) (now : Time) : DoorRec :=
  if d.isolated then d
  else if !d.release && d.close.isSome then d
  else if d.reported == .locked && d.reopen.isNone then { d with release := false }
  else { d with release := false, reopen := none, attempts := 0, close := some now }

/-- LOCK_DOORS starts a close operation on the door (R126). -/
def DoorRec.lockStarts (d : DoorRec) : Bool :=
  !d.isolated && !(!d.release && d.close.isSome) && !(d.reported == .locked && d.reopen.isNone)

/-- LOCK_DOORS finds the door locked already, by the third row of the table of R126. That the reply's list of doors already
locked holds those doors alone, without an isolated door and without one whose close timer still runs, is the model's choice
(log 58). -/
def DoorRec.lockFindsLocked (d : DoorRec) : Bool :=
  !d.isolated && !(!d.release && d.close.isSome) && (d.reported == .locked && d.reopen.isNone)

/-- The record when its RELEASE is withdrawn (R125): LOCK, and a running reopen ends; the close attempts and
the close timer of a reopen are kept. -/
def DoorRec.withdraw (d : DoorRec) : DoorRec := { d with release := false, reopen := none }

/-- The record when STILL is cleared: a door commanded RELEASE is withdrawn and begins a close operation
(R125). -/
def DoorRec.withdrawClose (d : DoorRec) (now : Time) : DoorRec :=
  if d.release then d.withdraw.lock now else d

/-- The record as a run leaves IDLE: the withdrawal, and LOCK_DOORS (R125). -/
def DoorRec.leaveIdle (d : DoorRec) (now : Time) : DoorRec :=
  (if d.release then d.withdraw else d).lock now

/-- The records of both cars, each changed alike. -/
def Doors.mapAll (d : Doors) (f : DoorRec → DoorRec) : Doors :=
  { d with recs := ⟨d.recs.a.map f, d.recs.b.map f⟩ }

/-- The records of one car, each changed alike. -/
def Doors.mapCar (d : Doors) (c : Car) (f : DoorRec → DoorRec) : Doors :=
  { d with recs := d.recs.set c ((d.recs.get c).map f) }

/-- The withdrawal as a run leaves IDLE: LOCK_DOORS for both cars, with the gate close leads (R125,
R130). -/
def State.lockForRun (s : State) : State :=
  let d := ((s.doors.mapAll (fun r => r.leaveIdle s.now)).returnSide .A).returnSide .B
  (({ s with doors := d }).closeLead .A).closeLead .B

/-- The withdrawal as STILL is cleared (R125). -/
def State.withdrawDoors (s : State) : State :=
  { s with doors := ((s.doors.mapAll (fun r => r.withdrawClose s.now)).returnSide .A).returnSide .B }

/-- LOCK_DOORS for one car, with its gate close lead (R126, R130). -/
def State.lockCar (s : State) (c : Car) : State :=
  ({ s with doors := (s.doors.mapCar c (fun r => r.lock s.now)).returnSide c }).closeLead c

/-! ### Release decisions (R121 to R124) -/

/-- The decision about one door (R121). -/
def State.decideDoor (s : State) (x : Door) : Decision :=
  let d := s.doors.door x
  let z := s.geo.zone (s.doorPos x)
  if d.release then .already
  else if s.plan.run.isSome then .refused .run
  else if !s.trk.still then .refused .motion
  else if s.brk.ten then .refused .torque
  else if (s.links.get x.car).state != .live then .refused .link
  else if s.line.atStop.isNone then .refused .notAtStop
  else if d.isolated then .refused .isolated
  else
    match z.release, z.side with
    | true, some side =>
      match s.doors.side.get x.car with
      | none => .granted z.station side
      | some held => if held = side then .granted z.station side else .refused .side
    | _, _ => .refused .zone

/-- The record of a door that is granted (R123). -/
def DoorRec.grant (d : DoorRec) : DoorRec :=
  { d with release := true, close := none, reopen := none, attempts := 0 }

/-- The effect of a decision: a grant commands RELEASE, takes the side and hands the tally a release event
(R123). -/
def State.applyDecision (s : State) (x : Door) : Decision → State
  | .granted _ side =>
    let s := s.setDoor x (s.doors.door x).grant
    let held := (s.doors.side.get x.car).getD side
    ({ s with doors := { s.doors with side := s.doors.side.set x.car (some held) } }).releaseEvent x.car
  | .already => s
  | .refused _ => s

/-- Doors decided one after another, each seeing the side the earlier decisions left (R121). -/
def State.decideDoors (s : State) : List Door → State × List (Door × Decision)
  | [] => (s, [])
  | x :: xs =>
    let d := s.decideDoor x
    let r := (s.applyDecision x d).decideDoors xs
    (r.1, (x, d) :: r.2)

/-- The entry of the released list, if the door is in it: the station and side of its zone, or reason
ALREADY (R122, R212). That a presence byte tells the two apart is the model's choice (log 60). -/
def releasedFields : Door × Decision → Option (List Field)
  | (x, .granted st side) => some [.code x.code, .present, .num st, .code side.code]
  | (x, .already) => some [.code x.code, .absent, .code 8]
  | (_, .refused _) => none

/-- The entry of the refused list, if the door is in it. -/
def refusedFields : Door × Decision → Option (List Field)
  | (x, .refused r) => some [.code x.code, .code r.code]
  | _ => none

/-- The two lists of R122. -/
def decisionLists (ds : List (Door × Decision)) : List Field :=
  listF id (ds.filterMap releasedFields) ++ listF id (ds.filterMap refusedFields)

/-- At least one door is granted. -/
def anyGranted (ds : List (Door × Decision)) : Bool :=
  ds.any (fun d => match d.2 with | .granted _ _ => true | _ => false)

/-- A car's doors are decided after an arrival, with the AUTO_RELEASED notice (R124). That its body names no car, whose doors
the two lists name, is the model's choice (log 63). -/
def State.autoRelease (s : State) (c : Car) (runId : Nat) : State :=
  let r := s.decideDoors (carDoors c)
  r.1.notice .door 1 (decisionLists r.2 ++ [.num runId])

/-! ### The end of a close operation (R127 to R129) -/

/-- The close attempts of a car's doors, as CAR_LOCKED carries them (R127). -/
def Doors.attempts (d : Doors) (c : Car) : List Field :=
  (d.recs.get c).toList.map (fun r => Field.num r.attempts)

/-- A close operation ends, or CLOSE_FAILED clears: the side returns where every door of the car is locked,
with the CAR_LOCKED notice (R127). That its body begins with the car is the model's choice (log 63). -/
def State.closeEnded (s : State) (x : Door) : State :=
  let s := s.failedCondition
  (s.returnSide x.car).noticeIf (s.doors.carLocked x.car) .door 2
    (.code x.car.code :: s.doors.attempts x.car)

/-- CLOSE_FAILED is set: the notice and the condition (R129). -/
def State.closeFailed (s : State) (x : Door) : State :=
  let d := s.doors.door x
  (s.notice .door 4 [.code x.code, .code d.reported.code, .num d.attempts]).failedCondition

/-- The spans of the close and the reopen timer (R118). -/
def closeSpan : Nat := 12000
def reopenSpan : Nat := 3000

/-- The expiry of a door's close timer (R129). -/
def State.closeExpiry (s : State) (x : Door) : State :=
  let d := s.doors.door x
  if due closeSpan d.close s.now then
    let d := { d with close := none, reopen := none, release := false }
    if d.reported = .locked then (s.setDoor x { d with failed := false }).closeEnded x
    else (s.setDoor x { d with failed := true }).closeFailed x
  else s

/-- The expiry of a door's reopen timer (R129); the side returns where every door of the car is then locked (R120). -/
def State.reopenExpiry (s : State) (x : Door) : State :=
  let d := s.doors.door x
  if due reopenSpan d.reopen s.now then (s.setDoor x d.withdraw).returnSide x.car else s

/-! ### Isolation (R131 to R133) -/

/-- The record of a door that is isolated (R131). -/
def DoorRec.isolate (d : DoorRec) : DoorRec :=
  { d with isolated := true, release := false, close := none, reopen := none, attempts := 0,
           failed := false }

/-- The record of a door that is restored (R132). -/
def DoorRec.restore (d : DoorRec) (now : Time) : DoorRec :=
  ({ d with isolated := false, release := false }).lock now

/-- A door is isolated (R131, R133). That the notice carries the door alone is the model's choice (log 63). -/
def State.isolate (s : State) (x : Door) : State :=
  let d := s.doors.door x
  if d.isolated then s
  else
    ((((s.setDoor x d.isolate).returnSide x.car).notice .door 5 [.code x.code]).failedCondition).isolatedCondition

/-- A door is restored (R132, R133). That the notice carries the door alone is the model's choice (log 63). -/
def State.restore (s : State) (x : Door) : State :=
  let d := s.doors.door x
  if d.isolated then
    (((s.setDoor x (d.restore s.now)).returnSide x.car).notice .door 6 [.code x.code]).isolatedCondition
  else s

end Machine
end Sys2Proof
end

