-- ==== Sys2Proof/Machine/Runs.lean ====
section
/-! DEFINITION. The Run Planner: notices, closing, holds, cruise, stop points and what follows the sequences of
the Brake Controller (chapter 4), with the supervisor's warning exit (R59). -/

namespace Sys2Proof
namespace Machine

/-! ### Notices -/

/-- What a RUN notice carries after the common fields: the outcome, closing reason, start failure, hold
cause or emergency cause that applies (R96). -/
structure RunWhy where
  outcome : Option RunOutcome
  reason : Option CloseReason
  fail : Option StartFail
  hold : Option HoldCause
  cause : Option Cause
  deriving DecidableEq, Repr

/-- Nothing applies. -/
def RunWhy.none : RunWhy := ⟨.none, .none, .none, .none, .none⟩

/-- The five in this order, each optional (log 51, DESIGN CHOICE: R96 names what applies and no layout). -/
def RunWhy.fields (w : RunWhy) : List Field :=
  optF (fun x : RunOutcome => [.code x.code]) w.outcome ++ optF CloseReason.fields w.reason
    ++ optF StartFail.fields w.fail ++ optF HoldCause.fields w.hold
    ++ optF Cause.fields w.cause

/-- The body of a RUN notice (R96): id, states before and after (codes, 0 for IDLE), target, cruise. -/
def runBody (r : Run) (before after : Nat) (w : RunWhy) : List Field :=
  [.num r.id, .code before, .code after, .num r.target, .speed r.cruise] ++ w.fields

/-- The run record replaced. -/
def State.setRun (s : State) (r : Option Run) : State := { s with plan := { s.plan with run := r } }

/-- The run state changes: the tally tests its windows, and the serving cars are found again (R147,
R164). -/
def State.runChanged (s : State) : State := s.tallyWindows.servingUpdate

/-- The run takes a record in a new state, with its RUN notice. -/
def State.enterRun (s : State) (before : Nat) (r : Run) (w : RunWhy) : State :=
  ((s.setRun (some r)).notice .run 0 (runBody r before r.state.code w)).runChanged

/-! ### The supervisor's part (R51, R59, R63) -/

/-- The id of the run under way. -/
def State.runId (s : State) : Option Nat :=
  match s.plan.run with
  | some r => some r.id
  | none => none

/-- The fields of an INTERVENTION notice after its head (R63). -/
def interventionFields (runId : Option Nat) (e : LastEval) (highest : Band) : List Field :=
  optF (fun n : Nat => [.num n]) runId ++ [.pos e.xA, .speed e.v, .speed e.vE]
    ++ optF (fun c : Nat => [.speed c]) e.c ++ optF (fun d : Int => [.pos d]) e.dLimit
    ++ [.code highest.code]

/-- The last evaluated values; before the first sample there are none and 0 stands in their place (no
warning can be set then). -/
def BandRec.values (b : BandRec) : LastEval := b.last.getD ⟨0, 0, 0, 0, none, none⟩

/-- The run leaves the evaluated states: a warning that is set clears, with a WARNING_EXIT notice that carries the last
evaluated values (R59, R63). That it carries the source held until then is the model's choice (log 74). -/
def State.warningExit (s : State) : State :=
  match s.sup.band.warning with
  | none => s
  | some src =>
    let b := { s.sup.band with warning := none }
    ({ s with sup := { s.sup with band := b } }).notice .intervention 1
      (.code src.code :: interventionFields s.runId b.values b.highest)

/-- The envelope record becomes absent (R51). -/
def State.dropEnvelope (s : State) : State := { s with sup := { s.sup with env := none } }

/-! ### Closing (R65) -/

/-- The run closes: the last-run record, IDLE, the freeze released, the envelope absent (R65). -/
def State.closeRun (s : State) (r : Run) (o : RunOutcome) (why : CloseReason) (err : Option Int) :
    State :=
  let s := s.warningExit
  let s := { s with plan := { s.plan with run := none, lastRun := some ⟨r.id, r.target, o, why, err⟩ } }
  let s := s.notice .run 0
    (runBody r r.state.code 0 { RunWhy.none with outcome := some o, reason := some why })
  (s.dropEnvelope.unfreeze).runChanged

/-- A PLANNED run closes CANCELLED with a reason (R71). -/
def State.closePlanned (s : State) (why : CloseReason) : State :=
  match s.plan.run with
  | some r => if r.state = .planned then s.closeRun r .cancelled why none else s
  | none => s

/-- The doors of a car whose station of the halt has its auto-release flag set (R79, R124). -/
def State.autoReleaseAt (s : State) (c : Car) (st : Station) (runId : Nat) : State :=
  if st.autoRelease then s.autoRelease c runId else s

/-- Arrival (R79): the ARRIVAL notice, the close, and the auto-releases, car A first. -/
def State.arrive (s : State) (r : Run) : State :=
  let err := s.trk.xA - r.pA
  match s.geo.halt? r.target with
  | some h =>
    let s := s.notice .arrival 0
      [.num r.id, .num r.target, .num h.stationA.number, .num h.stationB.number,
       .pos s.trk.xA, .pos s.trk.xB, .pos err]
    let s := s.closeRun r .arrived .arrived (some err)
    (s.autoReleaseAt .A h.stationA r.id).autoReleaseAt .B h.stationB r.id
  | none => s.closeRun r .arrived .arrived (some err)

/-! ### Cruise (R68) -/

/-- The effective cruise formed from a requested one (R68). -/
def formCruise (maxCruise : Nat) (conf : Confidence) (mode : Mode) (requested : Nat) : Nat :=
  let v := if requested = 0 then maxCruise else requested
  let v := min (max v 300) maxCruise
  let v := min v (conf.cruiseCap.getD v)
  if mode = .recovery then min v 1000 else v

/-- The effective cruise with the confidence and mode in force. -/
def State.cruiseFor (s : State) (requested : Nat) : Nat :=
  match s.geo.committed with
  | some t => formCruise t.line.maxCruise s.trk.conf s.line.mode requested
  | none => requested

/-- Confidence has fallen to DEGRADED: the cruise of a run STARTING or HOLDING is lowered to 3,000 in that
event (R68). -/
def State.lowerCruise (s : State) : State :=
  { s with plan := { s.plan with run := s.plan.run.map (fun r =>
      if (r.state == .starting || r.state == .holding) && s.trk.conf == .degraded then
        { r with cruise := min r.cruise 3000 } else r) } }

/-! ### Watches and stop points (R92, R93) -/

/-- The x_A at which a watch's car stands at its position (R92). -/
def State.watchX (s : State) (w : Watch) : Int :=
  match w.car with
  | .A => w.pos
  | .B => s.geo.length + s.trk.sigma - w.pos

/-- The travel sense of a car in a run: increasing is true (00_scope.md, Direction). -/
def Dir.increases (d : Dir) : Car → Bool
  | .A => d == .up
  | .B => d == .down

/-- The watch's sense matches the run (R92). -/
def Watch.suits (w : Watch) (d : Dir) : Bool :=
  match w.sense with
  | .either => true
  | .up => d.increases w.car
  | .down => !d.increases w.car

/-- The translated position of an enabled HOLD watch that matches the run and lies ahead far enough and
short enough of the target (R93). -/
def State.candidate (s : State) (r : Run) (w : Watch) : Option Int :=
  let x := s.watchX w
  if w.enabled && w.hold && w.suits r.dir && decide (100 < (x - s.trk.xA) * r.dir.sign)
      && decide (1000 < (r.pA - x) * r.dir.sign) then some x
  else none

/-- The candidate nearest ahead among the watches a test admits, the lowest index winning (R93). -/
def State.nearestWatch (s : State) (r : Run) (takes : Ix4 → Int → Bool) : Option (Ix4 × Int) :=
  Ix4.all.foldl (fun best n =>
    match s.candidate r (s.plan.watches.get n) with
    | some x =>
      if takes n x then
        match best with
        | none => some (n, x)
        | some b => if (x - s.trk.xA) * r.dir.sign < (b.2 - s.trk.xA) * r.dir.sign then some (n, x) else best
      else best
    | none => best) none

/-- The stop point a nearest watch gives: TARGET when there is none (R93). -/
def stopOf : Option (Ix4 × Int) → StopPoint
  | none => .target
  | some (n, x) => .watch n x

/-- The stop point formed at a departure or a resume, one watch excluded (R93). -/
def State.formStop (s : State) (r : Run) (excluded : Option Ix4) : StopPoint :=
  stopOf (s.nearestWatch r (fun n _ => some n != excluded))

/-- The body of a WATCH notice of kind HOLD_SET: index, car, the watch's own position, and the overshot mark, clear when the
watch was not overshot (R93, R94). The layout is the model's choice (log 51). -/
def holdSetBody (n : Ix4) (w : Watch) (overshot : Bool) : List Field :=
  [.num n.index, .code w.car.code, .pos w.pos, .flag overshot]

/-- HOLD_SET is queued when the stop point is a watch (R93). -/
def State.holdSetNotice (s : State) : StopPoint → State
  | .watch n _ => s.notice .watch 1 (holdSetBody n (s.plan.watches.get n) false)
  | .target => s
  | .asap _ _ => s

/-! ### Holds (R80 to R84) -/

/-- The pending stop with a cause recorded: the latest replaces an earlier one, but CANCEL is not replaced
(R73). -/
def pendingWith (old : Option HoldCause) (c : HoldCause) : Option HoldCause :=
  if old = some .cancel then old else some c

/-- The stop point is ASAP. -/
def StopPoint.isAsap : StopPoint → Bool
  | .asap _ _ => true
  | .target => false
  | .watch _ _ => false

/-- A hold taken by a moving run at a speed v_h (R84). -/
def State.takeHold (s : State) (r : Run) (c : HoldCause) (vh : Nat) : State :=
  if r.stop.isAsap then
    s.setRun (some { r with holdCause := if c = .cancel then some .cancel else r.holdCause })
  else
    let r' := { r with stop := .asap vh s.now, holdCause := some c, state := .braking }
    s.enterRun r.state.code r' { RunWhy.none with hold := some c }

/-- A hold or stop request reaches the planner (R80 to R82): pending in STARTING, taken in a moving phase,
of no effect otherwise. -/
def State.hold (s : State) (c : HoldCause) : State :=
  match s.plan.run with
  | some r =>
    match r.state with
    | .starting => s.setRun (some { r with pendingStop := pendingWith r.pendingStop c })
    | .accelerating => s.takeHold r c (mag s.trk.v)
    | .cruising => s.takeHold r c (mag s.trk.v)
    | .braking => s.takeHold r c (mag s.trk.v)
    | .planned => s
    | .holding => s
    | .tripped => s
  | none => s

/-! ### A trip (R89) -/

/-- The run becomes TRIPPED with a cause; a run TRIPPED already, or none, is left as it is (R89, R106). -/
def State.tripRun (s : State) (c : Cause) : State :=
  match s.plan.run with
  | some r =>
    if r.state = .tripped then s
    else
      let s := { s with plan := { s.plan with ref := 0 } }
      (s.enterRun r.state.code { r with state := .tripped, pendingStop := none, leaving := none }
        { RunWhy.none with cause := some c }).warningExit
  | none => s

/-! ### The outcomes of the Brake Controller's sequences -/

/-- Both releases are confirmed (R73): ACCELERATING, and a pending stop is taken at once with v_h = 0. -/
def State.releasesConfirmed (s : State) : State :=
  match s.plan.run with
  | some r =>
    if r.state = .starting then
      let r' := { r with releaseTime := some s.now, leaving := none, state := .accelerating,
                         pendingStop := none }
      let s := (s.enterRun r.state.code r' RunWhy.none).handOver .driveStart false
      match r.pendingStop with
      | some c => s.takeHold r' c 0
      | none => s
    else s
  | none => s

/-- A failed start of a run that left PLANNED (R73). -/
def State.backToPlanned (s : State) (r : Run) (f : StartFail) : State :=
  let s := s.warningExit
  let r' := { r with state := .planned, planTime := s.now, dyn := none, pendingStop := none }
  ((s.dropEnvelope.unfreeze)).enterRun r.state.code r' { RunWhy.none with fail := some f }

/-- A failed start of a run started by a resume (R73). -/
def State.backToHolding (s : State) (r : Run) (l : LeftHold) (f : StartFail) : State :=
  let r' := { r with state := .holding, holdCause := l.cause, resumeTarget := l.resumeTarget,
                     stop := l.stop, releaseTime := none, pendingStop := none, leaving := none }
  s.enterRun r.state.code r' { RunWhy.none with fail := some f }

/-- The start has failed (R73). With CANCEL pending there are two RUN notices: one with the failure, from STARTING to
STARTING, and that of the close (log 50, DESIGN CHOICE). -/
def State.startFailed (s : State) (f : StartFail) : State :=
  match s.plan.run with
  | some r =>
    if r.state = .starting then
      let s := if f = .drive then s.handOver .driveStart true else s
      if r.pendingStop = some .cancel then
        (s.notice .run 0 (runBody r r.state.code r.state.code { RunWhy.none with fail := some f })).closeRun
          r .cancelled .cancelRequest none
      else
        match r.leaving with
        | some l => s.backToHolding r l f
        | none => s.backToPlanned r f
    else s
  | none => s

/-- A watch is disabled when it is ONCE. -/
def Watch.spend (w : Watch) : Watch := { w with enabled := w.enabled && w.keep }

/-- A hold reached at a watch: the notice, and a ONCE watch disabled (R95). Its positions are those of the watch and of the
watch's car (log 51, DESIGN CHOICE). -/
def State.holdReached (s : State) (n : Ix4) : State :=
  let w := s.plan.watches.get n
  let s := s.notice .watch 3 [.num n.index, .code w.car.code, .pos w.pos, .pos (s.trk.pos w.car)]
  { s with plan := { s.plan with watches := s.plan.watches.set n w.spend } }

/-- HOLD_REACHED when the hold's cause is a watch (R95). -/
def State.holdReachedBy (s : State) : HoldCause → State
  | .watch n => s.holdReached n
  | _ => s

/-- A stop ends in HOLDING with a cause (R78, R85, R95). -/
def State.enterHolding (s : State) (r : Run) (c : Option HoldCause) : State :=
  let s := s.enterRun r.state.code
    { r with state := .holding, holdCause := c, resumeTarget := some r.target }
    { RunWhy.none with hold := c }
  match c with
  | some x => s.holdReachedBy x
  | none => s

/-- The stop sequence is complete (R78). -/
def State.stopComplete (s : State) : State :=
  match s.plan.run with
  | some r =>
    if r.state = .braking then
      match r.stop with
      | .target => s.arrive r
      | .watch n _ => s.enterHolding r (some (.watch n))
      | .asap _ _ =>
        if r.holdCause = some .cancel then s.closeRun r .cancelled .cancelRequest none
        else s.enterHolding r r.holdCause
    else s
  | none => s

end Machine
end Sys2Proof
end

