-- ==== Sys2Proof/Machine/Brakes.lean ====
section
/-! DEFINITION. The Brake Controller: confirmations, brake records, the start and stop sequences, emergencies,
the trip record, escalation and the track brakes (chapter 5). -/

namespace Sys2Proof
namespace Machine

/-! ### Confirmations and records (R98, R99) -/

/-- The spans of the confirm timers (R99, R100) and of the torque timer (R101). -/
def applySpan : Nat := 800
def releaseSpan : Nat := 1500
def torqueSpan : Nat := 2000

/-- The brake is confirmed applied: APPLIED closed and RELEASED open (R98). -/
def Brakes.confirmedApplied (b : Brakes) : BrakeId → Bool
  | .service => b.sbApplied && !b.sbReleased
  | .sheave => b.ebApplied && !b.ebReleased

/-- The brake is confirmed released: RELEASED closed and APPLIED open (R98). -/
def Brakes.confirmedReleased (b : Brakes) : BrakeId → Bool
  | .service => b.sbReleased && !b.sbApplied
  | .sheave => b.ebReleased && !b.ebApplied

/-- The release output of a brake. -/
def Brakes.output (b : Brakes) : BrakeId → Bool
  | .service => b.sbr
  | .sheave => b.ebr

def Brakes.record (b : Brakes) : BrakeId → BrakeRec
  | .service => b.service
  | .sheave => b.sheave

def Brakes.setRecord (b : Brakes) (i : BrakeId) (r : BrakeRec) : Brakes :=
  match i with
  | .service => { b with service := r }
  | .sheave => { b with sheave := r }

/-- The record as its output is energised: RELEASING, or RELEASED when already confirmed (R99). -/
def BrakeRec.energised (confirmed : Bool) (now : Time) : BrakeRec :=
  if confirmed then ⟨.released, none⟩ else ⟨.releasing, some now⟩

/-- The record as its output is de-energised: APPLYING, or APPLIED when already confirmed (R99). -/
def BrakeRec.deenergised (confirmed : Bool) (now : Time) : BrakeRec :=
  if confirmed then ⟨.applied, none⟩ else ⟨.applying, some now⟩

/-- The record after its brake's confirmation is read again (R98, R99). -/
def BrakeRec.reread (r : BrakeRec) (output applied released : Bool) : BrakeRec :=
  match r.state with
  | .releasing => if released then ⟨.released, none⟩ else r
  | .applying => if applied then ⟨.applied, none⟩ else r
  | .applied => if applied then r else ⟨.failed, none⟩
  | .released => if released then r else ⟨.failed, none⟩
  | .failed =>
    if output && released then ⟨.released, none⟩
    else if !output && applied then ⟨.applied, none⟩ else r

/-- The span of the confirm timer that runs in a state. -/
def BrakeState.span : BrakeState → Nat
  | .releasing => releaseSpan
  | .applying => applySpan
  | .applied | .released | .failed => 0

/-- The record at the expiry of its confirm timer (R99). -/
def BrakeRec.expire (r : BrakeRec) (now : Time) : BrakeRec :=
  if (r.state == .releasing || r.state == .applying) && due r.state.span r.timer now then ⟨.failed, none⟩
  else r

/-- The record enters or leaves FAILED. -/
def failedEdge (before after : BrakeState) : Bool := (before == .failed) != (after == .failed)

/-- The body of a BRAKE notice about the service or sheave brake (R99): the output as `b` has it, and the two contacts in the
order of R98. That the brake comes first, no byte telling this body from that of a track brake, is the model's choice (log 81), and
so are the output as a flag, set when energised, and the contacts as flags, set when closed (log 83). -/
def Brakes.body (b : Brakes) (i : BrakeId) (before : BrakeState) : List Field :=
  let c := match i with
    | .service => (b.sbApplied, b.sbReleased)
    | .sheave => (b.ebApplied, b.ebReleased)
  [.code i.code, .code before.code, .flag (b.output i), .flag c.1, .flag c.2]

/-- The brakes replaced, with a BRAKE notice for each record that enters or leaves FAILED (R99). That the notice carries the
output as it stands after the event, where the event changes it, is the model's choice (log 76). -/
def State.setBrakes (s : State) (b : Brakes) : State :=
  let s1 := { s with brk := b }
  (s1.noticeIf (failedEdge s.brk.service.state b.service.state) .brake 0
    (b.body .service s.brk.service.state)).noticeIf
      (failedEdge s.brk.sheave.state b.sheave.state) .brake 0 (b.body .sheave s.brk.sheave.state)

/-- A brake is FAILED. -/
def Brakes.failed (b : Brakes) : Bool := b.service.state == .failed || b.sheave.state == .failed

/-- The condition of a FAILED brake at standstill is handed to the Line Status Unit (R115). -/
def State.brakeCondition (s : State) : State := s.handOver .brakeFailed (s.brk.failed && s.trk.still)

/-! ### Outputs (R97) -/

/-- SBR and EBR energised together: both records RELEASING (R102). -/
def Brakes.releaseOn (b : Brakes) (now : Time) : Brakes :=
  { b with
    sbr := true, ebr := true, seq := .releaseWait, torque := none,
    service := .energised (b.confirmedReleased .service) now,
    sheave := .energised (b.confirmedReleased .sheave) now }

/-- A record whose output was energised becomes APPLYING; another is left (R106). -/
def Brakes.dropRecord (b : Brakes) (i : BrakeId) (now : Time) : BrakeRec :=
  if b.output i then .deenergised (b.confirmedApplied i) now else b.record i

/-- SBR and EBR de-energised in one event, TEN kept. -/
def Brakes.releaseOff (b : Brakes) (now : Time) : Brakes :=
  { b with sbr := false, ebr := false, service := b.dropRecord .service now, sheave := b.dropRecord .sheave now }

/-- TEN de-energised once both release outputs are; the sequence is at REST. -/
def Brakes.tenOff (b : Brakes) : Brakes :=
  { b with ten := false, seq := .rest, abort := none, torque := none }

/-- TEN, SBR and EBR de-energised together; any sequence ends (R106). -/
def Brakes.dropAll (b : Brakes) (now : Time) : Brakes := (b.releaseOff now).tenOff

/-- The silence timer of the Drive Port stops with TEN (R196). -/
def Drive.stop (d : Drive) : Drive := { d with timer := none }

/-- TEN is de-energised. -/
def State.tenOff (s : State) : State := { s with brk := s.brk.tenOff, drive := s.drive.stop }

/-! ### Track brakes (R100) -/

/-- Either car's track brake is commanded APPLY or reported APPLIED (R115). -/
def Brakes.trackAlarm (b : Brakes) : Bool :=
  b.track.a.cmd == .apply || b.track.a.state == some .applied
    || b.track.b.cmd == .apply || b.track.b.state == some .applied

/-- The track brake condition is handed to the Line Status Unit (R115). -/
def State.trackCondition (s : State) : State := s.handOver .trackBrake s.brk.trackAlarm

/-- A track brake record replaced, with a BRAKE notice at a change of its state (R100). That it carries the one command that
stands after the event is the model's choice (log 76), and so is that the car comes first, no byte telling this body from that of
the service or sheave brake (log 81). -/
def State.setTrack (s : State) (c : Car) (t : TrackRec) : State :=
  let old := s.brk.track.get c
  ({ s with brk := { s.brk with track := s.brk.track.set c t } }).noticeIf (old.state != t.state) .brake 0
    (([.code c.code, .code t.cmd.code] : List Field) ++ optF (fun x : BrakeState => [.code (trackStateCode x)]) old.state
      ++ optF (fun x : BrakeState => [.code (trackStateCode x)]) t.state)

/-- The record as the track brakes are applied by an escalation (R112). -/
def TrackRec.apply (t : TrackRec) (now : Time) : TrackRec :=
  if t.state = some .applied then ⟨.apply, some .applied, none⟩ else ⟨.apply, some .applying, some now⟩

/-- The record after a report: APPLIED is true (R100). The first report ends an absent state: where the command is not HOLD
the state is then the one reported (log 52, DESIGN CHOICE: the table names no move from absent). -/
def TrackRec.report (t : TrackRec) (applied : Bool) : TrackRec :=
  match t.cmd, applied with
  | .hold, true => { t with state := some .applied }
  | .hold, false => { t with state := some .released }
  | .apply, true => { t with state := some .applied, timer := none }
  | .apply, false =>
    if t.state = some .applied then { t with state := some .failed }
    else { t with state := t.state.or (some .released) }
  | .release, true =>
    if t.state = some .released then { t with state := some .failed }
    else { t with state := t.state.or (some .applied) }
  | .release, false => ⟨.hold, some .released, none⟩

/-- The record at the expiry of its timer (R100). -/
def TrackRec.expire (t : TrackRec) (now : Time) : TrackRec :=
  match t.cmd with
  | .hold => t
  | .apply => if due applySpan t.timer now then ⟨.apply, some .failed, none⟩ else t
  | .release => if due releaseSpan t.timer now then ⟨.hold, some .failed, none⟩ else t

/-! ### The trip record and escalation (R108 to R112) -/

/-- What gave an escalation: a sample, an emergency, or the timer or contact of the sheave brake (R110, R112). The third kind
is the model's choice (log 55): R112 names the sample or emergency. -/
inductive EscSource where
  | sample (t : Time)
  | emergency (c : Cause)
  | brake (t : Time)
  deriving DecidableEq, Repr

/-- What gave it, as an ESCALATED notice carries it: a kind byte, then the time of the sample or brake event, or the cause of
the emergency. The layout is the model's choice (log 55). -/
def EscSource.fields : EscSource → List Field
  | .sample t => [.code 0, .time t.toNat]
  | .emergency c => .code 1 :: c.fields
  | .brake t => [.code 2, .time t.toNat]

/-- Level codes: EMERGENCY 0, TRACK 1 (places of R108). -/
def levelCode (track : Bool) : Nat := if track then 1 else 0

/-- The highest level of a record, with its escalation cause (R108). -/
def highestFields (h : Option EscCause) : List Field :=
  .code (levelCode h.isSome) :: optF (fun x : EscCause => [.code x.code]) h

/-- The figures of an emergency, as records and notices carry them (R108). -/
def Figures.fields (f : Figures) : List Field :=
  optF (fun n : Nat => [.num n]) f.runId ++ [.pos f.xA, .speed f.v, .speed f.vE]
    ++ optF (fun d : Int => [.pos d]) f.dLimit ++ optF (fun t : Nat => [.time t]) f.sinceRelease

/-- The whole trip record, as READ_TRIP carries it (R108, R116). That a record that is not valid is its valid flag alone is the
model's choice (log 56). -/
def tripFields : Option TripRec → List Field
  | none => [.flag false]
  | some t =>
    [.flag true] ++ t.cause.fields ++ [.code (levelCode t.track)] ++ t.fig.fields ++ [.num t.later]
      ++ highestFields t.highest

/-- The count and highest level of the record. -/
def Supervisor.tripTail (p : Supervisor) : List Field :=
  match p.trip with
  | some t => .num t.later :: highestFields t.highest
  | none => .num 0 :: highestFields none

/-- The trip record takes an escalation unless its highest level is TRACK already (R109, R112). -/
def TripRec.escalate (t : TripRec) (e : EscCause) : TripRec :=
  { t with highest := t.highest.or (some e) }

/-- The highest level is TRACK already. -/
def Supervisor.tracked (p : Supervisor) : Bool := p.trip.any (fun t => t.highest.isSome)

/-- Both commands become APPLY; the states are left (R112, an escalation found again). -/
def Brakes.reassert (b : Brakes) : Brakes :=
  { b with track := ⟨{ b.track.a with cmd := .apply }, { b.track.b with cmd := .apply }⟩ }

/-- An escalation to TRACK (R112). The watch stops (R110). -/
def State.escalate (s : State) (e : EscCause) (src : EscSource) : State :=
  let s1 :=
    if s.sup.tracked then { s with brk := s.brk.reassert }
    else (s.setTrack .A (s.brk.track.a.apply s.now)).setTrack .B (s.brk.track.b.apply s.now)
  let s2 :=
    { s1 with
      brk := { s1.brk with watch := none }
      sup := { s1.sup with trip := s1.sup.trip.map (fun (t : TripRec) => t.escalate e) } }
  (s2.notice .trip 2 (Field.code e.code :: src.fields ++ s2.sup.tripTail)).trackCondition

/-- The a_test of an escalation watch (R110). -/
def State.aTest (s : State) : Nat :=
  match s.sup.env, s.geo.committed with
  | some e, _ => e.aGuar
  | none, some t => t.braking.aMin
  | none, none => 200

/-- An escalation watch starts unless one runs (R110). -/
def State.startWatch (s : State) (v : Int) : State :=
  { s with brk := { s.brk with watch := s.brk.watch.or (some ⟨s.now, mag v, s.aTest⟩) } }

/-- The escalation tests of an emergency itself, in the order they are made (R110, R111, log 17). -/
def State.escalations (s : State) (c : Cause) : List EscCause :=
  (if s.brk.watch.isSome && s.brk.sheave.state == .failed then [.sheaveApply] else [])
    ++ (if s.trk.stretch then [.rope] else [])
    ++ (match c with | .carTrackBrake _ => [.carTrackBrake] | _ => [])

/-- The trip record after an emergency: written when not valid, counted when it is (R108, R109). -/
def TripRec.log (old : Option TripRec) (c : Cause) (f : Figures) (track : Bool) : TripRec :=
  match old with
  | none => ⟨c, track, f, 0, none⟩
  | some t => { t with later := satInc t.later }

/-- The TRIP notice of an emergency: FIRST with the whole record, or LATER (R108, R109). -/
def State.tripNotice (s : State) (first : Bool) (c : Cause) (f : Figures) : State :=
  if first then s.notice .trip 0 (tripFields s.sup.trip)
  else s.notice .trip 1 (c.fields ++ f.fields ++ s.sup.tripTail)

/-- The emergency with its figures is taken (R106): outputs, run, record, watch, escalation, notice. -/
def State.emergency (s : State) (c : Cause) (f : Figures) : State :=
  let first := s.sup.trip.isNone
  let s := { (s.setBrakes (s.brk.dropAll s.now)) with drive := s.drive.stop }
  let s := (s.brakeCondition.tripRun c).startWatch f.v
  let escs := s.escalations c
  let s := { s with sup := { s.sup with trip := some (TripRec.log s.sup.trip c f (!escs.isEmpty)) } }
  let s := s.handOver .tripValid true
  let s := escs.foldl (fun s e => s.escalate e (.emergency c)) s
  s.tripNotice first c f

/-- The time since release of an emergency (R61, R105). -/
def sinceRelease (run : Option Run) (t : Time) : Option Nat :=
  match run with
  | none => none
  | some r =>
    match r.releaseTime with
    | some t0 => some (elapsed t0 t)
    | none => some 0

/-- The figures of an emergency raised outside the supervisor (R105): the last evaluated values, and free
values before the first sample, which the manual leaves open (log 7). -/
def State.lastFigures (s : State) : Figures :=
  match s.sup.band.last with
  | some e => ⟨s.runId, e.xA, e.v, e.vE, e.dLimit, sinceRelease s.plan.run e.time⟩
  | none =>
    ⟨s.runId, Config.freePosition s.freeSeq, Config.freeSpeed s.freeSeq, Config.freeEnvelope s.freeSeq, none,
     sinceRelease s.plan.run 0⟩

/-- An emergency raised outside the supervisor (R105, R106). -/
def State.raise (s : State) (c : Cause) : State :=
  ({ s with freeSeq := if s.sup.band.last.isSome then s.freeSeq else s.freeSeq + 1 }).emergency c s.lastFigures

/-! ### The sequences (R101 to R104) -/

/-- The brake of the two that is FAILED, the service brake first. -/
def Brakes.failedOne (b : Brakes) : Option BrakeId :=
  if b.service.state = .failed then some .service
  else if b.sheave.state = .failed then some .sheave else none

/-- Both brakes are in a state. -/
def Brakes.both (b : Brakes) (x : BrakeState) : Bool := b.service.state == x && b.sheave.state == x

/-- The end of the wait for both apply confirmations (R103, R104): a FAILED brake is an emergency; both
APPLIED drop TEN and report the outcome. -/
def State.settleApply (s : State) : State :=
  match s.brk.failedOne with
  | some i => s.raise (.brakeApply i)
  | none =>
    if s.brk.both .applied then
      match s.brk.seq, s.brk.abort with
      | .stopWait, _ => s.tenOff.stopComplete
      | .abortWait, some f => s.tenOff.startFailed f
      | _, _ => s
    else s

/-- ABORT_WAIT is entered with a reason (R103). -/
def State.enterAbort (s : State) (f : StartFail) : State :=
  let b := { s.brk.releaseOff s.now with seq := .abortWait, abort := some f }
  (s.setBrakes b).brakeCondition.settleApply

/-- The end of RELEASE_WAIT, when it has come (R102). -/
def State.settleRelease (s : State) : State :=
  if s.brk.failed then s.enterAbort (.brakeRelease false)
  else if s.brk.both .released then
    ({ s with brk := { s.brk with seq := .moving } }).releasesConfirmed
  else s

/-- The sequence goes on after a brake record has moved. -/
def State.settle (s : State) : State :=
  match s.brk.seq with
  | .releaseWait => s.settleRelease
  | .stopWait => s.settleApply
  | .abortWait => s.settleApply
  | .rest => s
  | .torqueWait => s
  | .moving => s

/-- A sheave brake FAILED while the escalation watch runs escalates (R110). -/
def State.sheaveTest (s : State) : State :=
  if s.brk.watch.isSome && s.brk.sheave.state == .failed then s.escalate .sheaveApply (.brake s.now) else s

/-- What follows a move of a brake record (R99, R110, R115). -/
def State.brakeMoved (s : State) : State := s.brakeCondition.sheaveTest.settle

/-- The start sequence is asked for (R101): TEN energised, TORQUE_WAIT; a faulted drive is an emergency
(R196). -/
def State.startSequence (s : State) : State :=
  let s :=
    { s with
      brk := { s.brk with ten := true, seq := .torqueWait, torque := some s.now }
      drive := { s.drive with timer := some s.now } }
  if s.drive.faulted then s.raise (.driveFault (s.drive.status.any (fun x => x.fault)) s.drive.silent)
  else s

/-- Torque on is reported in TORQUE_WAIT; a door that is not locked fails the start with detail DOORS (R102). -/
def State.torqueOn (s : State) : State :=
  if s.doors.allLocked then (s.setBrakes (s.brk.releaseOn s.now)).brakeCondition.settleRelease
  else s.tenOff.startFailed (.brakeRelease true)

/-- The torque timer expires in TORQUE_WAIT (R101). -/
def State.torqueExpiry (s : State) : State :=
  if s.brk.seq = .torqueWait ∧ due torqueSpan s.brk.torque s.now = true then s.tenOff.startFailed .drive
  else s

/-- The stop sequence is asked for (R104). -/
def State.stopSequence (s : State) : State :=
  let b := { s.brk.releaseOff s.now with seq := .stopWait }
  (s.setBrakes b).brakeCondition.settleApply

/-- A contact reading changes and its brake's confirmation is read again (R98). -/
def Brakes.contact (b : Brakes) (k : Contact) (closed : Bool) : Brakes :=
  match k with
  | .sbApplied => { b with sbApplied := closed }
  | .sbReleased => { b with sbReleased := closed }
  | .ebApplied => { b with ebApplied := closed }
  | .ebReleased => { b with ebReleased := closed }

/-- The brake of a contact. -/
def contactBrake : Contact → BrakeId
  | .sbApplied => .service
  | .sbReleased => .service
  | .ebApplied => .sheave
  | .ebReleased => .sheave

/-- The brake's record after its confirmation is read again. -/
def Brakes.reread (b : Brakes) (i : BrakeId) : Brakes :=
  b.setRecord i ((b.record i).reread (b.output i) (b.confirmedApplied i) (b.confirmedReleased i))

/-- A change of a contact (R98). -/
def State.contactChange (s : State) (k : Contact) (closed : Bool) : State :=
  (s.setBrakes ((s.brk.contact k closed).reread (contactBrake k))).brakeMoved

/-- The expiry of a brake's confirm timer (R99). -/
def State.brakeExpiry (s : State) (i : BrakeId) : State :=
  (s.setBrakes (s.brk.setRecord i ((s.brk.record i).expire s.now))).brakeMoved

/-- The expiry of a track brake's timer (R100). -/
def State.trackExpiry (s : State) (c : Car) : State :=
  (s.setTrack c ((s.brk.track.get c).expire s.now)).trackCondition

/-- A track brake report (R100), and the emergency of an application the car made of its own accord in
motion (R111). -/
def State.trackReport (s : State) (c : Car) (applied : Bool) : State :=
  let t := s.brk.track.get c
  let own := applied && t.cmd == .hold && s.carsMovingSeen
  let s := (s.setTrack c (t.report applied)).trackCondition
  if own then s.raise (.carTrackBrake c) else s

/-- The deceleration test of a sample (R111). -/
def State.decelTest (s : State) : State :=
  match s.brk.watch with
  | none => s
  | some w =>
    if 1000 ≤ elapsed w.start s.now then
      let v := mag s.trk.v
      if 20 ≤ v ∧ (w.vTrip : Int) - v < (w.aTest / 2 : Nat) then s.escalate .decelShort (.sample s.now)
      else { s with brk := { s.brk with watch := none } }
    else s

end Machine
end Sys2Proof
end

