-- ==== Sys2Proof/Machine/Position.lean ====
section
/-! DEFINITION. The Position Tracker: counting, positions, speed, standstill, confidence, markers, references and
commits (chapter 2). -/

namespace Sys2Proof
namespace Machine

/-! ### Counting and positions (R19 to R21) -/

/-- The count after one quadrature step (R19). -/
def Tracker.count_ (t : Tracker) (up : Bool) : Tracker :=
  { t with count := if up then t.count + 1 else t.count - 1 }

/-- Δcount, read as a signed 32-bit value (R19). -/
def Tracker.delta (t : Tracker) : Int := (t.count - t.countBase).toInt

/-- The base move of a sample that finds |Δcount| ≥ 2³⁰ (R19). -/
def Tracker.moveBase (t : Tracker) (scale : Nat) : Tracker :=
  if 1073741824 ≤ mag t.delta then
    let q := Int.tdiv t.delta 1000
    { t with countBase := t.countBase + BitVec.ofInt 32 (q * 1000), xBase := t.xBase + q * scale }
  else t

/-- x_A as the count gives it (R20). -/
def Tracker.freshX (t : Tracker) (scale : Nat) : Int := t.xBase + Int.fdiv (t.delta * scale) 1000

/-- The positions set to x_A and the x_B that goes with it (R20, R21). -/
def Tracker.place (t : Tracker) (length x : Int) : Tracker :=
  { t with xA := x, xB := length + t.sigma - x }

/-! ### Speed, standstill and direction (R22 to R24) -/

/-- The speed from the window as it stands (R22). -/
def windowSpeed (x : Int) : List Int → Int
  | [] => 0
  | w :: ws => Int.tdiv ((x - w) * 100) ((w :: ws).length : Int)

/-- The window with the present x_A appended, ten values at most (R22). -/
def pushWindow (x : Int) (ws : List Int) : List Int :=
  (if ws.length < 10 then ws else ws.drop 1) ++ [x]

/-- The standstill count after a sample's speed (R23). -/
def stillCountAfter (n : Nat) (v : Int) : Nat := if mag v < 20 then min (n + 1) 51 else 0

/-- The direction of motion of a speed (R24). -/
def motionOf (v : Int) : Option Dir :=
  if 20 ≤ v then some .up else if v ≤ -20 then some .down else none

/-- Steps 3 to 5 of the sample, but for the expectations (R25). -/
def Tracker.measure (t : Tracker) (now : Time) : Tracker :=
  let v := windowSpeed t.xA t.window
  let n := stillCountAfter t.stillCount v
  let still := n == 51
  { t with
    v := v, window := pushWindow t.xA t.window, stillCount := n, still := still,
    stillSeen := t.stillSeen || still, motion := motionOf v, lastDir := (motionOf v).or t.lastDir,
    sampleTime := now }

/-! ### Expected markers (R33) -/

/-- A car can see a marker: ANY, or its own rail (R33). -/
def seenBy (m : Marker) : Car → Bool
  | .A => m.track == 0 || m.track == 1
  | .B => m.track == 0 || m.track == 2

/-- The marker is strictly beyond x in a sense. -/
def beyond (increasing : Bool) (x p : Int) : Bool :=
  if increasing then decide (x < p) else decide (p < x)

/-- The first marker a car can see strictly beyond x: the nearest, the first of the table between equals
(R33, log 13). -/
def nextMarker (ms : List Marker) (c : Car) (increasing : Bool) (x : Int) : Option Expected :=
  ms.foldl (fun best m =>
    if seenBy m c && beyond increasing x m.pos then
      match best with
      | none => some ⟨m.id, m.pos, increasing⟩
      | some b => if beyond increasing m.pos b.pos then some ⟨m.id, m.pos, increasing⟩ else best
    else best) none

/-- A car's travel sense from the last direction: increasing is true (R24). -/
def Dir.sense (d : Dir) (c : Car) : Bool := d.increases c

/-- A car's expectation beyond a position: none without a last direction, and none in UNKNOWN or LOST
(R33). -/
def Tracker.expectation (t : Tracker) (ms : List Marker) (c : Car) (x : Int) : Option Expected :=
  match t.lastDir with
  | some d => if t.conf.noRuns then none else nextMarker ms c (d.sense c) x
  | none => none

/-- The committed markers. -/
def Geometry.markers (g : Geometry) : List Marker :=
  match g.committed with
  | some t => t.markers
  | none => []

/-- Both expectations formed beyond the cars' present positions. -/
def Tracker.expectAll (t : Tracker) (ms : List Marker) : Tracker :=
  { t with expected := ⟨t.expectation ms .A t.xA, t.expectation ms .B t.xB⟩ }

/-! ### Confidence (R26, R36, R39) -/

/-- The tracker in a confidence: the good count returns to 0 on entering DEGRADED or CONFIRMED (R29), and
UNKNOWN and LOST hold no expectation and no misses (R26). -/
def Tracker.enter (t : Tracker) (c : Confidence) : Tracker :=
  let t1 := { t with conf := c }
  match c with
  | .degraded => { t1 with good := 0 }
  | .confirmed => { t1 with good := 0 }
  | .referenced => t1
  | .unknown => { t1 with expected := .const none, misses := .const 0 }
  | .lost => { t1 with expected := .const none, misses := .const 0 }

/-- Confidence changes: its conditions are handed over and a capped cruise is lowered (R39, R68). Nothing
happens where it stands. -/
def State.setConf (s : State) (c : Confidence) : State :=
  if s.trk.conf = c then s
  else
    let s := { s with trk := s.trk.enter c }
    ((s.handOver .confDegraded c.isDegraded).handOver .confLost (c == .lost)).lowerCruise

/-- What follows confidence becoming LOST: an EMERGENCY in motion (R36), otherwise the close of a PLANNED
run (R71). -/
def State.lostEffects (s : State) (before : Confidence) : State :=
  if before ≠ .lost ∧ s.trk.conf = .lost then
    if s.carsMoving then s.raise .positionLost else s.closePlanned .position
  else s

/-- The causes of a POSITION notice, its kind byte (R37, R212). -/
inductive PosCause where
  | referenceSet | markerGood | markerOff | markerFar | stretch | unknownId | missed | encoderFault | commit
  deriving DecidableEq, Repr

def PosCause.code : PosCause → Nat
  | .referenceSet => 0 | .markerGood => 1 | .markerOff => 2 | .markerFar => 3 | .stretch => 4
  | .unknownId => 5 | .missed => 6 | .encoderFault => 7 | .commit => 8

/-- A POSITION notice (R37). -/
def State.posNotice (s : State) (k : PosCause) (car : Option Car) (id : Option Nat) (value : Option Int)
    (before : Confidence) : State :=
  s.notice .position k.code
    (optF (fun c : Car => [.code c.code]) car ++ optF (fun n : Nat => [.num n]) id
      ++ optF (fun x : Int => [.pos x]) value
      ++ [.code before.code, .code s.trk.conf.code, .pos s.trk.xA, .pos s.trk.sigma])

/-- Confidence becomes `c` with a notice, and a loss of position has its effects. -/
def State.confEvent (s : State) (c : Confidence) (k : PosCause) (car : Option Car) (id : Option Nat)
    (value : Option Int) : State :=
  let before := s.trk.conf
  (((s.setConf c).posNotice k car id value before)).lostEffects before

/-- Confidence becomes `c`, with the notice only when that is a change. -/
def State.confQuiet (s : State) (c : Confidence) (k : PosCause) (car : Option Car) (id : Option Nat)
    (value : Option Int) : State :=
  if s.trk.conf = c then s else s.confEvent c k car id value

/-! ### Marker reports (R28 to R32) -/

/-- The tracker after an accepted report of a car: last marker, misses, expectation (R28). -/
def Tracker.accept (t : Tracker) (ms : List Marker) (c : Car) (m : Marker) : Tracker :=
  let t1 := { t with lastMarker := t.lastMarker.set c (some m.id), misses := t.misses.set c 0 }
  { t1 with expected := t1.expected.set c (t1.expectation ms c m.pos) }

/-- The tracker after a car A correction by Δ (R30). -/
def Tracker.correct (t : Tracker) (length p : Int) : Tracker :=
  let d := p - t.xA
  { t with xBase := t.xBase + d, window := t.window.map (fun w => w + d), xA := p,
           xB := length + t.sigma - p }

/-- The confidence after a car A report in the good window, with the good count (R29). -/
def goodOutcome (conf : Confidence) (good : Nat) : Confidence × Nat :=
  match conf with
  | .referenced => (.confirmed, 0)
  | .degraded => if 2 ≤ good + 1 then (.confirmed, 0) else (.degraded, good + 1)
  | .confirmed => (.confirmed, good)
  | .unknown => (.unknown, good)
  | .lost => (.lost, good)

/-- The report of a car A marker that passed the tests (R29, R30). -/
def State.reportA (s : State) (m : Marker) : State :=
  let e := s.trk.xA - m.pos
  let ms := s.geo.markers
  if mag e ≤ 300 then
    let o := goodOutcome s.trk.conf s.trk.good
    let t := { (s.trk.correct s.geo.length m.pos).accept ms .A m with good := o.2 }
    (({ s with trk := t }).confQuiet o.1 .markerGood (some .A) (some m.id) (some e)).evalAtStop
  else if mag e ≤ 1500 then
    let t := { (s.trk.correct s.geo.length m.pos).accept ms .A m with good := 0 }
    (({ s with trk := t }).confEvent .degraded .markerOff (some .A) (some m.id) (some e)).evalAtStop
  else s.confEvent .lost .markerFar (some .A) (some m.id) (some e)

/-- The report of a car B marker that passed the tests (R31, R32). -/
def State.reportB (s : State) (m : Marker) : State :=
  let sig := m.pos + s.trk.xA - s.geo.length
  let far := mag (sig - s.trk.sigma)
  let ms := s.geo.markers
  let placed := { s.trk with sigma := sig, xB := m.pos }
  if s.geo.stretchBound < mag sig then
    ({ s with trk := { s.trk with stretch := true } }).confEvent .lost .stretch (some .B) (some m.id) (some sig)
  else if far ≤ 300 then
    ({ s with trk := placed.accept ms .B m }).evalAtStop
  else if far ≤ 1500 then
    (({ s with trk := { placed.accept ms .B m with good := 0 } }).confEvent
      .degraded .markerOff (some .B) (some m.id) (some sig)).evalAtStop
  else s.confEvent .lost .markerFar (some .B) (some m.id) (some sig)

/-- The marker belongs to the rail of the other car (R28). -/
def otherRail (m : Marker) : Car → Bool
  | .A => m.track == 2
  | .B => m.track == 1

/-- The report is used: it passes tests 2 to 4 of R28, the car standing where the count says. -/
def State.reportUsed (s : State) (t : Tracker) (c : Car) (m : Marker) : Bool :=
  !t.conf.noRuns && !(s.geo.inLoop (t.pos c) && otherRail m c)
    && !(t.lastMarker.get c == some m.id && (t.expected.get c).map (fun x => x.id) != some m.id)

/-- A marker report from a car (R28). x_A is computed from the count at its taking (R20, log 12). -/
def State.markerReport (s : State) (c : Car) (id : Nat) : State :=
  match s.geo.marker? id with
  | none => s.posNotice .unknownId (some c) (some id) none s.trk.conf
  | some m =>
    let t := s.trk.place s.geo.length (s.trk.freshX s.geo.scale)
    if s.reportUsed t c m then
      match c with
      | .A => ({ s with trk := t }).reportA m
      | .B => ({ s with trk := t }).reportB m
    else s

/-- A marker id leaves the car's inbox once the tracker takes it (R193). -/
def CarLink.takeMarker (l : CarLink) (id : Nat) : CarLink :=
  { l with markers := if l.markers.head? = some id then l.markers.tail else l.markers }

/-! ### Misses (R34) -/

/-- The car has passed its expected marker by 2,000 mm or more. -/
def Expected.passedBy (e : Expected) (x : Int) : Bool :=
  if e.increasing then decide (2000 ≤ x - e.pos) else decide (2000 ≤ e.pos - x)

/-- The confidence a miss count leads to (R34). -/
def missOutcome (conf : Confidence) (n : Nat) : Confidence :=
  if 3 ≤ n then .lost else if n = 2 then .degraded else conf

/-- The missed-marker test of a car (R34). -/
def State.missTest (s : State) (c : Car) : State :=
  match s.trk.expected.get c with
  | none => s
  | some e =>
    if e.passedBy (s.trk.pos c) then
      let n := s.trk.misses.get c + 1
      let t := { s.trk with misses := s.trk.misses.set c n, good := 0 }
      let t := { t with expected := t.expected.set c (t.expectation s.geo.markers c e.pos) }
      ({ s with trk := t }).confEvent (missOutcome t.conf n) .missed (some c) (some e.id) none
    else s

/-! ### The tracker's part of a sample (R25) -/

/-- Steps 1 to 5 of the sample: base, positions, speed, standstill, direction, and the expectations formed
when the last direction changes. -/
def State.trackSample (s : State) : State :=
  let scale := s.geo.scale
  let t := s.trk.moveBase scale
  let t := (t.place s.geo.length (t.freshX scale)).measure s.now
  { s with trk := if t.lastDir = s.trk.lastDir then t else t.expectAll s.geo.markers }

/-- Steps 1 to 6 of the sample (R25). Car A's missed-marker test comes before car B's (log 46, DESIGN CHOICE: R34 says "each
car"). -/
def State.tracker (s : State) : State := (s.trackSample.missTest .A).missTest .B

/-! ### Encoder fault (R35) -/

def State.encoderFault (s : State) : State :=
  s.confQuiet .lost .encoderFault none none none

/-! ### References and commits (R27, R40) -/

/-- The tracker referenced at a halt whose p_A is `p` (R27), before its confidence and expectations. -/
def Tracker.reference (t : Tracker) (length : Int) (p : Int) : Tracker :=
  let d := p - t.xA
  { t with
    xBase := p, countBase := t.count, xA := p, sigma := 0, xB := length - p,
    window := t.window.map (fun w => w + d), misses := .const 0, good := 0, lastMarker := .const none,
    stretch := false }

/-- The cars are referenced (R27). -/
def State.reference (s : State) (p : Int) : State :=
  let before := s.trk.conf
  let s := { s with trk := s.trk.reference s.geo.length p }
  let s := s.setConf .referenced
  let s := { s with trk := s.trk.expectAll s.geo.markers }
  (s.posNotice .referenceSet none none none before).evalAtStop

/-- The tracker at a commit (R40), `length` being the new L: x_A moves to 0, and the window with it. x_B becomes the new L
in this event (log 48, DESIGN CHOICE: R40 gives no x_B before the next sample). -/
def Tracker.commit (t : Tracker) (length : Int) : Tracker :=
  { t with
    xBase := 0, countBase := t.count, xA := 0, sigma := 0, xB := length,
    window := t.window.map (fun w => w - t.xA), misses := .const 0, good := 0,
    expected := .const none, lastMarker := .const none, stretch := false }

/-- The tracker's part of a commit (R14, R40). -/
def State.commitPosition (s : State) : State :=
  (({ s with trk := s.trk.commit s.geo.length }).confQuiet .unknown .commit none none none).evalAtStop

end Machine
end Sys2Proof
end

