-- ==== Sys2Proof/Machine/DoorMotion.lean ====
section
/-! DEFINITION. The Door Release Unit's part in a car's reports and in motion: reported states, the end of a
close operation, obstructions, and the tests of doors in motion (R119, R127, R128, R134, R135). -/

namespace Sys2Proof
namespace Machine

/-! ### Doors in motion (R134, R135) -/

/-- A DOOR notice of kind IN_MOTION: the door and its reported state. -/
def State.inMotionNotice (s : State) (x : Door) : State :=
  s.notice .door 7 [.code x.code, .code (s.doors.door x).reported.code]

/-- STILL is clear, counted only once STILL has been seen since the reset (R135). -/
def State.stillCleared (s : State) : Bool := !s.trk.still && s.trk.stillSeen

/-- What the tests of R134 and R135 find of a door. -/
inductive MotionFinding where
  | none | stop | emergency
  deriving DecidableEq, Repr

/-- The finding for a reported state, by whether STILL counts as clear, whether it is set, and whether a run
is STARTING or in a moving phase (R134, R135). -/
def motionFinding (r : DoorState) (stillClear still inMotion : Bool) : MotionFinding :=
  match r with
  | .locked => .none
  | .opened => if stillClear then .emergency else if still && inMotion then .stop else .none
  | .unknown | .released | .obstructed | .fault => if stillClear || inMotion then .stop else .none

/-- The tests of doors in motion for one door: an isolated one is passed over (R119, R134, R135). That IN_MOTION is queued
before the hold or the emergency is handed on is the model's choice (log 17). -/
def State.motionTest (s : State) (x : Door) : State :=
  let d := s.doors.door x
  if d.isolated then s
  else
    match motionFinding d.reported s.stillCleared s.trk.still s.runInMotion with
    | .none => s
    | .stop => (s.inMotionNotice x).hold .door
    | .emergency => (s.inMotionNotice x).raise (.doorOpen x)

/-- The tests for every door, at the event in which STILL is cleared (R134, R135). -/
def State.motionTests (s : State) : State := Door.all.foldl (fun s x => s.motionTest x) s

/-! ### Reports (R119, R127, R128) -/

/-- A reopen may be made (R128). -/
def State.mayReopen (s : State) (c : Car) : Bool :=
  s.plan.run.isNone && s.trk.still && !s.brk.ten && (s.doors.side.get c).isSome

/-- The record of a non-isolated door at a LOCKED report: a close operation ends and CLOSE_FAILED clears
while the door is commanded LOCK (R127). That a door commanded RELEASE keeps CLOSE_FAILED at such a report is the model's
choice between R123 and R127 (log 57). -/
def DoorRec.lockedReport (d : DoorRec) : DoorRec :=
  if d.release then d else { d with close := none, failed := false }

/-- The event is one of R127: the report ends a close operation or clears CLOSE_FAILED. -/
def DoorRec.lockedEnds (d : DoorRec) : Bool := !d.release && (d.close.isSome || d.failed)

/-- A LOCKED report of a non-isolated door, its reported state written already (R120, R127). -/
def State.reportLocked (s : State) (x : Door) : State :=
  let d := s.doors.door x
  if d.lockedEnds then (s.setDoor x d.lockedReport).closeEnded x else s.returnSide x.car

/-- The record of a door at a counted close attempt (R128). -/
def DoorRec.attempt (d : DoorRec) (reopened : Bool) (now : Time) : DoorRec :=
  if d.attempts < 2 then
    { d with attempts := d.attempts + 1, release := reopened,
             reopen := if reopened then some now else none }
  else { d with attempts := 3, failed := true, close := none }

/-- An OBSTRUCTED report of a non-isolated door, its reported state written already (R128). That OBSTRUCTED precedes
CLOSE_FAILED at the third attempt is the model's choice (log 17). -/
def State.reportObstructed (s : State) (x : Door) : State :=
  let d := s.doors.door x
  if d.close.isSome && d.reopen.isNone then
    let reopened := decide (d.attempts < 2) && s.mayReopen x.car
    let d' := d.attempt reopened s.now
    let s := (s.setDoor x d').notice .door 3 [.code x.code, .num d'.attempts, .flag reopened]
    if d'.failed && !decide (d.attempts < 2) then s.closeFailed x else s
  else s

/-- What a changed report of a non-isolated door does, by the new state. That a FAULT notice (R136) carries the door alone is
the model's choice (log 63). -/
def State.reportActs (s : State) (x : Door) (r : DoorState) : State :=
  match r with
  | .locked => s.reportLocked x
  | .obstructed => s.reportObstructed x
  | .fault => s.notice .door 8 [.code x.code]
  | .unknown => s
  | .released => s
  | .opened => s

/-- A door's reported state is written; a change of a non-isolated door's state is an event (R119). That the report acts, and
so queues FAULT or OBSTRUCTED, before the test in motion is the model's choice (log 17). -/
def State.doorReport (s : State) (x : Door) (r : DoorState) : State :=
  let d := s.doors.door x
  if d.reported = r then s
  else
    let s := s.setDoor x { d with reported := r }
    if d.isolated then s else (s.reportActs x r).motionTest x

/-- The four door states of a car's frame (R119). That they are taken in the order of compartments 1 to 4 is the model's
choice (log 59). -/
def State.doorReports (s : State) (c : Car) (q : Quad DoorState) : State :=
  Ix4.all.foldl (fun s i => s.doorReport ⟨c, i⟩ (q.get i)) s

end Machine
end Sys2Proof
end

