-- ==== Sys2Proof/Machine/Links.lean ====
section
/-! DEFINITION. The Car Link Controller and the Drive Port (chapter 10). -/

namespace Sys2Proof
namespace Machine

/-- One car's link replaced. -/
def State.setLink (s : State) (c : Car) (l : CarLink) : State := { s with links := s.links.set c l }

/-! ### Sending (R189) -/

/-- A sequence joins the sent list, the oldest leaving a list of four (R189). -/
def pushSent (q : Byte) (l : List Byte) : List Byte := (if l.length < 4 then l else l.drop 1) ++ [q]

/-- The moving flag: TEN energised or STILL clear (R189). -/
def State.movingFlag (s : State) : Bool := s.brk.ten || !s.trk.still

/-- The link once its next frame is sent (R189). -/
def CarLink.sending (l : CarLink) (frame : List Byte) : CarLink :=
  { l with nextSeq := l.nextSeq + 1, sent := pushSent l.nextSeq l.sent, lastFrame := frame }

/-- The frame a car is sent (R189). -/
def State.frameFor (s : State) (c : Car) : List Byte :=
  carFrame (s.links.get c).nextSeq ((s.doors.recs.get c).map (fun d => d.release)) (s.doors.side.get c)
    (s.brk.track.get c).cmd s.movingFlag

/-- A frame is sent to a car (R189). -/
def State.sendFrame (s : State) (c : Car) : State := s.setLink c ((s.links.get c).sending (s.frameFor c))

/-! ### Link states (R190 to R192) -/

/-- The tests of a link that has left LIVE, by the state it stands in (R192). -/
def State.linkTest (s : State) (c : Car) : State :=
  match (s.links.get c).state with
  | .live => s
  | .stale => if s.carsMoving then s.hold .link else s
  | .lost => if s.trk.still then s else s.raise (.linkLost c)

/-- Both links are tested again at the event in which STILL is cleared (R192). That car A's is tested first is the model's choice
(log 28): where both are LOST it is the one recorded as the cause. -/
def State.linkTests (s : State) : State := (s.linkTest .A).linkTest .B

/-- A car's four doors become UNKNOWN (R119). -/
def State.doorsUnknown (s : State) (c : Car) : State := s.doorReports c (.const .unknown)

/-- What follows a change of a link's state, the new one written already: the conditions, the LINK notice,
the tests of R192 and the doors (R191, R192). -/
def State.linkChanged (s : State) (c : Car) (before : LinkState) : State :=
  let l := s.links.get c
  let s := (s.handOver (.linkStale c) (l.state == .stale)).handOver (.linkLost c) (l.state == .lost)
  let s := s.notice .link 0 [.code c.code, .code before.code, .code l.state.code, .num l.invalid]
  let s := s.setLink c { l with invalid := 0 }
  if l.state = .live then s else (s.linkTest c).doorsUnknown c

/-- The link takes its new record, and a change of state has its effects. -/
def State.moveLink (s : State) (c : Car) (l : CarLink) : State :=
  let before := (s.links.get c).state
  if l.state = before then s.setLink c l else (s.setLink c l).linkChanged c before

/-- The link at a valid frame (R191). -/
def CarLink.valid (l : CarLink) (now : Time) : CarLink :=
  let n := min (l.streak + 1) 3
  { l with since := now, took300 := false, took1000 := false,
           streak := if l.state = .live then 3 else n,
           state := if l.state = .live then .live else if n = 3 then .live else l.state }

/-- The link at an invalid frame (R190, R191). -/
def CarLink.invalidFrame (l : CarLink) : CarLink :=
  { l with invalid := satInc l.invalid, streak := if l.state = .live then l.streak else 0 }

/-- The spans of the silence timer (R191). -/
def staleSpan : Nat := 300
def lostSpan : Nat := 1000

/-- The link at the 300 ms expiry (R191). -/
def CarLink.stale (l : CarLink) : CarLink :=
  { l with took300 := true, streak := 0, state := if l.state = .live then .stale else l.state }

/-- The link at the 1,000 ms expiry (R191). -/
def CarLink.lose (l : CarLink) : CarLink :=
  match l.state with
  | .stale => { l with took1000 := true, streak := 0, state := .lost }
  | .live => { l with took1000 := true }
  | .lost => { l with took1000 := true }

/-- The 300 ms expiry of a car's silence timer. -/
def State.staleExpiry (s : State) (c : Car) : State :=
  let l := s.links.get c
  if !l.took300 && due staleSpan (some l.since) s.now then s.moveLink c l.stale else s

/-- The 1,000 ms expiry of a car's silence timer. -/
def State.lostExpiry (s : State) (c : Car) : State :=
  let l := s.links.get c
  if !l.took1000 && due lostSpan (some l.since) s.now then s.moveLink c l.lose else s

/-! ### Frames from a car (R190, R193) -/

/-- The car fault code is recorded, with a notice when it differs (R190). -/
def State.carFault (s : State) (c : Car) (code : Nat) : State :=
  let l := s.links.get c
  if l.fault = code then s
  else (s.setLink c { l with fault := code }).notice .link 1 [.code c.code, .num l.fault, .num code]

/-- The track brake report of a frame, if it holds one (R100, R211). -/
def State.trackBrakeReport (s : State) (c : Car) : Option Bool → State
  | some b => s.trackReport c b
  | none => s

/-- The marker ids of a frame wait for the tracker in passing order (R193). -/
def State.queueMarkers (s : State) (c : Car) (ids : List Nat) : State :=
  let l := s.links.get c
  s.setLink c { l with markers := l.markers ++ ids }

/-- The reports of a valid frame, in the order of R193. -/
def State.takeReports (s : State) (c : Car) (r : CarReport) : State :=
  let s := s.moveLink c ((s.links.get c).valid s.now)
  let s := s.doorReports c r.doors
  let s := s.trackBrakeReport c r.track
  let s := s.reading c r.kg r.settled
  let s := s.carFault c r.fault
  s.queueMarkers c r.markers

/-- A frame from a car is judged: some report when valid (R190). -/
def CarLink.judge (l : CarLink) (bytes : List Byte) : Option CarReport :=
  match readCarFrame bytes with
  | some r => if l.sent.contains r.echo then some r else none
  | none => none

/-- A frame arrives from a car (R190, R193). -/
def State.carFrameArrives (s : State) (c : Car) (bytes : List Byte) : State :=
  match (s.links.get c).judge bytes with
  | some r => s.takeReports c r
  | none => s.setLink c (s.links.get c).invalidFrame

/-! ### The drive (R195 to R197) -/

/-- The span of the drive's silence timer (R196). -/
def silenceSpan : Nat := 100

/-- The fields of a drive status. -/
def DriveStatus.fields (d : DriveStatus) : List Field := [.flag d.ready, .flag d.torqueOn, .flag d.fault]

/-- The drive's record at a valid status frame (R196). -/
def Drive.take (d : Drive) (x : DriveStatus) (ten : Bool) (now : Time) : Drive :=
  { d with status := some x, silent := false, timer := if ten then some now else none }

/-- The start sequence meets a drive status without a fault (R101, R102). -/
def State.sequenceStatus (s : State) (x : DriveStatus) : State :=
  match s.brk.seq with
  | .torqueWait => if x.torqueOn then s.torqueOn else s
  | .releaseWait => if x.torqueOn then s else s.enterAbort .drive
  | .rest => s
  | .moving => s
  | .stopWait => s
  | .abortWait => s

/-- A valid drive status is taken: record, notices, then the fault or the sequence (R196, R197). That a DRIVE_STATUS notice carries
TEN as the frame finds it, before the fault or the sequence de-energises it, is the model's choice (log 76), and so is TEN as a
flag, set when energised (log 83). -/
def State.driveStatus (s : State) (x : DriveStatus) : State :=
  let old := s.drive
  let s := { s with drive := old.take x s.brk.ten s.now }
  let s := s.noticeIf (old.status != some x) .link 2
    (optF DriveStatus.fields old.status ++ x.fields ++ [.flag s.brk.ten])
  let s := s.noticeIf old.silent .link 3 [.flag false]
  if x.fault && s.brk.ten then s.raise (.driveFault true false) else s.sequenceStatus x

/-- A frame arrives from the drive; a bad one is discarded (R196). -/
def State.driveFrameArrives (s : State) (bytes : List Byte) : State :=
  match readDriveFrame bytes with
  | some x => s.driveStatus x
  | none => s

/-- The drive's silence timer expires (R196, R197). That a DRIVE_SILENT notice carries the mark as a flag is the model's choice
(log 64). -/
def State.driveSilence (s : State) : State :=
  if due silenceSpan s.drive.timer s.now then
    let s := { s with drive := { s.drive with silent := true, timer := none } }
    let s := s.notice .link 3 [.flag true]
    if s.brk.ten then s.raise (.driveFault (s.drive.status.any (fun x => x.fault)) true) else s
  else s

/-- A reference clamped into −14,000..14,000 (R195). -/
def clampRef (x : Int) : Int := max (-14000) (min x 14000)

/-- The reference frame of a sample is sent (R195). -/
def State.sendReference (s : State) : State :=
  let ref := if s.brk.ten then clampRef s.plan.ref else 0
  let dir := s.plan.run.map (fun r => r.dir)
  { s with drive := { s.drive with lastRef := ref, lastFrame := driveFrame ref dir } }

end Machine
end Sys2Proof
end

