-- ==== Sys2Proof/Machine/Sample.lean ====
section
/-! DEFINITION. What the Overspeed Supervisor and the Run Planner do with a position sample (sections 3.4 and
3.5, 4.3 to 4.6 and R91), and the whole of the sample's event (log 5). -/

namespace Sys2Proof
namespace Machine

/-! ### Supervision bands (R53 to R61) -/

/-- The band of a curve test (R54). -/
def curveBand (v vE : Nat) : Band :=
  if v < 20 then .none
  else if vE < v then .emergency
  else if 95 * vE < 100 * v then .service
  else if 90 * vE < 100 * v then .warning
  else .none

/-- The band of a ceiling test (R55). -/
def ceilingBand (v c : Nat) : Band :=
  if 112 * c < 100 * v then .emergency
  else if 105 * c < 100 * v then .service
  else if c < v then .warning
  else .none

/-- The higher of two bands. -/
def Band.max (a b : Band) : Band := if a.code < b.code then b else a

/-- A band at or above another. -/
def Band.atLeast (a b : Band) : Bool := decide (b.code ≤ a.code)

/-- LIMIT_PASSED: the distance to the limit point is negative (R56). -/
def limitPassed (d : Option Int) : Bool := d.any (fun x => decide (x < 0))

/-- ROLLBACK: the signed speed against the run direction is above 100 (R57). -/
def rollback (v : Int) (dir : Dir) : Bool := decide (100 < -v * dir.sign)

/-- What the tests of one evaluated sample find. -/
structure BandFinding where
  curve : Band
  ceiling : Band
  limit : Bool
  rollback : Bool
  deriving DecidableEq, Repr

/-- The ceiling of a run at the two positions (R53). -/
def State.ceiling (s : State) (r : Run) : Nat :=
  min r.cruise (min (s.geo.zone s.trk.xA).cap (s.geo.zone s.trk.xB).cap)

/-- The tests of an evaluated sample (R54 to R57). -/
def State.findBands (s : State) (r : Run) : BandFinding where
  curve := curveBand (mag s.trk.v) (s.sup.vE s.trk.xA)
  ceiling := ceilingBand (mag s.trk.v) (s.ceiling r)
  limit := limitPassed (s.sup.env.map (fun e => e.dLimit s.trk.xA))
  rollback := rollback s.trk.v r.dir

/-- The level of a sample: the highest band found (R58). -/
def BandFinding.level (f : BandFinding) : Band :=
  if f.limit || f.rollback then .emergency else f.curve.max f.ceiling

/-- The emergency cause of a sample, the first that holds in the order of R58. -/
def BandFinding.cause (f : BandFinding) : Cause :=
  if f.limit then .limitPassed
  else if f.rollback then .rollback
  else if f.curve = .emergency then .overspeedCurve
  else .overspeedCeiling

/-- The source of a warning, if a WARNING condition holds (R59). -/
def BandFinding.warning (f : BandFinding) : Option Source :=
  match f.curve.atLeast .warning, f.ceiling.atLeast .warning with
  | true, true => some .both
  | true, false => some .curve
  | false, true => some .ceiling
  | false, false => none

/-- The source of the SERVICE latch (R60). -/
def BandFinding.latchSource (f : BandFinding) : Source :=
  if f.curve.atLeast .service then .curve else .ceiling

/-- The evaluated values of a sample of a run under way (R53). That the v recorded is the signed speed of the sample, and not
the magnitude the bands compare, is the model's choice (log 54). -/
def State.evalValues (s : State) (r : Run) : LastEval :=
  ⟨s.now, s.trk.xA, s.trk.v, s.sup.vE s.trk.xA, some (s.ceiling r), s.sup.env.map (fun e => e.dLimit s.trk.xA)⟩

/-- The values recorded on a sample that is not evaluated (R53); v with its sign (log 54). -/
def State.idleValues (s : State) : LastEval :=
  ⟨s.now, s.trk.xA, s.trk.v, 0, none, s.sup.env.map (fun e => e.dLimit s.trk.xA)⟩

/-- The band record replaced. -/
def State.setBand (s : State) (b : BandRec) : State := { s with sup := { s.sup with band := b } }

/-- The highest band is raised, and handed to the run record (R58, R81). -/
def State.raiseHighest (s : State) (level : Band) : State :=
  if s.sup.band.highest.code < level.code then
    { s.setBand { s.sup.band with highest := level } with
      plan := { s.plan with run := s.plan.run.map (fun (r : Run) => { r with highest := level }) } }
  else s

/-- An INTERVENTION notice about the values recorded last (R63). -/
def State.interventionNotice (s : State) (kind : Nat) (headFields : List Field) : State :=
  let b := s.sup.band
  s.notice .intervention kind (headFields ++ interventionFields s.runId b.values b.highest)

/-- The warning state follows the sample (R59). That WARNING_EXIT carries the source that the warning held until then, not that
of its entry nor none, is the model's choice (log 74). -/
def State.updateWarning (s : State) (w : Option Source) : State :=
  let old := s.sup.band.warning
  let s := s.setBand { s.sup.band with warning := w }
  match old, w with
  | none, some src => s.interventionNotice 0 [.code src.code]
  | some src, none => s.interventionNotice 1 [.code src.code]
  | none, none => s
  | some _, some _ => s

/-- The SERVICE latch is set at the first sample of its level, with its notice (R60). -/
def State.setLatch (s : State) (src : Source) : State :=
  (s.setBand { s.sup.band with latch := some src }).interventionNotice 2 [.code src.code]

/-- The figures a supervisor emergency carries (R61). -/
def State.sampleFigures (s : State) (e : LastEval) : Figures :=
  ⟨s.runId, e.xA, e.v, e.vE, e.dLimit, sinceRelease s.plan.run e.time⟩

/-- An emergency of an evaluated sample (R61). Its INTERVENTION notice is queued before the emergency is handed on (log 49,
DESIGN CHOICE). -/
def State.bandEmergency (s : State) (c : Cause) : State :=
  let s := (s.setBand { s.sup.band with emergency := true }).interventionNotice 3 c.fields
  s.emergency c (s.sampleFigures s.sup.band.values)

/-- The bands of an evaluated sample are combined (R58). The notice of the latch is queued before the hold is handed on (log
49, DESIGN CHOICE). The latch that R50 cleared at a resume is set again, with its notice and its hold, by the next sample of
the run at SERVICE or above (log 66, DEDUCED: R60 speaks of the first such sample of a run). -/
def State.combineBands (s : State) (r : Run) : State :=
  let f := s.findBands r
  let first := f.level.atLeast .service && s.sup.band.latch.isNone
  let s := s.setBand { s.sup.band with last := some (s.evalValues r) }
  let s := (s.raiseHighest f.level).updateWarning f.warning
  let s := if first then s.setLatch f.latchSource else s
  let s := if f.level = .emergency then s.bandEmergency f.cause else s
  if first then s.hold .service else s

/-- The supervisor's bands at a sample (R53). -/
def State.bands (s : State) : State :=
  match s.plan.run with
  | some r =>
    if r.state.evaluated then s.combineBands r
    else s.setBand { s.sup.band with last := some s.idleValues }
  | none => s.setBand { s.sup.band with last := some s.idleValues }

/-! ### Motion with the brakes applied (R62) -/

/-- The run is IDLE, PLANNED, HOLDING or TRIPPED. -/
def State.runAtRest (s : State) : Bool := !s.runInMotion

/-- The sample counts toward the uncommanded-motion check, the flag being set (R62). -/
def State.uncommanded (s : State) : Bool :=
  s.runAtRest && !s.brk.sbr && !s.brk.ebr && decide (20 ≤ mag s.trk.v)

/-- The uncommanded-motion check of a sample (R62). Its INTERVENTION notice is queued before the emergency is handed on (log
49, DESIGN CHOICE); with the run PLANNED or TRIPPED it carries c absent, as R53 forms none on those samples (log 65, DESIGN
CHOICE: R63 has c absent outside a run). -/
def State.motionCheck (s : State) : State :=
  let b := s.sup.band
  let armed := b.umArmed || s.trk.still
  let n := if armed && s.uncommanded then b.umCount + 1 else 0
  if n < 21 then s.setBand { b with umArmed := armed, umCount := n }
  else
    let s := s.setBand { b with umArmed := false, umCount := 0 }
    let e : LastEval := { b.values with vE := 0 }
    let s := s.notice .intervention 3
      (Cause.uncommandedMotion.fields ++ interventionFields s.runId e b.highest)
    s.emergency .uncommandedMotion (s.sampleFigures e)

/-! ### NOTIFY watches (R91) -/

/-- The watch is hit by a movement of its car from y0 to y1 (R91). -/
def Watch.hit (w : Watch) (y0 y1 : Int) : Bool :=
  w.enabled && !w.hold
    && ((decide (y0 < w.pos) && decide (w.pos ≤ y1) && (w.sense == .up || w.sense == .either))
      || (decide (w.pos < y0) && decide (y1 ≤ w.pos) && (w.sense == .down || w.sense == .either)))

/-- One watch is tested, with the positions of the previous sample (R91). -/
def State.notifyWatch (s : State) (prev : Int × Int) (n : Ix4) : State :=
  let w := s.plan.watches.get n
  let y0 := match w.car with | .A => prev.1 | .B => prev.2
  let y1 := s.trk.pos w.car
  if w.hit y0 y1 then
    let s := s.notice .watch 0
      ([.num n.index, .code w.car.code, .pos w.pos, .pos y1]
        ++ optF (fun x : Nat => [.num x]) s.runId ++ [.time s.now.toNat])
    { s with plan := { s.plan with watches := s.plan.watches.set n w.spend } }
  else s

/-- The NOTIFY watches at a sample, and the positions kept for the next (R91). That they are tested, and their notices queued,
by index 0 to 3 is the model's choice (log 67). -/
def State.notifyWatches (s : State) : State :=
  let s := match s.plan.prev with
    | some p => Ix4.all.foldl (fun (s : State) n => s.notifyWatch p n) s
    | none => s
  { s with plan := { s.plan with prev := some (s.trk.xA, s.trk.xB) } }

/-! ### Leaving PLANNED (R70, R72) -/

/-- A gate of a station at which a car stands is OPEN or PASSING. -/
def State.gateAtCar (s : State) (c : Car) : Bool :=
  match s.geo.stationAt? (s.trk.pos c) with
  | some st => s.gates.gates.any (fun g => g.station == st.number && g.openOrPassing)
  | none => false

/-- The gates let a run leave PLANNED (R70). -/
def State.gatesClear (s : State) : Bool :=
  !s.gateAtCar .A && !s.gateAtCar .B && s.gates.gates.all (fun g => g.admission.isNone)

/-- The start conditions of a run in PLANNED (R70). -/
def State.startConditions (s : State) : Bool :=
  s.doors.allLocked && s.tally.a.departure.isSome && s.tally.b.departure.isSome && s.gatesClear
    && s.drive.ok && s.linksLive && s.brk.trackClear

/-- The envelope a run's span gives from the bounds as they stand (R49, R50). -/
def State.envelopeFor (s : State) (t : Tables) (r : Run) : Envelope :=
  let ms := runMasses t s.tally r.dir
  Envelope.make r.id r.dir s.trk.xA r.pA t.braking.overrun ms (span t s.trk.xA r.pA r.dir ms)

/-- The planner's share of an envelope (R72). -/
def Envelope.dyn (e : Envelope) (aAcc : Nat) : RunDyn := ⟨e.aGuar, e.k, e.aSvc, aAcc, e.limit⟩

/-- The band record as a run's envelope is written (R49). -/
def BandRec.clearForRun (b : BandRec) : BandRec :=
  { b with warning := none, latch := none, emergency := false, highest := .none, umArmed := false,
           umCount := 0 }

/-- The supervisor with the envelope of a run that leaves PLANNED (R49). -/
def Supervisor.forRun (p : Supervisor) (e : Envelope) : Supervisor :=
  { p with env := some e, band := p.band.clearForRun }

/-- The pending run once a run to `target` has left PLANNED (R66). -/
def clearPending (p : Option Nat) (target : Nat) : Option Nat := if p = some target then none else p

/-- The run enters STARTING from PLANNED with its stop point (R72, steps 5 to 7). -/
def State.depart (s : State) (r : Run) : State :=
  let stop := s.formStop r none
  let s := s.holdSetNotice stop
  let s := { s with plan := { s.plan with pendingRun := clearPending s.plan.pendingRun r.target } }
  (s.enterRun r.state.code { r with stop := stop, state := .starting } RunWhy.none).startSequence

/-- A sample finds the start conditions met: the run leaves PLANNED (R72). -/
def State.leavePlanned (s : State) (t : Tables) (r : Run) : State :=
  let s := s.freeze
  let e := s.envelopeFor t r
  let r := { r with cruise := s.cruiseFor r.requested, dyn := some (e.dyn t.braking.aAcc) }
  let s := ({ s with sup := s.sup.forRun e }).setRun (some r)
  if e.aGuar < t.braking.aMin then s.closeRun r .cancelled .brakeMargin none
  else s.depart r

/-! ### The speed reference (R68, R74 to R78) -/

/-- The effective cruise of a moving run under a confidence cap (R68). -/
def stepCruise (cruise aSvc : Nat) : Option Nat → Nat
  | some cap => if cap < cruise then max cap (cruise - aSvc / 100) else cruise
  | none => cruise

/-- The boundaries ahead of a car within 200,000 mm (R75). -/
def boundaries (zones : List Zone) (y : Int) (increasing : Bool) : List Int :=
  let ends := (zones.filter (fun z => z.enabled)).flatMap (fun z => [z.start, z.stop])
  if increasing then ends.filter (fun q => decide (y < q) && decide (q ≤ y + 200000))
  else (ends.map (fun q => q - 1)).filter (fun q => decide (y - 200000 ≤ q) && decide (q < y))

/-- The cap term of a boundary (R75). -/
def capTerm (t : Tables) (aSvc : Nat) (y q : Int) : Nat :=
  let cap := (lookupZone t.zones t.line.defaultCap q).cap
  isqrt (cap * cap + 2 * aSvc * mag (q - y))

/-- The look-ahead of one car (R75). -/
def lookAheadCar (t : Tables) (aSvc : Nat) (y : Int) (increasing : Bool) : Nat :=
  ((boundaries t.zones y increasing).map (capTerm t aSvc y)).foldl min
    (lookupZone t.zones t.line.defaultCap y).cap

/-- The look-ahead term: the least of both cars' cap terms (R75). -/
def State.lookAhead (s : State) (t : Tables) (dir : Dir) (aSvc : Nat) : Nat :=
  min (lookAheadCar t aSvc s.trk.xA (dir.increases .A)) (lookAheadCar t aSvc s.trk.xB (dir.increases .B))

/-- The stop position of a stop point that is not ASAP. -/
def stopPosition (pA : Int) : StopPoint → Int
  | .target => pA
  | .watch _ x => x
  | .asap _ _ => pA

/-- The stop term of a stop point of a run, and whether v_ref is 0 by R76. -/
def stopTerm (r : Run) (stop : StopPoint) (aSvc : Nat) (xA : Int) (now : Time) : Nat × Bool :=
  match stop with
  | .asap vh since =>
    let x := vh - aSvc * elapsed since now / 1000
    (x, x == 0)
  | p =>
    let d := (stopPosition r.pA p - xA) * r.dir.sign
    if d ≤ 100 then (0, true) else (max 300 (isqrt (2 * aSvc * d.toNat)), false)

/-- The terms of the speed reference (R74). -/
structure RefTerms where
  ramp : Nat
  cruise : Nat
  lookAhead : Nat
  stop : Nat
  envelope : Nat
  /-- v_ref is 0 by R76 -/
  zero : Bool
  deriving DecidableEq, Repr

/-- The ramp term (R74). -/
def rampTerm (aAcc : Nat) (release : Option Time) (now : Time) : Nat :=
  match release with
  | some t => aAcc * elapsed t now / 1000
  | none => 0

/-- The terms at a sample (R74 to R76), the stop term by the stop point that the sample found. -/
def State.refTerms (s : State) (t : Tables) (r : Run) (found : StopPoint) (d : RunDyn) : RefTerms :=
  let stop := stopTerm r found d.aSvc s.trk.xA s.now
  { ramp := rampTerm d.aAcc r.releaseTime s.now
    cruise := r.cruise
    lookAhead := s.lookAhead t r.dir d.aSvc
    stop := stop.1
    envelope := 88 * s.sup.vE s.trk.xA / 100
    zero := stop.2 }

/-- v_ref: the least of the terms, 0 where R76 says so (R74, R76). -/
def RefTerms.vRef (x : RefTerms) : Nat :=
  if x.zero then 0 else min (min (min (min x.ramp x.cruise) x.lookAhead) x.stop) x.envelope

/-- The stop term is no greater than every other term, or v_ref is 0 by R76 (R77). -/
def RefTerms.braking (x : RefTerms) : Bool :=
  x.zero || (decide (x.stop ≤ x.ramp) && decide (x.stop ≤ x.cruise) && decide (x.stop ≤ x.lookAhead)
    && decide (x.stop ≤ x.envelope))

/-- The ramp is below every other term (R77). -/
def RefTerms.rampLeast (x : RefTerms) : Bool :=
  decide (x.ramp < x.cruise) && decide (x.ramp < x.lookAhead) && decide (x.ramp < x.stop)
    && decide (x.ramp < x.envelope)

/-- The phase after a sample (R77). -/
def nextPhase (p : RunState) (x : RefTerms) : RunState :=
  match p with
  | .accelerating => if x.braking then .braking else if x.rampLeast then .accelerating else .cruising
  | .cruising => if x.braking then .braking else .cruising
  | .braking => .braking
  | .planned => .planned
  | .starting => .starting
  | .holding => .holding
  | .tripped => .tripped

/-- The reference handed to the Drive Port. -/
def State.setRef (s : State) (ref : Int) : State := { s with plan := { s.plan with ref := ref } }

/-- The phase changes where R77 says so, with its RUN notice. -/
def State.phase (s : State) (r : Run) (x : RefTerms) : State :=
  let p := nextPhase r.state x
  if p = r.state then s.setRun (some r) else s.enterRun r.state.code { r with state := p } RunWhy.none

/-- A sample of a run in a moving phase: the cruise is lowered under a cap; with the sequence in MOVING the
reference and the phase are formed and the stop sequence is asked for at rest, and while the stop sequence
runs the reference is 0 (R68, R74 to R78). The stop term is that of the stop point `found` as the sample came: a hold taken at
this very sample gives the ASAP ramp from the next one (R84). -/
def State.drivePhase (s : State) (t : Tables) (r : Run) (found : StopPoint) (d : RunDyn) : State :=
  let r := { r with cruise := stepCruise r.cruise d.aSvc s.trk.conf.cruiseCap }
  if s.brk.seq = .moving then
    let x := s.refTerms t r found d
    let s := (s.setRef (x.vRef * r.dir.sign)).phase r x
    if r.state = .braking ∧ x.vRef = 0 ∧ s.trk.still = true then s.stopSequence else s
  else (s.setRef 0).setRun (some r)

/-- The planner's run at a sample (R70, R73, R74, R78, R85, R89), with the stop point of the run as the sample found it. -/
def State.planRun (s : State) (found : Option StopPoint) : State :=
  match s.plan.run, s.geo.committed with
  | some r, some t =>
    if r.state = .planned then
      let s := s.setRef 0
      if s.startConditions then s.leavePlanned t r else s
    else if r.state.moving then
      match r.dyn with
      | some d => s.drivePhase t r (found.getD r.stop) d
      | none => s.setRef 0
    else s.setRef 0
  | _, _ => s.setRef 0

/-! ### The sample's event (log 5) -/

/-- The tests made at the sample at which STILL is cleared (R125, R134, R135, R192). -/
def State.stillTests (s : State) : State :=
  let s := if s.plan.run.isNone then s.withdrawDoors else s
  s.motionTests.linkTests

/-- The stop point of the run under way. -/
def State.stopPoint (s : State) : Option StopPoint := s.plan.run.map (fun r => r.stop)

/-- The position sample (R25): the tracker, then every block that takes it, in the order of log 5. The planner forms its stop
term with the stop point that stood before any hold of this sample (R84). -/
def State.sample (s : State) : State :=
  let before := s.trk.still
  let found := s.stopPoint
  let s := s.tracker.evalAtStop.brakeCondition
  let s := if before && !s.trk.still then s.stillTests else s
  let s := s.bands.motionCheck.decelTest
  let s := s.notifyWatches.planRun found
  s.sendReference.tallyWindows.servingUpdate

end Machine
end Sys2Proof
end

