-- ==== Sys2Proof/Machine/Transmit.lean ====
section
/-! DEFINITION. The transmitters of ports C and S (R204, R209), and one event: time passes, the blocks act, the line flags
are handed over, and each free transmitter begins the frame it then may. -/

namespace Sys2Proof
namespace Machine

/-! ### The transmitters (R204, R209) -/

/-- A port's record replaced. -/
def State.setPort (s : State) (k : Port) (p : PortState) : State := { s with ctl := s.ctl.set k p }

/-- The entry is the DONE reply of the RESTART now pending (R179, R180). -/
def State.isRestartDone (s : State) (k : Port) (e : ReplyEntry) (r : Reply) : Bool :=
  k == .C && e.kind == 0x0E && r.status == .done && s.line.restartPending

/-- A notice is sent on a port, if the Notice Queue hands one over (R204, R209). -/
def State.sendNotice (s : State) (k : Port) : State :=
  match s.notices.choose k with
  | some n =>
    ({ s with notices := s.notices.handed k n }).setPort k
      { s.ctl.get k with tx := some ⟨noticeFrame n (s.notices.lost.get k), false⟩ }
  | none => s

/-- A free transmitter takes what it may send next: the first reply when it is ready, nothing while that reply is with its
owner, and a notice when no reply is owed (R204). -/
def State.sendNext (s : State) (k : Port) : State :=
  let p := s.ctl.get k
  match p.replies with
  | [] => s.sendNotice k
  | e :: es =>
    match e.state with
    | .ready r =>
      s.setPort k { p with replies := es, tx := some ⟨replyFrame e.kind e.tag r, s.isRestartDone k e r⟩ }
    | .waiting _ _ => s

/-- The transmitter of a port is asked: a free one takes what it may send, another goes on with its frame (R204). -/
def State.ask (s : State) (k : Port) : State :=
  match (s.ctl.get k).tx with
  | some _ => s
  | none => s.sendNext k

/-- Both transmitters are asked. What port C takes does not change what port S may. -/
def State.transmit (s : State) : State := (s.ask .C).ask .S

/-! ### One event -/

/-- One event: time passes, the blocks act, the flags are handed over, and the queue of commands is left as it was. A
transmitter that is free begins a frame in the event in which a reply becomes ready or a notice becomes due (R204, R209);
that it chooses once the blocks have acted, among all the notices they queued, is the model's choice (log 4). -/
def event (dt : Time) (f : State → State) (s : State) : Host.Outcome State Fault Refusal :=
  .next ({ (f (s.advance dt)).refreshFlags with pending := s.pending }).transmit

/-- A reset as an event: it restarts the time, so no time passes before it (R213). -/
def resetEvent (f : State → State) (s : State) : Host.Outcome State Fault Refusal :=
  .next ({ (f s).refreshFlags with pending := s.pending }).transmit

end Machine
end Sys2Proof
end

