-- ==== Sys2Proof/Machine/Control.lean ====
section
/-! DEFINITION. The Control Link: arrivals and their refusals, the reply lists, the hand-over of a request to its
owner, and the receivers of ports C and S (sections 11.1 and 11.2). -/

namespace Sys2Proof
namespace Machine

/-! ### Reply lists (R202) -/

/-- Room of a reply list, and of a request queue (R202). -/
def replyRoom : Nat := 16
def requestRoom : Nat := 4

/-- The entry waits to be handed to its owner. -/
def ReplyEntry.isWaiting (e : ReplyEntry) : Bool :=
  match e.state with
  | .waiting _ _ => true
  | .ready _ => false

/-- The waiting entries of a port: its request queue (R202). -/
def PortState.waiting (p : PortState) : List ReplyEntry := p.replies.filter ReplyEntry.isWaiting

/-- An entry joins the end of a port's reply list. -/
def State.joinReplies (s : State) (k : Port) (e : ReplyEntry) : State :=
  let p := s.ctl.get k
  s.setPort k { p with replies := p.replies ++ [e] }

/-- The oldest waiting entry of a list becomes ready in its place (R203). -/
def readyFirst (r : Reply) : List ReplyEntry → List ReplyEntry
  | [] => []
  | e :: es => if e.isWaiting then { e with state := .ready r } :: es else e :: readyFirst r es

/-- The oldest waiting entry of a port becomes ready with a reply (R203). -/
def State.answer (s : State) (k : Port) (r : Reply) : State :=
  let p := s.ctl.get k
  s.setPort k { p with replies := readyFirst r p.replies }

/-! ### Taking a request (R186, R203) -/

/-- An owner's rule: the action and its reply. -/
abbrev Owner := State → State × Reply

/-- The oldest waiting entry of a port is handed to its owner: BUSY while a RESTART is pending, GUARD_FALSE
when the guard does not hold, otherwise the owner's rule (R179, R186, R203). -/
def State.takeRequest (s : State) (k : Port) (guard : Nat) (act : Owner) : State :=
  if s.line.restartPending then s.answer k (.plain .busy)
  else if s.line.guard guard then
    let r := act s
    r.1.answer k r.2
  else s.answer k (.plain .guardFalse)

/-! ### Arrivals (R200 to R202) -/

/-- What the form and authority checks make of an arrived frame. -/
inductive Judgement where
  | refuse (r : Reply)
  | pass (r : Request)
  deriving DecidableEq, Repr

/-- Causes of MALFORMED (R200), by their places. -/
def malformed (cause : Nat) (more : List Field) : Reply := ⟨.malformed, .code cause :: more⟩

/-- The body has the length the catalogue gives, when the request comes with its fields: the first segments
part and no other carries the line record, and the class table has eight entries (R200). -/
def bodyLengthOk : Request → Bool
  | .loadSegments _ i line _ => line.isSome == (i == 0)
  | .loadClasses es => es.length == 8
  | _ => true

/-- The guard and authority checks of a request whose kind and length are good (R200, R201). -/
def State.judgeRequest (s : State) (k : Port) (guard : Nat) (r : Request) : Judgement :=
  if !bodyLengthOk r then .refuse (malformed 1 [])
  else if 15 < guard then .refuse (malformed 2 [])
  else if authorised k s.line.key r then .pass r
  else .refuse (.plain .authority)

/-- The checks of an arrived frame (R200, R201). -/
def State.judgeFrame (s : State) (k : Port) (f : ControlFrame) : Judgement :=
  if knownKind f.kind then
    match readRequest f.kind f.body with
    | some r => s.judgeRequest k f.guard r
    | none => .refuse (malformed 1 [])
  else .refuse (malformed 0 [.num f.kind])

/-- A judged arrival joins the reply list as R202 states. -/
def State.joinArrival (s : State) (k : Port) (tag : Byte) (kind guard : Nat) (j : Judgement) : State :=
  let p := s.ctl.get k
  if replyRoom ≤ p.replies.length then s
  else
    match j with
    | .refuse r => s.joinReplies k ⟨tag, kind, .ready r⟩
    | .pass r =>
      if requestRoom ≤ p.waiting.length then s.joinReplies k ⟨tag, kind, .ready (.plain .busy)⟩
      else s.joinReplies k ⟨tag, kind, .waiting guard r⟩

/-- A control frame arrives (R200 to R202). -/
def State.arriveFrame (s : State) (k : Port) (f : ControlFrame) : State :=
  s.joinArrival k f.tag f.kind f.guard (s.judgeFrame k f)

/-- The port's oldest waiting entry is this request. -/
def PortState.expects (p : PortState) (h : ReqHead) (r : Request) : Bool :=
  match p.waiting.head? with
  | some e => e.tag == h.tag && e.state == .waiting h.guard r
  | none => false

/-- The request is a new one, passes every check, and finds no other entry of its port waiting: it is taken
in the event of its arrival. -/
def State.takesAtOnce (s : State) (h : ReqHead) (r : Request) : Bool :=
  let p := s.ctl.get h.port
  p.waiting.isEmpty && decide (p.replies.length < replyRoom)
    && s.judgeRequest h.port h.guard r == .pass r

/-- A request command (log 3): the hand-over of the port's oldest waiting entry when that entry is this
request, and otherwise its arrival, followed by its hand-over when nothing else waits on the port. -/
def State.request (s : State) (h : ReqHead) (r : Request) (act : Owner) : State :=
  if (s.ctl.get h.port).expects h r then s.takeRequest h.port h.guard act
  else
    let s1 := s.joinArrival h.port h.tag r.kind h.guard (s.judgeRequest h.port h.guard r)
    if s.takesAtOnce h r then s1.takeRequest h.port h.guard act else s1

/-- A request command as an event. -/
def requestEvent (h : ReqHead) (r : Request) (act : Owner) (s : State) :
    Host.Outcome State Fault Refusal :=
  event h.dt (fun s => s.request h r act) s

/-! ### The receiver (R199) -/

/-- The time a frame has to be complete, from its start byte (R199). -/
def frameSpan : Nat := 50

/-- The time of the start byte of a frame under way. -/
def Receiver.since : Receiver → Option Time
  | .hunting => none
  | .started t => some t
  | .lengthLow t _ _ => some t
  | .body t _ _ => some t

/-- A receiver that hunts takes a byte. -/
def Receiver.hunt (now : Time) (b : Byte) : Receiver := if b = 0xA5#8 then .started now else .hunting

/-- A receiver takes a byte; a frame complete with this byte is handed on with its length and content
(R199). -/
def Receiver.take (x : Receiver) (now : Time) (b : Byte) : Receiver × Option (List Byte) :=
  match x with
  | .hunting => (.hunt now b, none)
  | .started t => (.lengthLow t b now, none)
  | .lengthLow t low t1 =>
    let n := ofBytes [low, b]
    if goodLength n then (.body t n [], none)
    else
      match Receiver.hunt t1 low with
      | .started t2 => (.lengthLow t2 b now, none)
      | _ => (.hunt now b, none)
  | .body t n got =>
    let got := got ++ [b]
    if got.length = n + 2 then (.hunting, some (0xA5#8 :: (bytes16 (BitVec.ofNat 16 n) ++ got)))
    else (.body t n got, none)

/-- The receiver with a frame dropped that was not complete in time (R199). -/
def Receiver.late (x : Receiver) (now : Time) : Receiver :=
  match x.since with
  | some t => if frameSpan < elapsed t now then .hunting else x
  | none => x

/-- A byte arrives on a port (R199). -/
def State.controlByte (s : State) (k : Port) (b : Byte) : State :=
  let p := s.ctl.get k
  let r := (p.rx.late s.now).take s.now b
  let s := s.setPort k { p with rx := r.1 }
  match r.2.bind readControl with
  | some f => s.arriveFrame k f
  | none => s

/-- The 50 ms of a frame have run out (R199). -/
def State.receiveTimeout (s : State) (k : Port) : State :=
  let p := s.ctl.get k
  s.setPort k { p with rx := if due frameSpan p.rx.since s.now then .hunting else p.rx }

/-- A whole frame arrives, its check included; a bad one is dropped (R199). -/
def State.controlFrame (s : State) (k : Port) (bytes : List Byte) : State :=
  match readControl bytes with
  | some f => s.arriveFrame k f
  | none => s

end Machine
end Sys2Proof
end

