-- ==== Sys2Proof/Machine/Commit.lean ====
section
/-! DEFINITION. The Geometry Store's requests: loading parts (R2), the validation of a candidate (R3 to R13), the
commit (R14), discarding and reading (R15, R16). -/

namespace Sys2Proof
namespace Machine

/-! ### Loading (R2) -/

/-- A part taken into a staging table that holds `room` entries at most: the table it leaves, or the
refusal (R2). -/
def loadPart {α : Type} (room : Nat) (old : Option (Part α)) (n i : Nat) (es : List α) :
    Except Reply (Part α) :=
  let k := es.length
  if room < n then .error .range
  else if i = 0 ∧ k ≤ n ∧ (1 ≤ k ∨ n = 0) then .ok ⟨n, es⟩
  else if i = 0 then .error .range
  else
    match old with
    | some p =>
      if p.entries.length < p.declared ∧ p.declared = n ∧ i = p.entries.length ∧ 1 ≤ k ∧ i + k ≤ n then
        .ok { p with entries := p.entries ++ es }
      else .error (.reason .sequence)
    | none => .error (.reason .sequence)

/-- The line mode permits loading and committing (R2, R3). -/
def Mode.configurable : Mode → Bool
  | .unconfigured | .locked => true
  | .automatic | .recovery => false

/-- The staging copy replaced. -/
def State.setStaging (s : State) (g : Staging) : State := { s with geo := { s.geo with staging := g } }

/-- A LOAD request after its guard: the mode, then the part (R2). -/
def State.load {α : Type} (s : State) (r : Except Reply (Part α)) (put : Part α → Staging) :
    State × Reply :=
  if s.line.mode.configurable then
    match r with
    | .ok p => (s.setStaging (put p), .done [])
    | .error e => (s, e)
  else (s, .plain .mode)

/-- The line record that a segments part leaves (R2): the first part's, otherwise the one staged. -/
def lineAfter (old : Option SegPart) (line : Option LineRecord) : LineRecord :=
  match line with
  | some l => l
  | none =>
    match old with
    | some p => p.line
    | none => ⟨0, 0, 0, 0, 0, 0⟩

def State.loadSegments (s : State) (n i : Nat) (line : Option LineRecord) (es : List Segment) :
    State × Reply :=
  let g := s.geo.staging
  s.load (loadPart 32 (g.segments.map (fun x => x.part)) n i es)
    (fun p => { g with segments := some ⟨lineAfter g.segments line, p⟩ })

def State.loadZones (s : State) (n i : Nat) (es : List Zone) : State × Reply :=
  let g := s.geo.staging
  s.load (loadPart 16 g.zones n i es) (fun p => { g with zones := some p })

def State.loadStations (s : State) (n i : Nat) (es : List Station) : State × Reply :=
  let g := s.geo.staging
  s.load (loadPart 8 g.stations n i es) (fun p => { g with stations := some p })

def State.loadHalts (s : State) (n i : Nat) (es : List Halt) : State × Reply :=
  let g := s.geo.staging
  s.load (loadPart 8 g.halts n i es) (fun p => { g with halts := some p })

def State.loadMarkers (s : State) (n i : Nat) (es : List Marker) : State × Reply :=
  let g := s.geo.staging
  s.load (loadPart 48 g.markers n i es) (fun p => { g with markers := some p })

def State.loadCars (s : State) (n i : Nat) (es : List CarData) : State × Reply :=
  let g := s.geo.staging
  s.load (loadPart 2 g.cars n i es) (fun p => { g with cars := some p })

def State.loadBraking (s : State) (n i : Nat) (es : List Braking) : State × Reply :=
  let g := s.geo.staging
  s.load (loadPart 1 g.braking n i es) (fun p => { g with braking := some p })

def State.loadGates (s : State) (n i : Nat) (es : List GateEntry) : State × Reply :=
  let g := s.geo.staging
  s.load (loadPart 16 g.gates n i es) (fun p => { g with gates := some p })

/-! ### Validation (R3 to R13) -/

/-- The check codes of R3. -/
inductive Check where
  | incomplete | missing | count | value | order | duplicate | reference | mirror | spacing | loop
  deriving DecidableEq, Repr

def Check.code : Check → Nat
  | .incomplete => 0 | .missing => 1 | .count => 2 | .value => 3 | .order => 4 | .duplicate => 5
  | .reference => 6 | .mirror => 7 | .spacing => 8 | .loop => 9

/-- A failed check: the table's code, the entry or none, and the check. -/
structure Failure where
  table : Nat
  entry : Option Nat
  check : Check
  deriving DecidableEq, Repr

/-- A table of the candidate set (R3). -/
inductive Source_ (α : Type) where
  | incomplete
  | missing
  | held (x : α)
  deriving DecidableEq, Repr

/-- All declared entries have been received. -/
def Part.complete {α : Type} (p : Part α) : Bool := p.entries.length == p.declared

/-- A table's place in the candidate: staged, committed, empty where it may be, or missing (R3, R4). -/
def pick {α : Type} (staged : Option (Part α)) (committed : Option (List α)) (mayBeEmpty : Bool) :
    Source_ (List α) :=
  match staged with
  | some p => if p.complete then .held p.entries else .incomplete
  | none =>
    match committed with
    | some es => .held es
    | none => if mayBeEmpty then .held [] else .missing

/-- The segments table's place in the candidate. -/
def pickSegments (g : Geometry) : Source_ (LineRecord × List Segment) :=
  match g.staging.segments with
  | some p => if p.part.complete then .held (p.line, p.part.entries) else .incomplete
  | none =>
    match g.committed with
    | some t => .held (t.line, t.segments)
    | none => .missing

/-- A table of the candidate, or its failure (R4). -/
def Source_.open {α : Type} (table : Nat) : Source_ α → Except Failure α
  | .incomplete => .error ⟨table, none, .incomplete⟩
  | .missing => .error ⟨table, none, .missing⟩
  | .held x => .ok x

/-- The entries of a table of the candidate; none where it fails before. -/
def Source_.entries {α : Type} : Source_ (List α) → List α
  | .held x => x
  | .incomplete => []
  | .missing => []

/-- The first check that does not hold. -/
def firstCheck : List (Bool × Check) → Option Check
  | [] => none
  | (ok, c) :: rest => if ok then firstCheck rest else some c

/-- The first failure among entries checked in ascending index, each with the entries before it. -/
def checkEntries {α : Type} (table : Nat) (f : List α → α → Option Check) :
    List α → List α → Option Failure
  | _, [] => none
  | earlier, e :: es =>
    match f earlier e with
    | some c => some ⟨table, some earlier.length, c⟩
    | none => checkEntries table f (earlier ++ [e]) es

/-- A number lies in a range, both ends included. -/
def inRange (lo hi n : Nat) : Bool := decide (lo ≤ n) && decide (n ≤ hi)

/-- A position lies in a range, both ends included. -/
def between (lo hi x : Int) : Bool := decide (lo ≤ x) && decide (x ≤ hi)

/-- A failure of a check, or none. -/
def failIf (c : Option Failure) : Except Failure Unit :=
  match c with
  | some f => .error f
  | none => .ok ()

/-- A COUNT failure when the number of entries is outside its range. -/
def checkCount (table lo hi n : Nat) : Option Failure :=
  if inRange lo hi n then none else some ⟨table, none, .count⟩

/-- The line record (R5). A loop end beyond L answers LOOP, as one that does not straddle mid-line (log 42, DESIGN CHOICE:
R5 gives VALUE and LOOP and leaves this case between them). -/
def checkLine (l : LineRecord) : Option Check :=
  let mid := Int.fdiv l.length 2
  firstCheck
    [(between 200000 4000000 l.length, .value), (inRange 500 14000 l.defaultCap, .value),
     (inRange 1000 14000 l.maxCruise && decide (l.defaultCap ≤ l.maxCruise), .value),
     (inRange 1 65535 l.scale, .value),
     (decide (0 ≤ l.loopStart) && decide (l.loopStart < mid) && decide (mid < l.loopEnd)
        && decide (l.loopEnd ≤ l.length), .loop)]

/-- One gradient segment after the ones before it (R6). -/
def checkSegment (length : Int) (earlier : List Segment) (e : Segment) : Option Check :=
  let ordered := match earlier.getLast? with
    | some p => decide (p.start < e.start)
    | none => decide (e.start = 0)
  firstCheck
    [(ordered, .order), (decide (e.start < length), .value), (between (-2000) 8000 e.sine, .value)]

/-- The segments table (R5, R6). -/
def checkSegments (x : LineRecord × List Segment) : Option Failure :=
  match checkLine x.1 with
  | some c => some ⟨0, none, c⟩
  | none => (checkCount 0 1 32 x.2.length).or (checkEntries 0 (checkSegment x.1.length) [] x.2)

/-- A station number names an entry. -/
def namesStation (ps : List Station) (n : Nat) : Bool := ps.any (fun p => p.number == n)

/-- One zone (R7). -/
def checkZone (length : Int) (ps : List Station) (_earlier : List Zone) (z : Zone) : Option Check :=
  firstCheck
    [(decide (0 ≤ z.start) && decide (z.start < z.stop) && decide (z.stop ≤ length + 1), .value),
     (inRange 300 14000 z.cap, .value), (inRange 1 3 z.side, .value),
     (z.station == 0 || namesStation ps z.station, .reference)]

/-- One station after the ones before it (R8). -/
def checkStation (length : Int) (earlier : List Station) (p : Station) : Option Check :=
  firstCheck
    [(inRange 1 8 p.number, .value), (!namesStation earlier p.number, .duplicate),
     (between 0 length p.stopPos, .value),
     (earlier.all (fun q => decide (600 < mag (p.stopPos - q.stopPos))), .spacing)]

/-- The stop position of a station number. -/
def stopOfStation (ps : List Station) (n : Nat) : Int :=
  match ps.find? (fun p => p.number == n) with
  | some p => p.stopPos
  | none => 0

/-- One halt after the ones before it (R9). -/
def checkHalt (length : Int) (ps : List Station) (earlier : List Halt) (h : Halt) : Option Check :=
  let a := stopOfStation ps h.stationA
  let b := stopOfStation ps h.stationB
  firstCheck
    [(namesStation ps h.stationA && namesStation ps h.stationB, .reference),
     (decide (mag (b - (length - a)) ≤ 500), .mirror),
     (earlier.all (fun g => decide (600 < mag (stopOfStation ps g.stationA - a))), .spacing)]

/-- Halt 0's car A stop position is below that of every other halt (R9). -/
def haltsOrdered (ps : List Station) : List Halt → Bool
  | [] => true
  | h :: hs =>
    hs.all (fun g => decide (stopOfStation ps h.stationA < stopOfStation ps g.stationA))

/-- The halts table (R9). -/
def checkHalts (length : Int) (ps : List Station) (hs : List Halt) : Option Failure :=
  ((checkCount 3 2 8 hs.length).or (checkEntries 3 (checkHalt length ps) [] hs)).or
    (if haltsOrdered ps hs then none else some ⟨3, some 0, .order⟩)

/-- One marker after the ones before it (R10). -/
def checkMarker (l : LineRecord) (earlier : List Marker) (m : Marker) : Option Check :=
  let ordered := match earlier.getLast? with
    | some p => decide (p.pos ≤ m.pos)
    | none => true
  firstCheck
    [(inRange 0 255 m.id && !(earlier.any (fun p => p.id == m.id)), .duplicate),
     (between 0 l.length m.pos, .value), (ordered, .order), (inRange 0 2 m.track, .value),
     (m.track == 0 || between l.loopStart l.loopEnd m.pos, .loop)]

/-- One car's data (R11). -/
def checkCar (_earlier : List CarData) (c : CarData) : Option Check :=
  let o := c.offsets
  firstCheck
    [(inRange 2000 30000 c.emptyMass, .value), (inRange 1 300 c.capacity, .value),
     (o.toList.all (fun x => between (-20000) 20000 x), .value),
     (decide (o.q1 < o.q2) && decide (o.q2 < o.q3) && decide (o.q3 < o.q4), .order)]

/-- The braking data (R12). -/
def checkBraking (_earlier : List Braking) (b : Braking) : Option Check :=
  firstCheck
    [(inRange 10000 400000 b.force && inRange 0 60000 b.mEq && inRange 200 2000 b.tR
        && inRange 200 1500 b.aMin && inRange 200 1200 b.aSvcCfg && inRange 100 800 b.aAcc
        && inRange 500 5000 b.overrun && inRange 0 300 b.reserve && inRange 0 2000 b.tolerance
        && inRange 200 4000 b.stretchBound, .value)]

/-- One gate after the ones before it (R13). -/
def checkGate (ps : List Station) (hs : List Halt) (earlier : List GateEntry) (g : GateEntry) :
    Option Check :=
  firstCheck
    [(inRange 1 16 g.address, .value), (!(earlier.any (fun x => x.address == g.address)), .duplicate),
     (namesStation ps g.station, .reference),
     (hs.any (fun h => h.stationA == g.station || h.stationB == g.station), .reference),
     (inRange 1 4 g.compartment, .value)]

/-- The stations some halt uses that the candidate zones do not let release, in the order of the stations
table (R9). -/
def noReleaseStations (zones : List Zone) (ps : List Station) (hs : List Halt) : List Nat :=
  (ps.filter (fun p => hs.any (fun h => h.stationA == p.number || h.stationB == p.number)
    && !(lookupZone zones 0 p.stopPos).release)).map (fun p => p.number)

/-- The candidate set validated: the tables to be committed, or the first failure (R3 to R13). -/
def validate (g : Geometry) : Except Failure Tables := do
  let c := g.committed
  let stations := pick g.staging.stations (c.map (fun t => t.stations)) false
  let seg ← (pickSegments g).open 0
  failIf (checkSegments seg)
  let length := seg.1.length
  let zones ← (pick g.staging.zones (c.map (fun t => t.zones)) true).open 1
  failIf (checkEntries 1 (checkZone length stations.entries) [] zones)
  let ps ← stations.open 2
  failIf ((checkCount 2 1 8 ps.length).or (checkEntries 2 (checkStation length) [] ps))
  let hs ← (pick g.staging.halts (c.map (fun t => t.halts)) false).open 3
  failIf (checkHalts length ps hs)
  let ms ← (pick g.staging.markers (c.map (fun t => t.markers)) true).open 4
  failIf (checkEntries 4 (checkMarker seg.1) [] ms)
  let cars ← (pick g.staging.cars (c.map (fun t => [t.cars.a, t.cars.b])) false).open 5
  failIf ((checkCount 5 2 2 cars.length).or (checkEntries 5 checkCar [] cars))
  let brakes ← (pick g.staging.braking (c.map (fun t => [t.braking])) false).open 6
  failIf ((checkCount 6 1 1 brakes.length).or (checkEntries 6 checkBraking [] brakes))
  let gates ← (pick g.staging.gates (c.map (fun t => t.gates)) true).open 7
  failIf (checkEntries 7 (checkGate ps hs) [] gates)
  match cars, brakes with
  | [a, b], [k] =>
    .ok ⟨seg.1, seg.2, zones, ps, hs, ms, ⟨a, b⟩, k, gates, noReleaseStations zones ps hs⟩
  | _, _ => .error ⟨5, none, .count⟩

/-! ### The commit (R14) -/

/-- The events that change the mode, by their places in R176's text. -/
inductive ModeEvent where
  | commit | setMode | restart
  deriving DecidableEq, Repr

def ModeEvent.code : ModeEvent → Nat
  | .commit => 0 | .setMode => 1 | .restart => 2

/-- The line mode changes, with its notice; nothing happens where it stands (R176). -/
def State.changeMode (s : State) (m : Mode) (e : ModeEvent) : State :=
  if s.line.mode = m then s
  else
    ({ s with line := { s.line with mode := m } }).notice .mode 0
      [.code s.line.mode.code, .code m.code, .code e.code]

/-- The mode after a commit (R14, R176). -/
def Mode.afterCommit : Mode → Mode
  | .unconfigured => .locked
  | .locked => .locked
  | .automatic => .automatic
  | .recovery => .recovery

/-- A watch whose position lies outside 0..L is disabled (R14). -/
def Watch.within (w : Watch) (length : Int) : Watch :=
  { w with enabled := w.enabled && between 0 length w.pos }

/-- The planner at a commit (R14, step 5). -/
def Planner.commit (p : Planner) (length : Int) : Planner :=
  { p with pendingRun := none, watches := p.watches.map (fun (w : Watch) => w.within length) }

/-- A list of station numbers. -/
def stationList (ns : List Nat) : List Field := listF (fun n : Nat => [.num n]) ns

/-- The commit, after the candidate has passed (R14). -/
def State.commit (s : State) (t : Tables) : State :=
  let s := { s with geo := ⟨some t, Staging.empty⟩ }
  let s := s.changeMode s.line.mode.afterCommit .commit
  let s := s.commitPosition
  let s := { s with plan := s.plan.commit t.line.length, gates := s.gates.rebuild t.gates }
  let s := s.gateCondition.nextTransaction
  s.notice .geometry 0 ([.code 0, .code s.line.mode.code] ++ stationList t.noRelease)

/-- The refusal of COMMIT_GEOMETRY in LOCKED, the first that holds (R3). -/
def State.commitRefusal (s : State) : Option Reason :=
  if s.line.mode = .locked then
    if s.plan.run.isSome then some .run
    else if !s.trk.still then some .motion
    else if !s.gates.shut then some .gates
    else none
  else none

/-- A RANGE reply that names a failed check (R3). -/
def Failure.reply (f : Failure) : Reply :=
  ⟨.range, .code f.table :: optF (fun n : Nat => [.num n]) f.entry ++ [.code f.check.code]⟩

/-- COMMIT_GEOMETRY after its guard (R3, R14). -/
def State.commitGeometry (s : State) : State × Reply :=
  if s.line.mode.configurable then
    match s.commitRefusal with
    | some r => (s, .reason r)
    | none =>
      match validate s.geo with
      | .error f => (s, f.reply)
      | .ok t => (s.commit t, .done (stationList t.noRelease))
  else (s, .plain .mode)

/-- DISCARD_GEOMETRY after its guard (R15). -/
def State.discardGeometry (s : State) : State × Reply := (s.setStaging Staging.empty, .done [])

/-! ### Reading (R16) -/

/-- A segment. Its sine is a number of one byte by R212 (log 44, DESIGN CHOICE: R212 gives no form for a negative number of
that kind; the 16-bit two's complement is taken as an unsigned number). -/
def segmentFields (e : Segment) : List Field := [.pos e.start, .num (BitVec.ofInt 16 e.sine).toNat]

def zoneFields (z : Zone) : List Field :=
  [.flag z.enabled, .pos z.start, .pos z.stop, .speed z.cap, .flag z.release, .code z.side, .num z.station]

def stationFields (p : Station) : List Field :=
  [.num p.number, .pos p.stopPos, .flag p.terminal, .flag p.autoRelease]

def haltFields (h : Halt) : List Field := [.num h.stationA, .num h.stationB]

def markerFields (m : Marker) : List Field := [.num m.id, .pos m.pos, .code m.track]

def carDataFields (c : CarData) : List Field :=
  [Field.mass c.emptyMass, Field.num c.capacity] ++ c.offsets.toList.map Field.pos
    ++ c.stepFree.toList.map Field.flag

def brakingFields (b : Braking) : List Field :=
  [.mass b.force, .mass b.mEq, .time b.tR, .accel b.aMin, .accel b.aSvcCfg, .accel b.aAcc, .pos b.overrun,
   .accel b.reserve, .mass b.tolerance, .pos b.stretchBound]

def gateEntryFields (g : GateEntry) : List Field := [.num g.address, .num g.station, .num g.compartment]

def lineFields (l : LineRecord) : List Field :=
  [.pos l.length, .speed l.defaultCap, .speed l.maxCruise, .num l.scale, .pos l.loopStart, .pos l.loopEnd]

/-- What READ_GEOMETRY needs of one table: the staged counts and entries, and the committed entries. -/
structure TableView where
  staged : Option (Nat × List (List Field))
  committed : Option (List (List Field))
  deriving DecidableEq, Repr

/-- The view of a table. -/
def viewOf {α : Type} (f : α → List Field) (staged : Option (Part α)) (committed : Option (List α)) :
    TableView :=
  ⟨staged.map (fun p => (p.declared, p.entries.map f)), committed.map (fun es => es.map f)⟩

/-- The view of the table with a code, if the code names one. -/
def Geometry.view (g : Geometry) (table : Nat) : Option TableView :=
  let t := g.staging
  let c := g.committed
  match table with
  | 0 => some (viewOf segmentFields (t.segments.map (fun p => p.part)) (c.map (fun t => t.segments)))
  | 1 => some (viewOf zoneFields t.zones (c.map (fun t => t.zones)))
  | 2 => some (viewOf stationFields t.stations (c.map (fun t => t.stations)))
  | 3 => some (viewOf haltFields t.halts (c.map (fun t => t.halts)))
  | 4 => some (viewOf markerFields t.markers (c.map (fun t => t.markers)))
  | 5 => some (viewOf carDataFields t.cars (c.map (fun t => [t.cars.a, t.cars.b])))
  | 6 => some (viewOf brakingFields t.braking (c.map (fun t => [t.braking])))
  | 7 => some (viewOf gateEntryFields t.gates (c.map (fun t => t.gates)))
  | _ => none

/-- The entries that fit in `room` bytes, from the first on. -/
def fitting : Nat → List (List Field) → List (List Field)
  | _, [] => []
  | room, e :: es => if bodySize e ≤ room then e :: fitting (room - bodySize e) es else []

/-- The staging state of a table and its counts (R16). That each count has a presence byte, absent with an ABSENT table, is the
model's choice (log 75). -/
def TableView.stagedFields (v : TableView) : List Field :=
  match v.staged with
  | none => [.code 0, .absent, .absent]
  | some p =>
    [.code (if p.2.length = p.1 then 2 else 1), .present, .num p.1, .present, .num p.2.length]

/-- Whether the committed copy holds the table, with its entry count (R16). That the count has a presence byte beside the flag
is the model's choice (log 75). -/
def TableView.committedFields (v : TableView) : List Field :=
  .flag v.committed.isSome :: optF (fun es : List (List Field) => [.num es.length]) v.committed

/-- The line record of the named copy, for the segments table (R16). -/
def Geometry.lineOf (g : Geometry) (staging : Bool) : Option LineRecord :=
  if staging then g.staging.segments.map (fun p => p.line) else g.committed.map (fun t => t.line)

/-- The stations the committed halts use, with their no-release marks (R16): pairs of station number and mark, in the order
of the stations table (log 45, DESIGN CHOICE: R16 names neither the number nor an order). -/
def Geometry.marks (g : Geometry) : List Field :=
  match g.committed with
  | some t =>
    listF (fun p : Station => [Field.num p.number, Field.flag (t.noRelease.contains p.number)])
      (t.stations.filter (fun p => t.halts.any (fun h => h.stationA == p.number || h.stationB == p.number)))
  | none => listF (fun p : Station => [Field.num p.number]) []

/-- The fields that follow the entries: the line record for segments, the marks for the committed halts (R16). That the line
record has a presence byte, absent where the copy holds no segments table, is the model's choice (log 53). -/
def Geometry.readTail (g : Geometry) (table : Nat) (staging : Bool) : List Field :=
  if table = 0 then optF lineFields (g.lineOf staging)
  else if table = 3 ∧ staging = false then g.marks
  else []

/-- The room of a reply body. -/
def bodyRoom : Nat := 240

/-- READ_GEOMETRY after its guard (R16). -/
def State.readGeometry (s : State) (table copy first : Nat) : State × Reply :=
  match s.geo.view table with
  | some v =>
    if 1 < copy then (s, .range)
    else
      let staging := copy == 1
      let es := if staging then v.staged.elim [] (fun p => p.2) else v.committed.getD []
      let front := v.stagedFields ++ v.committedFields
      let tail := s.geo.readTail table staging
      let room := bodyRoom - (bodySize front + 1 + bodySize tail)
      (s, .done (front ++ listF id (fitting room (es.drop first)) ++ tail))
  | none => (s, .range)

/-! ### The commands -/

def execLoadSegments (h : ReqHead) (n i : Nat) (line : Option LineRecord) (es : List Segment) (s : State) :
    Host.Outcome State Fault Refusal :=
  requestEvent h (.loadSegments n i line es) (fun s => s.loadSegments n i line es) s

def execLoadZones (h : ReqHead) (n i : Nat) (es : List Zone) (s : State) : Host.Outcome State Fault Refusal :=
  requestEvent h (.loadZones n i es) (fun s => s.loadZones n i es) s

def execLoadStations (h : ReqHead) (n i : Nat) (es : List Station) (s : State) :
    Host.Outcome State Fault Refusal :=
  requestEvent h (.loadStations n i es) (fun s => s.loadStations n i es) s

def execLoadHalts (h : ReqHead) (n i : Nat) (es : List Halt) (s : State) : Host.Outcome State Fault Refusal :=
  requestEvent h (.loadHalts n i es) (fun s => s.loadHalts n i es) s

def execLoadMarkers (h : ReqHead) (n i : Nat) (es : List Marker) (s : State) :
    Host.Outcome State Fault Refusal :=
  requestEvent h (.loadMarkers n i es) (fun s => s.loadMarkers n i es) s

def execLoadCars (h : ReqHead) (n i : Nat) (es : List CarData) (s : State) :
    Host.Outcome State Fault Refusal :=
  requestEvent h (.loadCars n i es) (fun s => s.loadCars n i es) s

def execLoadBraking (h : ReqHead) (n i : Nat) (es : List Braking) (s : State) :
    Host.Outcome State Fault Refusal :=
  requestEvent h (.loadBraking n i es) (fun s => s.loadBraking n i es) s

def execLoadGates (h : ReqHead) (n i : Nat) (es : List GateEntry) (s : State) :
    Host.Outcome State Fault Refusal :=
  requestEvent h (.loadGates n i es) (fun s => s.loadGates n i es) s

def execCommitGeometry (h : ReqHead) (s : State) : Host.Outcome State Fault Refusal :=
  requestEvent h .commitGeometry State.commitGeometry s

def execDiscardGeometry (h : ReqHead) (s : State) : Host.Outcome State Fault Refusal :=
  requestEvent h .discardGeometry State.discardGeometry s

def execReadGeometry (h : ReqHead) (table copy first : Nat) (s : State) :
    Host.Outcome State Fault Refusal :=
  requestEvent h (.readGeometry table copy first) (fun s => s.readGeometry table copy first) s

end Machine
end Sys2Proof
end

