-- ==== Sys2Proof/Machine/DoorRequests.lean ====
section
/-! DEFINITION. The requests of the Door Release Unit (chapter 6), with their commands. -/

namespace Sys2Proof
namespace Machine

/-- A car is named by a mask: bit 0 car A, bit 1 car B (section 11.6). -/
def maskCar (mask : Nat) (c : Car) : Bool := bitOf mask c.code

/-- The doors named by both masks, A1 to A4 and then B1 to B4 (R122). -/
def namedDoors (cars comps : Nat) : List Door :=
  Door.all.filter (fun x => maskCar cars x.car && bitOf comps x.comp.index)

/-- RELEASE_DOORS after its guard (R122). -/
def State.releaseDoors (s : State) (cars comps : Nat) : State × Reply :=
  if s.line.mode = .unconfigured then (s, .plain .mode)
  else
    let r := s.decideDoors (namedDoors cars comps)
    (r.1.noticeIf (anyGranted r.2) .door 0 (decisionLists r.2), .done (decisionLists r.2))

/-- A list of doors by their codes. -/
def doorList (xs : List Door) : List Field := listF (fun x : Door => [.code x.code]) xs

/-- LOCK_DOORS for a car when the mask names it. -/
def State.lockNamed (s : State) (mask : Nat) (c : Car) : State :=
  if maskCar mask c then s.lockCar c else s

/-- LOCK_DOORS after its guard (R126). The order of its two lists, that of R121, is the model's choice (log 79). -/
def State.lockDoors (s : State) (cars : Nat) : State × Reply :=
  let named := Door.all.filter (fun x => maskCar cars x.car)
  let started := named.filter (fun x => (s.doors.door x).lockStarts)
  let locked := named.filter (fun x => (s.doors.door x).lockFindsLocked)
  ((s.lockNamed cars .A).lockNamed cars .B, .done (doorList started ++ doorList locked))

/-- The STATE refusal of ISOLATE_DOOR and RESTORE_DOOR (R131, R132). -/
def State.isolationRefusal (s : State) : Option Reason :=
  if !s.line.key then some .key
  else if !s.trk.still then some .motion
  else none

/-- ISOLATE_DOOR after its guard (R131). -/
def State.isolateDoor (s : State) (door : Nat) : State × Reply :=
  match Door.ofCode? door with
  | none => (s, .range)
  | some x =>
    match s.isolationRefusal with
    | some r => (s, .reason r)
    | none => (s.isolate x, .done [])

/-- RESTORE_DOOR after its guard (R132). -/
def State.restoreDoor (s : State) (door : Nat) : State × Reply :=
  match Door.ofCode? door with
  | none => (s, .range)
  | some x =>
    match s.isolationRefusal with
    | some r => (s, .reason r)
    | none => (s.restore x, .done [])

/-- The time remaining of a timer of a span, when it runs. -/
def timerFields (span : Nat) (now : Time) (t : Option Time) : List Field :=
  optF (fun x : Time => [.time (remaining span x now)]) t

/-- A door record, with the times remaining (R118, R136). -/
def DoorRec.fields (d : DoorRec) (now : Time) : List Field :=
  [Field.code d.reported.code, .code (if d.release then 1 else 0), .flag d.isolated, .num d.attempts]
    ++ timerFields closeSpan now d.close ++ timerFields reopenSpan now d.reopen ++ [.flag d.failed]

/-- What the zone lookup returns at a door's compartment position (R136); the zone index, which the default lookup of R17 lacks,
has a presence byte (log 75, DESIGN CHOICE). -/
def State.doorZoneFields (s : State) (x : Door) : List Field :=
  let z := s.geo.zone (s.doorPos x)
  optF (fun n : Nat => [.num n]) z.index ++ [.code (sideCode z.side), .num z.station]

/-- READ_DOORS after its guard (R136). That neither the eight records nor the eight lookups have a count byte before them is
the model's choice (log 72). -/
def State.readDoors (s : State) : State × Reply :=
  (s, .done (Door.all.flatMap (fun x => (s.doors.door x).fields s.now)
    ++ [.code (sideCode s.doors.side.a), .code (sideCode s.doors.side.b), .flag s.doors.allLocked]
    ++ Door.all.flatMap s.doorZoneFields))

/-! ### The commands -/

def execReleaseDoors (h : ReqHead) (cars comps : Nat) (s : State) : Host.Outcome State Fault Refusal :=
  requestEvent h (.releaseDoors cars comps) (fun s => s.releaseDoors cars comps) s

def execLockDoors (h : ReqHead) (cars : Nat) (s : State) : Host.Outcome State Fault Refusal :=
  requestEvent h (.lockDoors cars) (fun s => s.lockDoors cars) s

def execIsolateDoor (h : ReqHead) (door : Nat) (s : State) : Host.Outcome State Fault Refusal :=
  requestEvent h (.isolateDoor door) (fun s => s.isolateDoor door) s

def execRestoreDoor (h : ReqHead) (door : Nat) (s : State) : Host.Outcome State Fault Refusal :=
  requestEvent h (.restoreDoor door) (fun s => s.restoreDoor door) s

def execReadDoors (h : ReqHead) (s : State) : Host.Outcome State Fault Refusal :=
  requestEvent h .readDoors State.readDoors s

end Machine
end Sys2Proof
end

