-- ==== Sys2Proof/Machine/Events.lean ====
section
/-! DEFINITION. The commands that are no requests: samples, reports, changes of inputs, frames and expiries
(chapters 2, 4 to 7, 10 and 11). An expiry acts where its timer runs and has been reached, and otherwise
changes nothing (log 2). -/

namespace Sys2Proof
namespace Machine

/-! ### Inputs -/

/-- The span of the PLANNED wait (R70). -/
def waitSpan : Nat := 60000

/-- The PLANNED wait expires (R70). -/
def State.waitExpiry (s : State) : State :=
  match s.plan.run with
  | some r => if waitSpan ≤ elapsed r.planTime s.now then s.closePlanned .waitExpired else s
  | none => s

/-- An e-stop loop opens: an EMERGENCY in motion, otherwise the close of a PLANNED run (R71, R107). -/
def State.loopOpens (s : State) (n : Ix4) : State :=
  if s.carsMoving then s.raise (.estop n) else s.closePlanned .estop

/-- A change of an e-stop input (R107). -/
def State.estopChange (s : State) (n : Ix4) (closed : Bool) : State :=
  if s.line.loops.get n = closed then s
  else
    let s := { s with line := { s.line with loops := s.line.loops.set n closed } }
    if closed then s else s.loopOpens n

/-- A change of the maintenance key (R187). That the notice carries the key as a flag, set when on, is the model's choice
(log 83). -/
def State.keyChange (s : State) (on : Bool) : State :=
  if s.line.key = on then s
  else ({ s with line := { s.line with key := on } }).notice .mode 2 [.flag on]

/-- A marker report taken by the tracker: its id leaves the car's inbox (R28, R193). -/
def State.takeMarkerReport (s : State) (c : Car) (id : Nat) : State :=
  (s.setLink c ((s.links.get c).takeMarker id)).markerReport c id

/-! ### Gates -/

/-- An answer arrives on the gate bus: the end of the transaction in progress (R141). -/
def State.gateAnswer (s : State) (bytes : List Byte) : State :=
  match s.gates.trans with
  | some t => s.endTransaction t (readAnswer t.address bytes)
  | none => s

/-- The response window (R141). -/
def responseSpan : Nat := 8

/-- The response window ends without an answer (R141). -/
def State.gateSilence (s : State) : State :=
  match s.gates.trans with
  | some t => if responseSpan ≤ elapsed t.start s.now then s.endTransaction t none else s
  | none => s

/-- The passage timeout of a gate (R154). -/
def State.passageExpiry (s : State) (a : Nat) : State :=
  match s.gates.find? a with
  | some g =>
    match g.admission with
    | some x => if x.span ≤ elapsed x.granted s.now then s.passageTimeout g x else s
    | none => s
  | none => s

/-- The recent tickets without one whose passback age has been reached (R156). -/
def expireTicket (t span : Nat) (now : Time) (rs : List Recent) : List Recent :=
  rs.filter (fun r => !(r.ticket == t && decide (span ≤ elapsed r.time now)))

/-- The passback age of a ticket expires (R156). -/
def State.passbackExpiry (s : State) (t : Nat) : State :=
  { s with gates := { s.gates with recent := expireTicket t s.gates.passbackSpan s.now s.gates.recent } }

/-! ### The commands -/

def execPositionSample (dt : Time) (s : State) : Host.Outcome State Fault Refusal :=
  event dt State.sample s

def execEncoderFault (dt : Time) (s : State) : Host.Outcome State Fault Refusal :=
  event dt State.encoderFault s

def execMarkerReport (dt : Time) (car : Car) (id : Nat) (s : State) : Host.Outcome State Fault Refusal :=
  event dt (fun s => s.takeMarkerReport car id) s

def execPlannedWaitExpiry (dt : Time) (s : State) : Host.Outcome State Fault Refusal :=
  event dt State.waitExpiry s

def execTorqueTimeout (dt : Time) (s : State) : Host.Outcome State Fault Refusal :=
  event dt State.torqueExpiry s

def execContactChange (dt : Time) (contact : Contact) (closed : Bool) (s : State) :
    Host.Outcome State Fault Refusal :=
  event dt (fun s => s.contactChange contact closed) s

def execBrakeTimerExpiry (dt : Time) (brake : BrakeId) (s : State) : Host.Outcome State Fault Refusal :=
  event dt (fun s => s.brakeExpiry brake) s

def execTrackBrakeTimerExpiry (dt : Time) (car : Car) (s : State) : Host.Outcome State Fault Refusal :=
  event dt (fun s => s.trackExpiry car) s

def execEstopChange (dt : Time) (loop : Ix4) (closed : Bool) (s : State) :
    Host.Outcome State Fault Refusal :=
  event dt (fun s => s.estopChange loop closed) s

def execKeyChange (dt : Time) (on : Bool) (s : State) : Host.Outcome State Fault Refusal :=
  event dt (fun s => s.keyChange on) s

def execCarFrameSend (dt : Time) (s : State) : Host.Outcome State Fault Refusal :=
  event dt (fun s => (s.sendFrame .A).sendFrame .B) s

def execCarFrameReceived (dt : Time) (car : Car) (bytes : List Byte) (s : State) :
    Host.Outcome State Fault Refusal :=
  event dt (fun s => s.carFrameArrives car bytes) s

def execLinkStaleExpiry (dt : Time) (car : Car) (s : State) : Host.Outcome State Fault Refusal :=
  event dt (fun s => s.staleExpiry car) s

def execLinkLostExpiry (dt : Time) (car : Car) (s : State) : Host.Outcome State Fault Refusal :=
  event dt (fun s => s.lostExpiry car) s

def execDriveStatusFrame (dt : Time) (bytes : List Byte) (s : State) : Host.Outcome State Fault Refusal :=
  event dt (fun s => s.driveFrameArrives bytes) s

def execDriveSilenceExpiry (dt : Time) (s : State) : Host.Outcome State Fault Refusal :=
  event dt State.driveSilence s

def execGateAnswer (dt : Time) (bytes : List Byte) (s : State) : Host.Outcome State Fault Refusal :=
  event dt (fun s => s.gateAnswer bytes) s

def execGateResponseTimeout (dt : Time) (s : State) : Host.Outcome State Fault Refusal :=
  event dt State.gateSilence s

def execPassageTimeout (dt : Time) (gate : Nat) (s : State) : Host.Outcome State Fault Refusal :=
  event dt (fun s => s.passageExpiry gate) s

def execPassbackExpiry (dt : Time) (ticket : Nat) (s : State) : Host.Outcome State Fault Refusal :=
  event dt (fun s => s.passbackExpiry ticket) s

def execReopenTimerExpiry (dt : Time) (door : Door) (s : State) : Host.Outcome State Fault Refusal :=
  event dt (fun s => s.reopenExpiry door) s

def execCloseTimerExpiry (dt : Time) (door : Door) (s : State) : Host.Outcome State Fault Refusal :=
  event dt (fun s => s.closeExpiry door) s

def execControlFrameReceived (dt : Time) (port : Port) (bytes : List Byte) (s : State) :
    Host.Outcome State Fault Refusal :=
  event dt (fun s => s.controlFrame port bytes) s

def execReceiveTimeout (dt : Time) (port : Port) (s : State) : Host.Outcome State Fault Refusal :=
  event dt (fun s => s.receiveTimeout port) s

def execQuadratureStep (dt : Time) (up : Bool) (s : State) : Host.Outcome State Fault Refusal :=
  event dt (fun s => { s with trk := s.trk.count_ up }) s

def execControlByteReceived (dt : Time) (port : Port) (byte : Byte) (s : State) :
    Host.Outcome State Fault Refusal :=
  event dt (fun s => s.controlByte port byte) s

end Machine
end Sys2Proof
end

