-- ==== Sys2Proof/Machine/GateRequests.lean ====
section
/-! DEFINITION. The requests of the Gate Controller (chapter 7) and of the Load Tally (R175), with their
commands. -/

namespace Sys2Proof
namespace Machine

/-! ### RELEASE_GATE_BUS (R140) -/

/-- The record as the bus is released (R140). -/
def Gate.busRelease (g : Gate) : Gate :=
  if g.enabled then { g with state := .offline, missed := 0, streak := 0 }
  else { g with state := .disabled, outbox := [] }

/-- A STATE notice for each gate whose state an update of its record changes. -/
def State.stateNotices (s : State) (f : Gate → Gate) (e : GateEvent) (gs : List Gate) : State :=
  gs.foldl (fun s g => s.noticeIf (g.state != (f g).state) .gate 0
    (stateBody g.address g.state (f g).state e)) s

/-- The bus is released, and transactions begin (R140, R141). -/
def State.releaseBus (s : State) : State :=
  let g := { s.gates with busReleased := true, gates := s.gates.gates.map Gate.busRelease }
  ((({ s with gates := g }).stateNotices Gate.busRelease .busRelease s.gates.gates).gateCondition).nextTransaction

/-- RELEASE_GATE_BUS after its guard (R140). -/
def State.releaseGateBus (s : State) : State × Reply :=
  if s.line.mode = .unconfigured then (s, .plain .mode)
  else if s.gates.busReleased then (s, .done [])
  else (s.releaseBus, .done [])

/-! ### SET_GATE (R139) -/

/-- The record back in the main order when its enabled setting is set (R139). -/
def Gate.enable (g : Gate) : Gate := { g with state := .offline, missed := 0, streak := 0, outbox := [] }

/-- What the enabled setting does to the record's state (R139, R146). -/
def Gate.applyEnabled (g : Gate) : Gate :=
  match g.state with
  | .held => g
  | .passing => g
  | .disabled => if g.enabled then g.enable else g
  | .offline => if g.enabled then g else g.disable
  | .closed => if g.enabled then g else g.disable
  | .opened => if g.enabled then g else g.disable

/-- The record with new settings (R139). -/
def Gate.settings (enabled leaf : Bool) (scale : Nat) (verify : Bool) (g : Gate) : Gate :=
  Gate.applyEnabled
    { g with enabled := enabled, leaf := leaf, scale := max 1 (min scale 32), verify := verify }

/-- The settings of an address replaced (R139). -/
def State.changeGate (s : State) (g : Gate) (f : Gate → Gate) : State :=
  (((s.gate g.address f).stateNotices f .setGate [g]).gateCondition).nextTransaction

/-- SET_GATE after its guard (R139). -/
def State.setGate (s : State) (address enabled mode scale verify : Nat) : State × Reply :=
  match s.gates.find? address with
  | none => (s, .range)
  | some g =>
    if 1 < mode ∨ 1 < verify then (s, .range)
    else (s.changeGate g (Gate.settings (enabled != 0) (mode == 1) scale (verify == 1)), .done [])

/-! ### OPEN_STATION and CLOSE_STATION (R148, R149) -/

/-- The record as its station opens (R148). -/
def Gate.opens (g : Gate) : Gate :=
  match g.state with
  | .closed => { g.leafCmd .opn with state := .opened }
  | .passing => { g with closePending := false }
  | .held => g
  | .disabled => g
  | .offline => g
  | .opened => g

/-- The records as a station opens for a car (R148). -/
def Gates.openStation (g : Gates) (n : Nat) (c : Car) : Gates :=
  { g with
    openMarks := g.openMarks.filter (fun m => m.station != n) ++ [⟨n, c⟩]
    gates := g.gates.map (fun x => if x.station = n then x.opens else x) }

/-- A station opens for a car (R148). -/
def State.openFor (s : State) (n : Nat) (c : Car) : State :=
  ({ s with gates := s.gates.openStation n c }).stateNotices Gate.opens .openStation
    (s.gates.inState n .closed)

/-- A list of gates by their addresses, in the order of the gate table (log 79, DESIGN CHOICE). -/
def gateList (gs : List Gate) : List Field := listF (fun g : Gate => [.num g.address]) gs

/-- OPEN_STATION after its guard (R148), with the serving car as it stands in this event (log 69, DESIGN CHOICE). -/
def State.openStation (s : State) (n : Nat) : State × Reply :=
  if s.line.mode ≠ .automatic then (s, .plain .mode)
  else
    match s.geo.station? n with
    | none => (s, .range)
    | some st =>
      match s.serving st with
      | none => (s, .reason .noCar)
      | some c => (s.openFor n c, .done (gateList (s.gates.inState n .closed) ++ [.code c.code]))

/-- CLOSE_STATION after its guard (R149). -/
def State.closeStationRequest (s : State) (n : Nat) : State × Reply :=
  match s.geo.station? n with
  | none => (s, .range)
  | some _ =>
    (s.closeStation n .closeStation,
     .done (gateList (s.gates.inState n .opened) ++ gateList (s.gates.inState n .passing)))

/-! ### LOAD_CLASSES and SET_PASSBACK (R157, R158) -/

/-- A class entry's fields are in range (R158). -/
def ClassBytes.ok_ (e : ClassBytes) : Bool :=
  decide (e.enabled ≤ 1) && decide (e.persons ≤ 2) && decide (e.mass ≤ 400) && decide (e.stepFree ≤ 1)

/-- The class an entry gives. -/
def classOf (e : ClassBytes) : FareClass := ⟨e.enabled == 1, e.persons, e.mass, e.stepFree == 1⟩

/-- The first class out of range. -/
def badClass (es : List ClassBytes) : Option Nat := es.findIdx? (fun e => !ClassBytes.ok_ e)

/-- LOAD_CLASSES after its guard (R158). -/
def State.loadClasses (s : State) (es : List ClassBytes) : State × Reply :=
  match badClass es with
  | some i => (s, ⟨.range, [.num i]⟩)
  | none => ({ s with gates := { s.gates with classes := es.map classOf } }, .done [])

/-- The entries of the recent-ticket list that have not reached a passback age (R156, R157). -/
def youngTickets (span : Nat) (now : Time) (rs : List Recent) : List Recent :=
  rs.filter (fun r => decide (elapsed r.time now < span))

/-- The passback age replaced (R157). -/
def State.putPassback (s : State) (m : Nat) : State :=
  { s with gates := { s.gates with
      passback := m, recent := youngTickets (m * 60000) s.now s.gates.recent } }

/-- SET_PASSBACK after its guard (R157); the age in force goes out as a duration, in ms (R212). -/
def State.setPassback (s : State) (minutes : Nat) : State × Reply :=
  let m := max 1 (min minutes 60)
  (s.putPassback m, .done [.time (m * 60000)])

/-! ### READ_GATES (R160) -/

/-- A held admission with its timeout expiry, and the time remaining on its passage timeout (R138, R160). -/
def Admission.readFields (now : Time) (a : Admission) : List Field :=
  [.word a.ticket, .code a.car.code, .num a.persons, .mass a.mass, .code (if a.leaf then 1 else 0),
   .time a.granted.toNat, .time (a.granted + BitVec.ofNat 32 a.span).toNat,
   .time (remaining a.span a.granted now)]

/-- A gate record (R138, R160). -/
def Gate.fields (now : Time) (g : Gate) : List Field :=
  [Field.num g.address, .num g.station, .num g.compartment, .flag g.enabled, .code (if g.leaf then 1 else 0),
   .num g.scale, .flag g.verify, .code g.state.code]
    ++ optF (Admission.readFields now) g.admission
    ++ optF (fun o : Nat × Car => [.word o.1]) g.overdue ++ [.flag g.closePending]
    ++ listF (fun o : OutCmd => [.code o.cmd.kind, .num o.cmd.arg]) g.outbox
    ++ [.num g.missed, .num g.streak, .num g.retries]

/-- A station that has gates, with its serving car, which has a presence byte (log 75, DESIGN CHOICE), and whether it is open
(R160). -/
def State.stationFields_ (s : State) (st : Station) : List Field :=
  Field.num st.number :: optF (fun c : Car => [.code c.code]) (s.serving st)
    ++ [.flag (s.gates.openFor st.number).isSome]

/-- The stations that have gates, in the order of the stations table (log 79, DESIGN CHOICE). -/
def State.gateStations (s : State) : List Station :=
  s.geo.stations.filter (fun st => s.gates.gates.any (fun g => g.station == st.number))

/-- A class (R158). -/
def FareClass.fields (k : FareClass) : List Field :=
  [.flag k.enabled, .num k.persons, .mass k.mass, .flag k.stepFree]

/-- An entry of the recent-ticket list with its time remaining (R160). -/
def State.recentFields (s : State) (r : Recent) : List Field :=
  [.word r.ticket, .num r.gate, .time r.time.toNat, .time (remaining s.gates.passbackSpan r.time s.now)]

/-- The fields of READ_GATES before the entries of the recent-ticket list (R160). The passback age is a duration, in ms
(R212). That the class table of eight entries has no count byte before it is the model's choice (log 72), and so are the order
of the gate records, that of the gate table (log 79), and the presence byte of the last main gate (log 77). -/
def State.gateFields (s : State) : List Field :=
  Field.code (if s.gates.busReleased then 1 else 0) :: listF (Gate.fields s.now) s.gates.gates
    ++ listF (fun a : Nat => [.num a]) s.gates.mainOrder ++ optF (fun a : Nat => [.num a]) s.gates.lastMain
    ++ listF s.stationFields_ s.gateStations ++ s.gates.classes.flatMap FareClass.fields
    ++ [.time s.gates.passbackSpan, .num s.gates.recent.length]

/-- READ_GATES after its guard (R160): as many recent tickets as fit. Where the fields before them exceed a body by themselves
they are kept whole and no ticket is sent: the model's choice (log 10). -/
def State.readGates (s : State) (first : Nat) : State × Reply :=
  let front := s.gateFields
  let es := (s.gates.recent.drop first).map s.recentFields
  (s, .done (front ++ listF id (fitting (bodyRoom - (bodySize front + 1)) es)))

/-! ### READ_TALLY (R175) -/

/-- The load record (R162). The window is one byte, 0 closed and 1 open, and the station number follows only where it is open:
the model's choice (log 75). -/
def Load.fields (l : Load) : List Field :=
  optF (fun r : Nat × Bool => [.mass r.1, .flag r.2]) l.reading ++ optF (fun n : Nat => [.num n]) l.window
    ++ [.flag l.released] ++ optF (fun m : Nat => [.mass m]) l.arrival
    ++ optF (fun m : Nat => [.mass m]) l.departure
    ++ [.mass l.carryMass, .num l.carryPersons, .num l.admPersons, .mass l.admMass, .num l.resPersons,
        .mass l.resMass]
    ++ optF (fun m : Nat => [.mass m]) l.lastUpper
    ++ [.flag l.excess, .flag l.short, .flag l.frozen.isSome]
    ++ optF (fun f : Nat × Nat => [.mass f.1]) l.frozen ++ optF (fun f : Nat × Nat => [.mass f.2]) l.frozen

/-- The weigh tolerance, the admission reserve and a_min in force: the last two are free values while no
tables are committed (R175, log 9). -/
def State.tallyForce (s : State) (c : Car) : List Field :=
  match s.geo.committed with
  | some t => [.mass t.braking.tolerance, .accel t.braking.reserve, .accel t.braking.aMin]
  | none =>
    let i := 4 * s.now.toNat + 2 * c.code
    [.mass 0, .accel (Config.freeAccel i), .accel (Config.freeAccel (i + 1))]

/-- The fields of one car in READ_TALLY (R175). -/
def State.tallyFields (s : State) (c : Car) : List Field :=
  let l := s.tally.get c
  let tol := s.geo.tolerance
  l.fields ++ [.mass (l.upper tol), .mass (l.lower tol), .mass l.expected]
    ++ optF (fun x : CheckOutcome × Option Nat => [.code x.1.code]) l.lastCheck
    ++ optF (fun a : Nat => [.accel a]) (l.lastCheck.bind (fun x => x.2))
    ++ s.tallyForce c

/-- READ_TALLY after its guard (R175). -/
def State.readTally (s : State) : State × Reply := (s, .done (s.tallyFields .A ++ s.tallyFields .B))

/-! ### The commands -/

def execReleaseGateBus (h : ReqHead) (s : State) : Host.Outcome State Fault Refusal :=
  requestEvent h .releaseGateBus State.releaseGateBus s

def execSetGate (h : ReqHead) (address enabled mode scale verify : Nat) (s : State) :
    Host.Outcome State Fault Refusal :=
  requestEvent h (.setGate address enabled mode scale verify)
    (fun s => s.setGate address enabled mode scale verify) s

def execOpenStation (h : ReqHead) (station : Nat) (s : State) : Host.Outcome State Fault Refusal :=
  requestEvent h (.openStation station) (fun s => s.openStation station) s

def execCloseStation (h : ReqHead) (station : Nat) (s : State) : Host.Outcome State Fault Refusal :=
  requestEvent h (.closeStation station) (fun s => s.closeStationRequest station) s

def execLoadClasses (h : ReqHead) (es : List ClassBytes) (s : State) : Host.Outcome State Fault Refusal :=
  requestEvent h (.loadClasses es) (fun s => s.loadClasses es) s

def execSetPassback (h : ReqHead) (minutes : Nat) (s : State) : Host.Outcome State Fault Refusal :=
  requestEvent h (.setPassback minutes) (fun s => s.setPassback minutes) s

def execReadGates (h : ReqHead) (first : Nat) (s : State) : Host.Outcome State Fault Refusal :=
  requestEvent h (.readGates first) (fun s => s.readGates first) s

def execReadTally (h : ReqHead) (s : State) : Host.Outcome State Fault Refusal :=
  requestEvent h .readTally State.readTally s

end Machine
end Sys2Proof
end

