-- ==== Sys2Proof/Machine/LineRequests.lean ====
section
/-! DEFINITION. The requests of the Line Status Unit (chapter 9), of the Position Tracker (R27, R38) and of the
Notice Queue (R206), with their commands. -/

namespace Sys2Proof
namespace Machine

/-! ### SET_MODE (R177, R178) -/

/-- The mode SET_MODE may name (R177). -/
def settableMode : Nat → Option Mode
  | 1 => some .locked
  | 2 => some .automatic
  | 3 => some .recovery
  | _ => none

/-- The mode becomes the one named; leaving AUTOMATIC closes every station (R178). -/
def State.enterMode (s : State) (m : Mode) : State :=
  let t := s.changeMode m .setMode
  if s.line.mode = .automatic ∧ m ≠ .automatic then t.closeAll else t

/-- SET_MODE after its guard (R177). -/
def State.setMode (s : State) (mode : Nat) : State × Reply :=
  if s.line.mode = .unconfigured then (s, .plain .mode)
  else
    match settableMode mode with
    | none => (s, .range)
    | some m =>
      if s.plan.run.isSome then (s, .reason .run)
      else (s.enterMode m, .done [.code s.line.mode.code, .code m.code])

/-! ### CLEAR_SEVERITY (R183) -/

/-- The memory is lowered to the present level, with a SEVERITY notice when the reported severity changes
(R182, R183). -/
def State.lowerMemory (s : State) : State :=
  let after := s.line.conds.level
  ({ s with line := { s.line with memory := after } }).noticeIf (s.line.reported != after) .severity 0
    (severityBody s.line.reported after none s.line.conds)

/-- CLEAR_SEVERITY after its guard (R183). -/
def State.clearSeverity (s : State) : State × Reply :=
  (s.lowerMemory,
   .done ([.code s.line.reported.code, .code s.line.conds.level.code] ++ s.line.conds.fields))

/-! ### RESTART (R179) -/

/-- RESTART after its guard: refused, or marked pending (R179). -/
def State.restart (s : State) : State × Reply :=
  if s.plan.run.isSome then (s, .reason .run)
  else if !s.trk.still then (s, .reason .motion)
  else ({ s with line := { s.line with restartPending := true } }, .done [])

/-! ### READ_STATUS (R188) -/

/-- The state of an e-stop loop, by its place in R107: closed, open. That it is coded by its place and is no flag is the model's
choice (log 83). -/
def loopCode (closed : Bool) : Nat := if closed then 0 else 1

/-- The eight line flags in the order of R184. -/
def LineStatus.flagFields (l : LineStatus) : List Field :=
  [l.flags.still, l.flags.doorsLocked, l.atStop.isSome, l.flags.noRun, l.flags.noTrip, l.flags.gateShut,
   l.flags.confirmed, l.flags.clear].map Field.flag

/-- The fields of READ_STATUS (R188). That the halt held with ATSTOP has a presence byte is the model's choice (log 75), and so is
it that the key is a flag, set when on, while the loops and the gate bus are coded by their places (log 83). -/
def State.statusFields (s : State) : List Field :=
  [Field.code s.line.mode.code, .flag s.geo.committed.isSome, .code s.line.reported.code,
   .code s.line.memory.code, .code s.line.conds.level.code] ++ s.line.conds.fields
    ++ s.line.flagFields ++ optF (fun n : Nat => [.num n]) s.line.atStop ++ [.flag s.line.key]
    ++ s.line.loops.toList.map (fun c => Field.code (loopCode c))
    ++ [.code (runCode s.plan.run), .code s.trk.conf.code,
        .code (if s.gates.busReleased then 1 else 0), .flag s.line.restartPending]

/-- READ_STATUS after its guard (R188). -/
def State.readStatus (s : State) : State × Reply := (s, .done s.statusFields)

/-! ### SET_REFERENCE (R27) -/

/-- The STATE refusal of SET_REFERENCE (R27). -/
def State.referenceRefusal (s : State) : Option Reason :=
  if !s.line.key then some .key
  else if s.plan.run.isSome then some .run
  else if !s.trk.still then some .motion
  else none

/-- SET_REFERENCE after its guard (R27). -/
def State.setReference (s : State) (halt : Nat) : State × Reply :=
  if s.line.mode = .unconfigured then (s, .plain .mode)
  else
    match s.geo.halt? halt with
    | none => (s, .range)
    | some h =>
      match s.referenceRefusal with
      | some r => (s, .reason r)
      | none =>
        let t := s.reference h.pA
        (t, .done [.pos t.trk.xA, .pos t.trk.xB, .code t.trk.conf.code])

/-! ### READ_POSITION (R38) -/

/-- The marker fields of one car (R38). -/
def Tracker.carFields (t : Tracker) (c : Car) : List Field :=
  optF (fun e : Expected => [.num e.id, .pos e.pos]) (t.expected.get c) ++ [.num (t.misses.get c)]
    ++ optF (fun n : Nat => [.num n]) (t.lastMarker.get c)

/-- The fields of READ_POSITION (R38). The cruise cap is absent in UNKNOWN and LOST, as in CONFIRMED (log 47, DESIGN CHOICE:
R39 has "runs refused" there). -/
def Tracker.fields (t : Tracker) : List Field :=
  [Field.pos t.xA, .pos t.xB, .pos t.sigma, .speed t.v, .code (motionCode t.motion)]
    ++ optF (fun d : Dir => [.code d.code]) t.lastDir
    ++ [.flag t.still, .num t.stillCount, .code t.conf.code, .num t.good, .flag t.stretch,
        .word t.count.toNat, .word t.countBase.toNat, .pos t.xBase]
    ++ t.carFields .A ++ t.carFields .B ++ optF (fun c : Nat => [.speed c]) t.conf.cruiseCap

/-- READ_POSITION after its guard (R38). -/
def State.readPosition (s : State) : State × Reply := (s, .done s.trk.fields)

/-! ### SET_NOTICE and SET_THRESHOLD (R206) -/

/-- The route code of a setting: 1 C, 2 S, 3 both, as the body of SET_NOTICE has it. That a reply and a notice carry this code and
not the place of the route in R206's C, S or both is the model's choice (log 86). -/
def NoticeSetting.route (x : NoticeSetting) : Nat := (if x.toC then 1 else 0) + (if x.toS then 2 else 0)

/-- The fields of a setting. -/
def NoticeSetting.fields (x : NoticeSetting) : List Field := [.flag x.enabled, .num x.priority, .code x.route]

/-- The setting a SET_NOTICE body gives, when its codes are in their sets (R206). -/
def noticeSetting (enabled priority route : Nat) : Option NoticeSetting :=
  if enabled ≤ 1 ∧ 1 ≤ route ∧ route ≤ 3 then
    some ⟨enabled == 1, max 1 (min priority 15), route == 1 || route == 3, route == 2 || route == 3⟩
  else none

/-- The setting of a class replaced, with a QUEUE notice at a change (R206); its body as log 64 has it. -/
def State.putSetting (s : State) (c : NoticeClass) (x : NoticeSetting) : State :=
  let old := s.notices.settings.get c
  ({ s with notices := { s.notices with settings := s.notices.settings.put c x } }).noticeIf (old != x)
    .queue 0 (.num c.number :: (old.fields ++ x.fields))

/-- SET_NOTICE after its guard (R206). -/
def State.setNotice (s : State) (cls enabled priority route : Nat) : State × Reply :=
  match NoticeClass.ofNumber? cls, noticeSetting enabled priority route with
  | some c, some x => (s.putSetting c x, .done x.fields)
  | _, _ => (s, .range)

/-- The port with a number. -/
def portOf : Nat → Option Port
  | 0 => some .C
  | 1 => some .S
  | _ => none

def portNumber : Port → Nat
  | .C => 0
  | .S => 1

/-- The threshold of a port replaced, with a QUEUE notice at a change (R206). That no byte of the notice tells a port from a
class is the model's choice (log 64). -/
def State.putThreshold (s : State) (k : Port) (x : Nat) : State :=
  let old := s.notices.threshold.get k
  ({ s with notices := { s.notices with threshold := s.notices.threshold.set k x } }).noticeIf (old != x)
    .queue 0 [.num (portNumber k), .num old, .num x]

/-- SET_THRESHOLD after its guard (R206). -/
def State.setThreshold (s : State) (port threshold : Nat) : State × Reply :=
  match portOf port with
  | some k => (s.putThreshold k (min threshold 15), .done [.num (min threshold 15)])
  | none => (s, .range)

/-! ### The commands -/

def execSetMode (h : ReqHead) (mode : Nat) (s : State) : Host.Outcome State Fault Refusal :=
  requestEvent h (.setMode mode) (fun s => s.setMode mode) s

def execClearSeverity (h : ReqHead) (s : State) : Host.Outcome State Fault Refusal :=
  requestEvent h .clearSeverity State.clearSeverity s

def execRestart (h : ReqHead) (s : State) : Host.Outcome State Fault Refusal :=
  requestEvent h .restart State.restart s

def execReadStatus (h : ReqHead) (s : State) : Host.Outcome State Fault Refusal :=
  requestEvent h .readStatus State.readStatus s

def execSetReference (h : ReqHead) (halt : Nat) (s : State) : Host.Outcome State Fault Refusal :=
  requestEvent h (.setReference halt) (fun s => s.setReference halt) s

def execReadPosition (h : ReqHead) (s : State) : Host.Outcome State Fault Refusal :=
  requestEvent h .readPosition State.readPosition s

def execSetNotice (h : ReqHead) (cls enabled priority route : Nat) (s : State) :
    Host.Outcome State Fault Refusal :=
  requestEvent h (.setNotice cls enabled priority route)
    (fun s => s.setNotice cls enabled priority route) s

def execSetThreshold (h : ReqHead) (port threshold : Nat) (s : State) : Host.Outcome State Fault Refusal :=
  requestEvent h (.setThreshold port threshold) (fun s => s.setThreshold port threshold) s

end Machine
end Sys2Proof
end

