-- ==== Sys2Proof/Machine/Resets.lean ====
section
/-! DEFINITION. The resets (R180, R183 and each block's own rule) and the end of a frame of a port's transmitter, which
after the reply of an accepted RESTART is the restart itself (R180, R204), with their commands. -/

namespace Sys2Proof
namespace Machine

/-! ### Resets -/

/-- The kinds of reset, by their places. -/
inductive ResetKind where
  | powerOn | resetLine | restart
  deriving DecidableEq, Repr

def ResetKind.code : ResetKind → Nat
  | .powerOn => 0
  | .resetLine => 1
  | .restart => 2

/-- The input levels as the device last read them. -/
def State.levels (s : State) : Inputs :=
  ⟨s.line.key, s.line.loops, s.brk.sbApplied, s.brk.sbReleased, s.brk.ebApplied, s.brk.ebReleased⟩

/-- The Geometry Store after a reset (R1): RESTART keeps the committed copy. -/
def State.resetGeo (s : State) : ResetKind → Geometry
  | .powerOn => ⟨none, Staging.empty⟩
  | .resetLine => ⟨none, Staging.empty⟩
  | .restart => ⟨s.geo.committed, Staging.empty⟩

/-- The encoder count after a reset (R19, R41). -/
def State.resetCount (s : State) : ResetKind → BitVec 32
  | .powerOn => 0
  | .resetLine => s.trk.count
  | .restart => s.trk.count

/-- The trip record after a reset (R108). -/
def State.resetTrip (s : State) : ResetKind → Option TripRec
  | .powerOn => none
  | .resetLine => s.sup.trip
  | .restart => s.sup.trip

/-- The record of a brake after a reset, by whether it is confirmed applied (R99, R117). -/
def BrakeRec.afterReset (confirmed : Bool) : BrakeRec := .deenergised confirmed 0

/-- The Brake Controller after a reset that finds the contacts as they are (R117). -/
def Brakes.afterReset (i : Inputs) : Brakes where
  sbr := false
  ebr := false
  ten := false
  seq := .rest
  abort := none
  torque := none
  service := .afterReset (i.sbApplied && !i.sbReleased)
  sheave := .afterReset (i.ebApplied && !i.ebReleased)
  sbApplied := i.sbApplied
  sbReleased := i.sbReleased
  ebApplied := i.ebApplied
  ebReleased := i.ebReleased
  track := .const TrackRec.afterReset
  watch := none

/-- A door's isolation after a reset (R137). -/
def State.resetIsolated (s : State) (k : ResetKind) (x : Door) : Bool :=
  match k with
  | .powerOn => false
  | .resetLine => false
  | .restart => (s.doors.door x).isolated

/-- One car's door records after a reset (R137). -/
def State.resetCarDoors (s : State) (k : ResetKind) (c : Car) : Quad DoorRec :=
  ⟨.afterReset (s.resetIsolated k ⟨c, .i1⟩), .afterReset (s.resetIsolated k ⟨c, .i2⟩),
   .afterReset (s.resetIsolated k ⟨c, .i3⟩), .afterReset (s.resetIsolated k ⟨c, .i4⟩)⟩

/-- The Door Release Unit after a reset (R137). -/
def State.resetDoors (s : State) (k : ResetKind) : Doors :=
  ⟨⟨s.resetCarDoors k .A, s.resetCarDoors k .B⟩, .const none⟩

/-- The Gate Controller after a reset (R161). -/
def State.resetGates (s : State) : ResetKind → Gates
  | .powerOn => Gates.afterPowerOn
  | .resetLine => Gates.afterPowerOn
  | .restart => s.gates.afterRestart s.now

/-- The line mode after a reset (R176). -/
def State.resetMode (s : State) : ResetKind → Mode
  | .powerOn => .unconfigured
  | .resetLine => .unconfigured
  | .restart => if s.geo.committed.isSome then .locked else .unconfigured

/-- The conditions the reset values hold (R183). -/
def resetConditions (tripValid isolated : Bool) : Conditions :=
  { Conditions.none with linkStale := .const true, tripValid := tripValid, doorIsolated := isolated }

/-- The condition named as the cause of the SEVERITY notice of a reset: the first of the highest level
(log 20). -/
def Conditions.highest (t : Conditions) : Option Condition :=
  t.list.find? (fun c => c.level == t.level)

/-- The settings and thresholds after a reset (R206). -/
def State.resetNotices (s : State) : ResetKind → NoticeQueue
  | .powerOn => ⟨[], Settings.default, .const 0, .const 0⟩
  | .resetLine => ⟨[], Settings.default, .const 0, .const 0⟩
  | .restart => ⟨[], s.notices.settings, s.notices.threshold, .const 0⟩

/-- Every block at its values after a reset, the Notice Queue empty. -/
def State.resetBlocks (s : State) (k : ResetKind) (i : Inputs) : State :=
  let geo := s.resetGeo k
  let doors := s.resetDoors k
  let conds := resetConditions (s.resetTrip k).isSome doors.anyIsolated
  { s with
    now := 0
    geo := geo
    trk := Tracker.afterReset (s.resetCount k) geo.length
    sup := ⟨none, BandRec.afterReset, s.resetTrip k⟩
    plan := Planner.afterReset
    brk := Brakes.afterReset i
    doors := doors
    gates := s.resetGates k
    tally := .const Load.afterReset
    line :=
      { s.line with
        mode := s.resetMode k, memory := conds.level, conds := conds, atStop := none, key := i.key,
        loops := i.loops, restartPending := false }
    links := .const CarLink.afterReset
    drive := Drive.afterReset
    ctl := .const PortState.afterReset
    notices := s.resetNotices k }

/-- The notices of a reset: MODE STARTED first, MODE CHANGED where a RESTART changes the mode, then SEVERITY
(R176, R180, R183, log 20). The transmitters are asked as STARTED is queued, alone in the emptied queue, so that it is the first
notice of the device (R180, R209, log 4, DESIGN CHOICE). That STARTED carries the reported severity as the conditions of the
reset leave it is the model's choice (log 20), and so is it that a reset queues no other notice: none for a gate that becomes
HELD (R159), nor for a brake, a link, a door, a run or a frozen car whose state it sets (log 20). -/
def State.resetReport (s : State) (k : ResetKind) (before : Mode) : State :=
  let l := s.line
  let s := (s.notice .mode 1 [.code k.code, .code l.mode.code, .code l.reported.code]).transmit
  let s := s.noticeIf (k == .restart && before != l.mode) .mode 0
    [.code before.code, .code l.mode.code, .code ModeEvent.restart.code]
  s.noticeIf (l.reported != .clear) .severity 0
    (severityBody .clear l.reported l.conds.highest l.conds)

/-- A reset of a kind that finds the inputs at levels (R180). -/
def State.doReset (s : State) (k : ResetKind) (i : Inputs) : State :=
  (s.resetBlocks k i).resetReport k s.line.mode

/-- The transmitter of a port has sent its frame: the last byte of the reply of an accepted RESTART is the restart, and
otherwise the transmitter is free, to send again at the end of the event (R180, R204). -/
def State.transmitterFree (s : State) (k : Port) : State :=
  if (s.ctl.get k).tx.any (fun x => x.restartDone) then s.doReset .restart s.levels
  else s.setPort k { s.ctl.get k with tx := none }

/-! ### The commands -/

def execPowerOn (pins : Inputs) (s : State) : Host.Outcome State Fault Refusal :=
  resetEvent (fun s => s.doReset .powerOn pins) s

def execResetLine (s : State) : Host.Outcome State Fault Refusal :=
  resetEvent (fun s => s.doReset .resetLine s.levels) s

def execTransmitterFree (dt : Time) (port : Port) (s : State) : Host.Outcome State Fault Refusal :=
  event dt (fun s => s.transmitterFree port) s

end Machine
end Sys2Proof
end

