-- ==== Sys2Proof/Machine/RunRequests.lean ====
section
/-! DEFINITION. The requests of the Run Planner (chapter 4), with their commands. -/

namespace Sys2Proof
namespace Machine

/-- The reply POSITION with the confidence (section 11.3). -/
def State.positionReply (s : State) : Reply := ⟨.position, [.code s.trk.conf.code]⟩

/-- The reply BRAKE_MARGIN with the a_guar found (section 11.3). -/
def marginReply (aGuar : Nat) : Reply := ⟨.brakeMargin, [.accel aGuar]⟩

/-! ### ANNOUNCE_RUN (R66) -/

/-- The pending run replaced. -/
def State.setPending (s : State) (halt : Option Nat) : State :=
  { s with plan := { s.plan with pendingRun := halt } }

/-- ANNOUNCE_RUN after its guard (R66). -/
def State.announceRun (s : State) (halt : Option Nat) : State × Reply :=
  if s.line.mode = .unconfigured then (s, .plain .mode)
  else
    match halt with
    | none => (s.setPending none, .done [])
    | some n =>
      if (s.geo.halt? n).isSome then (s.setPending (some n), .done [])
      else (s, .plain .target)

/-! ### START_RUN (R67, R69) -/

/-- The direction of a run to p_A (R67). -/
def State.directionTo (s : State) (pA : Int) : Dir := if s.trk.xA < pA then .up else .down

/-- The provisional check's span (R69). -/
def State.provisional (s : State) (t : Tables) (pA : Int) : Span :=
  span t s.trk.xA pA (s.directionTo pA) (runMasses t s.tally (s.directionTo pA))

/-- The refusals 3 to 8 of START_RUN for a halt that exists (R67). -/
def State.startRefusal (s : State) (t : Tables) (pA : Int) : Option Reply :=
  if within s.trk.xA pA then some (.plain .target)
  else if s.trk.conf.noRuns then some s.positionReply
  else if s.sup.trip.isSome then some (.reason .trip)
  else if s.line.estop then some (.reason .estop)
  else if !s.brk.trackClear then some (.reason .brakes)
  else if (s.provisional t pA).aGuar < t.braking.aMin then some (marginReply (s.provisional t pA).aGuar)
  else none

/-- The run id after one that has been given (R64). -/
def nextRunId (n : Nat) : Nat := if n < 255 then n + 1 else 1

/-- The record of an accepted run (R67). -/
def State.plannedRun (s : State) (target requested : Nat) (pA : Int) : Run where
  id := s.plan.nextId
  origin := s.line.atStop
  target := target
  pA := pA
  dir := s.directionTo pA
  requested := requested
  cruise := s.cruiseFor requested
  dyn := none
  stop := .target
  resumeTarget := none
  holdCause := none
  pendingStop := none
  highest := .none
  releaseTime := none
  planTime := s.now
  state := .planned
  leaving := none

/-- A START_RUN is accepted (R67), and the doors are locked as the run leaves IDLE (R125). -/
def State.acceptRun (s : State) (r : Run) : State :=
  (({ s with plan := { s.plan with nextId := nextRunId s.plan.nextId } }).enterRun 0 r RunWhy.none).lockForRun

/-- The line mode permits runs (R67). -/
def Mode.runs : Mode → Bool
  | .automatic | .recovery => true
  | .unconfigured | .locked => false

/-- START_RUN after its guard (R67). -/
def State.startRun (s : State) (target cruise : Nat) : State × Reply :=
  if !s.line.mode.runs then (s, .plain .mode)
  else if s.plan.run.isSome then (s, .reason .run)
  else
    match s.geo.committed, s.geo.halt? target with
    | some t, some h =>
      match s.startRefusal t h.pA with
      | some r => (s, r)
      | none =>
        let r := s.plannedRun target cruise h.pA
        (s.acceptRun r,
         .accepted [.num r.id, .code r.dir.code, .speed r.cruise, .accel (s.provisional t h.pA).aGuar])
    | _, _ => (s, .plain .target)

/-! ### HOLD_RUN and CANCEL_RUN (R80, R88) -/

/-- HOLD_RUN after its guard (R80). -/
def State.holdRun (s : State) : State × Reply :=
  match s.plan.run with
  | none => (s, .reason .run)
  | some r =>
    match r.state with
    | .planned => (s, .reason .run)
    | .tripped => (s, .reason .run)
    | .starting => (s.hold .holdRequest, .done [])
    | .accelerating => (s.hold .holdRequest, .done [])
    | .cruising => (s.hold .holdRequest, .done [])
    | .braking => (s.hold .holdRequest, .done [])
    | .holding => (s, .done [])

/-- CANCEL_RUN after its guard (R88). -/
def State.cancelRun (s : State) : State × Reply :=
  match s.plan.run with
  | none => (s, .reason .run)
  | some r =>
    match r.state with
    | .tripped => (s, .reason .run)
    | .planned => (s.closeRun r .cancelled .cancelRequest none, .done [])
    | .starting => (s.hold .cancel, .done [])
    | .accelerating => (s.hold .cancel, .done [])
    | .cruising => (s.hold .cancel, .done [])
    | .braking => (s.hold .cancel, .done [])
    | .holding => (s.closeRun r .cancelled .cancelRequest none, .done [])

/-! ### RESUME_RUN (R50, R86, R87) -/

/-- The refusals 2 to 7 of RESUME_RUN (R86). -/
def State.resumeRefusal (s : State) : Option Reply :=
  if s.trk.conf.noRuns then some s.positionReply
  else if s.line.estop then some (.reason .estop)
  else if !s.brk.trackClear then some (.reason .brakes)
  else if !s.doors.allLocked then some (.reason .doors)
  else if !s.linksLive then some (.reason .link)
  else if !s.drive.ok then some (.reason .drive)
  else none

/-- The envelope of a resume: the limit point stays that of the run (R50). -/
def State.resumeEnvelope (s : State) (t : Tables) (r : Run) : Envelope :=
  let e := s.envelopeFor t r
  { e with limit := (r.dyn.map (fun d => d.limit)).getD e.limit }

/-- The watch named by a hold cause. -/
def causeWatch : Option HoldCause → Option Ix4
  | some (.watch n) => some n
  | _ => none

/-- The supervisor as a resume replaces its envelope (R50). -/
def Supervisor.resume (p : Supervisor) (e : Envelope) : Supervisor :=
  { p with env := some e, band := { p.band with latch := none, umArmed := false, umCount := 0 } }

/-- The run record of a resume (R87). -/
def State.resumedRun (s : State) (t : Tables) (r : Run) (e : Envelope) : Run :=
  { r with
    dyn := some { e.dyn ((r.dyn.map (fun d => d.aAcc)).getD t.braking.aAcc) with limit := e.limit }
    cruise := s.cruiseFor r.requested
    stop := s.formStop r (causeWatch r.holdCause)
    holdCause := none, resumeTarget := none, pendingStop := none, releaseTime := none
    leaving := some ⟨r.holdCause, r.resumeTarget, r.stop⟩, state := .starting }

/-- A RESUME_RUN that passes is taken (R50, R87). -/
def State.resume (s : State) (t : Tables) (r : Run) (e : Envelope) : State :=
  let r' := s.resumedRun t r e
  ((({ s with sup := s.sup.resume e }).enterRun r.state.code r' RunWhy.none).holdSetNotice r'.stop).startSequence

/-- The supervisor's tests of a resume, and the resume (R50, R86). -/
def State.tryResume (s : State) (t : Tables) (r : Run) : State × Reply :=
  let e := s.resumeEnvelope t r
  if s.sup.band.latch.isSome && decide (e.vE s.trk.xA < 300) then (s, .reason .service)
  else if e.aGuar < t.braking.aMin then (s, marginReply e.aGuar)
  else (s.resume t r e, .accepted [])

/-- RESUME_RUN of a run in HOLDING (R86). A run under way holds its tables; without them the request is
refused. -/
def State.resumeHolding (s : State) (r : Run) : State × Reply :=
  match s.resumeRefusal with
  | some x => (s, x)
  | none =>
    if within s.trk.xA r.pA then (s.arrive r, .done [])
    else
      match s.geo.committed with
      | some t => s.tryResume t r
      | none => (s, .reason .run)

/-- RESUME_RUN after its guard (R86). -/
def State.resumeRun (s : State) : State × Reply :=
  match s.plan.run with
  | none => (s, .reason .run)
  | some r => if r.state = .holding then s.resumeHolding r else (s, .reason .run)

/-! ### SET_WATCH and CLEAR_WATCH (R90, R94) -/

/-- The sense of a code. -/
def WatchSense.ofCode? : Nat → Option WatchSense
  | 0 => some .up
  | 1 => some .down
  | 2 => some .either
  | _ => none

/-- The record a SET_WATCH body gives, when its position and codes are in range (R90). -/
def watchOf (length : Int) (w : WatchBytes) : Option Watch :=
  match WatchSense.ofCode? w.sense with
  | some sense =>
    if w.car ≤ 1 ∧ between 0 length w.pos = true ∧ w.action ≤ 1 ∧ w.keep ≤ 1 then
      some ⟨true, if w.car = 0 then .A else .B, w.pos, sense, w.action == 1, w.keep == 1⟩
    else none
  | none => none

/-- One watch record replaced. -/
def State.setWatchRec (s : State) (n : Ix4) (w : Watch) : State :=
  { s with plan := { s.plan with watches := s.plan.watches.set n w } }

/-- The watch holds runs. -/
def Watch.holds (w : Watch) : Bool := w.enabled && w.hold

/-- The service stopping distance (R94). -/
def State.stoppingDistance (s : State) (r : Run) : Nat :=
  match r.dyn with
  | some d => ceilDiv (mag s.trk.v * mag s.trk.v) (2 * d.aSvc)
  | none => 0

/-- The watch forms the run's stop point. -/
def StopPoint.isWatch (p : StopPoint) (n : Ix4) : Bool :=
  match p with
  | .watch m _ => m == n
  | .target => false
  | .asap _ _ => false

/-- The stop point formed afresh when the watch that forms it is replaced or cleared in motion (R94). -/
def State.stopWithout (s : State) (r : Run) (n : Ix4) : StopPoint :=
  stopOf (s.nearestWatch r (fun m x =>
    m != n && decide ((s.stoppingDistance r : Int) < (x - s.trk.xA) * r.dir.sign)))

/-- The watch that forms the stop point is gone: the stop point formed afresh, with its notice (R94), which carries the index
and the car and position of the old record (log 51, DESIGN CHOICE). -/
def State.cancelWatch (s : State) (r : Run) (n : Ix4) (old : Watch) : State × Run :=
  if r.stop.isWatch n then
    let r' := { r with stop := s.stopWithout r n }
    ((s.setRun (some r')).notice .watch 2 [.num n.index, .code old.car.code, .pos old.pos], r')
  else (s, r)

/-- A HOLD watch newly enabled in motion (R94). -/
def State.newWatch (s : State) (r : Run) (n : Ix4) (w : Watch) : State :=
  match s.candidate r w with
  | none => s
  | some x =>
    let dist := (x - s.trk.xA) * r.dir.sign
    if (s.stoppingDistance r : Int) < dist then
      if dist < (stopPosition r.pA r.stop - s.trk.xA) * r.dir.sign then
        (s.setRun (some { r with stop := .watch n x })).notice .watch 1 (holdSetBody n w false)
      else s
    else (s.takeHold r (.watch n) (mag s.trk.v)).notice .watch 1 (holdSetBody n w true)

/-- A watch record has changed from `old` to `w` while a run is under way (R94). -/
def State.watchChanged (s : State) (n : Ix4) (old w : Watch) : State :=
  match s.plan.run with
  | none => s
  | some r =>
    if r.state.moving then
      if r.stop.isAsap then s
      else
        let x := s.cancelWatch r n old
        x.1.newWatch x.2 n w
    else if r.state = .starting ∧ (old.holds || w.holds) = true then
      let stop := s.formStop r (causeWatch (r.leaving.bind (fun l => l.cause)))
      (s.setRun (some { r with stop := stop })).holdSetNotice stop
    else s

/-- A watch record is replaced, with what R94 asks. -/
def State.replaceWatch (s : State) (n : Ix4) (w : Watch) : State :=
  (s.setWatchRec n w).watchChanged n (s.plan.watches.get n) w

/-- SET_WATCH after its guard (R90). -/
def State.setWatch (s : State) (index : Nat) (w : WatchBytes) : State × Reply :=
  if s.line.mode = .unconfigured then (s, .plain .mode)
  else
    match Ix4.ofIndex? index, watchOf s.geo.length w with
    | some n, some x => (s.replaceWatch n x, .done [])
    | _, _ => (s, .range)

/-- CLEAR_WATCH after its guard (R90). -/
def State.clearWatch (s : State) (index : Nat) : State × Reply :=
  match Ix4.ofIndex? index with
  | some n => (s.replaceWatch n { s.plan.watches.get n with enabled := false }, .done [])
  | none => (s, .range)

/-! ### READ_RUN (R96) -/

/-- The run record (R64): in IDLE its state alone. -/
def runFields : Option Run → List Field
  | none => [.code 0]
  | some r =>
    Field.num r.id :: optF (fun n : Nat => [.num n]) r.origin
      ++ [.num r.target, .pos r.pA, .code r.dir.code, .speed r.requested, .speed r.cruise]
      ++ optF (fun d : RunDyn => [.accel d.aGuar]) r.dyn ++ optF (fun d : RunDyn => [.accel d.k]) r.dyn
      ++ optF (fun d : RunDyn => [.accel d.aSvc]) r.dyn ++ optF (fun d : RunDyn => [.accel d.aAcc]) r.dyn
      ++ optF (fun d : RunDyn => [.pos d.limit]) r.dyn
      ++ r.stop.fields ++ optF (fun n : Nat => [.num n]) r.resumeTarget
      ++ optF HoldCause.fields r.holdCause ++ optF HoldCause.fields r.pendingStop
      ++ [.code r.highest.code] ++ optF (fun t : Time => [.time t.toNat]) r.releaseTime
      ++ [.time r.planTime.toNat, .code r.state.code]

/-- The last-run record (R65). -/
def LastRun.fields (l : LastRun) : List Field :=
  [.num l.id, .num l.target, .code l.outcome.code] ++ l.reason.fields
    ++ optF (fun x : Int => [.pos x]) l.stopError

/-- A watch record (R90). -/
def Watch.fields (w : Watch) : List Field :=
  [.flag w.enabled, .code w.car.code, .pos w.pos, .code w.sense.code, .code (if w.hold then 1 else 0),
   .code (if w.keep then 1 else 0)]

/-- The envelope record (R42). -/
def Envelope.fields (e : Envelope) : List Field :=
  [.num e.runId, .code e.dir.code, .pos e.xFrom, .pos e.xTo, .pos e.pA, .pos e.limit, .mass e.mDesc,
   .mass e.mAsc, .mass e.m, .mass e.fAid, .pos e.cut, .accel e.aGuar, .accel e.k, .accel e.aSvc]

/-- The last evaluated values (R42). -/
def LastEval.fields (e : LastEval) : List Field :=
  [.time e.time.toNat, .pos e.xA, .speed e.v, .speed e.vE] ++ optF (fun c : Nat => [.speed c]) e.c
    ++ optF (fun d : Int => [.pos d]) e.dLimit

/-- The band record (R42). The warning state and the SERVICE latch are one byte each, 0 clear and 1 set, and the source follows
only where it is set: the model's choice (log 75). -/
def BandRec.fields (b : BandRec) : List Field :=
  optF (fun x : Source => [.code x.code]) b.warning ++ optF (fun x : Source => [.code x.code]) b.latch
    ++ [.flag b.emergency, .code b.highest.code, .num b.umCount, .flag b.umArmed]
    ++ optF LastEval.fields b.last

/-- READ_RUN after its guard (R96). The last speed reference is the one the Drive Port keeps (R195). That the four watch
records have no count byte before them is the model's choice (log 72). -/
def State.readRun (s : State) : State × Reply :=
  (s, .done (runFields s.plan.run ++ optF LastRun.fields s.plan.lastRun
    ++ optF (fun n : Nat => [.num n]) s.plan.pendingRun
    ++ s.plan.watches.toList.flatMap Watch.fields ++ [.speed s.drive.lastRef]
    ++ optF Envelope.fields s.sup.env ++ s.sup.band.fields))

/-! ### The commands -/

def execAnnounceRun (h : ReqHead) (halt : Option Nat) (s : State) : Host.Outcome State Fault Refusal :=
  requestEvent h (.announceRun halt) (fun s => s.announceRun halt) s

def execStartRun (h : ReqHead) (target cruise : Nat) (s : State) : Host.Outcome State Fault Refusal :=
  requestEvent h (.startRun target cruise) (fun s => s.startRun target cruise) s

def execHoldRun (h : ReqHead) (s : State) : Host.Outcome State Fault Refusal :=
  requestEvent h .holdRun State.holdRun s

def execResumeRun (h : ReqHead) (s : State) : Host.Outcome State Fault Refusal :=
  requestEvent h .resumeRun State.resumeRun s

def execCancelRun (h : ReqHead) (s : State) : Host.Outcome State Fault Refusal :=
  requestEvent h .cancelRun State.cancelRun s

def execSetWatch (h : ReqHead) (index : Nat) (w : WatchBytes) (s : State) :
    Host.Outcome State Fault Refusal :=
  requestEvent h (.setWatch index w) (fun s => s.setWatch index w) s

def execClearWatch (h : ReqHead) (index : Nat) (s : State) : Host.Outcome State Fault Refusal :=
  requestEvent h (.clearWatch index) (fun s => s.clearWatch index) s

def execReadRun (h : ReqHead) (s : State) : Host.Outcome State Fault Refusal :=
  requestEvent h .readRun State.readRun s

end Machine
end Sys2Proof
end

