-- ==== Sys2Proof/Machine/TripRequests.lean ====
section
/-! DEFINITION. The requests of the Brake Controller (sections 5.8 and 5.9), with their commands. -/

namespace Sys2Proof
namespace Machine

/-! ### CLEAR_TRIP (R113) -/

/-- The STATE refusal of CLEAR_TRIP (R113). -/
def State.clearTripRefusal (s : State) : Option Reason :=
  if s.sup.trip.isNone then some .noTrip
  else if !s.trk.still then some .motion
  else if !s.brk.both .applied then some .brakes
  else if s.brk.ten then some .torque
  else none

/-- A TRIPPED run closes with the cause of the trip record (R89, R113). -/
def State.closeTripped (s : State) (c : Cause) : State :=
  match s.plan.run with
  | some r => if r.state = .tripped then s.closeRun r .tripped (.emergency c) none else s
  | none => s

/-- The trip is cleared, its record's cause given (R113). That the notice carries no field is the model's choice (log 64). -/
def State.tripCleared (s : State) (c : Cause) : State :=
  let s := { s with sup := { s.sup with trip := none }, brk := { s.brk with watch := none } }
  (((s.closeTripped c).dropEnvelope).handOver .tripValid false).notice .trip 3 []

/-- CLEAR_TRIP after its guard (R113). -/
def State.clearTrip (s : State) : State × Reply :=
  match s.clearTripRefusal, s.sup.trip with
  | some r, _ => (s, .reason r)
  | none, some t => (s.tripCleared t.cause, .done [])
  | none, none => (s, .reason .noTrip)

/-! ### RELEASE_TRACK_BRAKES (R114) -/

/-- A car's track brake is to be released (R114). -/
def TrackRec.toRelease (t : TrackRec) : Bool :=
  t.cmd == .apply || t.state == some .applied || t.state == some .applying || t.state == some .failed

/-- The cars to be released, car A first (log 79, DESIGN CHOICE). -/
def State.carsToRelease (s : State) : List Car :=
  ([.A, .B] : List Car).filter (fun c => (s.brk.track.get c).toRelease)

/-- The STATE refusal of RELEASE_TRACK_BRAKES (R114). -/
def State.releaseRefusal (s : State) : Option Reason :=
  if !s.line.key then some .key
  else if !s.trk.still then some .motion
  else if s.sup.trip.isSome then some .trip
  else if s.carsToRelease.any (fun c => (s.links.get c).state != .live) then some .link
  else none

/-- The cars' track brakes are commanded RELEASE (R114). -/
def State.releaseTrack (s : State) (cs : List Car) : State :=
  (cs.foldl (fun (s : State) c => s.setTrack c ⟨.release, some .releasing, some s.now⟩) s).trackCondition

/-- RELEASE_TRACK_BRAKES after its guard (R114). -/
def State.releaseTrackBrakes (s : State) : State × Reply :=
  match s.releaseRefusal with
  | some r => (s, .reason r)
  | none =>
    (s.releaseTrack s.carsToRelease, .done (listF (fun c : Car => [.code c.code]) s.carsToRelease))

/-! ### READ_TRIP (R116) -/

/-- The escalation watch (R110). -/
def EscWatch.fields (w : EscWatch) : List Field := [.time w.start.toNat, .speed w.vTrip, .accel w.aTest]

/-- A service or sheave brake record with its time remaining (R116). -/
def BrakeRec.fields (r : BrakeRec) (now : Time) : List Field :=
  .code r.state.code :: timerFields r.state.span now r.timer

/-- The span of a track brake's timer, by its command (R100). -/
def TrackCmd.span : TrackCmd → Nat
  | .release => releaseSpan
  | .apply => applySpan
  | .hold => applySpan

/-- A track brake record with its time remaining (R116). -/
def TrackRec.fields (t : TrackRec) (now : Time) : List Field :=
  .code t.cmd.code :: (optF (fun x : BrakeState => [.code (trackStateCode x)]) t.state
    ++ timerFields t.cmd.span now t.timer)

/-- The four contact readings, closed as set (log 83, DESIGN CHOICE). -/
def Brakes.contactFields (b : Brakes) : List Field :=
  [.flag b.sbApplied, .flag b.sbReleased, .flag b.ebApplied, .flag b.ebReleased]

/-- READ_TRIP after its guard (R116). That the escalation watch is one byte, 0 stopped and 1 running, with its three figures
after it only when it runs, is the model's choice (log 68), and so are SBR, EBR and TEN as flags, set when energised (log 83). -/
def State.readTrip (s : State) : State × Reply :=
  (s, .done (tripFields s.sup.trip ++ optF EscWatch.fields s.brk.watch
    ++ [.code s.brk.seq.code, .flag s.brk.sbr, .flag s.brk.ebr, .flag s.brk.ten]
    ++ s.brk.contactFields ++ s.brk.service.fields s.now ++ s.brk.sheave.fields s.now
    ++ s.brk.track.a.fields s.now ++ s.brk.track.b.fields s.now
    ++ s.line.loops.toList.map (fun c => Field.code (loopCode c))))

/-! ### The commands -/

def execClearTrip (h : ReqHead) (s : State) : Host.Outcome State Fault Refusal :=
  requestEvent h .clearTrip State.clearTrip s

def execReleaseTrackBrakes (h : ReqHead) (s : State) : Host.Outcome State Fault Refusal :=
  requestEvent h .releaseTrackBrakes State.releaseTrackBrakes s

def execReadTrip (h : ReqHead) (s : State) : Host.Outcome State Fault Refusal :=
  requestEvent h .readTrip State.readTrip s

end Machine
end Sys2Proof
end

