-- ==== Sys2Proof/Machine/Dispatch.lean ====
section
/-! DEFINITION. One arm per command: each a direct call of its meaning. -/

namespace Sys2Proof
namespace Machine

/-- The meaning of a command. -/
def exec (i : Instr) (s : State) : Host.Outcome State Fault Refusal :=
  match i with
  | .powerOn pins => Sys2Proof.Machine.execPowerOn pins s
  | .resetLine => Sys2Proof.Machine.execResetLine s
  | .positionSample dt => Sys2Proof.Machine.execPositionSample dt s
  | .encoderFault dt => Sys2Proof.Machine.execEncoderFault dt s
  | .markerReport dt car id => Sys2Proof.Machine.execMarkerReport dt car id s
  | .plannedWaitExpiry dt => Sys2Proof.Machine.execPlannedWaitExpiry dt s
  | .torqueTimeout dt => Sys2Proof.Machine.execTorqueTimeout dt s
  | .contactChange dt contact closed => Sys2Proof.Machine.execContactChange dt contact closed s
  | .brakeTimerExpiry dt brake => Sys2Proof.Machine.execBrakeTimerExpiry dt brake s
  | .trackBrakeTimerExpiry dt car => Sys2Proof.Machine.execTrackBrakeTimerExpiry dt car s
  | .estopChange dt loop closed => Sys2Proof.Machine.execEstopChange dt loop closed s
  | .keyChange dt on => Sys2Proof.Machine.execKeyChange dt on s
  | .carFrameSend dt => Sys2Proof.Machine.execCarFrameSend dt s
  | .carFrameReceived dt car bytes => Sys2Proof.Machine.execCarFrameReceived dt car bytes s
  | .linkStaleExpiry dt car => Sys2Proof.Machine.execLinkStaleExpiry dt car s
  | .linkLostExpiry dt car => Sys2Proof.Machine.execLinkLostExpiry dt car s
  | .driveStatusFrame dt bytes => Sys2Proof.Machine.execDriveStatusFrame dt bytes s
  | .driveSilenceExpiry dt => Sys2Proof.Machine.execDriveSilenceExpiry dt s
  | .gateAnswer dt bytes => Sys2Proof.Machine.execGateAnswer dt bytes s
  | .gateResponseTimeout dt => Sys2Proof.Machine.execGateResponseTimeout dt s
  | .passageTimeout dt gate => Sys2Proof.Machine.execPassageTimeout dt gate s
  | .passbackExpiry dt ticket => Sys2Proof.Machine.execPassbackExpiry dt ticket s
  | .reopenTimerExpiry dt door => Sys2Proof.Machine.execReopenTimerExpiry dt door s
  | .closeTimerExpiry dt door => Sys2Proof.Machine.execCloseTimerExpiry dt door s
  | .controlFrameReceived dt port bytes => Sys2Proof.Machine.execControlFrameReceived dt port bytes s
  | .receiveTimeout dt port => Sys2Proof.Machine.execReceiveTimeout dt port s
  | .transmitterFree dt port => Sys2Proof.Machine.execTransmitterFree dt port s
  | .loadSegments h n k line es => Sys2Proof.Machine.execLoadSegments h n k line es s
  | .loadZones h n k es => Sys2Proof.Machine.execLoadZones h n k es s
  | .loadStations h n k es => Sys2Proof.Machine.execLoadStations h n k es s
  | .loadHalts h n k es => Sys2Proof.Machine.execLoadHalts h n k es s
  | .loadMarkers h n k es => Sys2Proof.Machine.execLoadMarkers h n k es s
  | .loadCars h n k es => Sys2Proof.Machine.execLoadCars h n k es s
  | .loadBraking h n k es => Sys2Proof.Machine.execLoadBraking h n k es s
  | .loadGates h n k es => Sys2Proof.Machine.execLoadGates h n k es s
  | .commitGeometry h => Sys2Proof.Machine.execCommitGeometry h s
  | .discardGeometry h => Sys2Proof.Machine.execDiscardGeometry h s
  | .readGeometry h table copy first => Sys2Proof.Machine.execReadGeometry h table copy first s
  | .setMode h mode => Sys2Proof.Machine.execSetMode h mode s
  | .clearSeverity h => Sys2Proof.Machine.execClearSeverity h s
  | .restart h => Sys2Proof.Machine.execRestart h s
  | .readStatus h => Sys2Proof.Machine.execReadStatus h s
  | .setReference h halt => Sys2Proof.Machine.execSetReference h halt s
  | .readPosition h => Sys2Proof.Machine.execReadPosition h s
  | .announceRun h halt => Sys2Proof.Machine.execAnnounceRun h halt s
  | .startRun h target cruise => Sys2Proof.Machine.execStartRun h target cruise s
  | .holdRun h => Sys2Proof.Machine.execHoldRun h s
  | .resumeRun h => Sys2Proof.Machine.execResumeRun h s
  | .cancelRun h => Sys2Proof.Machine.execCancelRun h s
  | .setWatch h index w => Sys2Proof.Machine.execSetWatch h index w s
  | .clearWatch h index => Sys2Proof.Machine.execClearWatch h index s
  | .readRun h => Sys2Proof.Machine.execReadRun h s
  | .clearTrip h => Sys2Proof.Machine.execClearTrip h s
  | .releaseTrackBrakes h => Sys2Proof.Machine.execReleaseTrackBrakes h s
  | .readTrip h => Sys2Proof.Machine.execReadTrip h s
  | .releaseDoors h cars comps => Sys2Proof.Machine.execReleaseDoors h cars comps s
  | .lockDoors h cars => Sys2Proof.Machine.execLockDoors h cars s
  | .isolateDoor h door => Sys2Proof.Machine.execIsolateDoor h door s
  | .restoreDoor h door => Sys2Proof.Machine.execRestoreDoor h door s
  | .readDoors h => Sys2Proof.Machine.execReadDoors h s
  | .releaseGateBus h => Sys2Proof.Machine.execReleaseGateBus h s
  | .setGate h address enabled mode scale verify => Sys2Proof.Machine.execSetGate h address enabled mode scale verify s
  | .openStation h station => Sys2Proof.Machine.execOpenStation h station s
  | .closeStation h station => Sys2Proof.Machine.execCloseStation h station s
  | .loadClasses h es => Sys2Proof.Machine.execLoadClasses h es s
  | .setPassback h minutes => Sys2Proof.Machine.execSetPassback h minutes s
  | .readGates h first => Sys2Proof.Machine.execReadGates h first s
  | .readTally h => Sys2Proof.Machine.execReadTally h s
  | .setNotice h cls enabled priority route => Sys2Proof.Machine.execSetNotice h cls enabled priority route s
  | .setThreshold h port threshold => Sys2Proof.Machine.execSetThreshold h port threshold s
  | .quadratureStep dt up => Sys2Proof.Machine.execQuadratureStep dt up s
  | .controlByteReceived dt port byte => Sys2Proof.Machine.execControlByteReceived dt port byte s

end Machine
end Sys2Proof
end

