-- ==== Sys2Proof/Machine/Step.lean ====
section
/-! DEFINITION. One step: the command at the front of the queue is taken (logs 1 and 2), and the host's
way of placing a command there. -/

namespace Sys2Proof
namespace Machine

/-- One step: take the command at the front of the queue, and run its meaning on the device with the rest
of the queue. On an empty queue the device idles (DESIGN CHOICE, log 1). -/
def step (s : State) : Host.Outcome State Fault Refusal :=
  match s.pending with
  | [] => .next s
  | c :: rest => exec c { s with pending := rest }

/-- The device with the command that a word spells put at the front of its queue. No word spells one, since
no row of the table gives bits. -/
def State.withFetchWord (s : State) (nbits w : Nat) : State :=
  match decodeTableWord nbits w with
  | some c => { s with pending := c :: s.pending }
  | none => s

end Machine
end Sys2Proof
end

