-- ==== Sys2Proof/Safety.lean ====
section
/-! DEFINITION. The words the claims are stated in: the state an event ends in, a request that is taken, the
invariants of the device, and when cars move. -/

namespace Sys2Proof
namespace Machine

/-! ### The end of an event -/

/-- The state an event ends in, when the blocks have become `u` and `q` is the rest of the queue of commands: the line flags
handed over (R184), and the transmitters asked for a frame (R204, R209). -/
def State.ended (u : State) (q : List Instr) : State :=
  ({ u with line := { u.line with flags := u.flagsNow }, pending := q }).transmit

/-- The oldest waiting entry of a port made ready with a reply (R203). -/
def State.replied (u : State) (k : Port) (x : Reply) : State :=
  { u with ctl := u.ctl.set k { u.ctl.get k with replies := readyFirst x (u.ctl.get k).replies } }

/-- The request of a head is the oldest waiting one of its port, no RESTART is pending, and its guard holds (R179, R186,
R203). -/
structure Taken (s : State) (h : ReqHead) (r : Request) : Prop where
  front : (s.ctl.get h.port).expects h r = true
  free : s.line.restartPending = false
  guard : s.line.guard h.guard = true

/-- What becomes of the state when a request is taken and answered `x`, its action having made `u`. -/
def answered (s : State) (h : ReqHead) (u : State) (x : Reply) : Host.Outcome State Fault Refusal :=
  .next ((u.replied h.port x).ended s.pending)

/-- Commands run one after another, each completing. -/
def runAll : List Instr → State → Option State
  | [], s => some s
  | c :: cs, s =>
    match exec c s with
    | .next t => runAll cs t
    | .fault _ => none
    | .refused _ => none

/-! ### Invariants -/

/-- The outputs of each sequence state (section 5.3, R97): a release output only under TEN, and both or none. -/
def Brakes.outputsOk (b : Brakes) : Bool :=
  match b.seq with
  | .rest => !b.ten && !b.sbr && !b.ebr
  | .torqueWait => b.ten && !b.sbr && !b.ebr
  | .releaseWait => b.ten && b.sbr && b.ebr
  | .moving => b.ten && b.sbr && b.ebr
  | .stopWait => b.ten && !b.sbr && !b.ebr
  | .abortWait => b.ten && !b.sbr && !b.ebr

/-- The run states that go with a sequence state (sections 4.3 and 5.3). -/
def runFits (q : SeqState) (run : Option Run) : Bool :=
  match q with
  | .rest => run.all (fun r => r.state == .planned || r.state == .holding || r.state == .tripped)
  | .torqueWait => run.any (fun r => r.state == .starting)
  | .releaseWait => run.any (fun r => r.state == .starting)
  | .moving => run.any (fun r => r.state.moving)
  | .stopWait => run.any (fun r => r.state == .braking)
  | .abortWait => run.any (fun r => r.state == .starting)

/-- The Brake Controller's sequence, its outputs and the run go together; the reason of a failed start is kept exactly in
ABORT_WAIT, and the torque timer runs exactly in TORQUE_WAIT (R101 to R104). -/
def State.SequenceOk (s : State) : Prop :=
  s.brk.outputsOk = true ∧ runFits s.brk.seq s.plan.run = true ∧
    (s.brk.abort.isSome = true ↔ s.brk.seq = .abortWait) ∧
    (s.brk.torque.isSome = true ↔ s.brk.seq = .torqueWait)

/-- No door is commanded RELEASE in motion (R125): one that is finds the run IDLE, STILL set and TEN de-energised. -/
def State.DoorsOk (s : State) : Prop :=
  ∀ x : Door, (s.doors.door x).release = true →
    s.plan.run = none ∧ s.trk.still = true ∧ s.brk.ten = false

/-- The severity memory is at or above the level of every condition present (R182). -/
def State.SeverityOk (s : State) : Prop := s.line.memory.max s.line.conds.level = s.line.memory

/-- The queues keep their room: 32 notices (R207), 16 replies of which 4 wait on each port (R202). -/
def State.QueuesOk (s : State) : Prop :=
  s.notices.entries.length ≤ 32 ∧
    ∀ k : Port, (s.ctl.get k).replies.length ≤ 16 ∧ (s.ctl.get k).waiting.length ≤ 4

/-- No free transmitter has anything to send: its first reply waits for its owner, or no reply is owed and no notice is due
(R204, R209). -/
def State.TransmittersOk (s : State) : Prop :=
  ∀ k : Port, (s.ctl.get k).tx = none →
    (∀ e es, (s.ctl.get k).replies = e :: es → e.isWaiting = true) ∧
      ((s.ctl.get k).replies = [] → s.notices.choose k = none)

/-- The recent-ticket list holds at most 128 entries, and each ticket once (R156). -/
def State.TicketsOk (s : State) : Prop :=
  s.gates.recent.length ≤ 128 ∧ (s.gates.recent.map (fun r => r.ticket)).Nodup

/-- The lists of the position and the links keep their lengths, and STILL is the standstill count at its end (R22, R23,
R189). -/
def State.CountsOk (s : State) : Prop :=
  s.trk.window.length ≤ 10 ∧ s.trk.stillCount ≤ 51 ∧ (s.trk.still = true ↔ s.trk.stillCount = 51) ∧
    ∀ c : Car, (s.links.get c).sent.length ≤ 4 ∧ (s.links.get c).streak ≤ 3

/-- In UNKNOWN and LOST no car expects a marker, and the miss counts are 0 (R26). -/
def State.ExpectationsOk (s : State) : Prop :=
  s.trk.conf = .unknown ∨ s.trk.conf = .lost → s.trk.expected = .const none ∧ s.trk.misses = .const 0

/-- The admissions held for a car. -/
def Gates.heldFor (g : Gates) (c : Car) : List Admission :=
  (g.gates.filterMap (fun x => x.admission)).filter (fun a => a.car == c)

/-- Each car's reservations are the sum of the admissions held for it (R153). The other clauses make it inductive: each
address has one record (R13), a record holds an admission exactly while it is PASSING (R138), every gate is HELD while the
bus is held (R140), and there are no records before the first commit (R139). -/
def State.ReservedOk (s : State) : Prop :=
  (s.gates.gates.map (fun g => g.address)).Nodup ∧
    (∀ g ∈ s.gates.gates, g.admission.isSome = true ↔ g.state = .passing) ∧
    (s.gates.busReleased = false → ∀ g ∈ s.gates.gates, g.state = .held) ∧
    (s.line.mode = .unconfigured ∨ s.geo.committed = none → s.gates.gates = []) ∧
    ∀ c : Car,
      (s.tally.get c).resPersons = ((s.gates.heldFor c).map (fun a => a.persons)).sum ∧
      (s.tally.get c).resMass = ((s.gates.heldFor c).map (fun a => a.mass)).sum

/-- The line flags are what their owners hold (R184). -/
def State.FlagsOk (s : State) : Prop := s.line.flags = s.flagsNow

/-! ### Relations the claims use -/

/-- A LOAD part of `k` entries is one the staging table takes, leaving `p` (R2): a first part replaces what was staged,
a later part goes on where the part before it stopped. -/
def PartTaken {α : Type} (room : Nat) (old : Option (Part α)) (n i : Nat) (es : List α) (p : Part α) : Prop :=
  n ≤ room ∧
    ((i = 0 ∧ es.length ≤ n ∧ (1 ≤ es.length ∨ n = 0) ∧ p = ⟨n, es⟩) ∨
     (i ≠ 0 ∧ ∃ q, old = some q ∧ q.declared = n ∧ q.entries.length < n ∧ i = q.entries.length ∧
        1 ≤ es.length ∧ i + es.length ≤ n ∧ p = ⟨n, q.entries ++ es⟩))

/-- The device may load and commit (R2, R3). -/
def State.configurable (s : State) : Prop := s.line.mode = .unconfigured ∨ s.line.mode = .locked

/-- A LOAD part that is not taken is answered `x`, by the first row of R2 that refuses it: the mode, a count beyond the
room, a later part out of sequence, a first part whose entries do not go with its count. -/
def State.LoadRefused {α : Type} (s : State) (room : Nat) (old : Option (Part α)) (n i : Nat) (es : List α)
    (x : Reply) : Prop :=
  (¬s.configurable ∧ x = ⟨.mode, []⟩) ∨
    (s.configurable ∧ room < n ∧ x = ⟨.range, []⟩) ∨
    (s.configurable ∧ n ≤ room ∧ i ≠ 0 ∧ (∀ p, ¬PartTaken room old n i es p) ∧ x = ⟨.state, [.code 15]⟩) ∨
    (s.configurable ∧ n ≤ room ∧ i = 0 ∧ (n < es.length ∨ (es = [] ∧ 0 < n)) ∧ x = ⟨.range, []⟩)

/-- The counts of the eight staging tables, by their codes: declared and received, absent where the table is (R1, R3). -/
def Staging.counts (g : Staging) : List (Option (Nat × Nat)) :=
  [g.segments.map (fun p => (p.part.declared, p.part.entries.length)),
   g.zones.map (fun p => (p.declared, p.entries.length)), g.stations.map (fun p => (p.declared, p.entries.length)),
   g.halts.map (fun p => (p.declared, p.entries.length)), g.markers.map (fun p => (p.declared, p.entries.length)),
   g.cars.map (fun p => (p.declared, p.entries.length)), g.braking.map (fun p => (p.declared, p.entries.length)),
   g.gates.map (fun p => (p.declared, p.entries.length))]

/-- A staging table is PARTIAL: not all declared entries have been received (R1, R4). -/
def Geometry.Partial (g : Geometry) (table : Nat) : Prop :=
  ∃ declared received, g.staging.counts[table]? = some (some (declared, received)) ∧ received ≠ declared

/-- A required table is neither staged nor committed; the zones, markers and gate tables are not required (R3, R4). -/
def Geometry.Missing (g : Geometry) (table : Nat) : Prop :=
  g.staging.counts[table]? = some none ∧ g.committed = none ∧ table ≠ 1 ∧ table ≠ 4 ∧ table ≠ 7

/-- The conditions of a door release but for the held side (R121). -/
def State.mayRelease (s : State) (x : Door) : Prop :=
  s.plan.run = none ∧ s.trk.still = true ∧ s.brk.ten = false ∧ (s.links.get x.car).state = .live ∧
    s.line.atStop.isSome = true ∧ (s.doors.door x).isolated = false ∧
    (s.geo.zone (s.doorPos x)).release = true

/-- The position at which a marker report finds its car (R20, R21, R28). -/
def State.reportedAt (s : State) : Car → Int
  | .A => s.trk.freshX s.geo.scale
  | .B => s.geo.length + s.trk.sigma - s.trk.freshX s.geo.scale

/-- A report of a marker is used: confidence is neither UNKNOWN nor LOST, the marker is not on the other car's rail inside
the loop, and it is no repeat (R28, tests 2 to 4). -/
def State.usesMarker (s : State) (c : Car) (m : Marker) : Prop :=
  s.trk.conf ≠ .unknown ∧ s.trk.conf ≠ .lost ∧
    ¬(s.geo.inLoop (s.reportedAt c) = true ∧ m.track = (match c with | .A => 2 | .B => 1)) ∧
    ¬(s.trk.lastMarker.get c = some m.id ∧ (s.trk.expected.get c).map (fun e => e.id) ≠ some m.id)

/-- `o` is the marker a car expects beyond `x` in a travel sense, increasing or not: the first one of the table that the car
can see, or none (R33). -/
def Expects (ms : List Marker) (c : Car) (up : Bool) (x : Int) (o : Option Expected) : Prop :=
  let ahead := fun m : Marker =>
    (m.track = 0 ∨ m.track = (match c with | .A => 1 | .B => 2)) ∧ (if up then x < m.pos else m.pos < x)
  (∀ e, o = some e → e.increasing = up ∧
    ∃ m ∈ ms, m.id = e.id ∧ m.pos = e.pos ∧ ahead m ∧ ∀ k ∈ ms, ahead k → if up then m.pos ≤ k.pos else k.pos ≤ m.pos) ∧
  (o = none → ∀ m ∈ ms, ¬ahead m)

/-- A watch is a candidate to stop a run, its translated position being `x`: an enabled HOLD watch whose sense matches the run,
more than 100 mm ahead of car A and more than 1,000 mm short of the target (R92, R93). -/
def State.WatchAt (s : State) (r : Run) (w : Watch) (x : Int) : Prop :=
  w.enabled = true ∧ w.hold = true ∧
    (w.sense = .either ∨ w.sense = (if (w.car = .A ↔ r.dir = .up) then .up else .down)) ∧
    x = (match w.car with
      | .A => w.pos
      | .B => s.geo.length + s.trk.sigma - w.pos) ∧
    100 < (x - s.trk.xA) * r.dir.sign ∧ 1000 < (r.pA - x) * r.dir.sign

/-- The stop point a run takes from its watches: the candidate nearest ahead among those a test admits, the lowest index
between equal positions, and TARGET when there is none (R93). -/
def State.NearestStop (s : State) (r : Run) (admitted : Ix4 → Int → Prop) : StopPoint → Prop
  | .target => ∀ m y, s.WatchAt r (s.plan.watches.get m) y → ¬admitted m y
  | .watch n x => s.WatchAt r (s.plan.watches.get n) x ∧ admitted n x ∧
      ∀ m y, s.WatchAt r (s.plan.watches.get m) y → admitted m y →
        (x - s.trk.xA) * r.dir.sign < (y - s.trk.xA) * r.dir.sign ∨ (x = y ∧ n.index ≤ m.index)
  | .asap _ _ => False

/-- `sd` is the service stopping distance ceil(v² / (2·a_svc)) at the speed of the last sample (R94). -/
def State.StopsIn (s : State) (aSvc sd : Nat) : Prop :=
  0 < aSvc ∧ s.trk.v.natAbs * s.trk.v.natAbs ≤ 2 * aSvc * sd ∧
    (sd = 0 ∨ 2 * aSvc * (sd - 1) < s.trk.v.natAbs * s.trk.v.natAbs)

/-- A gate stands in the main order: OFFLINE, CLOSED, OPEN or PASSING, or DISABLED with its final SHUT not sent (R141). -/
def Gate.InMainOrder (g : Gate) : Prop :=
  g.state = .offline ∨ g.state = .closed ∨ g.state = .opened ∨ g.state = .passing ∨
    (g.state = .disabled ∧ g.outbox ≠ [])

/-- `a` is the address after `last` in an order of addresses up to 16, wrapping from the highest to the lowest (R141). -/
def NextInOrder (main : Nat → Prop) (last : Option Nat) (a : Nat) : Prop :=
  a ≤ 16 ∧ main a ∧
    match last with
    | none => ∀ b, b < a → ¬main b
    | some l =>
      (l < a ∧ ∀ b, l < b → b < a → ¬main b) ∨
        (a ≤ l ∧ (∀ b, l < b → b ≤ 16 → ¬main b) ∧ ∀ b, b < a → ¬main b)

/-- What a transaction with a gate carries: nothing, which is a poll, to an OFFLINE gate and with an empty outbox, otherwise
the first command of the outbox (R142, R146). -/
def Gate.carries (g : Gate) : Option GateCmd :=
  if g.state = .offline then none else g.outbox.head?.map (fun o => o.cmd)

/-- The record once its transaction has begun: the command leaves without verify, or as a DISABLED gate's final SHUT, and
counts as sent with it (R142). That a command sent without verify returns the retries to 0 is log 21. -/
def Gate.begun (g : Gate) : Gate :=
  match g.state, g.outbox with
  | .offline, _ => g
  | _, [] => g
  | .disabled, _ :: os => { g with outbox := os }
  | _, o :: os =>
    if g.verify = true then { g with outbox := { o with sent := true } :: os }
    else { g with outbox := os, retries := 0 }

/-- The gates `t` once the next transaction has begun at `now` (R141, R142). It finds the records `found`; it goes to the first
gate still in PASSING of the round of inserted transactions, otherwise to the next gate of the main order after `last`; the
record it addresses is the one begun, and every other record stays. With no gate in the main order none begins. -/
def Gates.GoesOn (t : Gates) (found : Nat → Option Gate) (round : List Nat) (last : Option Nat) (now : Time) : Prop :=
  let main := fun a : Nat => ∃ y, found a = some y ∧ y.InMainOrder
  let begins := fun (a : Nat) (inserted : Bool) => ∀ y, found a = some y →
    t.trans = some
      { address := a, cmd := y.carries, verify := y.verify && y.state != .disabled, final := y.state == .disabled,
        inserted := inserted, start := now, frame := transactionFrame a y.carries } ∧
    t.find? a = some y.begun ∧ ∀ b, b ≠ a → t.find? b = found b
  match round.dropWhile (fun a => !(found a).any (fun y => y.state == .passing)) with
  | a :: rest => begins a true ∧ t.round = rest ∧ t.lastMain = last
  | [] => t.round = [] ∧ (∀ a, NextInOrder main last a → begins a false ∧ t.lastMain = some a) ∧
      ((∀ a, a ≤ 16 → ¬main a) → t.trans = none ∧ t.lastMain = last ∧ ∀ b, t.find? b = found b)

/-- The blocks that move and stop the cars are as they were: geometry, tracker, supervisor, planner, brakes and drive. -/
def State.sameMotion (s t : State) : Prop :=
  t.geo = s.geo ∧ t.trk = s.trk ∧ t.sup = s.sup ∧ t.plan = s.plan ∧ t.brk = s.brk ∧ t.drive = s.drive

/-- SBR, EBR and TEN are de-energised and no sequence runs. -/
def Brakes.dropped (b : Brakes) : Prop := b.sbr = false ∧ b.ebr = false ∧ b.ten = false ∧ b.seq = .rest

end Machine
end Sys2Proof
end

