-- ==== Sys2Proof/WellFormed.lean ====
section
/-! DEFINITION. When a command is one that the wire can carry: every body field fits the bytes that
section 11.6 gives it, a LOAD part carries the line record exactly when it is a first segments part,
and the lists have the lengths their layouts fix. Values the owner refuses (a halt that does not exist,
a watch index above 3) are well formed. -/

namespace Sys2Proof

/-- A one-byte unsigned field. -/
def fitsU8 (n : Nat) : Bool := n < 256

/-- A two-byte unsigned field. -/
def fitsU16 (n : Nat) : Bool := n < 65536

/-- A four-byte unsigned field. -/
def fitsU32 (n : Nat) : Bool := n < 4294967296

/-- A two-byte signed field. -/
def fitsI16 (x : Int) : Bool := decide (-32768 ≤ x) && decide (x < 32768)

/-- A four-byte unsigned field held as a position. -/
def fitsPos (x : Int) : Bool := decide (0 ≤ x) && decide (x < 4294967296)

/-- A four-byte signed field. -/
def fitsI32 (x : Int) : Bool := decide (-2147483648 ≤ x) && decide (x < 2147483648)

def LineRecord.wf (r : LineRecord) : Bool :=
  fitsPos r.length && fitsU16 r.defaultCap && fitsU16 r.maxCruise && fitsU16 r.scale
    && fitsPos r.loopStart && fitsPos r.loopEnd

def Segment.wf (e : Segment) : Bool := fitsPos e.start && fitsI16 e.sine

def Zone.wf (e : Zone) : Bool :=
  fitsPos e.start && fitsPos e.stop && fitsU16 e.cap && fitsU8 e.side && fitsU8 e.station

def Station.wf (e : Station) : Bool := fitsU8 e.number && fitsPos e.stopPos

def Halt.wf (e : Halt) : Bool := fitsU8 e.stationA && fitsU8 e.stationB

def Marker.wf (e : Marker) : Bool := fitsU8 e.id && fitsPos e.pos && fitsU8 e.track

def CarData.wf (e : CarData) : Bool :=
  fitsU16 e.emptyMass && fitsU16 e.capacity && fitsI16 e.offsets.q1 && fitsI16 e.offsets.q2
    && fitsI16 e.offsets.q3 && fitsI16 e.offsets.q4

def Braking.wf (e : Braking) : Bool :=
  fitsU32 e.force && fitsU16 e.mEq && fitsU16 e.tR && fitsU16 e.aMin && fitsU16 e.aSvcCfg
    && fitsU16 e.aAcc && fitsU16 e.overrun && fitsU16 e.reserve && fitsU16 e.tolerance
    && fitsU16 e.stretchBound

def GateEntry.wf (e : GateEntry) : Bool := fitsU8 e.address && fitsU8 e.station && fitsU8 e.compartment

def ClassBytes.wf (e : ClassBytes) : Bool :=
  fitsU8 e.enabled && fitsU8 e.persons && fitsU16 e.mass && fitsU8 e.stepFree

def WatchBytes.wf (w : WatchBytes) : Bool :=
  fitsU8 w.car && fitsI32 w.pos && fitsU8 w.sense && fitsU8 w.action && fitsU8 w.keep

/-- A LOAD part of k entries of `size` bytes whose other body bytes number `extra` fits a body of 240. -/
def partFits (n i k size extra : Nat) : Bool :=
  fitsU8 n && fitsU8 i && decide (3 + extra + size * k ≤ 240)

/-- The request fits its body layout (section 11.6). -/
def Request.wf : Request → Bool
  | .loadSegments n i line es =>
    (line.isSome == (i == 0)) && (line.all LineRecord.wf) && es.all Segment.wf
      && partFits n i es.length 6 (if i == 0 then 18 else 0)
  | .loadZones n i es => es.all Zone.wf && partFits n i es.length 14 0
  | .loadStations n i es => es.all Station.wf && partFits n i es.length 7 0
  | .loadHalts n i es => es.all Halt.wf && partFits n i es.length 2 0
  | .loadMarkers n i es => es.all Marker.wf && partFits n i es.length 6 0
  | .loadCars n i es => es.all CarData.wf && partFits n i es.length 13 0
  | .loadBraking n i es => es.all Braking.wf && partFits n i es.length 22 0
  | .loadGates n i es => es.all GateEntry.wf && partFits n i es.length 3 0
  | .commitGeometry | .discardGeometry | .clearSeverity | .restart | .readStatus | .readPosition
  | .holdRun | .resumeRun | .cancelRun | .readRun | .clearTrip | .releaseTrackBrakes | .readTrip
  | .readDoors | .releaseGateBus | .readTally => true
  | .readGeometry t c f => fitsU8 t && fitsU8 c && fitsU8 f
  | .setMode m => fitsU8 m
  | .setReference h => fitsU8 h
  | .announceRun h => h.all (fun x => decide (x < 255))
  | .startRun t c => fitsU8 t && fitsU16 c
  | .setWatch i w => fitsU8 i && w.wf
  | .clearWatch i => fitsU8 i
  | .releaseDoors a b => fitsU8 a && fitsU8 b
  | .lockDoors a => fitsU8 a
  | .isolateDoor d => fitsU8 d
  | .restoreDoor d => fitsU8 d
  | .setGate a b c d e => fitsU8 a && fitsU8 b && fitsU8 c && fitsU8 d && fitsU8 e
  | .openStation n => fitsU8 n
  | .closeStation n => fitsU8 n
  | .loadClasses es => (es.length == 8) && es.all ClassBytes.wf
  | .setPassback m => fitsU8 m
  | .readGates f => fitsU8 f
  | .setNotice a b c d => fitsU8 a && fitsU8 b && fitsU8 c && fitsU8 d
  | .setThreshold p t => fitsU8 p && fitsU8 t

/-- The request a request command carries, with its head. -/
def Instr.request : Instr → Option (ReqHead × Request)
  | .loadSegments h n i l es => some (h, .loadSegments n i l es)
  | .loadZones h n i es => some (h, .loadZones n i es)
  | .loadStations h n i es => some (h, .loadStations n i es)
  | .loadHalts h n i es => some (h, .loadHalts n i es)
  | .loadMarkers h n i es => some (h, .loadMarkers n i es)
  | .loadCars h n i es => some (h, .loadCars n i es)
  | .loadBraking h n i es => some (h, .loadBraking n i es)
  | .loadGates h n i es => some (h, .loadGates n i es)
  | .commitGeometry h => some (h, .commitGeometry)
  | .discardGeometry h => some (h, .discardGeometry)
  | .readGeometry h t c f => some (h, .readGeometry t c f)
  | .setMode h m => some (h, .setMode m)
  | .clearSeverity h => some (h, .clearSeverity)
  | .restart h => some (h, .restart)
  | .readStatus h => some (h, .readStatus)
  | .setReference h x => some (h, .setReference x)
  | .readPosition h => some (h, .readPosition)
  | .announceRun h x => some (h, .announceRun x)
  | .startRun h t c => some (h, .startRun t c)
  | .holdRun h => some (h, .holdRun)
  | .resumeRun h => some (h, .resumeRun)
  | .cancelRun h => some (h, .cancelRun)
  | .setWatch h i w => some (h, .setWatch i w)
  | .clearWatch h i => some (h, .clearWatch i)
  | .readRun h => some (h, .readRun)
  | .clearTrip h => some (h, .clearTrip)
  | .releaseTrackBrakes h => some (h, .releaseTrackBrakes)
  | .readTrip h => some (h, .readTrip)
  | .releaseDoors h a b => some (h, .releaseDoors a b)
  | .lockDoors h a => some (h, .lockDoors a)
  | .isolateDoor h d => some (h, .isolateDoor d)
  | .restoreDoor h d => some (h, .restoreDoor d)
  | .readDoors h => some (h, .readDoors)
  | .releaseGateBus h => some (h, .releaseGateBus)
  | .setGate h a b c d e => some (h, .setGate a b c d e)
  | .openStation h n => some (h, .openStation n)
  | .closeStation h n => some (h, .closeStation n)
  | .loadClasses h es => some (h, .loadClasses es)
  | .setPassback h m => some (h, .setPassback m)
  | .readGates h f => some (h, .readGates f)
  | .readTally h => some (h, .readTally)
  | .setNotice h a b c d => some (h, .setNotice a b c d)
  | .setThreshold h p t => some (h, .setThreshold p t)
  | .powerOn .. | .resetLine | .positionSample .. | .encoderFault .. | .markerReport ..
  | .plannedWaitExpiry .. | .torqueTimeout .. | .contactChange .. | .brakeTimerExpiry ..
  | .trackBrakeTimerExpiry .. | .estopChange .. | .keyChange .. | .carFrameSend ..
  | .carFrameReceived .. | .linkStaleExpiry .. | .linkLostExpiry .. | .driveStatusFrame ..
  | .driveSilenceExpiry .. | .gateAnswer .. | .gateResponseTimeout .. | .passageTimeout ..
  | .passbackExpiry .. | .reopenTimerExpiry .. | .closeTimerExpiry .. | .controlFrameReceived ..
  | .receiveTimeout .. | .transmitterFree .. | .quadratureStep .. | .controlByteReceived .. => none

/-- The command is one the device's inputs can carry: a request fits its body and its guard byte, a
marker id is a byte, a gate address 1..16, a ticket id four bytes. -/
def Instr.wf (i : Instr) : Bool :=
  match i.request with
  | some (h, r) => fitsU8 h.guard && r.wf
  | none =>
    match i with
    | .markerReport _ _ id => fitsU8 id
    | .passageTimeout _ g => decide (1 ≤ g) && decide (g ≤ 16)
    | .passbackExpiry _ t => fitsU32 t
    | _ => true

end Sys2Proof
end

