-- ==== Sys2Proof/Certificates/Slice0/Obligations.lean ====
section
/-! DEFINITION. The statements for the provers. A statement that writes `exec c s = .next (State.transmit t)` says what the blocks and the
queues hold as the event has acted, `t`, before its free transmitters are asked for a frame: `TransmitterSendsReplyOrNotice` says
what they do then, and they change the two queues alone. `State.ended` has them asked likewise. -/

open Sys2Proof Sys2Proof.Machine

/-! ### The step, the requests and the links' queues -/

/-- A step runs the command at the front of the queue on the device with the queue's rest (00_scope.md). On an empty
queue the device idles: that clause is the model's choice (log 1). -/
def Obligations.StepRunsFrontCommandOrIdles : Prop :=
  (∀ (c : Instr) (rest : List Instr) (s : State), s.pending = c :: rest →
    step s = exec c { s with pending := rest }) ∧
  (∀ s : State, s.pending = [] → step s = .next s)

/-- Every command completes, leaves the queue of commands to the step, leaves the line flags as their owners hold them (R184),
and leaves no transmitter free that has a ready reply or, with no reply owed, a notice to send (R204, R209). That each flag is
formed at the end of every event, DOORS_LOCKED right after a restart with every door isolated among them, is the model's reading (log 30, DEDUCED). -/
def Obligations.EveryCommandCompletes : Prop :=
  ∀ (c : Instr) (s : State), ∃ t, exec c s = .next t ∧ t.pending = s.pending ∧ t.FlagsOk ∧ t.TransmittersOk

/-- The state right after power-on meets every invariant (R26, R97, R125, R153, R156, R182, R184, R202, R207). -/
def Obligations.ResetMeetsInvariants : Prop :=
  State.reset.SequenceOk ∧ State.reset.DoorsOk ∧ State.reset.SeverityOk ∧ State.reset.QueuesOk ∧
    State.reset.TicketsOk ∧ State.reset.CountsOk ∧ State.reset.ExpectationsOk ∧ State.reset.ReservedOk ∧
    State.reset.FlagsOk ∧ State.reset.TransmittersOk

/-- POWER_ON gives the state after power-on whatever was before, with the inputs as the pins stand: the contacts decide whether
a brake is APPLIED or APPLYING (R117, R180, R187). The values the spec does not give are the model's (logs 14 and 15), and so
are the counter of free values (log 7), the order of the notices of the reset, which are no others, with the severity that
STARTED and the cause that SEVERITY carries (log 20, DESIGN CHOICE), their codes (log 11), the form of a condition (log 73),
that there is no last main transaction (log 77), and that port C begins to send STARTED in this event (log 4). -/
def Obligations.PowerOnGivesResetState : Prop :=
  ∀ (pins : Inputs) (s : State),
    exec (.powerOn pins) s = .next
      { State.reset with
        line := { State.reset.line with key := pins.key, loops := pins.loops }
        brk := { State.reset.brk with
          sbApplied := pins.sbApplied, sbReleased := pins.sbReleased
          ebApplied := pins.ebApplied, ebReleased := pins.ebReleased
          service := if pins.sbApplied && !pins.sbReleased then ⟨.applied, none⟩ else ⟨.applying, some 0⟩
          sheave := if pins.ebApplied && !pins.ebReleased then ⟨.applied, none⟩ else ⟨.applying, some 0⟩ }
        freeSeq := s.freeSeq
        pending := s.pending }

/-- RESET_LINE gives every block its values after power-on but for the encoder count, which is the count base too, and the trip
record, which is kept (R1, R41, R108, R117, R161, R180, R206, R210). The input levels are those last read: the model's choice
(log 6); the contacts among them decide whether a brake is APPLIED or APPLYING (R117). The values of the tracker and the
planner that the spec does not give are the model's (logs 14 and 15), and so are the counter of free values (log 7), the order
of the notices of the reset, which are no others whatever it changes, with the severity of STARTED and the cause of SEVERITY
(log 20), their codes (log 11), the form of a condition (log 73), that there is no last main transaction (log 77), and that
port C begins to send STARTED in this event (log 4). -/
def Obligations.ResetLineKeepsCountAndTrip : Prop :=
  ∀ s : State, ∃ t, exec .resetLine s = .next t ∧
    t.now = 0 ∧ t.geo = State.reset.geo ∧
    t.trk = { State.reset.trk with count := s.trk.count, countBase := s.trk.count } ∧
    t.sup = { State.reset.sup with trip := s.sup.trip } ∧
    t.plan = State.reset.plan ∧ t.doors = State.reset.doors ∧ t.gates = State.reset.gates ∧
    t.tally = State.reset.tally ∧ t.links = State.reset.links ∧ t.drive = State.reset.drive ∧
    t.ctl = { c := { State.reset.ctl.s with
        tx := some ⟨noticeFrame ⟨.mode, 1, 0, [.code 1, .code 0, .code (if s.sup.trip.isSome then 2 else 1)],
          8, true, false, true, false⟩ 0, false⟩ }, s := State.reset.ctl.s } ∧ t.brk.dropped ∧
    t.brk = { State.reset.brk with
      sbApplied := s.brk.sbApplied, sbReleased := s.brk.sbReleased
      ebApplied := s.brk.ebApplied, ebReleased := s.brk.ebReleased
      service := if s.brk.sbApplied && !s.brk.sbReleased then ⟨.applied, none⟩ else ⟨.applying, some 0⟩
      sheave := if s.brk.ebApplied && !s.brk.ebReleased then ⟨.applied, none⟩ else ⟨.applying, some 0⟩ } ∧
    t.line.mode = .unconfigured ∧ t.line.key = s.line.key ∧ t.line.loops = s.line.loops ∧
    t.line.conds = { State.reset.line.conds with tripValid := s.sup.trip.isSome } ∧
    t.line.memory = (if s.sup.trip.isSome then .fatal else .degraded) ∧
    t.line.atStop = none ∧ t.line.restartPending = false ∧
    t.notices.settings = State.reset.notices.settings ∧ t.notices.threshold = State.reset.notices.threshold ∧
    t.notices.lost = .const 0 ∧
    (∃ body, t.notices.entries = [⟨.severity, 0, 0, body, 12, true, false, true, false⟩]) ∧
    t.freeSeq = s.freeSeq ∧ t.pending = s.pending

/-- Once the last byte of the reply to an accepted RESTART is sent, TRANSMITTER_FREE is the restart: the committed tables, the
trip record, the isolations, the gates with their settings, the tickets, the class table and the notice settings are kept, and
everything else takes its value after a reset; the notices are MODE STARTED, then MODE where the mode changes, then SEVERITY,
each unless its class is disabled (R117, R161, R180, R207, R213). The input levels are those last read (log 6), the age of the
tickets is log 39 (DEDUCED), the order of the notices and the severity of STARTED log 20, and so that no other is queued, none
for a gate that becomes HELD among them (DESIGN CHOICE), their codes log 11. The positions, the speed and the sample time of
the tracker and the watch fields and reference of the planner are the model's (logs 14 and 15), and so is the counter of free
values (log 7). That there is no last main transaction and no round is the model's choice (log 77), and so is it that the
transmitters are asked as STARTED is queued and again once the other notices are (log 4). -/
def Obligations.RestartTakesEffect : Prop :=
  ∀ (dt : Time) (k : Port) (f : List Byte) (s : State), (s.ctl.get k).tx = some ⟨f, true⟩ →
    ∃ t, exec (.transmitterFree dt k) s = .next t ∧
      t.now = 0 ∧ t.geo = ⟨s.geo.committed, Staging.empty⟩ ∧
      t.trk = { State.reset.trk with count := s.trk.count, countBase := s.trk.count, xB := s.geo.length } ∧
      t.sup = { State.reset.sup with trip := s.sup.trip } ∧ t.plan = State.reset.plan ∧
      (∀ x : Door, t.doors.door x =
        { reported := .unknown, release := false, isolated := (s.doors.door x).isolated, attempts := 0,
          close := none, reopen := none, failed := false }) ∧
      t.doors.side = .const none ∧
      t.gates.gates = s.gates.gates.map (fun g =>
        { g with state := .held, admission := none, overdue := none, closePending := false, outbox := [],
                 missed := 0, streak := 0, retries := 0 }) ∧
      t.gates.busReleased = false ∧ t.gates.trans = none ∧ t.gates.lastMain = none ∧ t.gates.round = [] ∧
      t.gates.openMarks = [] ∧ t.gates.classes = s.gates.classes ∧ t.gates.passback = s.gates.passback ∧
      t.gates.recent.map (fun r => (r.ticket, r.gate, elapsed r.time t.now)) =
        s.gates.recent.map (fun r => (r.ticket, r.gate, elapsed r.time (s.now + dt))) ∧
      t.tally = State.reset.tally ∧ t.links = State.reset.links ∧ t.drive = State.reset.drive ∧
      t.brk.dropped ∧
      t.brk = { State.reset.brk with
        sbApplied := s.brk.sbApplied, sbReleased := s.brk.sbReleased
        ebApplied := s.brk.ebApplied, ebReleased := s.brk.ebReleased
        service := if s.brk.sbApplied && !s.brk.sbReleased then ⟨.applied, none⟩ else ⟨.applying, some 0⟩
        sheave := if s.brk.ebApplied && !s.brk.ebReleased then ⟨.applied, none⟩ else ⟨.applying, some 0⟩ } ∧
      t.line.mode = (if s.geo.committed.isSome then .locked else .unconfigured) ∧
      t.line.restartPending = false ∧ t.line.atStop = none ∧ t.line.key = s.line.key ∧
      t.line.loops = s.line.loops ∧
      t.line.conds = { State.reset.line.conds with
        tripValid := s.sup.trip.isSome, doorIsolated := t.line.conds.doorIsolated } ∧
      (t.line.conds.doorIsolated = true ↔ ∃ x : Door, (s.doors.door x).isolated = true) ∧
      t.line.memory = (if s.sup.trip.isSome then .fatal else .degraded) ∧
      t.notices.settings = s.notices.settings ∧ t.notices.threshold = s.notices.threshold ∧
      t.notices.lost = .const 0 ∧
      (let entry := fun (c : NoticeClass) (kind : Nat) (body : List Field) =>
        let x := s.notices.settings.get c
        if x.enabled then [Notice.mk c kind 0 body x.priority x.toC x.toS x.toC x.toS] else []
       let u := { s with
        ctl := .const ⟨.hunting, [], none⟩
        notices := { s.notices with
          entries := entry .mode 1 [.code 2, .code t.line.mode.code, .code t.line.memory.code], lost := .const 0 } }.transmit
       ∃ body,
        let v := { u with
          notices := { u.notices with
            entries := u.notices.entries ++
              (if s.line.mode = t.line.mode then []
               else entry .mode 0 [.code s.line.mode.code, .code t.line.mode.code, .code 2]) ++
              entry .severity 0 body } }.transmit
        t.ctl = v.ctl ∧ t.notices = v.notices) ∧
      t.freeSeq = s.freeSeq ∧ t.pending = s.pending

/-- TRANSMITTER_FREE ends the frame that its port was sending. A free transmitter that is asked sends the first reply when it
is ready, waits while it is not, and with no reply owed sends the notice the Notice Queue hands it, with the port's lost count,
which returns to 0; the oldest entry equal to that notice loses its owed mark for the port, and leaves the queue when it is owed
to no port; one that is sending goes on (R204, R209). Every event ends with both transmitters asked, port C first: that they are
asked once the event has acted, and not at each notice it queues, is the model's choice (log 4, DESIGN CHOICE). -/
def Obligations.TransmitterSendsReplyOrNotice : Prop :=
  (∀ (dt : Time) (k : Port) (s : State), (∀ x, (s.ctl.get k).tx = some x → x.restartDone = false) →
    exec (.transmitterFree dt k) s = .next
      (({ s.advance dt with ctl := s.ctl.set k { s.ctl.get k with tx := none } }).ended s.pending)) ∧
  (∀ (s : State) (q : List Instr), s.ended q =
    (({ s with line := { s.line with flags := s.flagsNow }, pending := q }).ask .C).ask .S) ∧
  (∀ s : State, s.transmit = (s.ask .C).ask .S) ∧
  ∀ (k : Port) (s : State),
    (∀ x, (s.ctl.get k).tx = some x → s.ask k = s) ∧
    (∀ (e : ReplyEntry) (es : List ReplyEntry) (r : Reply), (s.ctl.get k).tx = none →
      (s.ctl.get k).replies = e :: es → e.state = .ready r →
      s.ask k = { s with
        ctl := s.ctl.set k { s.ctl.get k with
          replies := es
          tx := some ⟨replyFrame e.kind e.tag r,
            k == Port.C && e.kind == 0x0E && r.status == Status.done && s.line.restartPending⟩ } }) ∧
    (∀ (e : ReplyEntry) (es : List ReplyEntry), (s.ctl.get k).tx = none →
      (s.ctl.get k).replies = e :: es → e.isWaiting = true → s.ask k = s) ∧
    (∀ n : Notice, (s.ctl.get k).tx = none → (s.ctl.get k).replies = [] → s.notices.choose k = some n →
      let kept : List Notice := match k with
        | .C => if n.owedS then [{ n with owedC := false }] else []
        | .S => if n.owedC then [{ n with owedS := false }] else []
      ∃ pre post, s.notices.entries = pre ++ n :: post ∧ n ∉ pre ∧
        s.ask k = { s with
          notices := { s.notices with entries := pre ++ kept ++ post, lost := s.notices.lost.set k 0 }
          ctl := s.ctl.set k { s.ctl.get k with
            tx := some ⟨noticeFrame n (s.notices.lost.get k), false⟩ } }) ∧
    ((s.ctl.get k).tx = none → (s.ctl.get k).replies = [] → s.notices.choose k = none → s.ask k = s)

/-- The notice handed to a port is owed to it, above its threshold, of the highest priority of those, and the oldest of
that priority; with none that qualifies, none is handed (R209). -/
def Obligations.ChosenNoticeIsOldestOfHighest : Prop :=
  ∀ (q : NoticeQueue) (k : Port),
    (∀ n : Notice, q.choose k = some n →
      ∃ pre post, q.entries = pre ++ n :: post ∧ n.owed k = true ∧ q.threshold.get k < n.priority ∧
        (∀ m ∈ pre, m.owed k = true → q.threshold.get k < m.priority → m.priority < n.priority) ∧
        (∀ m ∈ post, m.owed k = true → q.threshold.get k < m.priority → m.priority ≤ n.priority)) ∧
    (q.choose k = none → ∀ m ∈ q.entries, m.owed k = true → m.priority ≤ q.threshold.get k)

/-- A notice of a disabled class is discarded; one of an enabled class joins the end of a queue of fewer than 32 entries, with
the priority and the route of its class as they stand and an owed mark for each port of the route (R207). Under a full queue
the oldest entry of the lowest priority gives way to a notice of higher priority, and a notice that is not higher is discarded;
the lost count of each port concerned rises by one up to 255 (R208). -/
def Obligations.FullNoticeQueueDisplaces : Prop :=
  ∀ (q : NoticeQueue) (c : NoticeClass) (kind : Nat) (now : Time) (body : List Field),
    let x := q.settings.get c
    let up := fun (n : Nat) (b : Bool) => if b then min (n + 1) 255 else n
    let new : Notice := ⟨c, kind, now, body, x.priority, x.toC, x.toS, x.toC, x.toS⟩
    (x.enabled = false → q.add c kind now body = q) ∧
    (x.enabled = true → q.entries.length < 32 →
      q.add c kind now body = { q with entries := q.entries ++ [new] }) ∧
    (∀ pre post old, x.enabled = true → 32 ≤ q.entries.length →
      q.entries = pre ++ old :: post → old.priority < x.priority →
      (∀ m ∈ pre, old.priority < m.priority) → (∀ m ∈ post, old.priority ≤ m.priority) →
      q.lost.c ≤ 255 → q.lost.s ≤ 255 →
      q.add c kind now body =
        { q with
          entries := pre ++ post ++ [new]
          lost := ⟨up q.lost.c old.owedC, up q.lost.s old.owedS⟩ }) ∧
    (x.enabled = true → 32 ≤ q.entries.length →
      (∀ m ∈ q.entries, x.priority ≤ m.priority) → q.lost.c ≤ 255 → q.lost.s ≤ 255 →
      q.add c kind now body = { q with lost := ⟨up q.lost.c x.toC, up q.lost.s x.toS⟩ })

/-- The sixteen guards over the line flags (R186). -/
def Obligations.GuardTable : Prop :=
  ∀ l : LineStatus,
    let f := l.flags
    (List.range 16).map l.guard =
      [true, f.still, f.still && f.doorsLocked, l.atStop.isSome, l.atStop.isSome && f.doorsLocked, f.noRun,
       f.noRun && f.still && f.noTrip, f.gateShut, f.gateShut && f.doorsLocked, f.confirmed, f.clear, f.noTrip,
       f.noTrip && f.clear, f.still && f.noTrip && f.doorsLocked, !f.still, false]

/-- A request that comes to be taken is answered BUSY while a RESTART is pending and GUARD_FALSE when its guard is
false, and changes nothing else (R186, R203). A request that passes the form and authority checks and finds its
port's request queue empty is taken in the event of its arrival: that it is one event with the arrival is the model's
choice (log 3). -/
def Obligations.RequestsAreGuardedAndQueued : Prop :=
  ∀ (i : Instr) (h : ReqHead) (r : Request) (s : State), i.request = some (h, r) →
    ((s.ctl.get h.port).expects h r = true → s.line.restartPending = true →
      exec i s = answered s h (s.advance h.dt) ⟨.busy, []⟩) ∧
    ((s.ctl.get h.port).expects h r = true → s.line.restartPending = false → s.line.guard h.guard = false →
      exec i s = answered s h (s.advance h.dt) ⟨.guardFalse, []⟩) ∧
    ((s.ctl.get h.port).waiting = [] → (s.ctl.get h.port).replies.length < 16 → bodyLengthOk r = true →
      h.guard ≤ 15 → authorised h.port s.line.key r = true →
      exec i s = exec i { s with
        ctl := s.ctl.set h.port { s.ctl.get h.port with
          replies := (s.ctl.get h.port).replies ++ [⟨h.tag, r.kind, .waiting h.guard r⟩] } })

/-- A control frame with a good check joins its port's reply list as R202 states, refused as R200 and R201 state; one with a
bad check, and one that meets 16 entries, leaves nothing (R199 to R202). Port C may send every request, port S those of R201; a
key-level request needs the key on, from either port (R187, R201). The 50 ms of a frame under way drop it (R199). That a
timeout that is not due or finds no frame changes nothing is log 2, a DESIGN CHOICE; that a whole frame leaves the receiver as
it is is log 26, DEDUCED. -/
def Obligations.ControlFrameArrival : Prop :=
  (∀ (k : Port) (key : Bool) (r : Request),
    let keyLevel := [0x10, 0x1B, 0x1F, 0x20]
    let openToS := [0x0B, 0x0F, 0x11, 0x19, 0x1C, 0x21, 0x28, 0x29, 0x14, 0x1D, 0x1E, 0x24, 0x25]
    (r.kind ∈ keyLevel → authorised k key r = key) ∧
    (r.kind ∉ keyLevel → (authorised k key r = true ↔
      k = .C ∨ r.kind ∈ openToS ∨ ∃ port x, r = .setThreshold port x ∧ port ≠ 0))) ∧
  (∀ (dt : Time) (k : Port) (kind tag guard : Byte) (body : List Byte) (s : State), body.length ≤ 240 →
    let p := s.ctl.get k
    let x : EntryState :=
      if kind.toNat < 1 ∨ 0x2B < kind.toNat then .ready ⟨.malformed, [.code 0, .num kind.toNat]⟩
      else
        match readRequest kind.toNat body with
        | none => .ready ⟨.malformed, [.code 1]⟩
        | some r =>
          if 15 < guard.toNat then .ready ⟨.malformed, [.code 2]⟩
          else if authorised k s.line.key r = false then .ready ⟨.authority, []⟩
          else if 4 ≤ p.waiting.length then .ready ⟨.busy, []⟩
          else .waiting guard.toNat r
    exec (.controlFrameReceived dt k (frame 0xA5#8 (kind :: tag :: guard :: body))) s = .next
      ((if 16 ≤ p.replies.length then s.advance dt
        else { s.advance dt with
          ctl := s.ctl.set k { p with replies := p.replies ++ [⟨tag, kind.toNat, x⟩] } }).ended s.pending)) ∧
  (∀ (dt : Time) (k : Port) (bytes : List Byte) (s : State), readControl bytes = none →
    exec (.controlFrameReceived dt k bytes) s = .next ((s.advance dt).ended s.pending)) ∧
  (∀ (dt : Time) (k : Port) (s : State),
    exec (.receiveTimeout dt k) s = .next
      (({ s.advance dt with
          ctl := s.ctl.set k { s.ctl.get k with
            rx := match (s.ctl.get k).rx.since with
              | some t0 => if 50 ≤ elapsed t0 (s.now + dt) then .hunting else (s.ctl.get k).rx
              | none => (s.ctl.get k).rx } }).ended s.pending))

/-- CONTROL_BYTE_RECEIVED moves the receiver of its port by one byte, and changes nothing else but for the frame that the byte
completes: a frame under way that is older than 50 ms is dropped first, a receiver that hunts takes the start byte alone, a
length outside 3 to 243 drops the start byte and the hunt goes on from the byte after it, and the last check byte is the
arrival of the whole frame (R199). So a frame received byte by byte within 50 ms by a port that hunts is a frame received whole
(R199): for every content of 3 to 243 bytes. That a byte at exactly 50 ms still belongs to the frame and that the whole frame
leaves the receiver as it is are the model's reading (log 26, DEDUCED). Found is a state in which no transmitter is free with
something to send, as every event leaves it (R204). -/
def Obligations.BytesOfFrameMakeFrame : Prop :=
  (∀ (dt : Time) (k : Port) (b : Byte) (s : State),
    let now := s.now + dt
    let p := s.ctl.get k
    let late := ∃ t0, p.rx.since = some t0 ∧ 50 < elapsed t0 now
    let placed := fun (u : State) (rx : Receiver) => { u with ctl := s.ctl.set k { p with rx := rx } }
    let moves := fun rx : Receiver => exec (.controlByteReceived dt k b) s = .next ((placed (s.advance dt) rx).ended s.pending)
    let hunt : Receiver := if b = 0xA5#8 then .started now else .hunting
    (∃ p', exec (.controlByteReceived dt k b) s = .next (({ s.advance dt with ctl := s.ctl.set k p' }).ended s.pending) ∧
      p'.tx = p.tx ∧ (p'.replies = p.replies ∨ ∃ e, p'.replies = p.replies ++ [e])) ∧
    (p.rx = .hunting ∨ late → moves hunt) ∧
    (∀ t0, p.rx = .started t0 → ¬late → moves (.lengthLow t0 b now)) ∧
    (∀ t0 low t1, p.rx = .lengthLow t0 low t1 → ¬late →
      let n := low.toNat + 256 * b.toNat
      (3 ≤ n → n ≤ 243 → moves (.body t0 n [])) ∧
      (n < 3 ∨ 243 < n → moves (if low = 0xA5#8 then .lengthLow t1 b now else hunt))) ∧
    (∀ t0 n got, p.rx = .body t0 n got → ¬late →
      (got.length + 1 ≠ n + 2 → moves (.body t0 n (got ++ [b]))) ∧
      (got.length + 1 = n + 2 → exec (.controlByteReceived dt k b) s =
        exec (.controlFrameReceived dt k (0xA5#8 :: bytes16 (BitVec.ofNat 16 n) ++ got ++ [b])) (placed s .hunting)))) ∧
  ∀ (k : Port) (content : List Byte) (dt : Time) (dts : List Time) (s t : State),
    3 ≤ content.length → content.length ≤ 243 → (s.ctl.get k).rx = .hunting →
    dts.length = content.length + 4 → (dts.map (fun d => d.toNat)).sum ≤ 50 → s.TransmittersOk →
    exec (.controlFrameReceived (dt + dts.sum) k (frame 0xA5#8 content)) s = .next t →
    runAll (List.zipWith (fun d b => Instr.controlByteReceived d k b) (dt :: dts) (frame 0xA5#8 content)) s =
      some t

/-- Every framed link ends a frame with the low and then the high byte of one CRC-16 over what follows the start byte:
polynomial 0x1021 from the most significant bit on, initial value 0xFFFF, nothing reflected, no final XOR, 0x29B1 over
the digits 1 to 9 (R198). -/
def Obligations.CheckSequence : Prop :=
  crc16 [] = 0xFFFF#16 ∧
  (∀ (bs : List Byte) (b : Byte), crc16 (bs ++ [b]) =
    Nat.repeat (fun r : BitVec 16 => (r <<< 1) ^^^ (if r.msb then 0x1021#16 else 0#16)) 8
      (crc16 bs ^^^ ((b.setWidth 16) <<< 8))) ∧
  crc16 [0x31, 0x32, 0x33, 0x34, 0x35, 0x36, 0x37, 0x38, 0x39] = 0x29B1#16 ∧
  (∀ (start : Byte) (content : List Byte), ∃ front, frame start content = start :: front ++
    [(crc16 front).extractLsb' 0 8, (crc16 front).extractLsb' 8 8]) ∧
  (∀ (a kind : Nat) (body : List Byte), ∃ front, gateFrame a kind body = front ++
    [(crc16 front).extractLsb' 0 8, (crc16 front).extractLsb' 8 8])

/-! ### Line status, settings and reading -/

/-- KEY_CHANGE records the key and queues a MODE notice (R187); QUADRATURE_STEP counts one step (R19). That the notice has the key
as a flag is the model's choice (log 83). -/
def Obligations.InputEventsAreRecorded : Prop :=
  (∀ (dt : Time) (on : Bool) (s : State), s.line.key ≠ on →
    exec (.keyChange dt on) s = .next
      (({ s.advance dt with
          line := { s.line with key := on }
          notices := s.notices.add .mode 2 (s.now + dt) [.flag on] }).ended s.pending)) ∧
  (∀ (dt : Time) (s : State),
    exec (.keyChange dt s.line.key) s = .next ((s.advance dt).ended s.pending)) ∧
  (∀ (dt : Time) (up : Bool) (s : State),
    exec (.quadratureStep dt up) s = .next
      (({ s.advance dt with
          trk := { s.trk with count := if up then s.trk.count + 1 else s.trk.count - 1 } }).ended s.pending))

/-- SET_MODE puts the mode named in force with the run IDLE, and leaving AUTOMATIC closes every station; it is refused MODE in
UNCONFIGURED, then RANGE for another mode, then STATE with reason RUN. CLEAR_SEVERITY lowers the memory to the present level;
RESTART is marked pending with the run IDLE and STILL set, and refused with reason RUN, then MOTION (R177, R178, R179, R183).
The form of the conditions in the CLEAR_SEVERITY reply is the model's choice (logs 73, 79). -/
def Obligations.LineRequestsTakeEffect : Prop :=
  (∀ (h : ReqHead) (n : Nat) (s : State), Taken s h (.setMode n) →
    let named := n = 1 ∨ n = 2 ∨ n = 3
    (s.line.mode = .unconfigured → exec (.setMode h n) s = answered s h (s.advance h.dt) ⟨.mode, []⟩) ∧
    (s.line.mode ≠ .unconfigured → ¬named → exec (.setMode h n) s = answered s h (s.advance h.dt) ⟨.range, []⟩) ∧
    (s.line.mode ≠ .unconfigured → named → s.plan.run.isSome = true →
      exec (.setMode h n) s = answered s h (s.advance h.dt) ⟨.state, [.code 1]⟩)) ∧
  (∀ (h : ReqHead) (n : Nat) (m : Mode) (s : State), Taken s h (.setMode n) → s.line.mode ≠ .unconfigured →
    s.plan.run = none → (n, m) ∈ [(1, Mode.locked), (2, Mode.automatic), (3, Mode.recovery)] →
    ∃ t : State, exec (.setMode h n) s = .next t.transmit ∧ t.line.mode = m ∧
      t.ctl = ((s.advance h.dt).replied h.port ⟨.done, [.code s.line.mode.code, .code m.code]⟩).ctl ∧
      (s.line.mode = .automatic → m ≠ .automatic → ∀ g ∈ t.gates.gates,
        (s.geo.station? g.station).isSome = true → g.state ≠ .opened ∧ (g.state = .passing → g.closePending = true)) ∧
      (m = s.line.mode ∨ s.line.mode ≠ .automatic → t.gates = s.gates) ∧
      t.geo = s.geo ∧ t.trk = s.trk ∧ t.sup = s.sup ∧ t.plan = s.plan ∧ t.brk = s.brk ∧ t.doors = s.doors ∧
      t.tally = s.tally ∧ t.links = s.links ∧ t.drive = s.drive ∧ t.line.memory = s.line.memory ∧
      t.line.conds = s.line.conds) ∧
  (∀ (h : ReqHead) (s : State), Taken s h .clearSeverity →
    ∃ t : State, exec (.clearSeverity h) s = .next t.transmit ∧ t.line.memory = s.line.conds.level ∧
      t.ctl = ((s.advance h.dt).replied h.port
        ⟨.done, [.code s.line.reported.code, .code s.line.conds.level.code] ++ s.line.conds.fields⟩).ctl ∧
      t.notices.entries.length ≤ s.notices.entries.length + (if s.line.reported = s.line.conds.level then 0 else 1) ∧
      t.line.conds = s.line.conds ∧ t.line.mode = s.line.mode ∧ t.geo = s.geo ∧ t.trk = s.trk ∧ t.sup = s.sup ∧
      t.plan = s.plan ∧ t.brk = s.brk ∧ t.doors = s.doors ∧ t.gates = s.gates ∧ t.tally = s.tally ∧
      t.links = s.links ∧ t.drive = s.drive) ∧
  (∀ (h : ReqHead) (s : State), Taken s h .restart →
    exec (.restart h) s =
      (if s.plan.run.isSome then answered s h (s.advance h.dt) ⟨.state, [.code 1]⟩
       else if s.trk.still = false then answered s h (s.advance h.dt) ⟨.state, [.code 2]⟩
       else answered s h { s.advance h.dt with line := { s.line with restartPending := true } } ⟨.done, []⟩))

/-- SET_NOTICE replaces a class setting, its priority clamped into 1..15, and SET_THRESHOLD a port's threshold, clamped into
0..15; a value outside its set is refused (R206). That the reply carries the route by its code in the request is log 86 (DESIGN
CHOICE). -/
def Obligations.NoticeSettingsAreReplaced : Prop :=
  (∀ (h : ReqHead) (n e p r : Nat) (s : State), Taken s h (.setNotice n e p r) →
    (n ≤ 15 → e ≤ 1 → 1 ≤ r → r ≤ 3 → ∃ t c, exec (.setNotice h n e p r) s = .next (State.transmit t) ∧
      NoticeClass.ofNumber? n = some c ∧
      t.notices.settings.get c =
        ⟨e == 1, max 1 (min p 15), decide (r = 1 ∨ r = 3), decide (r = 2 ∨ r = 3)⟩ ∧
      (∀ d : NoticeClass, d ≠ c → t.notices.settings.get d = s.notices.settings.get d) ∧
      t.ctl = ((s.advance h.dt).replied h.port ⟨.done, [.flag (e == 1), .num (max 1 (min p 15)), .code r]⟩).ctl ∧
      (t.notices.settings = s.notices.settings → t.notices.entries = s.notices.entries) ∧
      t.notices.threshold = s.notices.threshold ∧ t.geo = s.geo ∧ t.trk = s.trk ∧ t.sup = s.sup ∧
      t.plan = s.plan ∧ t.brk = s.brk ∧ t.doors = s.doors ∧ t.gates = s.gates ∧ t.tally = s.tally ∧
      t.links = s.links ∧ t.drive = s.drive) ∧
    (15 < n ∨ 1 < e ∨ r < 1 ∨ 3 < r →
      exec (.setNotice h n e p r) s = answered s h (s.advance h.dt) ⟨.range, []⟩)) ∧
  (∀ (h : ReqHead) (n x : Nat) (s : State), Taken s h (.setThreshold n x) →
    (∀ k : Port, (n, k) ∈ [(0, Port.C), (1, Port.S)] → ∃ t : State, exec (.setThreshold h n x) s = .next t.transmit ∧
      t.notices.threshold = s.notices.threshold.set k (min x 15) ∧
      t.notices.settings = s.notices.settings ∧
      t.ctl = ((s.advance h.dt).replied h.port ⟨.done, [.num (min x 15)]⟩).ctl ∧
      (s.notices.threshold.get k = min x 15 → t.notices.entries = s.notices.entries) ∧
      t.geo = s.geo ∧ t.trk = s.trk ∧ t.sup = s.sup ∧ t.plan = s.plan ∧ t.brk = s.brk ∧ t.doors = s.doors ∧
      t.gates = s.gates ∧ t.tally = s.tally ∧ t.links = s.links ∧ t.drive = s.drive) ∧
    (1 < n → exec (.setThreshold h n x) s = answered s h (s.advance h.dt) ⟨.range, []⟩))

/-- The eight read requests answer DONE with what stands as they are taken, and change nothing but the reply; READ_GEOMETRY
refuses a table above 7 and a copy above 1 (R16, R38, R96, R116, R136, R160, R175, R188). The layout of a reply is the model's
choice where logs 10, 44, 45, 47, 53, 56, 68, 69, 72, 73, 75, 77, 79, 83 and 86 say so, beside what log 11 deduces. -/
def Obligations.ReadRequestsChangeNothing : Prop :=
  (∀ (h : ReqHead) (s : State), Taken s h .readStatus →
    exec (.readStatus h) s = answered s h (s.advance h.dt) ⟨.done, (s.advance h.dt).statusFields⟩) ∧
  (∀ (h : ReqHead) (s : State), Taken s h .readPosition →
    exec (.readPosition h) s = answered s h (s.advance h.dt) ⟨.done, s.trk.fields⟩) ∧
  (∀ (h : ReqHead) (s : State), Taken s h .readRun →
    exec (.readRun h) s = answered s h (s.advance h.dt) (s.advance h.dt).readRun.2) ∧
  (∀ (h : ReqHead) (s : State), Taken s h .readTrip →
    exec (.readTrip h) s = answered s h (s.advance h.dt) (s.advance h.dt).readTrip.2) ∧
  (∀ (h : ReqHead) (s : State), Taken s h .readDoors →
    exec (.readDoors h) s = answered s h (s.advance h.dt) (s.advance h.dt).readDoors.2) ∧
  (∀ (h : ReqHead) (first : Nat) (s : State), Taken s h (.readGates first) →
    exec (.readGates h first) s = answered s h (s.advance h.dt) ((s.advance h.dt).readGates first).2) ∧
  (∀ (h : ReqHead) (s : State), Taken s h .readTally →
    exec (.readTally h) s = answered s h (s.advance h.dt) (s.advance h.dt).readTally.2) ∧
  (∀ (h : ReqHead) (a b first : Nat) (s : State), Taken s h (.readGeometry a b first) →
    (a ≤ 7 → b ≤ 1 → ∃ body, exec (.readGeometry h a b first) s = answered s h (s.advance h.dt) ⟨.done, body⟩) ∧
    (7 < a ∨ 1 < b → exec (.readGeometry h a b first) s = answered s h (s.advance h.dt) ⟨.range, []⟩)) ∧
  (∀ s : State, s.readRun.2.status = .done ∧ s.readTrip.2.status = .done ∧ s.readDoors.2.status = .done ∧
    (∀ first, (s.readGates first).2.status = .done) ∧ s.readTally.2.status = .done)

/-! ### Geometry -/

/-- Each LOAD request takes a part that its table can take, in UNCONFIGURED and LOCKED, and changes that staging table
alone; any other part is refused MODE, RANGE or STATE with reason SEQUENCE and changes nothing, by the table of R2.
DISCARD_GEOMETRY empties the staging copy and leaves the committed one (R2, R15). -/
def Obligations.StagingIsLoadedAndDiscarded : Prop :=
  (∀ (h : ReqHead) (n i : Nat) (l : Option LineRecord) (es : List Segment) (p : Machine.Part Segment) (line : LineRecord)
      (s : State), Taken s h (.loadSegments n i l es) → s.configurable →
    PartTaken 32 (s.geo.staging.segments.map (fun x => x.part)) n i es p →
    (l = some line ∨ (l = none ∧ s.geo.staging.segments.map (fun x => x.line) = some line)) →
    exec (.loadSegments h n i l es) s = answered s h
      { s.advance h.dt with geo := ⟨s.geo.committed, { s.geo.staging with segments := some ⟨line, p⟩ }⟩ }
      ⟨.done, []⟩) ∧
  (∀ (h : ReqHead) (n i : Nat) (es : List Zone) (p : Machine.Part Zone) (s : State), Taken s h (.loadZones n i es) →
    s.configurable → PartTaken 16 s.geo.staging.zones n i es p →
    exec (.loadZones h n i es) s = answered s h
      { s.advance h.dt with geo := ⟨s.geo.committed, { s.geo.staging with zones := some p }⟩ } ⟨.done, []⟩) ∧
  (∀ (h : ReqHead) (n i : Nat) (es : List Station) (p : Machine.Part Station) (s : State),
    Taken s h (.loadStations n i es) → s.configurable → PartTaken 8 s.geo.staging.stations n i es p →
    exec (.loadStations h n i es) s = answered s h
      { s.advance h.dt with geo := ⟨s.geo.committed, { s.geo.staging with stations := some p }⟩ } ⟨.done, []⟩) ∧
  (∀ (h : ReqHead) (n i : Nat) (es : List Halt) (p : Machine.Part Halt) (s : State), Taken s h (.loadHalts n i es) →
    s.configurable → PartTaken 8 s.geo.staging.halts n i es p →
    exec (.loadHalts h n i es) s = answered s h
      { s.advance h.dt with geo := ⟨s.geo.committed, { s.geo.staging with halts := some p }⟩ } ⟨.done, []⟩) ∧
  (∀ (h : ReqHead) (n i : Nat) (es : List Marker) (p : Machine.Part Marker) (s : State),
    Taken s h (.loadMarkers n i es) → s.configurable → PartTaken 48 s.geo.staging.markers n i es p →
    exec (.loadMarkers h n i es) s = answered s h
      { s.advance h.dt with geo := ⟨s.geo.committed, { s.geo.staging with markers := some p }⟩ } ⟨.done, []⟩) ∧
  (∀ (h : ReqHead) (n i : Nat) (es : List CarData) (p : Machine.Part CarData) (s : State), Taken s h (.loadCars n i es) →
    s.configurable → PartTaken 2 s.geo.staging.cars n i es p →
    exec (.loadCars h n i es) s = answered s h
      { s.advance h.dt with geo := ⟨s.geo.committed, { s.geo.staging with cars := some p }⟩ } ⟨.done, []⟩) ∧
  (∀ (h : ReqHead) (n i : Nat) (es : List Braking) (p : Machine.Part Braking) (s : State),
    Taken s h (.loadBraking n i es) → s.configurable → PartTaken 1 s.geo.staging.braking n i es p →
    exec (.loadBraking h n i es) s = answered s h
      { s.advance h.dt with geo := ⟨s.geo.committed, { s.geo.staging with braking := some p }⟩ } ⟨.done, []⟩) ∧
  (∀ (h : ReqHead) (n i : Nat) (es : List GateEntry) (p : Machine.Part GateEntry) (s : State),
    Taken s h (.loadGates n i es) → s.configurable → PartTaken 16 s.geo.staging.gates n i es p →
    exec (.loadGates h n i es) s = answered s h
      { s.advance h.dt with geo := ⟨s.geo.committed, { s.geo.staging with gates := some p }⟩ } ⟨.done, []⟩) ∧
  (∀ (h : ReqHead) (n i : Nat) (l : Option LineRecord) (es : List Segment) (x : Reply) (s : State),
    Taken s h (.loadSegments n i l es) →
    s.LoadRefused 32 (s.geo.staging.segments.map (fun y => y.part)) n i es x →
    exec (.loadSegments h n i l es) s = answered s h (s.advance h.dt) x) ∧
  (∀ (h : ReqHead) (n i : Nat) (es : List Zone) (x : Reply) (s : State), Taken s h (.loadZones n i es) →
    s.LoadRefused 16 s.geo.staging.zones n i es x →
    exec (.loadZones h n i es) s = answered s h (s.advance h.dt) x) ∧
  (∀ (h : ReqHead) (n i : Nat) (es : List Station) (x : Reply) (s : State), Taken s h (.loadStations n i es) →
    s.LoadRefused 8 s.geo.staging.stations n i es x →
    exec (.loadStations h n i es) s = answered s h (s.advance h.dt) x) ∧
  (∀ (h : ReqHead) (n i : Nat) (es : List Halt) (x : Reply) (s : State), Taken s h (.loadHalts n i es) →
    s.LoadRefused 8 s.geo.staging.halts n i es x →
    exec (.loadHalts h n i es) s = answered s h (s.advance h.dt) x) ∧
  (∀ (h : ReqHead) (n i : Nat) (es : List Marker) (x : Reply) (s : State), Taken s h (.loadMarkers n i es) →
    s.LoadRefused 48 s.geo.staging.markers n i es x →
    exec (.loadMarkers h n i es) s = answered s h (s.advance h.dt) x) ∧
  (∀ (h : ReqHead) (n i : Nat) (es : List CarData) (x : Reply) (s : State), Taken s h (.loadCars n i es) →
    s.LoadRefused 2 s.geo.staging.cars n i es x →
    exec (.loadCars h n i es) s = answered s h (s.advance h.dt) x) ∧
  (∀ (h : ReqHead) (n i : Nat) (es : List Braking) (x : Reply) (s : State), Taken s h (.loadBraking n i es) →
    s.LoadRefused 1 s.geo.staging.braking n i es x →
    exec (.loadBraking h n i es) s = answered s h (s.advance h.dt) x) ∧
  (∀ (h : ReqHead) (n i : Nat) (es : List GateEntry) (x : Reply) (s : State), Taken s h (.loadGates n i es) →
    s.LoadRefused 16 s.geo.staging.gates n i es x →
    exec (.loadGates h n i es) s = answered s h (s.advance h.dt) x) ∧
  (∀ (h : ReqHead) (s : State), Taken s h .discardGeometry →
    exec (.discardGeometry h) s = answered s h
      { s.advance h.dt with geo := ⟨s.geo.committed, Staging.empty⟩ } ⟨.done, []⟩)

/-- COMMIT_GEOMETRY of a candidate that passes commits it: staging is emptied, UNCONFIGURED becomes LOCKED, the position
is discarded, watches off the line are disabled, and each gate of the table has a record, with the settings and the state it
had, or the defaults where its address is new (R3, R14, R40). It is refused MODE in AUTOMATIC and RECOVERY, in LOCKED STATE with
the first reason of RUN, MOTION and GATES, and then RANGE with the table, the entry and the check that failed, which changes
nothing (R3). A PARTIAL table and a required table that is missing end validation at their place, without an entry (R4). That
the speed window moves by x_A as it stands is log 12 (DEDUCED), and that x_B is the new L in this event is log 48 (the model's
choice). -/
def Obligations.CommitReplacesTables : Prop :=
  (∀ (h : ReqHead) (s : State), Taken s h .commitGeometry →
    let refused := fun x : Reply => exec (.commitGeometry h) s = answered s h (s.advance h.dt) x
    (¬s.configurable → refused ⟨.mode, []⟩) ∧
    (s.line.mode = .locked → s.plan.run.isSome = true → refused ⟨.state, [.code 1]⟩) ∧
    (s.line.mode = .locked → s.plan.run = none → s.trk.still = false → refused ⟨.state, [.code 2]⟩) ∧
    (s.line.mode = .locked → s.plan.run = none → s.trk.still = true →
      (∃ g ∈ s.gates.gates, g.state = .opened ∨ g.state = .passing) → refused ⟨.state, [.code 3]⟩) ∧
    (∀ f, s.configurable → (s.line.mode = .locked → s.plan.run = none ∧ s.trk.still = true ∧ s.gates.shut = true) →
      validate s.geo = .error f →
      refused ⟨.range, .code f.table :: optF (fun n : Nat => [.num n]) f.entry ++ [.code f.check.code]⟩)) ∧
  (∀ (g : Geometry) (f : Failure), validate g = .error f →
    (f.check = .incomplete ↔ g.Partial f.table) ∧ (f.check = .missing ↔ g.Missing f.table) ∧
    (f.check = .incomplete ∨ f.check = .missing → f.entry = none) ∧
    (∀ k, k < f.table → ¬g.Partial k ∧ ¬g.Missing k)) ∧
  (∀ (g : Geometry) (tb : Tables), validate g = .ok tb → ∀ k, ¬g.Partial k ∧ ¬g.Missing k) ∧
  ∀ (h : ReqHead) (tb : Tables) (s : State), Taken s h .commitGeometry → s.configurable →
    (s.line.mode = .locked → s.plan.run = none ∧ s.trk.still = true ∧ s.gates.shut = true) →
    validate s.geo = .ok tb →
    ∃ t : State, exec (.commitGeometry h) s = .next t.transmit ∧
      t.geo = ⟨some tb, Staging.empty⟩ ∧ t.line.mode = .locked ∧
      t.trk.conf = .unknown ∧ t.trk.xA = 0 ∧ t.trk.sigma = 0 ∧ t.trk.xB = tb.line.length ∧ t.trk.xBase = 0 ∧
      t.trk.countBase = s.trk.count ∧ t.trk.count = s.trk.count ∧ t.trk.good = 0 ∧
      t.trk.expected = .const none ∧ t.trk.misses = .const 0 ∧ t.trk.lastMarker = .const none ∧
      t.trk.stretch = false ∧ t.trk.still = s.trk.still ∧ t.trk.v = s.trk.v ∧
      t.trk.window = s.trk.window.map (fun w => w - s.trk.xA) ∧
      t.plan.run = s.plan.run ∧ t.plan.pendingRun = none ∧
      (∀ n : Ix4, t.plan.watches.get n =
        { s.plan.watches.get n with
          enabled := (s.plan.watches.get n).enabled &&
            decide (0 ≤ (s.plan.watches.get n).pos ∧ (s.plan.watches.get n).pos ≤ tb.line.length) }) ∧
      t.gates.gates.map (fun g => (g.address, g.station, g.compartment)) =
        tb.gates.map (fun e => (e.address, e.station, e.compartment)) ∧
      (s.gates.busReleased = false → ∀ g ∈ t.gates.gates, g.state = .held) ∧
      (∀ g' ∈ t.gates.gates,
        (∀ g, s.gates.find? g'.address = some g →
          g'.enabled = g.enabled ∧ g'.leaf = g.leaf ∧ g'.scale = g.scale ∧ g'.verify = g.verify ∧
          (s.gates.busReleased = true → g'.state = g.state)) ∧
        (s.gates.find? g'.address = none →
          g'.enabled = true ∧ g'.leaf = false ∧ g'.scale = 1 ∧ g'.verify = false ∧
          (s.gates.busReleased = true → g'.state = .offline))) ∧
      t.ctl = ((s.advance h.dt).replied h.port
        ⟨.done, .count tb.noRelease.length :: tb.noRelease.map (fun n => .num n)⟩).ctl ∧
      t.sup = s.sup ∧ t.brk = s.brk ∧ t.doors = s.doors ∧ t.tally = s.tally ∧ t.links = s.links ∧
      t.drive = s.drive

/-- What has passed validation keeps every limit of R5 to R13: the line record and its loop, the segments, the zones, the
stations apart, the halts' mirror, spacing and order, the markers, the car data, the braking data, one record per gate
address at a station some halt uses; and the no-release marks are those stations of the halts whose zone does not let doors
release (R9). -/
def Obligations.ValidatedTablesKeepLimits : Prop :=
  ∀ (g : Geometry) (t : Tables), validate g = .ok t →
    let inside := fun x : Int => 0 ≤ x ∧ x ≤ t.line.length
    let named := fun n : Nat => ∃ p ∈ t.stations, p.number = n
    let used := fun n : Nat => ∃ h ∈ t.halts, h.stationA = n ∨ h.stationB = n
    (200000 ≤ t.line.length ∧ t.line.length ≤ 4000000 ∧ 500 ≤ t.line.defaultCap ∧
      t.line.defaultCap ≤ t.line.maxCruise ∧ 1000 ≤ t.line.maxCruise ∧ t.line.maxCruise ≤ 14000 ∧
      1 ≤ t.line.scale ∧ t.line.scale ≤ 65535 ∧
      0 ≤ t.line.loopStart ∧ t.line.loopStart < Int.fdiv t.line.length 2 ∧
      Int.fdiv t.line.length 2 < t.line.loopEnd ∧ t.line.loopEnd ≤ t.line.length) ∧
    (t.segments.length ≤ 32 ∧ t.segments.head?.map (fun e => e.start) = some 0 ∧
      t.segments.Pairwise (fun a b => a.start < b.start) ∧
      ∀ e ∈ t.segments, e.start < t.line.length ∧ -2000 ≤ e.sine ∧ e.sine ≤ 8000) ∧
    (∀ z ∈ t.zones, 0 ≤ z.start ∧ z.start < z.stop ∧ z.stop ≤ t.line.length + 1 ∧ 300 ≤ z.cap ∧ z.cap ≤ 14000 ∧
      1 ≤ z.side ∧ z.side ≤ 3 ∧ (z.station = 0 ∨ named z.station)) ∧
    (1 ≤ t.stations.length ∧ t.stations.length ≤ 8 ∧
      (∀ p ∈ t.stations, 1 ≤ p.number ∧ p.number ≤ 8 ∧ inside p.stopPos) ∧
      t.stations.Pairwise (fun p q => p.number ≠ q.number ∧ 600 < (p.stopPos - q.stopPos).natAbs)) ∧
    (2 ≤ t.halts.length ∧ t.halts.length ≤ 8 ∧
      (∀ h ∈ t.halts, ∃ a b, t.haltInfo h = some ⟨a.stopPos, b.stopPos, a, b⟩ ∧
        a.number = h.stationA ∧ b.number = h.stationB ∧
        (b.stopPos - (t.line.length - a.stopPos)).natAbs ≤ 500) ∧
      t.halts.Pairwise (fun h k => ∀ x y, t.haltInfo h = some x → t.haltInfo k = some y →
        600 < (x.pA - y.pA).natAbs) ∧
      (∀ h hs, t.halts = h :: hs → ∀ k ∈ hs, ∀ x y, t.haltInfo h = some x → t.haltInfo k = some y → x.pA < y.pA)) ∧
    (t.markers.Pairwise (fun m k => m.id ≠ k.id ∧ m.pos ≤ k.pos) ∧
      ∀ m ∈ t.markers, m.id ≤ 255 ∧ inside m.pos ∧ m.track ≤ 2 ∧
        (m.track ≠ 0 → t.line.loopStart ≤ m.pos ∧ m.pos ≤ t.line.loopEnd)) ∧
    (∀ c : Car, 2000 ≤ (t.cars.get c).emptyMass ∧ (t.cars.get c).emptyMass ≤ 30000 ∧
      1 ≤ (t.cars.get c).capacity ∧ (t.cars.get c).capacity ≤ 300 ∧
      -20000 ≤ (t.cars.get c).offsets.q1 ∧ (t.cars.get c).offsets.q1 < (t.cars.get c).offsets.q2 ∧
      (t.cars.get c).offsets.q2 < (t.cars.get c).offsets.q3 ∧
      (t.cars.get c).offsets.q3 < (t.cars.get c).offsets.q4 ∧ (t.cars.get c).offsets.q4 ≤ 20000) ∧
    (10000 ≤ t.braking.force ∧ t.braking.force ≤ 400000 ∧ t.braking.mEq ≤ 60000 ∧
      200 ≤ t.braking.tR ∧ t.braking.tR ≤ 2000 ∧ 200 ≤ t.braking.aMin ∧ t.braking.aMin ≤ 1500 ∧
      200 ≤ t.braking.aSvcCfg ∧ t.braking.aSvcCfg ≤ 1200 ∧ 100 ≤ t.braking.aAcc ∧ t.braking.aAcc ≤ 800 ∧
      500 ≤ t.braking.overrun ∧ t.braking.overrun ≤ 5000 ∧ t.braking.reserve ≤ 300 ∧ t.braking.tolerance ≤ 2000 ∧
      200 ≤ t.braking.stretchBound ∧ t.braking.stretchBound ≤ 4000) ∧
    (t.gates.Pairwise (fun a b => a.address ≠ b.address) ∧
      ∀ e ∈ t.gates, 1 ≤ e.address ∧ e.address ≤ 16 ∧ 1 ≤ e.compartment ∧ e.compartment ≤ 4 ∧
        (t.station? e.station).isSome = true ∧ used e.station) ∧
    (∀ n, n ∈ t.noRelease ↔ used n ∧ ∃ p ∈ t.stations, p.number = n ∧
      (lookupZone t.zones t.line.defaultCap p.stopPos).release = false)

/-! ### Position -/

/-- The base move leaves x_A as it was and Δcount below 2³⁰, moving the count base by whole thousands (R19). -/
def Obligations.BaseMoveKeepsPosition : Prop :=
  ∀ (t : Tracker) (scale : Nat),
    (t.moveBase scale).freshX scale = t.freshX scale ∧ (t.moveBase scale).delta.natAbs < 1073741824 ∧
      ∃ q : Int, (t.moveBase scale).countBase = t.countBase + BitVec.ofInt 32 (q * 1000) ∧
        (t.moveBase scale).xBase = t.xBase + q * scale

/-- Every POSITION_SAMPLE computes x_A, x_B, v, the window, the standstill count, STILL, the direction and the sample time
as R20 to R24 give them; it sends the drive the planner's reference, 0 while TEN is de-energised (R195), and leaves the
tables, the links, the settings and the count alone. A change of the last direction forms both expected markers afresh (R33).
A car 2,000 mm past its expected marker counts a miss: the good count is 0, the expectation is formed beyond that marker, the
second miss makes confidence DEGRADED, and the third LOST, which trips the line in motion (R34, R36). With the run IDLE, a car
whose stop window is closed and that stands STILL within 300 mm of a station opens it, with the carry of R164; its weighs,
admissions, excess and short are gone. -/
def Obligations.PositionSampleMeasures : Prop :=
  ∀ (dt : Time) (s : State), ∃ t : State, exec (.positionSample dt) s = .next t.transmit ∧
    t.trk.xA = s.trk.xBase + Int.fdiv ((s.trk.count - s.trk.countBase).toInt * s.geo.scale) 1000 ∧
    t.trk.xB = s.geo.length + s.trk.sigma - t.trk.xA ∧
    t.trk.v = (match s.trk.window with
      | [] => 0
      | w :: ws => Int.tdiv ((t.trk.xA - w) * 100) (ws.length + 1)) ∧
    t.trk.window = (if s.trk.window.length < 10 then s.trk.window else s.trk.window.tail) ++ [t.trk.xA] ∧
    t.trk.stillCount = (if t.trk.v.natAbs < 20 then min (s.trk.stillCount + 1) 51 else 0) ∧
    t.trk.still = decide (t.trk.stillCount = 51) ∧
    t.trk.motion = (if 20 ≤ t.trk.v then some .up else if t.trk.v ≤ -20 then some .down else none) ∧
    t.trk.lastDir = t.trk.motion.or s.trk.lastDir ∧
    t.trk.sampleTime = s.now + dt ∧ t.trk.count = s.trk.count ∧ t.trk.sigma = s.trk.sigma ∧
    t.drive.lastRef = (if t.brk.ten then max (-14000) (min t.plan.ref 14000) else 0) ∧
    t.drive.lastFrame = driveFrame t.drive.lastRef (t.plan.run.map (fun r => r.dir)) ∧
    t.geo = s.geo ∧ t.links = s.links ∧ t.ctl = s.ctl ∧ t.line.mode = s.line.mode ∧
    t.notices.settings = s.notices.settings ∧ t.gates.classes = s.gates.classes ∧
    t.gates.recent = s.gates.recent ∧
    (t.trk.lastDir ≠ s.trk.lastDir →
      t.trk.conf = s.trk.conf ∧ t.trk.misses = s.trk.misses ∧ t.trk.good = s.trk.good ∧
      (s.trk.conf ≠ .unknown → s.trk.conf ≠ .lost → ∀ d, t.trk.lastDir = some d → ∀ c : Car,
        Expects s.geo.markers c (d.increases c) (t.trk.pos c) (t.trk.expected.get c))) ∧
    (let passed := fun (c : Car) (e : Expected) => s.trk.expected.get c = some e ∧
        2000 ≤ (if e.increasing then t.trk.pos c - e.pos else e.pos - t.trk.pos c)
     t.trk.lastDir = s.trk.lastDir →
      ((∀ c e, ¬passed c e) → t.trk.conf = s.trk.conf ∧ t.trk.misses = s.trk.misses ∧ t.trk.good = s.trk.good ∧
        t.trk.expected = s.trk.expected) ∧
      (∀ c e, passed c e → (∀ e', ¬passed c.other e') → s.trk.conf ≠ .unknown → s.trk.conf ≠ .lost →
        let n := s.trk.misses.get c + 1
        t.trk.good = 0 ∧ (n = 1 → t.trk.conf = s.trk.conf) ∧ (n = 2 → t.trk.conf = .degraded) ∧
        (n ≤ 2 → t.trk.misses.get c = n ∧ t.trk.misses.get c.other = s.trk.misses.get c.other ∧
          t.trk.expected.get c.other = s.trk.expected.get c.other ∧
          ∀ d, s.trk.lastDir = some d → Expects s.geo.markers c (d.increases c) e.pos (t.trk.expected.get c)) ∧
        (3 ≤ n → t.trk.conf = .lost ∧ t.trk.expected = .const none ∧ t.trk.misses = .const 0 ∧
          (t.trk.still = false ∨ s.runInMotion = true → t.brk.dropped ∧ t.sup.trip.isSome = true)))) ∧
    (∀ c : Car, s.plan.run = none →
      let l := s.tally.get c
      let near := fun st : Station => (t.trk.pos c - st.stopPos).natAbs ≤ 300
      (l.window.isSome = true ∨ t.trk.still = false ∨ (∀ st ∈ s.geo.stations, ¬near st) → t.tally.get c = l) ∧
      (∀ pre st post tb, l.window = none → t.trk.still = true → s.geo.committed = some tb →
        tb.stations = pre ++ st :: post → (∀ p ∈ pre, ¬near p) → near st →
        let carry := if st.terminal = true then 0 else l.lastUpper.getD ((tb.cars.get c).capacity * 80)
        t.tally.get c = { l with
          window := some st.number, released := false, arrival := none, departure := none, excess := false
          short := false, admPersons := 0, admMass := 0, carryMass := carry, carryPersons := (carry + 74) / 75 } ∧
        t.line.conds.excess.get c = false))

/-- SET_REFERENCE at a halt of the table, with the key on, the run IDLE and STILL set, makes the cars stand there
REFERENCED (R27). That the speed window moves by the difference from x_A as it stands, and not as the count gives it, is the
model's reading (log 12, DEDUCED). -/
def Obligations.SetReferencePlacesCars : Prop :=
  ∀ (h : ReqHead) (halt : Nat) (x : HaltInfo) (s : State), Taken s h (.setReference halt) →
    s.line.mode ≠ .unconfigured → s.geo.halt? halt = some x → s.line.key = true → s.plan.run = none →
    s.trk.still = true →
    ∃ t : State, exec (.setReference h halt) s = .next t.transmit ∧
      t.trk.xA = x.pA ∧ t.trk.xBase = x.pA ∧ t.trk.countBase = s.trk.count ∧ t.trk.sigma = 0 ∧
      t.trk.xB = s.geo.length - x.pA ∧
      t.trk.window = s.trk.window.map (fun w => w + (x.pA - s.trk.xA)) ∧
      t.trk.conf = .referenced ∧ t.trk.misses = .const 0 ∧ t.trk.good = 0 ∧ t.trk.lastMarker = .const none ∧
      t.trk.stretch = false ∧ t.trk.still = true ∧ t.trk.v = s.trk.v ∧ t.trk.lastDir = s.trk.lastDir ∧
      t.line.atStop = t.findAtStop ∧
      t.ctl = ((s.advance h.dt).replied h.port
        ⟨.done, [.pos x.pA, .pos (s.geo.length - x.pA), .code 1]⟩).ctl ∧
      t.geo = s.geo ∧ t.sup = s.sup ∧ t.plan = s.plan ∧ t.brk = s.brk ∧ t.doors = s.doors ∧
      t.gates = s.gates ∧ t.tally = s.tally ∧ t.links = s.links ∧ t.drive = s.drive ∧
      t.line.mode = s.line.mode

/-- ENCODER_FAULT makes confidence LOST: in motion an EMERGENCY drops the outputs and trips the run, at rest a PLANNED run
closes with reason POSITION, and where confidence is LOST already nothing happens (R35, R36, R71). -/
def Obligations.EncoderFaultLosesPosition : Prop :=
  ∀ (dt : Time) (s : State),
    (s.trk.conf = .lost → exec (.encoderFault dt) s = .next ((s.advance dt).ended s.pending)) ∧
    (s.trk.conf ≠ .lost → ∃ t : State, exec (.encoderFault dt) s = .next t.transmit ∧ t.trk.conf = .lost ∧
      t.trk.expected = .const none ∧ t.trk.misses = .const 0 ∧ t.trk.xA = s.trk.xA ∧ t.trk.count = s.trk.count ∧
      t.trk.still = s.trk.still ∧ t.line.conds.confLost = true ∧ t.line.conds.confDegraded = false ∧
      t.geo = s.geo ∧ t.doors = s.doors ∧ t.links = s.links ∧ t.ctl = s.ctl ∧
      (s.carsMoving = true → t.brk.dropped ∧
        (∃ x, t.sup.trip = some x ∧ (s.sup.trip = none → x.cause = .positionLost)) ∧
        ∀ r, s.plan.run = some r → ∃ r', t.plan.run = some r' ∧ r'.state = .tripped ∧ r'.id = r.id) ∧
      (s.carsMoving = false → t.brk = s.brk ∧ t.sup.trip = s.sup.trip ∧
        ∀ r, s.plan.run = some r → r.state = .planned → t.plan.run = none ∧
          t.plan.lastRun = some ⟨r.id, r.target, .cancelled, .position, none⟩))

/-- A car A report in the good or middle window moves x_base and the speed window so that x_A is the marker's position, and
confidence goes by the table of R29; a car B report sets σ; an accepted report forms the car's expected marker beyond the
marker (R33); a far report corrects nothing and confidence becomes LOST, and in motion with the stretch flag set that trip
applies the track brakes (R111, R112); an unused report leaves the tracker alone, and an unknown id queues a POSITION notice
(R28 to R32). That x_A is computed from the count as the report is taken is the model's choice (log 12), and so is the inbox of
the link, which the id leaves as it is taken (log 27). That the escalation watch is stopped in that trip also where the highest
level was TRACK already is log 17 (DESIGN CHOICE, R110 against R112). -/
def Obligations.MarkerReportsCorrectPosition : Prop :=
  (∀ (dt : Time) (c : Car) (id : Nat) (s : State), s.geo.marker? id = none → ∃ body,
    exec (.markerReport dt c id) s = .next
      (({ s.advance dt with
          links := s.links.set c ((s.links.get c).takeMarker id)
          notices := s.notices.add .position 5 (s.now + dt) body }).ended s.pending)) ∧
  ∀ (dt : Time) (c : Car) (m : Marker) (s : State), s.geo.marker? m.id = some m →
    let formed := fun (c : Car) (t : State) =>
      (∀ d, s.trk.lastDir = some d → Expects s.geo.markers c (d.increases c) m.pos (t.trk.expected.get c)) ∧
      t.trk.expected.get c.other = s.trk.expected.get c.other
    (¬s.usesMarker c m → exec (.markerReport dt c m.id) s = .next
      (({ s.advance dt with links := s.links.set c ((s.links.get c).takeMarker m.id) }).ended s.pending)) ∧
    (c = .A → s.usesMarker .A m → (s.reportedAt .A - m.pos).natAbs ≤ 1500 →
      ∃ t : State, exec (.markerReport dt .A m.id) s = .next t.transmit ∧
        t.trk.xA = m.pos ∧ t.trk.xBase = s.trk.xBase + (m.pos - s.reportedAt .A) ∧
        t.trk.window = s.trk.window.map (fun w => w + (m.pos - s.reportedAt .A)) ∧
        t.trk.sigma = s.trk.sigma ∧ t.trk.xB = s.geo.length + s.trk.sigma - m.pos ∧
        t.trk.lastMarker.get .A = some m.id ∧ t.trk.misses.get .A = 0 ∧
        t.trk.lastMarker.get .B = s.trk.lastMarker.get .B ∧ t.trk.misses.get .B = s.trk.misses.get .B ∧
        (if 300 < (s.reportedAt .A - m.pos).natAbs then t.trk.conf = .degraded ∧ t.trk.good = 0
         else if s.trk.conf = .degraded ∧ s.trk.good = 0 then t.trk.conf = .degraded ∧ t.trk.good = 1
         else t.trk.conf = .confirmed) ∧
        formed .A t ∧ t.trk.still = s.trk.still ∧ t.trk.v = s.trk.v ∧ t.trk.count = s.trk.count ∧
        t.line.atStop = t.findAtStop ∧ t.geo = s.geo ∧ t.sup = s.sup ∧ t.brk = s.brk ∧ t.doors = s.doors ∧
        t.gates = s.gates ∧ t.tally = s.tally ∧ t.drive = s.drive ∧ t.ctl = s.ctl) ∧
    (c = .B → s.usesMarker .B m →
      let sig := m.pos + s.reportedAt .A - s.geo.length
      sig.natAbs ≤ s.geo.stretchBound → (sig - s.trk.sigma).natAbs ≤ 1500 →
      ∃ t : State, exec (.markerReport dt .B m.id) s = .next t.transmit ∧
        t.trk.sigma = sig ∧ t.trk.xB = m.pos ∧ t.trk.xA = s.reportedAt .A ∧ t.trk.xBase = s.trk.xBase ∧
        t.trk.window = s.trk.window ∧
        t.trk.lastMarker.get .B = some m.id ∧ t.trk.misses.get .B = 0 ∧
        t.trk.lastMarker.get .A = s.trk.lastMarker.get .A ∧ t.trk.misses.get .A = s.trk.misses.get .A ∧
        (if (sig - s.trk.sigma).natAbs ≤ 300 then t.trk.conf = s.trk.conf ∧ t.trk.good = s.trk.good
         else t.trk.conf = .degraded ∧ t.trk.good = 0) ∧
        formed .B t ∧ t.trk.still = s.trk.still ∧ t.trk.v = s.trk.v ∧ t.trk.count = s.trk.count ∧
        t.line.atStop = t.findAtStop ∧ t.geo = s.geo ∧ t.sup = s.sup ∧ t.brk = s.brk ∧ t.doors = s.doors ∧
        t.gates = s.gates ∧ t.tally = s.tally ∧ t.drive = s.drive ∧ t.ctl = s.ctl) ∧
    (s.usesMarker c m →
      (match c with
        | .A => 1500 < (s.reportedAt .A - m.pos).natAbs
        | .B => s.geo.stretchBound < (m.pos + s.reportedAt .A - s.geo.length).natAbs ∨
            1500 < (m.pos + s.reportedAt .A - s.geo.length - s.trk.sigma).natAbs) →
      ∃ t : State, exec (.markerReport dt c m.id) s = .next t.transmit ∧ t.trk.conf = .lost ∧
        t.trk.xA = s.reportedAt .A ∧ t.trk.sigma = s.trk.sigma ∧ t.trk.xBase = s.trk.xBase ∧
        t.trk.window = s.trk.window ∧ t.trk.expected = .const none ∧ t.trk.misses = .const 0 ∧
        t.trk.lastMarker = s.trk.lastMarker ∧
        t.trk.stretch = (s.trk.stretch ||
          (c == Car.B && decide (s.geo.stretchBound < (m.pos + s.reportedAt .A - s.geo.length).natAbs))) ∧
        (s.carsMoving = true → t.brk.dropped ∧ ∃ x, t.sup.trip = some x ∧
          (s.sup.trip = none → x.cause = .positionLost) ∧
          (t.trk.stretch = true → x.highest.isSome = true ∧ (s.sup.trip = none → x.track = true) ∧
            t.brk.watch = none ∧ ∀ k : Car, (t.brk.track.get k).cmd = .apply)))

/-! ### The braking envelope -/

/-- The aiding force is ceil(981·(m_desc·s_desc − m_asc·s_asc) / 1,000,000), each sine that of the segment its car stands in,
with car B at L − x (R18, R44). No position of a span gives a greater aiding force than F_aid, though the force is evaluated
only at the cut points and the midpoints between them; F_aid is the force at some position of the span, or 0 (R45). -/
def Obligations.WorstForceBoundsSpan : Prop :=
  (∀ (pre post : List Segment) (e : Segment) (x : Int), (pre ++ e :: post).Pairwise (fun a b => a.start < b.start) →
    pre = [] ∨ e.start ≤ x → (∀ k ∈ post, x < k.start) → sineAt x (pre ++ e :: post) = e.sine) ∧
  (∀ (t : Tables) (dir : Dir) (ms : Masses) (x : Int),
    let sA := sineAt x t.segments
    let sB := sineAt (t.line.length - x) t.segments
    let num := 981 * (match dir with
      | .down => ms.desc * sA - ms.asc * sB
      | .up => ms.desc * sB - ms.asc * sA)
    num ≤ aidingForce t dir ms x * 1000000 ∧ aidingForce t dir ms x * 1000000 < num + 1000000) ∧
  (∀ (t : Tables) (xFrom xTo : Int) (dir : Dir) (ms : Masses),
    (∀ x : Int, min xFrom xTo ≤ x → x ≤ max xFrom xTo →
      aidingForce t dir ms x ≤ (span t xFrom xTo dir ms).fAid) ∧
    0 ≤ (span t xFrom xTo dir ms).fAid ∧
    (∃ x : Int, min xFrom xTo ≤ x ∧ x ≤ max xFrom xTo ∧ (span t xFrom xTo dir ms).cut = x ∧
      (span t xFrom xTo dir ms).fAid = max (aidingForce t dir ms x) 0))

/-- a_guar, k and a_svc of a span (R46, R47): M is the masses handed over and the equivalent mass; a_guar is 0 at M = 0 and
where the force does not exceed F_aid, otherwise the whole mm/s² that (F_b − F_aid)·1000 / M holds, at most 2,500; k is the
least whole number not below a_guar·t_r / 1000; a_svc is the lesser of the configured value and 70 percent of a_guar. -/
def Obligations.SpanDecelerations : Prop :=
  ∀ (t : Tables) (xFrom xTo : Int) (dir : Dir) (ms : Masses),
    let r := span t xFrom xTo dir ms
    r.m = ms.cars + t.braking.mEq ∧
    (r.m = 0 ∨ (t.braking.force : Int) ≤ r.fAid → r.aGuar = 0) ∧
    (r.m ≠ 0 → r.fAid < t.braking.force →
      (r.aGuar : Int) = min 2500 (Int.fdiv ((t.braking.force - r.fAid) * 1000) r.m)) ∧
    (r.aGuar * t.braking.tR ≤ r.k * 1000 ∧ r.k * 1000 < r.aGuar * t.braking.tR + 1000) ∧
    r.aSvc = min t.braking.aSvcCfg (r.aGuar * 70 / 100) ∧
    (r.aGuar = 0 → r.k = 0 ∧ r.aSvc = 0)

/-- The permitted speed is the greatest that the stopping relation lets fit in the distance to the limit point: v + k is
the whole root of k² + 2·a_guar·d_limit; it is 0 at and beyond the limit point and without an envelope (R48). -/
def Obligations.PermittedSpeedIsGreatest : Prop :=
  (∀ n : Nat, isqrt n * isqrt n ≤ n ∧ n < (isqrt n + 1) * (isqrt n + 1)) ∧
  (∀ (e : Envelope) (x : Int),
    let d := (e.limit - x) * (match e.dir with | .up => 1 | .down => -1)
    (d ≤ 0 → e.vE x = 0) ∧
    (0 < d → ((e.vE x : Int) + e.k) * (e.vE x + e.k) ≤ e.k * e.k + 2 * e.aGuar * d ∧
      (e.k * e.k + 2 * e.aGuar * d : Int) < (e.vE x + e.k + 1) * (e.vE x + e.k + 1))) ∧
  (∀ (p : Supervisor) (x : Int), p.env = none → p.vE x = 0)

/-- The curve bands and the ceiling bands (R54, R55): each with its condition, nested, the curve bands none below 20 mm/s
whatever v_E is, and the emergencies they are the cause of. -/
def Obligations.BandConditions : Prop :=
  (∀ v vE : Nat,
    (v < 20 → curveBand v vE = .none) ∧
    (20 ≤ v →
      ((curveBand v vE).atLeast .warning = true ↔ 100 * v > 90 * vE) ∧
      ((curveBand v vE).atLeast .service = true ↔ 100 * v > 95 * vE) ∧
      ((curveBand v vE).atLeast .emergency = true ↔ v > vE))) ∧
  (∀ v c : Nat,
    ((ceilingBand v c).atLeast .warning = true ↔ v > c) ∧
    ((ceilingBand v c).atLeast .service = true ↔ 100 * v > 105 * c) ∧
    ((ceilingBand v c).atLeast .emergency = true ↔ 100 * v > 112 * c)) ∧
  (∀ f : BandFinding, f.limit = false → f.rollback = false →
    (f.curve = .emergency → f.level = .emergency ∧ f.cause = .overspeedCurve) ∧
    (f.curve ≠ .emergency → f.ceiling = .emergency → f.level = .emergency ∧ f.cause = .overspeedCeiling))

/-- A sample of a run under way that finds the cars beyond the limit point, running back faster than 100 mm/s, faster than v_E,
or more than 12 percent above the ceiling ends with the outputs dropped, a valid trip record and the run TRIPPED, whatever else
the sample finds; where it writes the record, the cause is the first of these in the order of R58 (R54 to R58, R61, R106).
While the run stays under way, the sample records what it evaluated, the warning state has the source of the WARNING conditions
that hold, and the SERVICE latch once set stays and is first set by a band of SERVICE, which is a hold of the run (R53, R59,
R60, R81, R84). At rest without a release output, motion is counted while the check is armed, and the 21st such sample is an
EMERGENCY UNCOMMANDED_MOTION (R62). A running escalation watch is tested once 1,000 ms old: too little loss of speed escalates
to the track brakes, and the watch stops (R110 to R112). That the last evaluated v and the v of the figures are the signed
speed of the sample is log 54 (DESIGN CHOICE: R53 calls v the magnitude), and that a latch R50 cleared is set again is log 66
(DEDUCED). -/
def Obligations.SampleTripsOnOverrun : Prop :=
  (∀ (dt : Time) (r : Run) (e : Envelope) (s t : State), s.plan.run = some r → r.state.evaluated = true →
    s.sup.env = some e → exec (.positionSample dt) s = .next t →
    let passed := e.dLimit t.trk.xA < 0
    let back := 100 < -t.trk.v * r.dir.sign
    let curve := 20 ≤ t.trk.v.natAbs ∧ e.vE t.trk.xA < t.trk.v.natAbs
    let c := min r.cruise (min (s.geo.zone t.trk.xA).cap (s.geo.zone t.trk.xB).cap)
    let emergency := passed ∨ back ∨ curve ∨ 112 * c < 100 * t.trk.v.natAbs
    emergency →
    t.brk.dropped ∧ t.sup.trip.isSome = true ∧
      (∃ r', t.plan.run = some r' ∧ r'.state = .tripped ∧ r'.id = r.id) ∧
      (s.sup.trip = none → s.trk.still = false → s.ExpectationsOk → t.trk.conf = s.trk.conf → ∃ x, t.sup.trip = some x ∧
        x.cause = (if passed then .limitPassed else if back then .rollback else if curve then .overspeedCurve
          else .overspeedCeiling))) ∧
  (∀ (dt : Time) (r r' : Run) (s t : State), s.plan.run = some r → r.state.evaluated = true →
    exec (.positionSample dt) s = .next t → t.plan.run = some r' → r'.state.evaluated = true →
    ∃ x c, t.sup.band.last = some x ∧ x.time = s.now + dt ∧ x.xA = t.trk.xA ∧ x.v = t.trk.v ∧
      x.vE = t.sup.vE t.trk.xA ∧ x.c = some c ∧
      (s.ExpectationsOk → t.trk.conf = s.trk.conf →
        c = min r.cruise (min (s.geo.zone t.trk.xA).cap (s.geo.zone t.trk.xB).cap)) ∧
      (let v := t.trk.v.natAbs
       let warns := 20 ≤ v ∧ 90 * x.vE < 100 * v
       let serves := 20 ≤ v ∧ 95 * x.vE < 100 * v
       t.sup.band.warning =
          (if warns ∧ c < v then some .both else if warns then some .curve else if c < v then some .ceiling else none) ∧
        t.sup.band.latch = s.sup.band.latch.or
          (if serves then some .curve else if 105 * c < 100 * v then some .ceiling else none) ∧
        (s.sup.band.latch = none → t.sup.band.latch.isSome = true →
          (r.state.moving = true → r'.stop.isAsap = true ∧
            (r.stop.isAsap = false → (s.trk.still = false ∨ t.trk.still = true) → r'.holdCause = some .service)) ∧
          (r.state = .starting → r'.pendingStop = some (if r.pendingStop = some .cancel then .cancel else .service)) ∧
          (r.state = .holding → r'.holdCause = r.holdCause ∧ r'.stop = r.stop)))) ∧
  (∀ (dt : Time) (s t : State), exec (.positionSample dt) s = .next t →
    (∀ r, s.plan.run = some r → r.state = .holding ∨ r.state = .tripped ∨
      (r.state = .planned ∧ ∃ r', t.plan.run = some r' ∧ (r'.state = .planned ∨ r'.state = .tripped))) →
    s.brk.sbr = false → s.brk.ebr = false →
    let armed := s.sup.band.umArmed || t.trk.still
    let n := if armed = true ∧ 20 ≤ t.trk.v.natAbs then s.sup.band.umCount + 1 else 0
    (n < 21 → t.sup.band.umArmed = armed ∧ t.sup.band.umCount = n) ∧
    (21 ≤ n → t.sup.band.umArmed = false ∧ t.sup.band.umCount = 0 ∧ t.brk.dropped ∧
      ∃ x, t.sup.trip = some x ∧
        (s.sup.trip = none → s.trk.still = false → s.ExpectationsOk → t.trk.conf = s.trk.conf →
          (∀ r, s.plan.run = some r → r.state = .planned ∨ r.state = .tripped) →
          x.cause = .uncommandedMotion ∧ x.fig.xA = t.trk.xA ∧ x.fig.v = t.trk.v ∧ x.fig.vE = 0))) ∧
  (∀ (dt : Time) (w : EscWatch) (s t : State), exec (.positionSample dt) s = .next t → s.brk.watch = some w →
    (∀ r, s.plan.run = some r → r.state = .tripped) → s.trk.still = false → t.trk.still = false →
    s.ExpectationsOk → t.trk.conf = s.trk.conf → s.sup.band.umArmed = false →
    let short := 20 ≤ t.trk.v.natAbs ∧ (w.vTrip : Int) - t.trk.v.natAbs < w.aTest / 2
    (elapsed w.start (s.now + dt) < 1000 → t.brk = s.brk ∧ t.sup.trip = s.sup.trip) ∧
    (1000 ≤ elapsed w.start (s.now + dt) → ¬short →
      t.brk = { s.brk with watch := none } ∧ t.sup.trip = s.sup.trip) ∧
    (1000 ≤ elapsed w.start (s.now + dt) → short →
      t.brk = { s.brk with watch := none, track := t.brk.track } ∧ t.line.conds.trackBrake = true ∧
      t.sup.trip = s.sup.trip.map (fun x => { x with highest := x.highest.or (some .decelShort) }) ∧
      (∀ c : Car, (t.brk.track.get c).cmd = .apply ∧
        ((s.brk.track.get c).state = some .applied → (t.brk.track.get c).state = some .applied) ∧
        ((∀ x, s.sup.trip = some x → x.highest = none) → (s.brk.track.get c).state ≠ some .applied →
          t.brk.track.get c = ⟨.apply, some .applying, some (s.now + dt)⟩))))

/-! ### Runs -/

/-- START_RUN is refused with the first refusal of R67 that applies: MODE, STATE RUN, TARGET, POSITION, STATE TRIP, ESTOP,
BRAKES, and BRAKE_MARGIN with the a_guar of R69, and changes nothing then. One that no refusal meets is accepted: the run
enters PLANNED with the next id, and every door is commanded LOCK in the same event (R67, R69, R125). That the reply carries
the direction as 0 UP and 1 DOWN, and not by the codes of the drive frame, is log 86 (DESIGN CHOICE). -/
def Obligations.StartRunPlansRun : Prop :=
  (∀ (h : ReqHead) (target cruise : Nat) (s : State), Taken s h (.startRun target cruise) →
    let refused := fun x : Reply => exec (.startRun h target cruise) s = answered s h (s.advance h.dt) x
    let runs := s.line.mode = .automatic ∨ s.line.mode = .recovery
    (¬runs → refused ⟨.mode, []⟩) ∧
    (runs → s.plan.run.isSome = true → refused ⟨.state, [.code 1]⟩) ∧
    (runs → s.plan.run = none → s.geo.halt? target = none → refused ⟨.target, []⟩) ∧
    (∀ x, runs → s.plan.run = none → s.geo.halt? target = some x →
      let far := 300 < (s.trk.xA - x.pA).natAbs
      let placed := s.trk.conf ≠ .unknown ∧ s.trk.conf ≠ .lost
      let closed := s.line.loops = Quad.const true
      (¬far → refused ⟨.target, []⟩) ∧
      (far → ¬placed → refused ⟨.position, [.code s.trk.conf.code]⟩) ∧
      (far → placed → s.sup.trip.isSome = true → refused ⟨.state, [.code 5]⟩) ∧
      (far → placed → s.sup.trip = none → ¬closed → refused ⟨.state, [.code 6]⟩) ∧
      (far → placed → s.sup.trip = none → closed → s.brk.trackClear = false → refused ⟨.state, [.code 7]⟩) ∧
      (∀ tb, far → placed → s.sup.trip = none → closed → s.brk.trackClear = true → s.geo.committed = some tb →
        let dir := if s.trk.xA < x.pA then Dir.up else Dir.down
        let a := (span tb s.trk.xA x.pA dir (runMasses tb s.tally dir)).aGuar
        a < tb.braking.aMin → refused ⟨.brakeMargin, [.accel a]⟩))) ∧
  ∀ (h : ReqHead) (target cruise : Nat) (tb : Tables) (x : HaltInfo) (s : State),
    Taken s h (.startRun target cruise) → (s.line.mode = .automatic ∨ s.line.mode = .recovery) →
    s.plan.run = none → s.geo.committed = some tb → s.geo.halt? target = some x →
    300 < (s.trk.xA - x.pA).natAbs → s.trk.conf ≠ .unknown → s.trk.conf ≠ .lost → s.sup.trip = none →
    s.line.loops = Quad.const true → s.brk.trackClear = true →
    let dir := if s.trk.xA < x.pA then Dir.up else Dir.down
    let a := (span tb s.trk.xA x.pA dir (runMasses tb s.tally dir)).aGuar
    tb.braking.aMin ≤ a →
    ∃ t : State, exec (.startRun h target cruise) s = .next t.transmit ∧
      t.plan.run = some
        { id := s.plan.nextId, origin := s.line.atStop, target := target, pA := x.pA, dir := dir,
          requested := cruise, cruise := formCruise tb.line.maxCruise s.trk.conf s.line.mode cruise, dyn := none,
          stop := .target, resumeTarget := none, holdCause := none, pendingStop := none, highest := .none,
          releaseTime := none, planTime := s.now + h.dt, state := .planned, leaving := none } ∧
      t.plan.nextId = (if s.plan.nextId < 255 then s.plan.nextId + 1 else 1) ∧
      (∀ d : Door, (t.doors.door d).release = false ∧
        (t.doors.door d).reported = (s.doors.door d).reported ∧
        (t.doors.door d).isolated = (s.doors.door d).isolated) ∧
      t.ctl = ((s.advance h.dt).replied h.port ⟨.accepted, [.num s.plan.nextId, .code (if s.trk.xA < x.pA then 0 else 1),
        .speed (formCruise tb.line.maxCruise s.trk.conf s.line.mode cruise), .accel a]⟩).ctl ∧
      t.plan.pendingRun = s.plan.pendingRun ∧ t.plan.lastRun = s.plan.lastRun ∧
      t.plan.watches = s.plan.watches ∧ t.geo = s.geo ∧ t.trk = s.trk ∧ t.sup = s.sup ∧ t.brk = s.brk ∧
      t.tally = s.tally ∧ t.links = s.links ∧ t.drive = s.drive ∧ t.line.mode = s.line.mode ∧
      t.line.conds = s.line.conds

/-- ANNOUNCE_RUN makes a halt of the table, or none, the pending run (R66). SET_WATCH replaces and enables a watch and
CLEAR_WATCH disables one, or is refused MODE or RANGE; with the run IDLE, PLANNED, HOLDING or TRIPPED nothing else changes
(R90). In STARTING a HOLD watch set, replaced or cleared forms the stop point afresh; in a moving phase, unless the stop point
is ASAP, the stop point formed by the watch replaced or cleared is formed afresh, and a new candidate becomes the stop point
when it is nearer and beyond the service stopping distance, or is a hold with cause WATCH within it (R93, R94). A sample
that finds a NOTIFY watch's car to have crossed it in its sense disables it when it is ONCE (R91). That a SET_WATCH which
replaces the watch forming the stop point has it formed afresh without that watch first, and then tests the new record as newly
enabled, is log 33 (DESIGN CHOICE). -/
def Obligations.AnnounceAndWatchRecords : Prop :=
  (∀ (h : ReqHead) (halt : Option Nat) (s : State), Taken s h (.announceRun halt) → s.line.mode ≠ .unconfigured →
    (∀ n, halt = some n → (s.geo.halt? n).isSome = true) →
    exec (.announceRun h halt) s = answered s h
      { s.advance h.dt with plan := { s.plan with pendingRun := halt } } ⟨.done, []⟩) ∧
  (∀ (h : ReqHead) (n : Nat) (s : State), Taken s h (.announceRun (some n)) → s.line.mode ≠ .unconfigured →
    s.geo.halt? n = none →
    exec (.announceRun h (some n)) s = answered s h (s.advance h.dt) ⟨.target, []⟩) ∧
  (∀ (h : ReqHead) (n : Nat) (w : WatchBytes) (s : State), Taken s h (.setWatch n w) →
    (s.line.mode = .unconfigured → exec (.setWatch h n w) s = answered s h (s.advance h.dt) ⟨.mode, []⟩) ∧
    (s.line.mode ≠ .unconfigured →
      (3 < n ∨ 1 < w.car ∨ w.pos < 0 ∨ s.geo.length < w.pos ∨ 2 < w.sense ∨ 1 < w.action ∨ 1 < w.keep) →
      exec (.setWatch h n w) s = answered s h (s.advance h.dt) ⟨.range, []⟩)) ∧
  (∀ (h : ReqHead) (n : Nat) (s : State), Taken s h (.clearWatch n) → 3 < n →
    exec (.clearWatch h n) s = answered s h (s.advance h.dt) ⟨.range, []⟩) ∧
  (∀ (c : Instr) (h : ReqHead) (q : Request) (i : Ix4) (w : Watch) (s : State), Taken s h q →
    ((∃ b y, q = .setWatch i.index b ∧ c = .setWatch h i.index b ∧ s.line.mode ≠ .unconfigured ∧ b.car ≤ 1 ∧
        0 ≤ b.pos ∧ b.pos ≤ s.geo.length ∧ b.sense = WatchSense.code y ∧ b.action ≤ 1 ∧ b.keep ≤ 1 ∧
        w = ⟨true, if b.car = 0 then .A else .B, b.pos, y, b.action == 1, b.keep == 1⟩) ∨
      (q = .clearWatch i.index ∧ c = .clearWatch h i.index ∧ w = { s.plan.watches.get i with enabled := false })) →
    let u := { s.advance h.dt with plan := { s.plan with watches := s.plan.watches.set i w } }
    let old := s.plan.watches.get i
    let holds := fun x : Watch => x.enabled = true ∧ x.hold = true
    ((∀ r, s.plan.run = some r → r.state = .planned ∨ r.state = .holding ∨ r.state = .tripped) →
      exec c s = answered s h u ⟨.done, []⟩) ∧
    (∀ r, s.plan.run = some r → r.state = .starting →
      (¬holds old → ¬holds w → exec c s = answered s h u ⟨.done, []⟩) ∧
      (holds old ∨ holds w → ∃ t p, exec c s = .next (State.transmit t) ∧ t.plan = { u.plan with run := some { r with stop := p } } ∧
        t.NearestStop r (fun m _ => r.leaving.bind (fun l => l.cause) ≠ some (.watch m)) p ∧
        t.ctl = (u.replied h.port ⟨.done, []⟩).ctl ∧ t.geo = s.geo ∧ t.trk = s.trk ∧ t.sup = s.sup ∧
        t.brk = s.brk ∧ t.tally = s.tally ∧ t.drive = s.drive)) ∧
    (∀ r, s.plan.run = some r → r.state.moving = true → r.stop.isAsap = true →
      exec c s = answered s h u ⟨.done, []⟩) ∧
    (∀ r d sd, s.plan.run = some r → r.state.moving = true → r.stop.isAsap = false → r.dyn = some d →
      s.StopsIn d.aSvc sd → ∃ t r1 r2, exec c s = .next (State.transmit t) ∧ t.plan = { u.plan with run := some r2 } ∧
        r1 = { r with stop := r1.stop } ∧
        ((∀ x, r.stop ≠ .watch i x) → r1 = r) ∧
        (∀ x, r.stop = .watch i x →
          t.NearestStop r (fun m y => m ≠ i ∧ (sd : Int) < (y - s.trk.xA) * r.dir.sign) r1.stop) ∧
        (let stopAt := match r1.stop with
          | .watch _ x => x
          | _ => r.pA
         ((∀ x, ¬t.WatchAt r w x) → r2 = r1) ∧
         (∀ x, t.WatchAt r w x → let dist := (x - s.trk.xA) * r.dir.sign
          ((sd : Int) < dist → dist < (stopAt - s.trk.xA) * r.dir.sign → r2 = { r1 with stop := .watch i x }) ∧
          ((sd : Int) < dist → (stopAt - s.trk.xA) * r.dir.sign ≤ dist → r2 = r1) ∧
          (dist ≤ sd → r2 = { r1 with
            stop := .asap s.trk.v.natAbs (s.now + h.dt), holdCause := some (.watch i), state := .braking }))) ∧
        t.ctl = (u.replied h.port ⟨.done, []⟩).ctl ∧ t.geo = s.geo ∧ t.trk = s.trk ∧ t.sup = s.sup ∧
        t.brk = s.brk ∧ t.drive = s.drive)) ∧
  (∀ (dt : Time) (n : Ix4) (s : State), ∃ t : State, exec (.positionSample dt) s = .next t.transmit ∧
    t.plan.prev = some (t.trk.xA, t.trk.xB) ∧
    (let w := s.plan.watches.get n
     (s.plan.prev = none → s.runInMotion = false → t.plan.watches.get n = w) ∧
     ∀ a b, s.plan.prev = some (a, b) →
      let y0 := match w.car with
        | .A => a
        | .B => b
      let y1 := t.trk.pos w.car
      let hit := w.enabled = true ∧ w.hold = false ∧
        (y0 < w.pos ∧ w.pos ≤ y1 ∧ w.sense ≠ .down ∨ w.pos < y0 ∧ y1 ≤ w.pos ∧ w.sense ≠ .up)
      (hit → t.plan.watches.get n = { w with enabled := w.keep }) ∧
      (¬hit → s.runInMotion = false → t.plan.watches.get n = w)))

/-- HOLD_RUN by run state (R80, R84): refused in IDLE, PLANNED and TRIPPED; pending in STARTING, where CANCEL stands; an
ASAP stop with the speed and the time of the hold in a moving phase, the first one kept; nothing in HOLDING. -/
def Obligations.HoldRunByState : Prop :=
  ∀ (h : ReqHead) (s : State), Taken s h .holdRun →
    (s.plan.run = none → exec (.holdRun h) s = answered s h (s.advance h.dt) ⟨.state, [.code 1]⟩) ∧
    (∀ r : Run, s.plan.run = some r →
      (r.state = .planned ∨ r.state = .tripped →
        exec (.holdRun h) s = answered s h (s.advance h.dt) ⟨.state, [.code 1]⟩) ∧
      (r.state = .holding → exec (.holdRun h) s = answered s h (s.advance h.dt) ⟨.done, []⟩) ∧
      (r.state = .starting → exec (.holdRun h) s = answered s h
        { s.advance h.dt with
          plan := { s.plan with
            run := some { r with
              pendingStop := if r.pendingStop = some .cancel then some .cancel else some .holdRequest } } }
        ⟨.done, []⟩) ∧
      (r.state.moving = true → r.stop.isAsap = true →
        exec (.holdRun h) s = answered s h (s.advance h.dt) ⟨.done, []⟩) ∧
      (r.state.moving = true → r.stop.isAsap = false → ∃ t : State, exec (.holdRun h) s = .next t.transmit ∧
        t.plan = { s.plan with
          run := some { r with
            stop := .asap s.trk.v.natAbs (s.now + h.dt), holdCause := some .holdRequest, state := .braking } } ∧
        t.ctl = ((s.advance h.dt).replied h.port ⟨.done, []⟩).ctl ∧
        t.geo = s.geo ∧ t.trk = s.trk ∧ t.sup = s.sup ∧ t.brk = s.brk ∧ t.doors = s.doors ∧
        t.tally = s.tally ∧ t.links = s.links ∧ t.drive = s.drive ∧ t.line.mode = s.line.mode ∧
        t.line.conds = s.line.conds))

/-- CANCEL_RUN by run state, and the end of the PLANNED wait (R65, R70, R84, R88): a PLANNED or HOLDING run closes
CANCELLED, its envelope absent and its freeze released; STARTING takes the pending stop CANCEL; a moving run stops ASAP with
cause CANCEL; IDLE and TRIPPED refuse. The 60,000 ms wait closes a PLANNED run with reason WAIT_EXPIRED; an expiry that is
not due does nothing, which is the model's choice (log 2). -/
def Obligations.CancelAndWaitCloseRuns : Prop :=
  (∀ (h : ReqHead) (s : State), Taken s h .cancelRun →
    (s.plan.run = none → exec (.cancelRun h) s = answered s h (s.advance h.dt) ⟨.state, [.code 1]⟩) ∧
    (∀ r : Run, s.plan.run = some r →
      (r.state = .tripped → exec (.cancelRun h) s = answered s h (s.advance h.dt) ⟨.state, [.code 1]⟩) ∧
      (r.state = .planned ∨ r.state = .holding → ∃ t : State, exec (.cancelRun h) s = .next t.transmit ∧ t.plan.run = none ∧
        t.plan.lastRun = some ⟨r.id, r.target, .cancelled, .cancelRequest, none⟩ ∧ t.sup.env = none ∧
        t.sup.band.warning = none ∧ t.sup.trip = s.sup.trip ∧
        (∀ c : Car, (t.tally.get c).frozen = none) ∧ t.plan.pendingRun = s.plan.pendingRun ∧
        t.plan.watches = s.plan.watches ∧
        t.ctl = ((s.advance h.dt).replied h.port ⟨.done, []⟩).ctl ∧
        t.geo = s.geo ∧ t.trk = s.trk ∧ t.brk = s.brk ∧ t.doors = s.doors ∧ t.links = s.links ∧
        t.drive = s.drive) ∧
      (r.state = .starting → exec (.cancelRun h) s = answered s h
        { s.advance h.dt with plan := { s.plan with run := some { r with pendingStop := some .cancel } } }
        ⟨.done, []⟩) ∧
      (r.state.moving = true → ∃ t : State, exec (.cancelRun h) s = .next t.transmit ∧
        t.plan = { s.plan with
          run := some (if r.stop.isAsap then { r with holdCause := some .cancel }
            else { r with
              stop := .asap s.trk.v.natAbs (s.now + h.dt), holdCause := some .cancel, state := .braking }) } ∧
        t.ctl = ((s.advance h.dt).replied h.port ⟨.done, []⟩).ctl ∧
        t.geo = s.geo ∧ t.trk = s.trk ∧ t.sup = s.sup ∧ t.brk = s.brk ∧ t.doors = s.doors ∧
        t.tally = s.tally ∧ t.links = s.links ∧ t.drive = s.drive))) ∧
  (∀ (dt : Time) (r : Run) (s : State), s.plan.run = some r → r.state = .planned →
    (60000 ≤ elapsed r.planTime (s.now + dt) → ∃ t : State, exec (.plannedWaitExpiry dt) s = .next t.transmit ∧
      t.plan.run = none ∧ t.plan.lastRun = some ⟨r.id, r.target, .cancelled, .waitExpired, none⟩ ∧
      t.sup.env = none ∧ t.sup.trip = s.sup.trip ∧ t.geo = s.geo ∧ t.trk = s.trk ∧ t.brk = s.brk ∧
      t.doors = s.doors ∧ t.links = s.links ∧ t.drive = s.drive ∧ t.ctl = s.ctl) ∧
    (elapsed r.planTime (s.now + dt) < 60000 →
      exec (.plannedWaitExpiry dt) s = .next ((s.advance dt).ended s.pending)))

/-- RESUME_RUN is refused with the first reason of R86 that applies, and changes nothing then; within 300 mm of the target it
closes the run ARRIVED without moving (R79). One that passes those tests and the tests of R50 starts the run again: a new
envelope to the old limit point, STARTING, TEN energised and the torque timer started (R50, R86, R87, R101). -/
def Obligations.ResumeRunStartsAgain : Prop :=
  (∀ (h : ReqHead) (s : State), Taken s h .resumeRun →
    (∀ r, s.plan.run = some r → r.state ≠ .holding) →
    exec (.resumeRun h) s = answered s h (s.advance h.dt) ⟨.state, [.code 1]⟩) ∧
  (∀ (h : ReqHead) (r : Run) (s : State), Taken s h .resumeRun → s.plan.run = some r → r.state = .holding →
    let lost := s.trk.conf = .unknown ∨ s.trk.conf = .lost
    let looped := s.line.loops ≠ Quad.const true
    let braked := s.brk.trackClear = false
    let opened := s.doors.allLocked = false
    let dead := s.linksLive = false
    let idle := s.drive.ok = false
    (lost → exec (.resumeRun h) s = answered s h (s.advance h.dt) ⟨.position, [.code s.trk.conf.code]⟩) ∧
    (¬lost → looped → exec (.resumeRun h) s = answered s h (s.advance h.dt) ⟨.state, [.code 6]⟩) ∧
    (¬lost → ¬looped → braked → exec (.resumeRun h) s = answered s h (s.advance h.dt) ⟨.state, [.code 7]⟩) ∧
    (¬lost → ¬looped → ¬braked → opened →
      exec (.resumeRun h) s = answered s h (s.advance h.dt) ⟨.state, [.code 8]⟩) ∧
    (¬lost → ¬looped → ¬braked → ¬opened → dead →
      exec (.resumeRun h) s = answered s h (s.advance h.dt) ⟨.state, [.code 9]⟩) ∧
    (¬lost → ¬looped → ¬braked → ¬opened → ¬dead → idle →
      exec (.resumeRun h) s = answered s h (s.advance h.dt) ⟨.state, [.code 10]⟩) ∧
    (¬lost → ¬looped → ¬braked → ¬opened → ¬dead → ¬idle → (s.trk.xA - r.pA).natAbs ≤ 300 →
      ∃ t : State, exec (.resumeRun h) s = .next t.transmit ∧ t.plan.run = none ∧
        t.plan.lastRun = some ⟨r.id, r.target, .arrived, .arrived, some (s.trk.xA - r.pA)⟩ ∧ t.sup.env = none ∧
        t.sup.trip = s.sup.trip ∧ (∀ c : Car, (t.tally.get c).frozen = none) ∧
        t.ctl = ((s.advance h.dt).replied h.port ⟨.done, []⟩).ctl ∧ t.geo = s.geo ∧ t.trk = s.trk ∧ t.brk = s.brk ∧
        t.links = s.links ∧ t.drive = s.drive) ∧
    (∀ tb : Tables, ¬lost → ¬looped → ¬braked → ¬opened → ¬dead → ¬idle → 300 < (s.trk.xA - r.pA).natAbs →
      s.geo.committed = some tb →
      let e := s.resumeEnvelope tb r
      (s.sup.band.latch.isSome = true → e.vE s.trk.xA < 300 →
        exec (.resumeRun h) s = answered s h (s.advance h.dt) ⟨.state, [.code 11]⟩) ∧
      (s.sup.band.latch = none ∨ 300 ≤ e.vE s.trk.xA → e.aGuar < tb.braking.aMin →
        exec (.resumeRun h) s = answered s h (s.advance h.dt) ⟨.brakeMargin, [.accel e.aGuar]⟩))) ∧
  ∀ (h : ReqHead) (r : Run) (tb : Tables) (s : State), Taken s h .resumeRun → s.plan.run = some r →
    r.state = .holding → s.trk.conf ≠ .unknown → s.trk.conf ≠ .lost → s.line.loops = Quad.const true →
    s.brk.trackClear = true → s.doors.allLocked = true → s.linksLive = true → s.drive.ok = true →
    300 < (s.trk.xA - r.pA).natAbs → s.geo.committed = some tb →
    let e := s.resumeEnvelope tb r
    (s.sup.band.latch = none ∨ 300 ≤ e.vE s.trk.xA) → tb.braking.aMin ≤ e.aGuar →
    ∃ t r', exec (.resumeRun h) s = .next (State.transmit t) ∧ t.plan.run = some r' ∧
      r'.state = .starting ∧ r'.id = r.id ∧ r'.target = r.target ∧ r'.pA = r.pA ∧ r'.dir = r.dir ∧
      r'.holdCause = none ∧ r'.resumeTarget = none ∧ r'.pendingStop = none ∧ r'.releaseTime = none ∧
      r'.leaving = some ⟨r.holdCause, r.resumeTarget, r.stop⟩ ∧
      t.NearestStop r (fun m _ => r.holdCause ≠ some (.watch m)) r'.stop ∧
      r'.dyn.map (fun d => (d.aGuar, d.k, d.aSvc, d.limit)) = some (e.aGuar, e.k, e.aSvc, e.limit) ∧
      t.sup.env = some e ∧ t.sup.band.latch = none ∧ t.sup.band.umArmed = false ∧ t.sup.trip = s.sup.trip ∧
      t.brk = { s.brk with ten := true, seq := .torqueWait, torque := some (s.now + h.dt) } ∧
      t.drive = { s.drive with timer := some (s.now + h.dt) } ∧
      t.ctl = ((s.advance h.dt).replied h.port ⟨.accepted, []⟩).ctl ∧
      t.plan.nextId = s.plan.nextId ∧ t.plan.watches = s.plan.watches ∧ t.geo = s.geo ∧ t.trk = s.trk ∧
      t.doors = s.doors ∧ t.tally = s.tally ∧ t.links = s.links

/-- A run leaves PLANNED for STARTING only at a position sample, with an envelope whose guaranteed deceleration is at least
a_min, with every door locked, both cars' bounds frozen, and TEN energised in TORQUE_WAIT (R70, R72, R101). A sample at
standstill that finds the start conditions of R70 met takes the run out of PLANNED: to STARTING, the pending run cleared when
it names the target, or, with a_guar below a_min, to the close CANCELLED with reason BRAKE_MARGIN; one that finds them not
met leaves it PLANNED. -/
def Obligations.DepartureNeedsBrakeMargin : Prop :=
  (∀ (c : Instr) (r r' : Run) (s t : State), exec c s = .next t → s.plan.run = some r → r.state = .planned →
    t.plan.run = some r' → r'.state = .starting →
    (∃ dt, c = .positionSample dt) ∧ r'.id = r.id ∧
      (∃ e tb, t.sup.env = some e ∧ s.geo.committed = some tb ∧ tb.braking.aMin ≤ e.aGuar ∧ e.runId = r.id) ∧
      t.doors.allLocked = true ∧ (∀ k : Car, (t.tally.get k).frozen.isSome = true) ∧
      t.brk.ten = true ∧ t.brk.seq = .torqueWait) ∧
  (∀ (dt : Time) (r : Run) (tb : Tables) (s : State), s.plan.run = some r → r.state = .planned →
    s.geo.committed = some tb → s.brk.watch = none → ∃ t : State, exec (.positionSample dt) s = .next t.transmit ∧
    (t.trk.still = true → t.trk.conf ≠ .lost →
      let met := s.doors.allLocked = true ∧ (∀ c : Car, (s.tally.get c).departure.isSome = true) ∧
        (∀ g ∈ s.gates.gates, g.admission = none ∧ ∀ c st, s.geo.stationAt? (t.trk.pos c) = some st →
          g.station = st.number → g.state ≠ .opened ∧ g.state ≠ .passing) ∧
        s.drive.ok = true ∧ s.linksLive = true ∧ s.brk.trackClear = true
      let a := (span tb t.trk.xA r.pA r.dir (runMasses tb s.tally r.dir)).aGuar
      (¬met → t.plan.run = some r ∧ t.brk = s.brk ∧ t.sup.env = s.sup.env ∧ t.plan.pendingRun = s.plan.pendingRun) ∧
      (met → a < tb.braking.aMin → t.plan.run = none ∧
        t.plan.lastRun = some ⟨r.id, r.target, .cancelled, .brakeMargin, none⟩ ∧ t.sup.env = none ∧
        (∀ c : Car, (t.tally.get c).frozen = none) ∧ t.brk = s.brk ∧ t.sup.trip = s.sup.trip ∧
        t.plan.pendingRun = s.plan.pendingRun) ∧
      (met → tb.braking.aMin ≤ a → ∃ r' e, t.plan.run = some r' ∧ r'.state = .starting ∧ r'.id = r.id ∧
        r'.target = r.target ∧ r'.pA = r.pA ∧ r'.dir = r.dir ∧ t.NearestStop r (fun _ _ => True) r'.stop ∧
        t.sup.env = some e ∧ e.aGuar = a ∧ e.limit = r.pA + r.dir.sign * tb.braking.overrun ∧
        (∀ c : Car, (t.tally.get c).frozen =
          some ((s.tally.get c).upper tb.braking.tolerance, (s.tally.get c).lower tb.braking.tolerance)) ∧
        t.brk = { s.brk with ten := true, seq := .torqueWait, torque := some (s.now + dt) } ∧
        t.sup.trip = s.sup.trip ∧
        t.plan.pendingRun = (if s.plan.pendingRun = some r.target then none else s.plan.pendingRun))))

/-- A reference other than 0 reaches the drive only under TEN and with a run in a moving phase; it points in the run's
direction and exceeds neither the effective cruise, nor 88 percent of v_E, nor the cap of a zone either car stands in (R74,
R75, R195). For a run in a moving phase with the sequence in MOVING, the reference is the least of the ramp, the cruise, the
look-ahead, the stop and the envelope terms, 0 where R76 says so, with the cruise lowered in steps under a confidence cap (R68,
R74 to R76); the phase follows by R77, a hold taken making it BRAKING; and a sample in BRAKING that finds it 0 with STILL set
starts the stop sequence, both release outputs off and TEN kept (R78, R104). While that sequence runs it is 0 (R78). A
hold taken at the very sample makes the run BRAKING at once, and gives the ASAP ramp from the next sample: the stop term of this
one is that of the stop point it found (R77, R84). That the holds of a sample come before its reference is log 5 (DEDUCED). -/
def Obligations.SpeedReferenceIsBounded : Prop :=
  (∀ (dt : Time) (s t : State), exec (.positionSample dt) s = .next t → t.drive.lastRef ≠ 0 →
    t.brk.ten = true ∧ ∃ r, t.plan.run = some r ∧ r.state.moving = true ∧
      0 < t.drive.lastRef * r.dir.sign ∧ t.drive.lastRef.natAbs ≤ r.cruise ∧
      100 * t.drive.lastRef.natAbs ≤ 88 * t.sup.vE t.trk.xA ∧
      t.drive.lastRef.natAbs ≤ (t.geo.zone t.trk.xA).cap ∧ t.drive.lastRef.natAbs ≤ (t.geo.zone t.trk.xB).cap) ∧
  (∀ (dt : Time) (tb : Tables) (r r' : Run) (d : RunDyn) (s t : State), exec (.positionSample dt) s = .next t →
    s.geo.committed = some tb → s.plan.run = some r → r.state.moving = true → r.dyn = some d →
    t.plan.run = some r' → r'.state.moving = true →
    let cap := fun q : Int => (lookupZone tb.zones tb.line.defaultCap q).cap
    let edges := fun c : Car =>
      let y := t.trk.pos c
      let ends := (tb.zones.filter (fun z => z.enabled)).flatMap (fun z => [z.start, z.stop])
      if (c = .A ↔ r.dir = .up) then ends.filter (fun q => decide (y < q ∧ q ≤ y + 200000))
      else (ends.map (fun q => q - 1)).filter (fun q => decide (y - 200000 ≤ q ∧ q < y))
    let caps := fun c : Car => cap (t.trk.pos c) ::
      (edges c).map (fun q => isqrt (cap q * cap q + 2 * d.aSvc * (q - t.trk.pos c).natAbs))
    let capped := (t.trk.conf = .referenced ∨ t.trk.conf = .degraded) ∧ 3000 < r.cruise
    let ramp := match r.releaseTime with
      | some t0 => d.aAcc * elapsed t0 (s.now + dt) / 1000
      | none => 0
    let envelope := 88 * t.sup.vE t.trk.xA / 100
    let stopAt := match r.stop with
      | .watch _ x => x
      | _ => r.pA
    let dist := (stopAt - t.trk.xA) * r.dir.sign
    let stop := match r.stop with
      | .asap vh since => vh - d.aSvc * elapsed since (s.now + dt) / 1000
      | _ => max 300 (isqrt (2 * d.aSvc * dist.toNat))
    let zero := if r.stop.isAsap = true then stop = 0 else dist ≤ 100
    let held := r'.stop ≠ r.stop
    r'.cruise = (if capped then max 3000 (r.cruise - d.aSvc / 100) else r.cruise) ∧
    (s.brk.seq ≠ .moving → t.plan.ref = 0) ∧
    (s.brk.seq = .moving → ∃ look v : Nat,
      look ∈ caps .A ++ caps .B ∧ (∀ m ∈ caps .A ++ caps .B, look ≤ m) ∧
      v = (if zero then 0 else min ramp (min r'.cruise (min look (min stop envelope)))) ∧
      t.plan.ref = v * r.dir.sign ∧
      (let stops := zero ∨ (stop ≤ ramp ∧ stop ≤ r'.cruise ∧ stop ≤ look ∧ stop ≤ envelope)
       let ramps := ramp < r'.cruise ∧ ramp < look ∧ ramp < stop ∧ ramp < envelope
       (held ∨ stops ∨ r.state = .braking → r'.state = .braking) ∧
       (¬held → ¬stops → r.state = .cruising → r'.state = .cruising) ∧
       (¬held → ¬stops → r.state = .accelerating → r'.state = (if ramps then .accelerating else .cruising))) ∧
      (let rests := (held ∨ r.state = .braking) ∧ v = 0 ∧ t.trk.still = true
       (rests → s.brk.watch = none → s.brk.sbr = true → s.brk.ebr = true →
        t.brk = { s.brk with
          sbr := false, ebr := false, seq := .stopWait
          service := if s.brk.confirmedApplied .service then ⟨.applied, none⟩ else ⟨.applying, some (s.now + dt)⟩
          sheave := if s.brk.confirmedApplied .sheave then ⟨.applied, none⟩ else ⟨.applying, some (s.now + dt)⟩ }) ∧
       (¬rests → s.brk.watch = none → t.brk = s.brk))))

/-! ### Brakes, trips and sequences -/

/-- CONTACT_CHANGE records the reading of its contact alone. The last release confirmation of a start enters MOVING and makes
the run ACCELERATING with its release time; the last apply confirmation of a stop drops TEN and ends the stop: at the
target the run closes ARRIVED with its stop error (R79, R98, R102, R104), and each car whose station of the halt has its
auto-release flag set has those of its doors released that R121 grants, compartment by compartment (R124). -/
def Obligations.ContactChangesMoveSequences : Prop :=
  ∀ (dt : Time) (k : Contact) (closed : Bool) (s : State),
    let b := s.brk.contact k closed
    let i := contactBrake k
    (∃ t : State, exec (.contactChange dt k closed) s = .next t.transmit ∧
      t.brk.sbApplied = (if k = .sbApplied then closed else s.brk.sbApplied) ∧
      t.brk.sbReleased = (if k = .sbReleased then closed else s.brk.sbReleased) ∧
      t.brk.ebApplied = (if k = .ebApplied then closed else s.brk.ebApplied) ∧
      t.brk.ebReleased = (if k = .ebReleased then closed else s.brk.ebReleased) ∧
      t.geo = s.geo ∧ t.trk = s.trk ∧ t.links = s.links ∧ t.ctl = s.ctl ∧ t.line.loops = s.line.loops ∧
      t.line.mode = s.line.mode) ∧
    (∀ r : Run, s.brk.seq = .releaseWait → s.plan.run = some r → r.state = .starting → r.pendingStop = none →
      (s.brk.record i).state = .releasing → (∀ j, j ≠ i → (s.brk.record j).state = .released) →
      b.confirmedReleased i = true →
      ∃ t : State, exec (.contactChange dt k closed) s = .next t.transmit ∧ t.brk.seq = .moving ∧
        t.brk.sbr = s.brk.sbr ∧ t.brk.ebr = s.brk.ebr ∧ t.brk.ten = s.brk.ten ∧
        t.brk.service.state = .released ∧ t.brk.sheave.state = .released ∧
        t.plan.run = some { r with releaseTime := some (s.now + dt), leaving := none, state := .accelerating } ∧
        t.line.conds.driveStart = false ∧ t.sup = s.sup ∧ t.doors = s.doors ∧ t.drive = s.drive) ∧
    (∀ r : Run, s.brk.seq = .stopWait → s.plan.run = some r → r.state = .braking →
      (s.brk.record i).state = .applying → (∀ j, j ≠ i → (s.brk.record j).state = .applied) →
      b.confirmedApplied i = true →
      ∃ t : State, exec (.contactChange dt k closed) s = .next t.transmit ∧ t.brk.seq = .rest ∧ t.brk.ten = false ∧
        t.brk.service.state = .applied ∧ t.brk.sheave.state = .applied ∧ t.drive.timer = none ∧
        t.sup.trip = s.sup.trip ∧
        (r.stop = .target → t.plan.run = none ∧
          t.plan.lastRun = some ⟨r.id, r.target, .arrived, .arrived, some (s.trk.xA - r.pA)⟩ ∧ t.sup.env = none) ∧
        (r.stop ≠ .target → t.doors = s.doors) ∧
        (r.stop = .target → ∀ c : Car,
          let auto := ∃ x, s.geo.halt? r.target = some x ∧
            (match c with | .A => x.stationA.autoRelease | .B => x.stationB.autoRelease) = true
          let zone := fun i : Ix4 => s.geo.zone (s.doorPos ⟨c, i⟩)
          let mayOpen := fun i : Ix4 => (s.doors.door ⟨c, i⟩).release = false ∧ s.trk.still = true ∧
            (s.links.get c).state = .live ∧ s.line.atStop.isSome = true ∧ (s.doors.door ⟨c, i⟩).isolated = false ∧
            (zone i).release = true ∧ (zone i).side.isSome = true
          let granted := fun i : Ix4 => auto ∧ mayOpen i ∧ t.doors.side.get c = (zone i).side
          (∀ i, granted i → t.doors.door ⟨c, i⟩ =
            { s.doors.door ⟨c, i⟩ with release := true, close := none, reopen := none, attempts := 0 }) ∧
          (∀ i, ¬granted i → t.doors.door ⟨c, i⟩ = s.doors.door ⟨c, i⟩) ∧
          ((s.doors.side.get c).isSome = true → t.doors.side.get c = s.doors.side.get c) ∧
          (∀ i, s.doors.side.get c = none → auto → mayOpen i → (∀ j, j.index < i.index → ¬mayOpen j) →
            t.doors.side.get c = (zone i).side) ∧
          (s.doors.side.get c = none → (¬auto ∨ ∀ i, ¬mayOpen i) → t.doors.side.get c = none) ∧
          ((∃ i, granted i) → (t.tally.get c).departure = none ∧
            ((t.tally.get c).window.isSome = true → (t.tally.get c).released = true))) ∧
        (∀ vh since, r.stop = .asap vh since → r.holdCause ≠ some .cancel →
          t.plan.run = some { r with state := .holding, resumeTarget := some r.target }) ∧
        (∀ vh since, r.stop = .asap vh since → r.holdCause = some .cancel → t.plan.run = none ∧
          t.plan.lastRun = some ⟨r.id, r.target, .cancelled, .cancelRequest, none⟩) ∧
        (∀ n x, r.stop = .watch n x →
          t.plan.run = some { r with state := .holding, holdCause := some (.watch n), resumeTarget := some r.target } ∧
          t.plan.watches = s.plan.watches.set n
            { s.plan.watches.get n with
              enabled := (s.plan.watches.get n).enabled && (s.plan.watches.get n).keep }))

/-- A confirm timer that is due makes its brake FAILED (R99): at rest that is recorded, in RELEASE_WAIT the start aborts with
the release outputs dropped and TEN kept, in STOP_WAIT and ABORT_WAIT it is an EMERGENCY BRAKE_APPLY (R103, R104), and a sheave
brake that fails while the escalation watch runs escalates the trip to the track brakes (R110, R112). A track brake's timer
makes its record FAILED, a RELEASE returning to HOLD (R100). A timer that is not due moves no record, nor does one that does
not run: the model's choice (log 2), said of the service and the sheave brake where no failure waits to be acted on. That the
watch stops at the failed sheave brake also where the highest level is TRACK already is log 17 (DESIGN CHOICE, R110 against
R112). -/
def Obligations.BrakeTimersFailBrakes : Prop :=
  (∀ (dt : Time) (i : BrakeId) (s : State),
    let r := s.brk.record i
    let span := if r.state = .releasing then 1500 else 800
    let due := (r.state = .releasing ∨ r.state = .applying) ∧ ∃ t0, r.timer = some t0 ∧ span ≤ elapsed t0 (s.now + dt)
    (due → s.brk.seq = .rest → (s.brk.watch = none ∨ i = .service ∧ s.brk.sheave.state ≠ .failed) →
      ∃ t : State, exec (.brakeTimerExpiry dt i) s = .next t.transmit ∧
      t.brk = s.brk.setRecord i ⟨.failed, none⟩ ∧ t.line.conds.brakeFailed = s.trk.still ∧
      t.plan = s.plan ∧ t.sup = s.sup ∧ t.geo = s.geo ∧ t.trk = s.trk ∧ t.doors = s.doors ∧ t.links = s.links ∧
      t.drive = s.drive ∧ t.ctl = s.ctl) ∧
    (due → s.brk.seq = .releaseWait → s.brk.sbr = true → s.brk.ebr = true → s.brk.watch = none →
      s.brk.confirmedApplied i = false → ∃ t : State, exec (.brakeTimerExpiry dt i) s = .next t.transmit ∧
        t.brk.seq = .abortWait ∧ t.brk.abort = some (.brakeRelease false) ∧ t.brk.sbr = false ∧ t.brk.ebr = false ∧
        t.brk.ten = s.brk.ten ∧ t.plan = s.plan ∧ t.sup = s.sup ∧ t.doors = s.doors) ∧
    (due → (s.brk.seq = .stopWait ∨ s.brk.seq = .abortWait) → s.brk.watch = none →
      ∃ t : State, exec (.brakeTimerExpiry dt i) s = .next t.transmit ∧
      t.brk.dropped ∧ (∃ x, t.sup.trip = some x ∧
        (s.sup.trip = none → x.cause = .brakeApply (if s.brk.service.state = .failed then .service else i)) ∧
        (i = .sheave → s.brk.ebr = false → x.highest.isSome = true ∧ ∀ c : Car, (t.brk.track.get c).cmd = .apply)) ∧
      ∀ run, s.plan.run = some run → ∃ run', t.plan.run = some run' ∧ run'.state = .tripped) ∧
    (due → i = .sheave → s.brk.watch.isSome = true → s.brk.seq = .rest →
      ∃ t : State, exec (.brakeTimerExpiry dt i) s = .next t.transmit ∧
      t.brk = { s.brk with sheave := ⟨.failed, none⟩, watch := none, track := t.brk.track } ∧
      t.sup.trip = s.sup.trip.map (fun x => { x with highest := x.highest.or (some .sheaveApply) }) ∧
      t.line.conds.trackBrake = true ∧
      (∀ c : Car, (t.brk.track.get c).cmd = .apply ∧
        ((s.brk.track.get c).state = some .applied → (t.brk.track.get c).state = some .applied) ∧
        ((∀ x, s.sup.trip = some x → x.highest = none) → (s.brk.track.get c).state ≠ some .applied →
          t.brk.track.get c = ⟨.apply, some .applying, some (s.now + dt)⟩)) ∧
      t.plan = s.plan ∧ t.geo = s.geo ∧ t.trk = s.trk ∧ t.doors = s.doors ∧ t.links = s.links) ∧
    (¬due → s.brk.watch = none ∨ s.brk.sheave.state ≠ .failed →
      (s.brk.seq = .rest ∨ s.brk.seq = .torqueWait ∨ s.brk.seq = .moving ∨
        s.brk.failed = false ∧ (r.state = .releasing ∨ r.state = .applying)) →
      ∃ t : State, exec (.brakeTimerExpiry dt i) s = .next t.transmit ∧ t.brk = s.brk ∧ t.plan = s.plan ∧ t.sup = s.sup ∧
        t.geo = s.geo ∧ t.trk = s.trk ∧ t.doors = s.doors ∧ t.links = s.links ∧ t.drive = s.drive ∧ t.ctl = s.ctl)) ∧
  (∀ (dt : Time) (c : Car) (s : State), ∃ t : State, exec (.trackBrakeTimerExpiry dt c) s = .next t.transmit ∧
    (∀ t0, (s.brk.track.get c).timer = some t0 →
      ((s.brk.track.get c).cmd = .apply → 800 ≤ elapsed t0 (s.now + dt) →
        t.brk.track.get c = ⟨.apply, some .failed, none⟩) ∧
      ((s.brk.track.get c).cmd = .release → 1500 ≤ elapsed t0 (s.now + dt) →
        t.brk.track.get c = ⟨.hold, some .failed, none⟩) ∧
      ((s.brk.track.get c).cmd = .apply → elapsed t0 (s.now + dt) < 800 →
        t.brk.track.get c = s.brk.track.get c) ∧
      ((s.brk.track.get c).cmd = .release → elapsed t0 (s.now + dt) < 1500 →
        t.brk.track.get c = s.brk.track.get c)) ∧
    ((s.brk.track.get c).timer = none ∨ (s.brk.track.get c).cmd = .hold →
      t.brk.track.get c = s.brk.track.get c) ∧
    t.brk.track.get c.other = s.brk.track.get c.other ∧
    t.line.conds.trackBrake = t.brk.trackAlarm ∧
    t.brk.sbr = s.brk.sbr ∧ t.brk.ebr = s.brk.ebr ∧ t.brk.ten = s.brk.ten ∧ t.brk.seq = s.brk.seq ∧
    t.geo = s.geo ∧ t.trk = s.trk ∧ t.sup = s.sup ∧ t.plan = s.plan ∧ t.doors = s.doors ∧ t.gates = s.gates ∧
    t.tally = s.tally ∧ t.links = s.links ∧ t.drive = s.drive ∧ t.ctl = s.ctl)

/-- The torque timer that is due in TORQUE_WAIT drops TEN and fails the start with reason DRIVE: a run that left PLANNED goes
back there with its wait afresh, one that was resumed goes back to HOLDING, and one with CANCEL pending closes (R73, R101).
That the run that goes back to PLANNED keeps its highest band is log 35 (DEDUCED). An expiry that is not due, or that finds no
timer or another sequence state, changes nothing: the model's choice (log 2). -/
def Obligations.TorqueTimeoutFailsStart : Prop :=
  (∀ (dt : Time) (s : State), s.brk.torque = none ∨ s.brk.seq ≠ .torqueWait →
    exec (.torqueTimeout dt) s = .next ((s.advance dt).ended s.pending)) ∧
  ∀ (dt : Time) (r : Run) (t0 : Time) (s : State), s.plan.run = some r → r.state = .starting →
    s.brk.torque = some t0 →
    (s.brk.seq = .torqueWait → 2000 ≤ elapsed t0 (s.now + dt) → ∃ t : State, exec (.torqueTimeout dt) s = .next t.transmit ∧
      t.brk.ten = false ∧ t.brk.seq = .rest ∧ t.brk.torque = none ∧ t.brk.sbr = s.brk.sbr ∧ t.brk.ebr = s.brk.ebr ∧
      t.line.conds.driveStart = true ∧ t.drive.timer = none ∧ t.sup.trip = s.sup.trip ∧
      (r.pendingStop = some .cancel → t.plan.run = none ∧
        t.plan.lastRun = some ⟨r.id, r.target, .cancelled, .cancelRequest, none⟩) ∧
      (r.pendingStop ≠ some .cancel → r.leaving = none →
        t.plan.run = some { r with state := .planned, planTime := s.now + dt, dyn := none, pendingStop := none } ∧
        t.sup.env = none ∧ ∀ c : Car, (t.tally.get c).frozen = none) ∧
      (∀ l, r.pendingStop ≠ some .cancel → r.leaving = some l →
        t.plan.run = some { r with state := .holding, holdCause := l.cause, resumeTarget := l.resumeTarget,
                                   stop := l.stop, releaseTime := none, pendingStop := none, leaving := none } ∧
        t.sup = s.sup ∧ t.tally = s.tally) ∧
      t.geo = s.geo ∧ t.trk = s.trk ∧ t.doors = s.doors ∧ t.links = s.links ∧ t.ctl = s.ctl) ∧
    (s.brk.seq ≠ .torqueWait ∨ elapsed t0 (s.now + dt) < 2000 →
      exec (.torqueTimeout dt) s = .next ((s.advance dt).ended s.pending))

/-- An e-stop loop that opens in motion is an EMERGENCY ESTOP n; at rest it closes a PLANNED run with reason ESTOP and
otherwise only sets its state; a loop that closes, or stays, only sets its state (R71, R107). The emergency starts the
escalation watch with its figures unless it runs, and escalates to the track brakes at once where the sheave brake is FAILED
with its output off, or the rope is stretched (R110 to R112). That SHEAVE_APPLY is found before ROPE, and so is the cause
recorded where both hold, and that an escalation found with the highest level TRACK already stops the watch too, are log 17
(DESIGN CHOICE). -/
def Obligations.EstopLoopsTripOrClose : Prop :=
  ∀ (dt : Time) (n : Ix4) (s : State),
    (exec (.estopChange dt n true) s = .next
      (({ s.advance dt with line := { s.line with loops := s.line.loops.set n true } }).ended s.pending)) ∧
    (s.line.loops.get n = false → exec (.estopChange dt n false) s = .next ((s.advance dt).ended s.pending)) ∧
    (s.line.loops.get n = true → s.carsMoving = true → ∃ t : State, exec (.estopChange dt n false) s = .next t.transmit ∧
      t.line.loops = s.line.loops.set n false ∧ t.brk.dropped ∧
      (∃ x, t.sup.trip = some x ∧ (s.sup.trip = none → x.cause = .estop n ∧ x.later = 0) ∧
        (∀ y, s.sup.trip = some y → x.cause = y.cause ∧ x.later = (if y.later < 255 then y.later + 1 else 255))) ∧
      (∀ r, s.plan.run = some r → ∃ r', t.plan.run = some r' ∧ r'.state = .tripped ∧ r'.id = r.id) ∧
      (let slack := s.brk.ebr = false ∧ s.brk.sheave.state = .failed
       (¬slack → s.trk.stretch = false →
        (∀ w, s.brk.watch = some w → t.brk.watch = some w) ∧
        (∀ e, s.brk.watch = none → s.sup.band.last = some e → ∃ a, t.brk.watch = some ⟨s.now + dt, e.v.natAbs, a⟩ ∧
          (∀ env, s.sup.env = some env → a = env.aGuar) ∧
          (∀ tb, s.sup.env = none → s.geo.committed = some tb → a = tb.braking.aMin) ∧
          (s.sup.env = none → s.geo.committed = none → a = 200)) ∧
        t.brk.track = s.brk.track ∧
        (∀ x, s.sup.trip = none → t.sup.trip = some x → x.highest = none ∧ x.track = false)) ∧
       (slack ∨ s.trk.stretch = true → t.brk.watch = none ∧ (∀ c : Car, (t.brk.track.get c).cmd = .apply) ∧
        ∀ x, t.sup.trip = some x → x.highest.isSome = true ∧
          (s.sup.trip = none → x.track = true ∧ x.highest = some (if slack then .sheaveApply else .rope)))) ∧
      t.geo = s.geo ∧ t.trk = s.trk ∧ t.doors = s.doors ∧ t.links = s.links ∧ t.ctl = s.ctl) ∧
    (s.line.loops.get n = true → s.carsMoving = false →
      (∀ r, s.plan.run = some r → r.state ≠ .planned) →
      exec (.estopChange dt n false) s = .next
        (({ s.advance dt with line := { s.line with loops := s.line.loops.set n false } }).ended s.pending)) ∧
    (∀ r, s.line.loops.get n = true → s.carsMoving = false → s.plan.run = some r → r.state = .planned →
      ∃ t : State, exec (.estopChange dt n false) s = .next t.transmit ∧ t.line.loops = s.line.loops.set n false ∧
        t.plan.run = none ∧ t.plan.lastRun = some ⟨r.id, r.target, .cancelled, .estop, none⟩ ∧
        t.sup.trip = s.sup.trip ∧ t.brk = s.brk ∧ t.geo = s.geo ∧ t.trk = s.trk ∧ t.doors = s.doors ∧
        t.links = s.links ∧ t.ctl = s.ctl)

/-- CLEAR_TRIP at standstill with both brakes APPLIED and TEN off clears the record, stops the watch and closes a TRIPPED
run; before that it is refused with the first reason that applies. RELEASE_TRACK_BRAKES commands RELEASE to each car
whose track brake is to be released, or is refused with the first reason of KEY, MOTION, TRIP and LINK that applies (R113,
R114). -/
def Obligations.TripsAreCleared : Prop :=
  (∀ (h : ReqHead) (s : State), Taken s h .clearTrip →
    (s.sup.trip = none → exec (.clearTrip h) s = answered s h (s.advance h.dt) ⟨.state, [.code 12]⟩) ∧
    (∀ x, s.sup.trip = some x →
      (s.trk.still = false → exec (.clearTrip h) s = answered s h (s.advance h.dt) ⟨.state, [.code 2]⟩) ∧
      (s.trk.still = true → s.brk.both .applied = false →
        exec (.clearTrip h) s = answered s h (s.advance h.dt) ⟨.state, [.code 7]⟩) ∧
      (s.trk.still = true → s.brk.both .applied = true → s.brk.ten = true →
        exec (.clearTrip h) s = answered s h (s.advance h.dt) ⟨.state, [.code 13]⟩) ∧
      (s.trk.still = true → s.brk.both .applied = true → s.brk.ten = false →
        ∃ t : State, exec (.clearTrip h) s = .next t.transmit ∧ t.sup.trip = none ∧ t.sup.env = none ∧
          t.brk = { s.brk with watch := none } ∧ t.line.conds.tripValid = false ∧
          (∀ r, s.plan.run = some r → r.state = .tripped → t.plan.run = none ∧
            t.plan.lastRun = some ⟨r.id, r.target, .tripped, .emergency x.cause, none⟩ ∧
            ∀ c : Car, (t.tally.get c).frozen = none) ∧
          (s.plan.run = none → t.plan = s.plan ∧ t.tally = s.tally) ∧
          t.ctl = ((s.advance h.dt).replied h.port ⟨.done, []⟩).ctl ∧
          t.geo = s.geo ∧ t.trk = s.trk ∧ t.doors = s.doors ∧ t.links = s.links ∧ t.drive = s.drive))) ∧
  (∀ (h : ReqHead) (s : State), Taken s h .releaseTrackBrakes →
    let due := fun c : Car => (s.brk.track.get c).cmd = .apply ∨
      (s.brk.track.get c).state ∈ [some BrakeState.applied, some .applying, some .failed]
    let refused := fun n : Nat => exec (.releaseTrackBrakes h) s = answered s h (s.advance h.dt) ⟨.state, [.code n]⟩
    (s.line.key = false → refused 4) ∧
    (s.line.key = true → s.trk.still = false → refused 2) ∧
    (s.line.key = true → s.trk.still = true → s.sup.trip.isSome = true → refused 5) ∧
    (s.line.key = true → s.trk.still = true → s.sup.trip = none →
      (∃ c, due c ∧ (s.links.get c).state ≠ .live) → refused 9) ∧
    (s.line.key = true → s.trk.still = true → s.sup.trip = none →
      (∀ c, due c → (s.links.get c).state = .live) →
      ∃ t : State, exec (.releaseTrackBrakes h) s = .next t.transmit ∧
        (∀ c, due c → t.brk.track.get c = ⟨.release, some .releasing, some (s.now + h.dt)⟩) ∧
        (∀ c, ¬due c → t.brk.track.get c = s.brk.track.get c) ∧
        (∃ body, t.ctl = ((s.advance h.dt).replied h.port ⟨.done, body⟩).ctl) ∧
        t.line.conds.trackBrake = t.brk.trackAlarm ∧
        t.brk.sbr = s.brk.sbr ∧ t.brk.ebr = s.brk.ebr ∧ t.brk.ten = s.brk.ten ∧ t.brk.seq = s.brk.seq ∧
        t.geo = s.geo ∧ t.trk = s.trk ∧ t.sup = s.sup ∧ t.plan = s.plan ∧ t.doors = s.doors ∧
        t.gates = s.gates ∧ t.tally = s.tally ∧ t.links = s.links ∧ t.drive = s.drive))

/-- A valid trip record keeps its cause, level and figures until CLEAR_TRIP or power-on, whatever happens; a highest level
of TRACK keeps its escalation cause (R108, R109). -/
def Obligations.TripRecordIsKept : Prop :=
  ∀ (c : Instr) (x : TripRec) (s t : State), exec c s = .next t → s.sup.trip = some x →
    (t.sup.trip = none ∧ ((∃ h, c = .clearTrip h) ∨ ∃ pins, c = .powerOn pins)) ∨
    (∃ y, t.sup.trip = some y ∧ y.cause = x.cause ∧ y.track = x.track ∧ y.fig = x.fig ∧
      (x.highest.isSome = true → y.highest = x.highest))

/-- The event that writes a trip record ends with SBR, EBR and TEN de-energised, no sequence running, an escalation watch
started or stopped by an escalation, and the run IDLE or TRIPPED (R89, R106, R108). -/
def Obligations.NewTripDropsOutputs : Prop :=
  ∀ (c : Instr) (x : TripRec) (s t : State), exec c s = .next t → s.sup.trip = none → t.sup.trip = some x →
    t.brk.dropped ∧ (∀ r, t.plan.run = some r → r.state = .tripped) ∧
      (s.brk.watch = none → t.brk.watch.isSome = true ∨ x.highest.isSome = true)

/-- Every step keeps the outputs, the sequence and the run together: no release output without TEN, both or none, and each
sequence state with its run states (R97, R101 to R104). -/
def Obligations.SequenceIsKept : Prop :=
  ∀ s t : State, s.SequenceOk → step s = .next t → t.SequenceOk

/-- A release output goes from de-energised to energised only in an event that leaves both energised under TEN, and finds
every door LOCKED or isolated (R97, R102). -/
def Obligations.BrakesReleaseBehindLockedDoors : Prop :=
  ∀ (c : Instr) (s t : State), exec c s = .next t → s.SequenceOk →
    (s.brk.sbr = false ∧ t.brk.sbr = true ∨ s.brk.ebr = false ∧ t.brk.ebr = true) →
    t.brk.sbr = true ∧ t.brk.ebr = true ∧ t.brk.ten = true ∧ s.doors.allLocked = true ∧
      ∃ dt bytes, c = .driveStatusFrame dt bytes

/-- No step leaves a door commanded RELEASE while the run is not IDLE, STILL is clear or TEN is energised (R125). -/
def Obligations.NoDoorReleasedInMotion : Prop :=
  ∀ s t : State, s.DoorsOk → step s = .next t → t.DoorsOk

/-- Every step keeps the severity memory at or above the level of every condition present (R182). -/
def Obligations.SeverityMemoryCoversConditions : Prop :=
  ∀ s t : State, s.SeverityOk → step s = .next t → t.SeverityOk

/-- Every step keeps the room of the notice queue, the reply lists and the request queues, the lengths of the speed
window, the standstill count, the sent lists and the valid streaks, and the recent-ticket list at 128 entries at most with
each ticket once; and in UNKNOWN and LOST no car expects a marker or counts a miss (R22, R23, R26, R156, R189, R191, R202, R207). -/
def Obligations.ListsKeepTheirRoom : Prop :=
  (∀ s t : State, s.QueuesOk → step s = .next t → t.QueuesOk) ∧
  (∀ s t : State, s.CountsOk → step s = .next t → t.CountsOk) ∧
  (∀ s t : State, s.ExpectationsOk → step s = .next t → t.ExpectationsOk) ∧
  (∀ s t : State, s.TicketsOk → step s = .next t → t.TicketsOk)

/-! ### Doors, gates, links and the drive -/

/-- RELEASE_DOORS commands RELEASE to exactly the named doors that R121 grants, in the order of R121: every condition
holds, and the side of the door's zone is the car's release side, which the first granted door of a car sets. The tally
takes a release event for each car with a granted door (R120 to R123, R166). -/
def Obligations.ReleaseDoorsGrantsDoors : Prop :=
  ∀ (h : ReqHead) (cars comps : Nat) (s : State), Taken s h (.releaseDoors cars comps) →
    (s.line.mode = .unconfigured →
      exec (.releaseDoors h cars comps) s = answered s h (s.advance h.dt) ⟨.mode, []⟩) ∧
    (s.line.mode ≠ .unconfigured → ∃ t body, exec (.releaseDoors h cars comps) s = .next (State.transmit t) ∧
      let side := fun x : Door => (s.geo.zone (s.doorPos x)).side
      let mayOpen := fun x : Door =>
        cars.testBit x.car.code = true ∧ comps.testBit x.comp.index = true ∧
          (s.doors.door x).release = false ∧ s.mayRelease x ∧ (side x).isSome = true
      let granted := fun x : Door => mayOpen x ∧ t.doors.side.get x.car = side x
      (∀ x, granted x → t.doors.door x =
        { s.doors.door x with release := true, close := none, reopen := none, attempts := 0 }) ∧
      (∀ x, ¬granted x → t.doors.door x = s.doors.door x) ∧
      (∀ c : Car, (s.doors.side.get c).isSome = true → t.doors.side.get c = s.doors.side.get c) ∧
      (∀ x, s.doors.side.get x.car = none → mayOpen x →
        (∀ y, y.car = x.car → y.comp.index < x.comp.index → ¬mayOpen y) → t.doors.side.get x.car = side x) ∧
      (∀ c : Car, s.doors.side.get c = none → (∀ x, x.car = c → ¬mayOpen x) → t.doors.side.get c = none) ∧
      (∀ c : Car, (∃ x, x.car = c ∧ granted x) →
        (t.tally.get c).departure = none ∧
        (t.tally.get c).released = ((s.tally.get c).released || (s.tally.get c).window.isSome)) ∧
      (∀ c : Car, (∀ x, x.car = c → ¬granted x) → t.tally.get c = s.tally.get c) ∧
      t.ctl = ((s.advance h.dt).replied h.port ⟨.done, body⟩).ctl ∧
      s.sameMotion t ∧ t.gates = s.gates ∧ t.links = s.links ∧ t.line.mode = s.line.mode ∧
      t.line.atStop = s.line.atStop ∧ t.line.loops = s.line.loops ∧ t.line.key = s.line.key)

/-- LOCK_DOORS acts on each door of the named cars by the table of R126 and closes the gates of the stations in the gate close
lead (R130, R149); ISOLATE_DOOR and RESTORE_DOOR act with the key on at standstill (R131 to R133). That the gate close lead
takes the serving car as it stands in this event is log 69 (DESIGN CHOICE), and that SHUT may join an outbox of two as its
third command is log 84 (DESIGN CHOICE). -/
def Obligations.DoorsLockAndIsolate : Prop :=
  let lock := fun (d : DoorRec) (now : Time) =>
    if d.isolated = true then d
    else if d.release = false ∧ d.close.isSome = true then d
    else if d.reported = .locked ∧ d.reopen = none then { d with release := false }
    else { d with release := false, reopen := none, attempts := 0, close := some now }
  let isolate := fun (d : DoorRec) =>
    { d with isolated := true, release := false, close := none, reopen := none, attempts := 0, failed := false }
  let atRest := fun (d : DoorRec) => d.release = false ∧ (d.isolated = true ∨ d.reported = .locked)
  (∀ (h : ReqHead) (cars : Nat) (s : State), Taken s h (.lockDoors cars) →
    ∃ t body, exec (.lockDoors h cars) s = .next (State.transmit t) ∧
      let named := fun c : Car => cars.testBit c.code = true
      let leads := fun g : Gate => ∃ c st, named c ∧ st ∈ s.geo.stations ∧ st.number = g.station ∧
        (s.trk.pos c - st.stopPos).natAbs ≤ 300 ∧ (s.servingOf g.station = some c ∨ s.servingOf g.station = none)
      (∀ x : Door, named x.car → t.doors.door x = lock (s.doors.door x) (s.now + h.dt)) ∧
      (∀ x : Door, ¬named x.car → t.doors.door x = s.doors.door x) ∧
      (∀ c, named c → (∀ x : Door, x.car = c → atRest (t.doors.door x)) → t.doors.side.get c = none) ∧
      (∀ c, (¬named c ∨ ∃ x : Door, x.car = c ∧ ¬atRest (t.doors.door x)) →
        t.doors.side.get c = s.doors.side.get c) ∧
      t.gates.gates.length = s.gates.gates.length ∧
      (∀ (i : Nat) (g g' : Gate), s.gates.gates[i]? = some g → t.gates.gates[i]? = some g' →
        (leads g → g.state = .opened → g' = { g with state := .closed, outbox := putLeaf .shut g.outbox }) ∧
        (leads g → g.state = .passing → g' = { g with closePending := true }) ∧
        (¬leads g ∨ (g.state ≠ .opened ∧ g.state ≠ .passing) → g' = g)) ∧
      t.ctl = ((s.advance h.dt).replied h.port ⟨.done, body⟩).ctl ∧
      s.sameMotion t ∧ t.tally = s.tally ∧ t.links = s.links ∧ t.line.mode = s.line.mode ∧
      t.line.conds = s.line.conds ∧ t.line.memory = s.line.memory) ∧
  (∀ (h : ReqHead) (n : Nat) (s : State), Taken s h (.isolateDoor n) →
    (Door.ofCode? n = none → exec (.isolateDoor h n) s = answered s h (s.advance h.dt) ⟨.range, []⟩) ∧
    (∀ x, Door.ofCode? n = some x →
      (s.line.key = false →
        exec (.isolateDoor h n) s = answered s h (s.advance h.dt) ⟨.state, [.code 4]⟩) ∧
      (s.line.key = true → s.trk.still = false →
        exec (.isolateDoor h n) s = answered s h (s.advance h.dt) ⟨.state, [.code 2]⟩) ∧
      (s.line.key = true → s.trk.still = true → (s.doors.door x).isolated = true →
        exec (.isolateDoor h n) s = answered s h (s.advance h.dt) ⟨.done, []⟩) ∧
      (s.line.key = true → s.trk.still = true → (s.doors.door x).isolated = false →
        ∃ t : State, exec (.isolateDoor h n) s = .next t.transmit ∧
          t.doors.door x = isolate (s.doors.door x) ∧
          (∀ y, y ≠ x → t.doors.door y = s.doors.door y) ∧
          ((∀ y : Door, y.car = x.car → atRest (t.doors.door y)) → t.doors.side.get x.car = none) ∧
          t.line.conds.doorIsolated = true ∧
          (t.line.conds.closeFailed = true ↔ ∃ y, (t.doors.door y).failed = true) ∧
          t.ctl = ((s.advance h.dt).replied h.port ⟨.done, []⟩).ctl ∧
          s.sameMotion t ∧ t.gates = s.gates ∧ t.tally = s.tally ∧ t.links = s.links))) ∧
  (∀ (h : ReqHead) (n : Nat) (s : State), Taken s h (.restoreDoor n) →
    (Door.ofCode? n = none → exec (.restoreDoor h n) s = answered s h (s.advance h.dt) ⟨.range, []⟩) ∧
    (∀ x, Door.ofCode? n = some x →
      (s.line.key = false →
        exec (.restoreDoor h n) s = answered s h (s.advance h.dt) ⟨.state, [.code 4]⟩) ∧
      (s.line.key = true → s.trk.still = false →
        exec (.restoreDoor h n) s = answered s h (s.advance h.dt) ⟨.state, [.code 2]⟩) ∧
      (s.line.key = true → s.trk.still = true → (s.doors.door x).isolated = false →
        exec (.restoreDoor h n) s = answered s h (s.advance h.dt) ⟨.done, []⟩) ∧
      (s.line.key = true → s.trk.still = true → (s.doors.door x).isolated = true →
        ∃ t : State, exec (.restoreDoor h n) s = .next t.transmit ∧
          t.doors.door x =
            lock { s.doors.door x with isolated := false, release := false } (s.now + h.dt) ∧
          (∀ y, y ≠ x → t.doors.door y = s.doors.door y) ∧
          (t.line.conds.doorIsolated = true ↔ ∃ y, (t.doors.door y).isolated = true) ∧
          t.ctl = ((s.advance h.dt).replied h.port ⟨.done, []⟩).ctl ∧
          s.sameMotion t ∧ t.gates = s.gates ∧ t.tally = s.tally ∧ t.links = s.links)))

/-- The expiry of a reopen timer takes its door back to LOCK; that of a close timer ends the close operation, with CLOSE_FAILED
unless the door is LOCKED (R127, R129). Where either leaves every door of the car commanded LOCK and locked, the car's release
side returns to none (R120). The expiry of a passage timeout counts the holder aboard and ends the passage (R154), with the
tests of excess and short against a departure weigh (R169); that of a passback age takes its ticket off the list (R156). An
expiry that is not due, and one that finds no timer, changes nothing: the model's choice (log 2). -/
def Obligations.DoorAndGateTimersExpire : Prop :=
  let locked := fun (d : Doors) (c : Car) =>
    ∀ y : Door, y.car = c → (d.door y).release = false ∧ (d.door y).interlocked = true
  (∀ (dt : Time) (x : Door) (s : State), let d := s.doors.door x
    ((∃ t0, d.reopen = some t0 ∧ 3000 ≤ elapsed t0 (s.now + dt)) → ∃ doors : Doors,
      exec (.reopenTimerExpiry dt x) s = .next (({ s.advance dt with doors := doors }).ended s.pending) ∧
      doors.door x = { d with release := false, reopen := none } ∧
      (∀ y, y ≠ x → doors.door y = s.doors.door y) ∧
      (locked doors x.car → doors.side.get x.car = none) ∧
      (¬locked doors x.car → doors.side.get x.car = s.doors.side.get x.car) ∧
      doors.side.get x.car.other = s.doors.side.get x.car.other) ∧
    (¬(∃ t0, d.reopen = some t0 ∧ 3000 ≤ elapsed t0 (s.now + dt)) →
      exec (.reopenTimerExpiry dt x) s = .next ((s.advance dt).ended s.pending))) ∧
  (∀ (dt : Time) (x : Door) (s : State), let d := s.doors.door x
    ((∃ t0, d.close = some t0 ∧ 12000 ≤ elapsed t0 (s.now + dt)) → ∃ t : State,
      exec (.closeTimerExpiry dt x) s = .next t.transmit ∧
      t.doors.door x =
        { d with close := none, reopen := none, release := false, failed := !decide (d.reported = .locked) } ∧
      (∀ y, y ≠ x → t.doors.door y = s.doors.door y) ∧
      (d.reported ≠ .locked → d.isolated = false → t.doors.side = s.doors.side) ∧
      (d.reported = .locked → locked t.doors x.car → t.doors.side.get x.car = none) ∧
      (¬locked t.doors x.car → t.doors.side.get x.car = s.doors.side.get x.car) ∧
      t.doors.side.get x.car.other = s.doors.side.get x.car.other ∧
      (t.line.conds.closeFailed = true ↔ ∃ y, (t.doors.door y).failed = true) ∧
      s.sameMotion t ∧ t.gates = s.gates ∧ t.tally = s.tally ∧ t.links = s.links ∧ t.ctl = s.ctl) ∧
    (¬(∃ t0, d.close = some t0 ∧ 12000 ≤ elapsed t0 (s.now + dt)) →
      exec (.closeTimerExpiry dt x) s = .next ((s.advance dt).ended s.pending))) ∧
  (∀ (dt : Time) (a : Nat) (s : State), (∀ g, s.gates.find? a = some g → g.admission = none) →
    exec (.passageTimeout dt a) s = .next ((s.advance dt).ended s.pending)) ∧
  (∀ (dt : Time) (a : Nat) (g : Gate) (x : Admission) (s : State), s.gates.find? a = some g →
    g.admission = some x →
    (x.span ≤ elapsed x.granted (s.now + dt) → ∃ t g', exec (.passageTimeout dt a) s = .next (State.transmit t) ∧
      t.gates.find? a = some g' ∧ g'.admission = none ∧ g'.overdue = some (x.ticket, x.car) ∧
      g'.state = (if g.enabled = false then .disabled
        else if g.closePending = false ∧ (s.gates.openFor g.station).isSome = true then .opened else .closed) ∧
      (g'.state ≠ .opened → GateCmd.shut ∈ g'.outbox.map (fun o => o.cmd)) ∧
      (∀ b, b ≠ a → t.gates.find? b = s.gates.find? b) ∧
      (t.tally.get x.car).resPersons = (s.tally.get x.car).resPersons - x.persons ∧
      (t.tally.get x.car).resMass = (s.tally.get x.car).resMass - x.mass ∧
      (t.tally.get x.car).admPersons = (s.tally.get x.car).admPersons + x.persons ∧
      (t.tally.get x.car).admMass = (s.tally.get x.car).admMass + x.mass ∧
      (let l := s.tally.get x.car
       (t.tally.get x.car).excess = (l.excess || l.departure.any (fun d =>
          decide (l.carryMass + (l.admMass + x.mass) + (l.resMass - x.mass) + s.geo.tolerance < d))) ∧
        (t.tally.get x.car).short = (l.short || l.departure.any (fun d =>
          decide (d + s.geo.tolerance < l.admMass + x.mass)))) ∧
      t.tally.get x.car.other = s.tally.get x.car.other ∧ t.gates.recent = s.gates.recent ∧
      s.sameMotion t ∧ t.doors = s.doors ∧ t.links = s.links ∧ t.ctl = s.ctl) ∧
    (elapsed x.granted (s.now + dt) < x.span →
      exec (.passageTimeout dt a) s = .next ((s.advance dt).ended s.pending))) ∧
  (∀ (dt : Time) (n : Nat) (s : State),
    exec (.passbackExpiry dt n) s = .next
      (({ s.advance dt with
          gates := { s.gates with
            recent := s.gates.recent.filter (fun r =>
              decide (r.ticket ≠ n ∨ elapsed r.time (s.now + dt) < s.gates.passback * 60000)) } }).ended s.pending))

/-- RELEASE_GATE_BUS makes every enabled gate OFFLINE and every other DISABLED, and the first poll begins; SET_GATE replaces a
gate's settings and moves it as R139 states; where no transaction is in progress on a released bus the next one begins in the
same event (R141, R142). LOAD_CLASSES replaces the class table; SET_PASSBACK replaces the passback age, answered in ms, and
drops the tickets it makes too old (R157, R158, R212). That the retries return to 0 as a gate becomes DISABLED, and where a
command is sent without verify, is log 21 (DESIGN CHOICE). An enabled byte of 2 or more counts as set by the table of requests
of section 11.6. That a transaction with no main one before it goes to the lowest address of the main order is log 77 (DESIGN
CHOICE). -/
def Obligations.GateSettingsTakeEffect : Prop :=
  (∀ (h : ReqHead) (s : State), Taken s h .releaseGateBus →
    (s.line.mode = .unconfigured →
      exec (.releaseGateBus h) s = answered s h (s.advance h.dt) ⟨.mode, []⟩) ∧
    (s.line.mode ≠ .unconfigured → s.gates.busReleased = true →
      exec (.releaseGateBus h) s = answered s h (s.advance h.dt) ⟨.done, []⟩) ∧
    (s.line.mode ≠ .unconfigured → s.gates.busReleased = false → s.gates.trans = none →
      ∃ t : State, exec (.releaseGateBus h) s = .next t.transmit ∧ t.gates.busReleased = true ∧
        t.gates.gates = s.gates.gates.map (fun g =>
          if g.enabled then { g with state := .offline, missed := 0, streak := 0 }
          else { g with state := .disabled, outbox := [] }) ∧
        (∀ x, t.gates.trans = some x → x.cmd = none ∧ x.start = s.now + h.dt ∧
          ∃ g, s.gates.find? x.address = some g ∧ g.enabled = true) ∧
        (t.gates.trans = none → ∀ a g, a ≤ 16 → s.gates.find? a = some g → g.enabled = false) ∧
        t.gates.GoesOn (fun b => (s.gates.find? b).map (fun g =>
            if g.enabled then { g with state := .offline, missed := 0, streak := 0 }
            else { g with state := .disabled, outbox := [] }))
          s.gates.round s.gates.lastMain (s.now + h.dt) ∧
        (t.line.conds.gateOffline = true ↔ ∃ g ∈ s.gates.gates, g.enabled = true) ∧
        t.ctl = ((s.advance h.dt).replied h.port ⟨.done, []⟩).ctl ∧
        t.gates.recent = s.gates.recent ∧ t.gates.openMarks = s.gates.openMarks ∧
        s.sameMotion t ∧ t.doors = s.doors ∧ t.tally = s.tally ∧ t.links = s.links)) ∧
  (∀ (h : ReqHead) (a e m k v : Nat) (s : State), Taken s h (.setGate a e m k v) →
    (s.gates.find? a = none ∨ 1 < m ∨ 1 < v →
      exec (.setGate h a e m k v) s = answered s h (s.advance h.dt) ⟨.range, []⟩) ∧
    (∀ g, s.gates.find? a = some g → m ≤ 1 → v ≤ 1 → ∃ t g', exec (.setGate h a e m k v) s = .next (State.transmit t) ∧
      (let set : Gate := { g with
        enabled := decide (e ≠ 0), leaf := decide (m = 1), scale := max 1 (min k 32), verify := decide (v = 1) }
       let new := if g.state = .held ∨ g.state = .passing then set
        else if e = 0 then (if g.state = .disabled then set
          else { set with state := .disabled, outbox := [⟨.shut, false⟩], closePending := false, retries := 0 })
        else if g.state = .disabled then { set with state := .offline, missed := 0, streak := 0, outbox := [] } else set
       let found := fun b : Nat => if b = a then some new else s.gates.find? b
       (s.gates.trans.isSome = true ∨ s.gates.busReleased = false →
        t.gates.trans = s.gates.trans ∧ ∀ b, t.gates.find? b = found b) ∧
       (s.gates.trans = none → s.gates.busReleased = true →
        t.gates.GoesOn found s.gates.round s.gates.lastMain (s.now + h.dt))) ∧
      t.gates.find? a = some g' ∧
      g'.enabled = decide (e ≠ 0) ∧ g'.leaf = decide (m = 1) ∧ g'.scale = max 1 (min k 32) ∧
      g'.verify = decide (v = 1) ∧ g'.admission = g.admission ∧ g'.overdue = g.overdue ∧
      g'.station = g.station ∧ g'.compartment = g.compartment ∧
      g'.state =
        (if g.state = .held ∨ g.state = .passing then g.state
         else if e = 0 then .disabled
         else if g.state = .disabled then .offline else g.state) ∧
      (s.gates.trans.isSome = true →
        g'.outbox =
          (if g.state = .held ∨ g.state = .passing then g.outbox
           else if e = 0 then (if g.state = .disabled then g.outbox else [⟨.shut, false⟩])
           else if g.state = .disabled then [] else g.outbox) ∧
        t.gates.trans = s.gates.trans ∧ ∀ b, b ≠ a → t.gates.find? b = s.gates.find? b) ∧
      (∀ b y y', b ≠ a → s.gates.find? b = some y → t.gates.find? b = some y' →
        y' = { y with outbox := y'.outbox, retries := y'.retries }) ∧
      t.ctl = ((s.advance h.dt).replied h.port ⟨.done, []⟩).ctl ∧
      t.gates.recent = s.gates.recent ∧ t.gates.openMarks = s.gates.openMarks ∧
      s.sameMotion t ∧ t.doors = s.doors ∧ t.tally = s.tally ∧ t.links = s.links)) ∧
  (∀ (h : ReqHead) (es : List ClassBytes) (s : State), Taken s h (.loadClasses es) →
    let inRange := fun e : ClassBytes => e.enabled ≤ 1 ∧ e.persons ≤ 2 ∧ e.mass ≤ 400 ∧ e.stepFree ≤ 1
    ((∀ e ∈ es, inRange e) →
      exec (.loadClasses h es) s = answered s h
        { s.advance h.dt with
          gates := { s.gates with
            classes := es.map (fun e => ⟨decide (e.enabled = 1), e.persons, e.mass, decide (e.stepFree = 1)⟩) } }
        ⟨.done, []⟩) ∧
    (∀ (pre post : List ClassBytes) (e : ClassBytes), es = pre ++ e :: post → (∀ x ∈ pre, inRange x) →
      ¬inRange e →
      exec (.loadClasses h es) s = answered s h (s.advance h.dt) ⟨.range, [.num pre.length]⟩)) ∧
  (∀ (h : ReqHead) (n : Nat) (s : State), Taken s h (.setPassback n) →
    let m := max 1 (min n 60)
    exec (.setPassback h n) s = answered s h
      { s.advance h.dt with
        gates := { s.gates with
          passback := m
          recent := s.gates.recent.filter (fun r => decide (elapsed r.time (s.now + h.dt) < m * 60000)) } }
      ⟨.done, [.time (m * 60000)]⟩)

/-- OPEN_STATION in AUTOMATIC opens the closed gates of a station for its serving car and keeps those in a passage open;
CLOSE_STATION shuts its open gates and leaves those in a passage to finish (R147 to R149). That the serving car is the one that
stands in this event, and not the one of the last sample or run change, is log 69 (DESIGN CHOICE), and that OPEN or SHUT may
join an outbox of two as its third command is log 84 (DESIGN CHOICE). -/
def Obligations.StationsOpenAndClose : Prop :=
  (∀ (st : Station) (s : State),
    let serves := fun c : Car => (s.trk.pos c - st.stopPos).natAbs ≤ 300 ∧ s.trk.still = true ∧
      (∀ r, s.plan.run = some r → r.state = .planned) ∧ (s.tally.get c).window = some st.number
    (s.serving st = some .A ↔ serves .A) ∧ (s.serving st = some .B ↔ ¬serves .A ∧ serves .B)) ∧
  (∀ (h : ReqHead) (n : Nat) (s : State), Taken s h (.openStation n) →
    (s.line.mode ≠ .automatic → exec (.openStation h n) s = answered s h (s.advance h.dt) ⟨.mode, []⟩) ∧
    (s.line.mode = .automatic → s.geo.station? n = none →
      exec (.openStation h n) s = answered s h (s.advance h.dt) ⟨.range, []⟩) ∧
    (∀ st, s.line.mode = .automatic → s.geo.station? n = some st → s.serving st = none →
      exec (.openStation h n) s = answered s h (s.advance h.dt) ⟨.state, [.code 14]⟩) ∧
    (∀ st c, s.line.mode = .automatic → s.geo.station? n = some st → s.serving st = some c →
      ∃ t : State, exec (.openStation h n) s = .next t.transmit ∧
        t.gates = { s.gates with
          openMarks := t.gates.openMarks
          gates := s.gates.gates.map (fun g =>
            if g.station = n ∧ g.state = .closed then
              { g with state := .opened, outbox := putLeaf .opn g.outbox }
            else if g.station = n ∧ g.state = .passing then { g with closePending := false }
            else g) } ∧
        t.gates.openFor n = some c ∧ (∀ m, m ≠ n → t.gates.openFor m = s.gates.openFor m) ∧
        t.ctl = ((s.advance h.dt).replied h.port
          ⟨.done, listF (fun g : Gate => [.num g.address])
              (s.gates.gates.filter (fun g => g.station == n && g.state == .closed)) ++ [.code c.code]⟩).ctl ∧
        s.sameMotion t ∧ t.doors = s.doors ∧ t.tally = s.tally ∧ t.links = s.links)) ∧
  (∀ (h : ReqHead) (n : Nat) (s : State), Taken s h (.closeStation n) →
    (s.geo.station? n = none → exec (.closeStation h n) s = answered s h (s.advance h.dt) ⟨.range, []⟩) ∧
    ((s.geo.station? n).isSome = true → ∃ t : State, exec (.closeStation h n) s = .next t.transmit ∧
      t.gates = { s.gates with
        openMarks := t.gates.openMarks
        gates := s.gates.gates.map (fun g =>
          if g.station = n ∧ g.state = .opened then
            { g with state := .closed, outbox := putLeaf .shut g.outbox }
          else if g.station = n ∧ g.state = .passing then { g with closePending := true }
          else g) } ∧
      t.gates.openFor n = none ∧ (∀ m, m ≠ n → t.gates.openFor m = s.gates.openFor m) ∧
      t.ctl = ((s.advance h.dt).replied h.port
        ⟨.done, listF (fun g : Gate => [.num g.address])
            (s.gates.gates.filter (fun g => g.station == n && g.state == .opened)) ++
          listF (fun g : Gate => [.num g.address])
            (s.gates.gates.filter (fun g => g.station == n && g.state == .passing))⟩).ctl ∧
      s.sameMotion t ∧ t.doors = s.doors ∧ t.tally = s.tally ∧ t.links = s.links))

/-- The end of a transaction, by an answer or by 8 ms without one. In service a poll ends by the table of R143: the missed-poll
count, a ticket checked (R150, R151) or refused, the outcome of a passage (R152, R153), a late or stray outcome (R155), a gate
that goes OFFLINE with its admission counted aboard (R145). A command ends by R142 without verify and by R144 with it. An
OFFLINE gate counts toward its return (R146). The answer to a final SHUT is not read (R142). `g1` is the gate's record then; on
a released bus the next transaction begins in the same event, with the gate that R141 gives and what R142 has it carry, and no
other record changes. A timeout that is not due and one that finds no transaction are log 2, a DESIGN CHOICE; an answer with
none in progress, one taken after 8 ms, one for a gate that has become DISABLED, and the next transaction in the same event are
log 31, DEDUCED. That the retries return to 0 as a gate becomes DISABLED, and where a command is sent without verify, is log
21, a DESIGN CHOICE; that the streak keeps its 2 after the return is log 19, DEDUCED; that with no main transaction since the
reset the next one goes to the lowest address is log 77, a DESIGN CHOICE; that SHUT may join an outbox of two as its third
command is log 84, a DESIGN CHOICE. -/
def Obligations.GateTransactionsEnd : Prop :=
  (∀ (dt : Time) (s : State),
    (∀ bytes, s.gates.trans = none → exec (.gateAnswer dt bytes) s = .next ((s.advance dt).ended s.pending)) ∧
    (s.gates.trans = none ∨ (∃ x, s.gates.trans = some x ∧ elapsed x.start (s.now + dt) < 8) →
      exec (.gateResponseTimeout dt) s = .next ((s.advance dt).ended s.pending))) ∧
  (∀ (c : Instr) (dt : Time) (ans : Option Answer) (x : Transaction) (g : Gate) (s : State),
    s.gates.trans = some x → s.gates.find? x.address = some g →
    ((∃ bytes, c = .gateAnswer dt bytes ∧ ans = readAnswer x.address bytes) ∨
      (c = .gateResponseTimeout dt ∧ 8 ≤ elapsed x.start (s.now + dt) ∧ ans = none)) →
    let inService := x.final = false ∧ (g.state = .closed ∨ g.state = .opened ∨ g.state = .passing)
    let poll := inService ∧ x.cmd = none
    let shut : OutCmd := ⟨.shut, false⟩
    let isOpen := (s.gates.openFor g.station).isSome = true
    let ended := if g.enabled = false then
        { g with missed := 0, admission := none, state := .disabled, outbox := [shut], closePending := false,
                 retries := 0 }
      else if g.closePending = false ∧ isOpen then { g with missed := 0, admission := none, state := .opened }
      else { g with missed := 0, admission := none, state := .closed, closePending := false,
                    outbox := putLeaf .shut g.outbox }
    let refusal := fun (id k p : Nat) =>
      match s.gates.openFor g.station, s.gates.classes[if 7 < k then 0 else k]? with
      | some car, some f =>
        if f.enabled = false ∨ p < 1 ∨ 6 < p then some TicketRefusal.cls
        else if f.stepFree = true ∧ s.stepFree car g.compartment = false then some .stepFree
        else if s.gates.recent.any (fun r => r.ticket == id) = true then some .duplicate
        else match (s.admissionCheck car (p * f.persons) (p * f.mass)).1 with
          | .grant => none
          | .capacity => some .capacity
          | .margin => some .margin
      | _, _ => some .noService
    ∃ t g1, exec c s = .next (State.transmit t) ∧
      let found := fun b : Nat => if b = x.address then some g1 else s.gates.find? b
      let passing := (List.range 17).filter (fun b => (found b).any (fun y => y.state == .passing))
      let same := t.tally = s.tally ∧ t.gates.recent = s.gates.recent
      let offline := g1 = { g with
          state := if g.enabled = true then .offline else .disabled
          overdue := (g.admission.map (fun (a : Admission) => (a.ticket, a.car))).or g.overdue
          admission := none, outbox := if g.enabled = true then [] else [shut], closePending := false
          retries := 0, missed := 0, streak := 0 } ∧
        (g.admission = none → t.tally = s.tally) ∧
        (∀ a, g.admission = some a →
          (t.tally.get a.car).resPersons = (s.tally.get a.car).resPersons - a.persons ∧
          (t.tally.get a.car).resMass = (s.tally.get a.car).resMass - a.mass ∧
          (t.tally.get a.car).admPersons = (s.tally.get a.car).admPersons + a.persons ∧
          (t.tally.get a.car).admMass = (s.tally.get a.car).admMass + a.mass ∧
          t.tally.get a.car.other = s.tally.get a.car.other) ∧ t.gates.recent = s.gates.recent
      let missedPoll := fun (y : Gate) =>
        (g.missed < 2 → g1 = { y with missed := g.missed + 1 } ∧ same) ∧ (2 ≤ g.missed → offline)
      (s.gates.busReleased = false → t.gates.trans = none ∧ ∀ b, t.gates.find? b = found b) ∧
      (s.gates.busReleased = true →
        t.gates.GoesOn found (if x.inserted = true then s.gates.round else passing) s.gates.lastMain (s.now + dt)) ∧
      (x.final = true ∨ g.state = .held ∨ g.state = .disabled → g1 = g ∧ same) ∧
      (poll → ans = some .idle → g1 = { g with missed := 0 } ∧ same) ∧
      (poll → (ans = none ∨ ∃ k n, ans = some (.echo k n)) → missedPoll g) ∧
      (∀ n, poll → ans = some (.fault n) → offline) ∧
      (∀ id k p, poll → ans = some (.ticket id k p) →
        (g.state ≠ .opened →
          g1 = { g with missed := 0, outbox := g.outbox ++ [⟨.refuse .noService, false⟩] } ∧ same) ∧
        (∀ r, g.state = .opened → refusal id k p = some r →
          g1 = { g with missed := 0, outbox := g.outbox ++ [⟨.refuse r, false⟩] } ∧
          t.gates.recent = s.gates.recent ∧
          ∀ y : Car, t.tally.get y = { s.tally.get y with lastCheck := (t.tally.get y).lastCheck }) ∧
        (∀ car f, g.state = .opened → s.gates.openFor g.station = some car →
          s.gates.classes[if 7 < k then 0 else k]? = some f → refusal id k p = none →
          g1 = { g with
            missed := 0, state := .passing, overdue := none
            outbox := g.outbox ++ [⟨.admits (p * f.persons), false⟩]
            admission := some ⟨id, car, p * f.persons, p * f.mass, g.leaf, s.now + dt, 2000 * g.scale⟩ } ∧
          t.gates.recent = (if s.gates.recent.length < 128 then s.gates.recent else s.gates.recent.tail) ++
            [⟨id, g.address, s.now + dt⟩] ∧
          (t.tally.get car).resPersons = (s.tally.get car).resPersons + p * f.persons ∧
          (t.tally.get car).resMass = (s.tally.get car).resMass + p * f.mass ∧
          (t.tally.get car).admPersons = (s.tally.get car).admPersons ∧
          t.tally.get car.other = s.tally.get car.other)) ∧
      (∀ a, poll → g.state = .passing → g.admission = some a →
        (ans = some .passed ∨ (ans = some .turnedBack ∧ a.leaf = true) →
          g1 = ended ∧ (t.tally.get a.car).resPersons = (s.tally.get a.car).resPersons - a.persons ∧
          (t.tally.get a.car).admPersons = (s.tally.get a.car).admPersons + a.persons ∧
          t.gates.recent = s.gates.recent) ∧
        (ans = some .turnedBack → a.leaf = false →
          g1 = ended ∧ (t.tally.get a.car).resPersons = (s.tally.get a.car).resPersons - a.persons ∧
          (t.tally.get a.car).admPersons = (s.tally.get a.car).admPersons ∧
          t.gates.recent = s.gates.recent.filter
            (fun r => decide (r ≠ ⟨a.ticket, g.address, a.granted⟩)))) ∧
      (poll → g.admission = none → ans = some .passed ∨ ans = some .turnedBack →
        g1 = { g with missed := 0, overdue := none } ∧ same) ∧
      (∀ k, inService → x.cmd = some k → x.verify = false →
        (ans.isSome = true → g1 = { g with missed := 0 } ∧ same) ∧ (ans = none → missedPoll g)) ∧
      (∀ k, inService → x.cmd = some k → x.verify = true →
        (ans = some (.echo k.kind k.arg) →
          g1 = { g with missed := 0, outbox := g.outbox.drop 1, retries := 0 } ∧ same) ∧
        (ans ≠ some (.echo k.kind k.arg) → g.retries < 2 →
          (ans.isSome = true → g1 = { g with missed := 0, retries := g.retries + 1 } ∧ same) ∧
          (ans = none → missedPoll { g with retries := g.retries + 1 })) ∧
        (ans ≠ some (.echo k.kind k.arg) → 2 ≤ g.retries → offline)) ∧
      (x.final = false → g.state = .offline →
        let late := ans = some .passed ∨ ans = some .turnedBack
        let kept := if ans = some .passed ∨ ans = some .turnedBack then none else g.overdue
        (late ∨ ans = some .idle ∨ (∃ id k p, ans = some (.ticket id k p)) →
          (g.streak = 0 → g1 = { g with streak := 1, overdue := kept }) ∧
          (1 ≤ g.streak → g1 = { g with
            streak := g.streak + 1, overdue := kept, state := .closed, missed := 0
            outbox := putLeaf .shut g.outbox }) ∧ same) ∧
        (ans = none ∨ (∃ n, ans = some (.fault n)) ∨ (∃ k n, ans = some (.echo k n)) →
          g1 = { g with streak := 0 } ∧ same)) ∧
      t.gates.openMarks = s.gates.openMarks ∧ t.gates.classes = s.gates.classes ∧
      t.gates.busReleased = s.gates.busReleased ∧ t.gates.passback = s.gates.passback ∧
      s.sameMotion t ∧ t.doors = s.doors ∧ t.links = s.links ∧ t.ctl = s.ctl)

/-- The admission check: MARGIN for a car whose bounds are frozen, then CAPACITY where carry, admitted, reserved and new persons
exceed the car's capacity, then the margin of a_guar over a_min and the reserve, on the span to the pending target or on the
whole line both ways, with the masses of R174 from the bounds of R168 (R168, R172 to R174). An admission comes to be held only by
the answer of a gate, for a ticket that was not in the recent-ticket list, that passes this check and is reserved in the same
event (R150, R151, R172). The first clause's MARGIN without committed tables is log 41 (DESIGN CHOICE). -/
def Obligations.AdmissionsKeepRoomAndMargin : Prop :=
  (∀ (s : State) (c : Car) (persons mass : Nat),
    let l := s.tally.get c
    (s.geo.committed = none → s.admissionCheck c persons mass = (.margin, none)) ∧
    (∀ tb, s.geo.committed = some tb →
      let upper := fun k : Car => let l := s.tally.get k
        match l.frozen, l.departure with
        | some f, _ => f.1
        | none, some d => max (l.carryMass + l.admMass + l.resMass) (d + tb.braking.tolerance)
        | none, none => l.carryMass + l.admMass + l.resMass
      let lower := fun k : Car => let l := s.tally.get k
        match l.frozen, l.departure with
        | some f, _ => f.2
        | none, some d => d - tb.braking.tolerance
        | none, none => 0
      let e := fun k : Car => (tb.cars.get k).emptyMass
      let o := c.other
      let masses := fun dir : Dir =>
        let cars := e c + upper c + mass + e o + upper o
        if (c = .A ↔ dir = .down) then Masses.mk (e c + upper c + mass) (e o + lower o) cars
        else Masses.mk (e o + upper o) (e c + lower c) cars
      let a := fun (x0 x1 : Int) (dir : Dir) => (span tb x0 x1 dir (masses dir)).aGuar
      let start := match s.line.atStop.bind s.geo.halt? with
        | some x => x.pA
        | none => s.trk.xA
      let full := (tb.cars.get c).capacity < l.carryPersons + l.admPersons + l.resPersons + persons
      let verdict := fun n : Nat => ((if tb.braking.aMin + tb.braking.reserve ≤ n then .grant else .margin : CheckOutcome), some n)
      (l.frozen.isSome = true → s.admissionCheck c persons mass = (.margin, none)) ∧
      (l.frozen = none → full → s.admissionCheck c persons mass = (.capacity, none)) ∧
      (∀ x, l.frozen = none → ¬full → s.plan.pendingRun.bind s.geo.halt? = some x → 300 < (x.pA - start).natAbs →
        s.admissionCheck c persons mass = verdict (a start x.pA (if start < x.pA then .up else .down))) ∧
      (l.frozen = none → ¬full →
        (∀ x, s.plan.pendingRun.bind s.geo.halt? = some x → (x.pA - start).natAbs ≤ 300) →
        s.admissionCheck c persons mass = verdict (min (a 0 tb.line.length .up) (a 0 tb.line.length .down))))) ∧
  (∀ (c : Instr) (s t : State) (g : Gate) (a : Admission), exec c s = .next t → s.ReservedOk → g ∈ t.gates.gates →
    g.admission = some a → (∀ g0 ∈ s.gates.gates, g0.address = g.address → g0.admission ≠ some a) →
    ∃ dt bytes tables, c = .gateAnswer dt bytes ∧ s.geo.committed = some tables ∧
      (s.tally.get a.car).frozen = none ∧ (s.admissionCheck a.car a.persons a.mass).1 = .grant ∧
      (s.tally.get a.car).carryPersons + (s.tally.get a.car).admPersons + (s.tally.get a.car).resPersons + a.persons
        ≤ (tables.cars.get a.car).capacity ∧
      tables.braking.aMin + tables.braking.reserve ≤ s.checkGuar tables a.car a.mass ∧
      (∀ r ∈ s.gates.recent, r.ticket ≠ a.ticket) ∧ (∃ r ∈ t.gates.recent, r.ticket = a.ticket) ∧
      a.granted = s.now + dt ∧ g.state = .passing ∧ s.gates.openFor g.station = some a.car ∧
      (t.tally.get a.car).resPersons = (s.tally.get a.car).resPersons + a.persons ∧
      (t.tally.get a.car).resMass = (s.tally.get a.car).resMass + a.mass)

/-- Every step keeps each car's reserved persons and mass equal to the sum over the admissions that gates in PASSING hold
for it (R153). -/
def Obligations.ReservationsAreHeldAdmissions : Prop :=
  ∀ s t : State, s.ReservedOk → step s = .next t → t.ReservedOk

/-- CAR_FRAME_SEND sends each car its next sequence with its door commands, side, track brake command and moving flag.
CAR_FRAME_RECEIVED counts an invalid frame and discards it; a valid one moves the link and delivers doors, reading, fault and
markers. A LOCKED report ends a close operation and may return the side (R120, R127), an OBSTRUCTED one counts an attempt
(R128), a door found unlocked in motion holds the run and one found OPEN trips the line (R134, R135); the track brake report
moves its record by R100, and the car's own application in motion trips the line to the track brakes (R111). A settled reading
at standstill behind locked doors is the departure weigh, and in a fresh stop window the arrival weigh too; a weigh above the
expected load and the tolerance sets excess with its condition, and one short of the admitted mass sets short (R119, R163,
R165, R166, R169, R189 to R191, R193). That the markers join the inbox of the link is log 27, a DESIGN CHOICE, and so is what
the first report makes of an absent track brake state under a command that is not HOLD (log 52) and that a frame of another
start byte or kind is invalid (log 85). That a LOCKED report of a door commanded RELEASE leaves CLOSE_FAILED set is log 57
(DESIGN CHOICE, R123 against R127); that the watch stops at the car's own application also where the highest level is TRACK
already is log 17 (DESIGN CHOICE, R110 against R112); that the four reports of a frame are taken in the order of compartments
is log 59, and that a stop window at a number the tables have dropped is at no terminal is log 82 (DESIGN CHOICEs). -/
def Obligations.CarFramesAreTaken : Prop :=
  (∀ (dt : Time) (s : State),
    let send := fun (c : Car) =>
      let l := s.links.get c
      let bit := fun (b : Bool) (n : Nat) => if b then n else 0
      let d := fun i : Ix4 => (s.doors.door ⟨c, i⟩).release
      let mask := bit (d .i1) 1 + bit (d .i2) 2 + bit (d .i3) 4 + bit (d .i4) 8
      let side : Nat := match s.doors.side.get c with
        | none => 0
        | some .left => 1
        | some .right => 2
        | some .both => 3
      let cmd : Nat := match (s.brk.track.get c).cmd with
        | .hold => 0
        | .apply => 1
        | .release => 2
      { l with
        nextSeq := l.nextSeq + 1
        sent := (if l.sent.length < 4 then l.sent else l.sent.tail) ++ [l.nextSeq]
        lastFrame := frame 0x5A#8 [0x01#8, l.nextSeq, BitVec.ofNat 8 mask, BitVec.ofNat 8 side, BitVec.ofNat 8 cmd,
          if s.brk.ten = true ∨ s.trk.still = false then 1 else 0] }
    exec (.carFrameSend dt) s = .next
      (({ s.advance dt with links := ⟨send .A, send .B⟩ }).ended s.pending)) ∧
  (∀ (dt : Time) (c : Car) (bytes : List Byte) (s : State), let l := s.links.get c
    ((∀ r, readCarFrame bytes = some r → r.echo ∉ l.sent) →
      exec (.carFrameReceived dt c bytes) s = .next
        (({ s.advance dt with
            links := s.links.set c { l with
              invalid := if l.invalid < 255 then l.invalid + 1 else 255
              streak := if l.state = LinkState.live then l.streak else 0 } }).ended s.pending)) ∧
    (∀ r, readCarFrame bytes = some r → r.echo ∈ l.sent →
      let changed := fun i : Ix4 => (s.doors.door ⟨c, i⟩).isolated = false ∧
        (s.doors.door ⟨c, i⟩).reported ≠ r.doors.get i
      let own := r.track = some true ∧ (s.brk.track.get c).cmd = .hold ∧ s.carsMovingSeen = true
      ∃ t : State, exec (.carFrameReceived dt c bytes) s = .next t.transmit ∧
        t.links.get c = { l with
          since := s.now + dt, took300 := false, took1000 := false
          state := if 2 ≤ l.streak then .live else l.state
          streak := if l.state = LinkState.live then 3 else min (l.streak + 1) 3
          invalid := if l.state ≠ LinkState.live ∧ 2 ≤ l.streak then 0 else l.invalid
          fault := r.fault, markers := l.markers ++ r.markers } ∧
        t.links.get c.other = s.links.get c.other ∧
        (∀ i : Ix4, (t.doors.door ⟨c, i⟩).reported = r.doors.get i) ∧
        t.doors.recs.get c.other = s.doors.recs.get c.other ∧ t.doors.side.get c.other = s.doors.side.get c.other ∧
        (∀ i : Ix4, let d := s.doors.door ⟨c, i⟩
          let new := r.doors.get i
          let plain := { d with reported := new }
          (¬changed i → t.doors.door ⟨c, i⟩ = plain) ∧
          (changed i → new = .locked → t.doors.door ⟨c, i⟩ =
            if d.release = true then plain else { plain with close := none, failed := false }) ∧
          (changed i → new ≠ .locked → new ≠ .obstructed ∨ d.close = none ∨ d.reopen.isSome = true →
            t.doors.door ⟨c, i⟩ = plain) ∧
          (changed i → new = .obstructed →
            (d.reported ≠ .locked ∨ ∀ j, changed j → r.doors.get j ≠ .locked) → d.release = false → d.close.isSome = true →
            d.reopen = none →
            let again := s.plan.run = none ∧ s.trk.still = true ∧ s.brk.ten = false ∧
              (s.doors.side.get c).isSome = true
            (d.attempts < 2 → again → t.doors.door ⟨c, i⟩ =
              { plain with attempts := d.attempts + 1, release := true, reopen := some (s.now + dt) }) ∧
            (d.attempts < 2 → ¬again → t.doors.door ⟨c, i⟩ = { plain with attempts := d.attempts + 1 }) ∧
            (2 ≤ d.attempts →
              t.doors.door ⟨c, i⟩ = { plain with attempts := 3, failed := true, close := none } ∧
              t.line.conds.closeFailed = true))) ∧
        ((∃ i, changed i ∧ r.doors.get i = .locked) →
          (∀ i : Ix4, (t.doors.door ⟨c, i⟩).release = false ∧ (t.doors.door ⟨c, i⟩).interlocked = true) →
          t.doors.side.get c = none) ∧
        ((∀ i, changed i → r.doors.get i ≠ .locked) → t.doors.side.get c = s.doors.side.get c) ∧
        (∀ i, s.trk.stillSeen = true → s.trk.still = false → changed i → r.doors.get i = .opened →
          t.brk.dropped ∧ ∃ x, t.sup.trip = some x ∧
            (s.sup.trip = none → ∃ j, x.cause = .doorOpen ⟨c, j⟩ ∧ changed j ∧ r.doors.get j = .opened)) ∧
        (∀ (i : Ix4) (x : Run), (∀ j, changed j → r.doors.get j ≠ .opened) → ¬own → changed i →
          r.doors.get i ≠ .locked → s.plan.run = some x → x.state.moving = true → x.stop.isAsap = false →
          ∃ x', t.plan.run = some x' ∧ x'.state = .braking ∧ x'.holdCause = some .door ∧
            x'.stop = .asap s.trk.v.natAbs (s.now + dt)) ∧
        (r.track = none → t.brk.track = s.brk.track ∨ ∃ i, changed i ∧ r.doors.get i = .opened) ∧
        (∀ b, r.track = some b → (∀ i, changed i → r.doors.get i = .locked) → ¬own →
          let k := s.brk.track.get c
          let seen : BrakeState := if b = true then .applied else .released
          let seenNot : BrakeState := if b = true then .released else .applied
          t.brk.track.get c = (match k.cmd, b with
            | .hold, _ => { k with state := some seen }
            | .apply, true => { k with state := some .applied, timer := none }
            | .release, false => ⟨.hold, some .released, none⟩
            | .apply, false => { k with
                state := if k.state = some seenNot then some .failed else k.state.or (some seen) }
            | .release, true => { k with
                state := if k.state = some seenNot then some .failed else k.state.or (some seen) }) ∧
          t.brk.track.get c.other = s.brk.track.get c.other ∧ t.sup.trip = s.sup.trip ∧
          (t.line.conds.trackBrake = true ↔
            ∃ j : Car, (t.brk.track.get j).cmd = .apply ∨ (t.brk.track.get j).state = some .applied)) ∧
        (own → t.brk.dropped ∧ t.brk.watch = none ∧ (∀ j : Car, (t.brk.track.get j).cmd = .apply) ∧
          ∃ x, t.sup.trip = some x ∧ x.highest.isSome = true ∧
            (s.sup.trip = none → (∀ i, changed i → r.doors.get i = .locked) →
              x.cause = .carTrackBrake c ∧ x.track = true)) ∧
        (t.tally.get c).reading = some (min r.kg 65000, r.settled) ∧
        (¬own → r.settled = true → s.trk.still = true → (s.tally.get c).frozen = none →
          (s.tally.get c).departure = none →
          (∀ i : Ix4, (s.doors.door ⟨c, i⟩).isolated = true ∨ r.doors.get i = .locked) →
          (t.tally.get c).departure = some (min r.kg 65000) ∧
          (let l := t.tally.get c
           let excess := l.carryMass + l.admMass + l.resMass + s.geo.tolerance < min r.kg 65000
           let short := min r.kg 65000 + s.geo.tolerance < l.admMass
           l.admMass = (s.tally.get c).admMass ∧ l.resMass = (s.tally.get c).resMass ∧
           (l.excess = true ↔ (s.tally.get c).excess = true ∨ excess) ∧
           (l.short = true ↔ (s.tally.get c).short = true ∨ short) ∧
           (excess → (s.tally.get c).excess = false → t.line.conds.excess.get c = true)) ∧
          ((s.tally.get c).window.isSome = true → (s.tally.get c).released = false →
            (s.tally.get c).arrival = none → (t.tally.get c).arrival = some (min r.kg 65000) ∧
            (s.windowTerminal c = true → (t.tally.get c).carryMass = (s.tally.get c).carryMass) ∧
            (s.windowTerminal c = false → (t.tally.get c).carryMass = min r.kg 65000 ∧
              (t.tally.get c).carryPersons = (min r.kg 65000 + 74) / 75))) ∧
        t.geo = s.geo ∧ t.trk = s.trk ∧ t.ctl = s.ctl))

/-- The 300 ms expiry makes a LIVE link STALE and the 1,000 ms expiry a STALE link LOST, with the car's doors UNKNOWN and its
condition; a link LOST with STILL clear trips the line. A drive status frame is recorded and clears the silent mark; a fault,
or 100 ms of silence, trips the line while TEN is energised (R119, R191, R192, R196). Torque on releases the brakes behind
locked doors; with a door not locked it drops TEN and fails the start with reason BRAKE_RELEASE and detail DOORS; torque lost
in RELEASE_WAIT leads to ABORT_WAIT with reason DRIVE (R73, R102, R103). That a run back in PLANNED keeps its highest band is
log 35, the layout of its RUN notice logs 11 and 51, its states under CANCEL log 50. An expiry that is not due changes nothing:
the model's choice (log 2). That a link that becomes STALE in motion holds with cause LINK rather than DOOR is the order of log
24, a DESIGN CHOICE; that a drive frame of another start byte or kind is discarded is log 85, a DESIGN CHOICE. -/
def Obligations.SilenceMovesLinksAndDrive : Prop :=
  (∀ (dt : Time) (c : Car) (s : State), let l := s.links.get c
    (l.took300 = true ∨ elapsed l.since (s.now + dt) < 300 →
      exec (.linkStaleExpiry dt c) s = .next ((s.advance dt).ended s.pending)) ∧
    (l.took300 = false → 300 ≤ elapsed l.since (s.now + dt) → l.state ≠ LinkState.live →
      exec (.linkStaleExpiry dt c) s = .next
        (({ s.advance dt with
            links := s.links.set c { l with took300 := true, streak := 0 } }).ended s.pending)) ∧
    (l.took300 = false → 300 ≤ elapsed l.since (s.now + dt) → l.state = LinkState.live →
      ∃ t : State, exec (.linkStaleExpiry dt c) s = .next t.transmit ∧
        t.links.get c = { l with took300 := true, streak := 0, state := .stale, invalid := 0 } ∧
        t.links.get c.other = s.links.get c.other ∧
        (∀ i : Ix4, t.doors.door ⟨c, i⟩ = { s.doors.door ⟨c, i⟩ with reported := .unknown }) ∧
        t.doors.recs.get c.other = s.doors.recs.get c.other ∧
        t.line.conds.linkStale.get c = true ∧ t.sup.trip = s.sup.trip ∧
        (∀ r, s.plan.run = some r → r.state.moving = true → r.stop.isAsap = false →
          ∃ r', t.plan.run = some r' ∧ r'.state = .braking ∧ r'.holdCause = some .link ∧
            r'.stop = .asap s.trk.v.natAbs (s.now + dt)) ∧
        t.geo = s.geo ∧ t.trk = s.trk ∧ t.brk = s.brk ∧ t.ctl = s.ctl)) ∧
  (∀ (dt : Time) (c : Car) (s : State), let l := s.links.get c
    (l.took1000 = true ∨ elapsed l.since (s.now + dt) < 1000 →
      exec (.linkLostExpiry dt c) s = .next ((s.advance dt).ended s.pending)) ∧
    (l.took1000 = false → 1000 ≤ elapsed l.since (s.now + dt) → l.state = .stale →
      ∃ t : State, exec (.linkLostExpiry dt c) s = .next t.transmit ∧
        t.links.get c = { l with took1000 := true, streak := 0, state := .lost, invalid := 0 } ∧
        t.links.get c.other = s.links.get c.other ∧
        (∀ i : Ix4, t.doors.door ⟨c, i⟩ = { s.doors.door ⟨c, i⟩ with reported := .unknown }) ∧
        t.line.conds.linkLost.get c = true ∧ t.line.conds.linkStale.get c = false ∧
        (s.trk.still = true → t.sup.trip = s.sup.trip ∧ t.brk = s.brk) ∧
        (s.trk.still = false → t.brk.dropped ∧ ∃ x, t.sup.trip = some x ∧
          (s.sup.trip = none → x.cause = .linkLost c) ∧ (∀ y, s.sup.trip = some y → x.later = min (y.later + 1) 255)) ∧
        t.geo = s.geo ∧ t.trk = s.trk ∧ t.ctl = s.ctl)) ∧
  (∀ (dt : Time) (bytes : List Byte) (s : State),
    (readDriveFrame bytes = none → exec (.driveStatusFrame dt bytes) s = .next ((s.advance dt).ended s.pending)) ∧
    (∀ x, readDriveFrame bytes = some x → ∃ t : State, exec (.driveStatusFrame dt bytes) s = .next t.transmit ∧
      t.drive.status = some x ∧ t.drive.silent = false ∧
      (s.brk.ten = false → s.brk.seq = .rest → s.sameMotion { t with drive := s.drive }) ∧
      (s.brk.ten = true → x.fault = true → t.brk.dropped ∧ ∃ y, t.sup.trip = some y ∧
        (s.sup.trip = none → y.cause = .driveFault true false)) ∧
      (x.fault = false → s.brk.seq = .torqueWait → x.torqueOn = false → t.brk = s.brk ∧ t.sup = s.sup ∧
        t.plan = s.plan) ∧
      (x.fault = false → s.brk.seq = .torqueWait → x.torqueOn = true → s.doors.allLocked = true →
        s.brk.confirmedApplied .service = true → s.brk.confirmedApplied .sheave = true →
        t.brk.seq = .releaseWait ∧ t.brk.sbr = true ∧ t.brk.ebr = true ∧
        t.brk.service = ⟨.releasing, some (s.now + dt)⟩ ∧ t.brk.sheave = ⟨.releasing, some (s.now + dt)⟩) ∧
      (∀ r, x.fault = false → s.brk.seq = .torqueWait → x.torqueOn = true → s.doors.allLocked = false →
        s.plan.run = some r → r.state = .starting →
        t.brk = { s.brk with ten := false, seq := .rest, abort := none, torque := none } ∧ t.drive.timer = none ∧
        t.sup.trip = s.sup.trip ∧ t.line.conds.driveStart = s.line.conds.driveStart ∧
        (r.pendingStop = some .cancel → t.plan.run = none ∧
          t.plan.lastRun = some ⟨r.id, r.target, .cancelled, .cancelRequest, none⟩) ∧
        (r.pendingStop ≠ some .cancel → r.leaving = none →
          t.plan.run = some { r with state := .planned, planTime := s.now + dt, dyn := none, pendingStop := none } ∧
          t.sup.env = none ∧ ∀ c : Car, (t.tally.get c).frozen = none) ∧
        (∀ l, r.pendingStop ≠ some .cancel → r.leaving = some l →
          t.plan.run = some { r with state := .holding, holdCause := l.cause, resumeTarget := l.resumeTarget,
                                     stop := l.stop, releaseTime := none, pendingStop := none, leaving := none } ∧
          t.sup = s.sup ∧ t.tally = s.tally) ∧
        (s.notices.settings.run.enabled = true → s.notices.entries.length ≤ 16 → ∃ n ∈ t.notices.entries,
          n.cls = .run ∧ n.time = s.now + dt ∧ ∃ after, n.body =
            [.num r.id, .code 2, .code after, .num r.target, .speed r.cruise, .absent, .absent,
             .present, .code 1, .present, .code 0, .absent, .absent])) ∧
      (x.fault = false → s.brk.seq = .releaseWait → x.torqueOn = false → s.brk.sbr = true → s.brk.ebr = true →
        (s.brk.confirmedApplied .service = false ∨ s.brk.confirmedApplied .sheave = false) →
        t.brk = { s.brk with
          sbr := false, ebr := false, seq := .abortWait, abort := some .drive
          service := if s.brk.confirmedApplied .service then ⟨.applied, none⟩ else ⟨.applying, some (s.now + dt)⟩
          sheave := if s.brk.confirmedApplied .sheave then ⟨.applied, none⟩ else ⟨.applying, some (s.now + dt)⟩ } ∧
        t.plan = s.plan ∧ t.sup = s.sup ∧ t.tally = s.tally) ∧
      t.geo = s.geo ∧ t.trk = s.trk ∧ t.doors = s.doors ∧ t.links = s.links ∧ t.ctl = s.ctl)) ∧
  (∀ (dt : Time) (s : State),
    let due := ∃ t0, s.drive.timer = some t0 ∧ 100 ≤ elapsed t0 (s.now + dt)
    (¬due → exec (.driveSilenceExpiry dt) s = .next ((s.advance dt).ended s.pending)) ∧
    (due → ∃ t : State, exec (.driveSilenceExpiry dt) s = .next t.transmit ∧ t.drive.silent = true ∧ t.drive.timer = none ∧
      t.drive.status = s.drive.status ∧
      (s.brk.ten = true → t.brk.dropped ∧ ∃ y, t.sup.trip = some y ∧ (s.sup.trip = none →
        y.cause = .driveFault (s.drive.status.any (fun x => x.fault)) true)) ∧
      (s.brk.ten = false → s.sameMotion { t with drive := s.drive }) ∧
      t.geo = s.geo ∧ t.trk = s.trk ∧ t.doors = s.doors ∧ t.links = s.links ∧ t.ctl = s.ctl))
end

