-- ==== Sys2Proof/Laws/State.lean ====
section
/-! SUPPORT. For every update of State by one named operation, the fields it leaves as they were: one simp lemma per
operation, one equation per field. -/

namespace Sys2Proof

variable {α β : Type}

namespace Machine

@[simp] theorem State.advance_frame (s : State) (dt : Time) :
    (s.advance dt).geo = s.geo ∧ (s.advance dt).trk = s.trk ∧ (s.advance dt).sup = s.sup ∧
      (s.advance dt).plan = s.plan ∧ (s.advance dt).brk = s.brk ∧ (s.advance dt).doors = s.doors ∧
      (s.advance dt).gates = s.gates ∧ (s.advance dt).tally = s.tally ∧ (s.advance dt).line = s.line ∧
      (s.advance dt).links = s.links ∧ (s.advance dt).drive = s.drive ∧ (s.advance dt).ctl = s.ctl ∧
      (s.advance dt).notices = s.notices ∧ (s.advance dt).freeSeq = s.freeSeq ∧ (s.advance dt).pending = s.pending :=
  ⟨rfl, rfl, rfl, rfl, rfl, rfl, rfl, rfl, rfl, rfl, rfl, rfl, rfl, rfl, rfl⟩

@[simp] theorem State.refreshFlags_frame (s : State) :
    (s.refreshFlags).now = s.now ∧ (s.refreshFlags).geo = s.geo ∧ (s.refreshFlags).trk = s.trk ∧
      (s.refreshFlags).sup = s.sup ∧ (s.refreshFlags).plan = s.plan ∧ (s.refreshFlags).brk = s.brk ∧
      (s.refreshFlags).doors = s.doors ∧ (s.refreshFlags).gates = s.gates ∧ (s.refreshFlags).tally = s.tally ∧
      (s.refreshFlags).links = s.links ∧ (s.refreshFlags).drive = s.drive ∧ (s.refreshFlags).ctl = s.ctl ∧
      (s.refreshFlags).notices = s.notices ∧ (s.refreshFlags).freeSeq = s.freeSeq ∧ (s.refreshFlags).pending = s.pending ∧
      (s.refreshFlags).line.mode = s.line.mode ∧ (s.refreshFlags).line.key = s.line.key ∧ (s.refreshFlags).line.loops = s.line.loops ∧
      (s.refreshFlags).line.restartPending = s.line.restartPending ∧ (s.refreshFlags).line.atStop = s.line.atStop ∧ (s.refreshFlags).line.conds = s.line.conds ∧
      (s.refreshFlags).line.memory = s.line.memory :=
  ⟨rfl, rfl, rfl, rfl, rfl, rfl, rfl, rfl, rfl, rfl, rfl, rfl, rfl, rfl, rfl, rfl, rfl, rfl, rfl, rfl, rfl, rfl⟩

@[simp] theorem NoticeQueue.add_frame (q : NoticeQueue) (c : NoticeClass) (k : Nat) (t : Time) (b : List Field) :
    (q.add c k t b).settings = q.settings ∧ (q.add c k t b).threshold = q.threshold := by
  simp only [NoticeQueue.add]; (repeat' split) <;> simp

@[simp] theorem LineStatus.handOver_frame (l : LineStatus) (c : Condition) (b : Bool) :
    (l.handOver c b).mode = l.mode ∧ (l.handOver c b).key = l.key ∧ (l.handOver c b).loops = l.loops ∧
      (l.handOver c b).restartPending = l.restartPending ∧ (l.handOver c b).flags = l.flags ∧
      (l.handOver c b).atStop = l.atStop ∧ (l.handOver c b).conds = l.conds.put c b :=
  ⟨rfl, rfl, rfl, rfl, rfl, rfl, rfl⟩

@[simp] theorem State.notice_frame (s : State) (c : NoticeClass) (k : Nat) (b : List Field) :
    (s.notice c k b).now = s.now ∧ (s.notice c k b).geo = s.geo ∧ (s.notice c k b).trk = s.trk ∧
      (s.notice c k b).sup = s.sup ∧ (s.notice c k b).plan = s.plan ∧ (s.notice c k b).brk = s.brk ∧
      (s.notice c k b).doors = s.doors ∧ (s.notice c k b).gates = s.gates ∧ (s.notice c k b).tally = s.tally ∧
      (s.notice c k b).line = s.line ∧ (s.notice c k b).links = s.links ∧ (s.notice c k b).drive = s.drive ∧
      (s.notice c k b).ctl = s.ctl ∧ (s.notice c k b).freeSeq = s.freeSeq ∧ (s.notice c k b).pending = s.pending ∧
      (s.notice c k b).notices.settings = s.notices.settings ∧ (s.notice c k b).notices.threshold = s.notices.threshold := by
  simp [State.notice]

@[simp] theorem State.noticeIf_frame (s : State) (x : Bool) (c : NoticeClass) (k : Nat) (b : List Field) :
    (s.noticeIf x c k b).now = s.now ∧ (s.noticeIf x c k b).geo = s.geo ∧ (s.noticeIf x c k b).trk = s.trk ∧
      (s.noticeIf x c k b).sup = s.sup ∧ (s.noticeIf x c k b).plan = s.plan ∧ (s.noticeIf x c k b).brk = s.brk ∧
      (s.noticeIf x c k b).doors = s.doors ∧ (s.noticeIf x c k b).gates = s.gates ∧ (s.noticeIf x c k b).tally = s.tally ∧
      (s.noticeIf x c k b).line = s.line ∧ (s.noticeIf x c k b).links = s.links ∧ (s.noticeIf x c k b).drive = s.drive ∧
      (s.noticeIf x c k b).ctl = s.ctl ∧ (s.noticeIf x c k b).freeSeq = s.freeSeq ∧ (s.noticeIf x c k b).pending = s.pending ∧
      (s.noticeIf x c k b).notices.settings = s.notices.settings ∧ (s.noticeIf x c k b).notices.threshold = s.notices.threshold := by
  cases x <;> simp [State.noticeIf]

@[simp] theorem State.handOver_frame (s : State) (c : Condition) (b : Bool) :
    (s.handOver c b).now = s.now ∧ (s.handOver c b).geo = s.geo ∧ (s.handOver c b).trk = s.trk ∧
      (s.handOver c b).sup = s.sup ∧ (s.handOver c b).plan = s.plan ∧ (s.handOver c b).brk = s.brk ∧
      (s.handOver c b).doors = s.doors ∧ (s.handOver c b).gates = s.gates ∧ (s.handOver c b).tally = s.tally ∧
      (s.handOver c b).links = s.links ∧ (s.handOver c b).drive = s.drive ∧ (s.handOver c b).ctl = s.ctl ∧
      (s.handOver c b).freeSeq = s.freeSeq ∧ (s.handOver c b).pending = s.pending ∧ (s.handOver c b).line.mode = s.line.mode ∧
      (s.handOver c b).line.key = s.line.key ∧ (s.handOver c b).line.loops = s.line.loops ∧ (s.handOver c b).line.restartPending = s.line.restartPending ∧
      (s.handOver c b).line.flags = s.line.flags ∧ (s.handOver c b).line.atStop = s.line.atStop ∧ (s.handOver c b).notices.settings = s.notices.settings ∧
      (s.handOver c b).notices.threshold = s.notices.threshold := by
  simp [State.handOver, apply_ite NoticeQueue.settings, apply_ite NoticeQueue.threshold]

@[simp] theorem State.evalAtStop_frame (s : State) :
    (s.evalAtStop).now = s.now ∧ (s.evalAtStop).geo = s.geo ∧ (s.evalAtStop).trk = s.trk ∧
      (s.evalAtStop).sup = s.sup ∧ (s.evalAtStop).plan = s.plan ∧ (s.evalAtStop).brk = s.brk ∧
      (s.evalAtStop).doors = s.doors ∧ (s.evalAtStop).gates = s.gates ∧ (s.evalAtStop).tally = s.tally ∧
      (s.evalAtStop).links = s.links ∧ (s.evalAtStop).drive = s.drive ∧ (s.evalAtStop).ctl = s.ctl ∧
      (s.evalAtStop).notices = s.notices ∧ (s.evalAtStop).freeSeq = s.freeSeq ∧ (s.evalAtStop).pending = s.pending ∧
      (s.evalAtStop).line.mode = s.line.mode ∧ (s.evalAtStop).line.key = s.line.key ∧ (s.evalAtStop).line.loops = s.line.loops ∧
      (s.evalAtStop).line.restartPending = s.line.restartPending ∧ (s.evalAtStop).line.flags = s.line.flags ∧ (s.evalAtStop).line.conds = s.line.conds ∧
      (s.evalAtStop).line.memory = s.line.memory :=
  ⟨rfl, rfl, rfl, rfl, rfl, rfl, rfl, rfl, rfl, rfl, rfl, rfl, rfl, rfl, rfl, rfl, rfl, rfl, rfl, rfl, rfl, rfl⟩

@[simp] theorem State.setLoad_frame (s : State) (c : Car) (l : Load) :
    (s.setLoad c l).now = s.now ∧ (s.setLoad c l).geo = s.geo ∧ (s.setLoad c l).trk = s.trk ∧
      (s.setLoad c l).sup = s.sup ∧ (s.setLoad c l).plan = s.plan ∧ (s.setLoad c l).brk = s.brk ∧
      (s.setLoad c l).doors = s.doors ∧ (s.setLoad c l).gates = s.gates ∧ (s.setLoad c l).line = s.line ∧
      (s.setLoad c l).links = s.links ∧ (s.setLoad c l).drive = s.drive ∧ (s.setLoad c l).ctl = s.ctl ∧
      (s.setLoad c l).notices = s.notices ∧ (s.setLoad c l).freeSeq = s.freeSeq ∧ (s.setLoad c l).pending = s.pending :=
  ⟨rfl, rfl, rfl, rfl, rfl, rfl, rfl, rfl, rfl, rfl, rfl, rfl, rfl, rfl, rfl⟩

@[simp] theorem State.gate_frame (s : State) (a : Nat) (f : Gate → Gate) :
    (s.gate a f).now = s.now ∧ (s.gate a f).geo = s.geo ∧ (s.gate a f).trk = s.trk ∧
      (s.gate a f).sup = s.sup ∧ (s.gate a f).plan = s.plan ∧ (s.gate a f).brk = s.brk ∧
      (s.gate a f).doors = s.doors ∧ (s.gate a f).tally = s.tally ∧ (s.gate a f).line = s.line ∧
      (s.gate a f).links = s.links ∧ (s.gate a f).drive = s.drive ∧ (s.gate a f).ctl = s.ctl ∧
      (s.gate a f).notices = s.notices ∧ (s.gate a f).freeSeq = s.freeSeq ∧ (s.gate a f).pending = s.pending ∧
      (s.gate a f).gates.busReleased = s.gates.busReleased ∧ (s.gate a f).gates.trans = s.gates.trans ∧ (s.gate a f).gates.lastMain = s.gates.lastMain ∧
      (s.gate a f).gates.round = s.gates.round ∧ (s.gate a f).gates.classes = s.gates.classes ∧ (s.gate a f).gates.recent = s.gates.recent ∧
      (s.gate a f).gates.passback = s.gates.passback ∧ (s.gate a f).gates.openMarks = s.gates.openMarks :=
  ⟨rfl, rfl, rfl, rfl, rfl, rfl, rfl, rfl, rfl, rfl, rfl, rfl, rfl, rfl, rfl, rfl, rfl, rfl, rfl, rfl, rfl, rfl, rfl⟩

@[simp] theorem State.nextTransaction_frame (s : State) :
    (s.nextTransaction).now = s.now ∧ (s.nextTransaction).geo = s.geo ∧ (s.nextTransaction).trk = s.trk ∧
      (s.nextTransaction).sup = s.sup ∧ (s.nextTransaction).plan = s.plan ∧ (s.nextTransaction).brk = s.brk ∧
      (s.nextTransaction).doors = s.doors ∧ (s.nextTransaction).tally = s.tally ∧ (s.nextTransaction).line = s.line ∧
      (s.nextTransaction).links = s.links ∧ (s.nextTransaction).drive = s.drive ∧ (s.nextTransaction).ctl = s.ctl ∧
      (s.nextTransaction).notices = s.notices ∧ (s.nextTransaction).freeSeq = s.freeSeq ∧ (s.nextTransaction).pending = s.pending :=
  ⟨rfl, rfl, rfl, rfl, rfl, rfl, rfl, rfl, rfl, rfl, rfl, rfl, rfl, rfl, rfl⟩

@[simp] theorem State.setDoor_frame (s : State) (x : Door) (r : DoorRec) :
    (s.setDoor x r).now = s.now ∧ (s.setDoor x r).geo = s.geo ∧ (s.setDoor x r).trk = s.trk ∧
      (s.setDoor x r).sup = s.sup ∧ (s.setDoor x r).plan = s.plan ∧ (s.setDoor x r).brk = s.brk ∧
      (s.setDoor x r).gates = s.gates ∧ (s.setDoor x r).tally = s.tally ∧ (s.setDoor x r).line = s.line ∧
      (s.setDoor x r).links = s.links ∧ (s.setDoor x r).drive = s.drive ∧ (s.setDoor x r).ctl = s.ctl ∧
      (s.setDoor x r).notices = s.notices ∧ (s.setDoor x r).freeSeq = s.freeSeq ∧ (s.setDoor x r).pending = s.pending ∧
      (s.setDoor x r).doors.side = s.doors.side :=
  ⟨rfl, rfl, rfl, rfl, rfl, rfl, rfl, rfl, rfl, rfl, rfl, rfl, rfl, rfl, rfl, rfl⟩

@[simp] theorem State.returnSide_frame (s : State) (c : Car) :
    (s.returnSide c).now = s.now ∧ (s.returnSide c).geo = s.geo ∧ (s.returnSide c).trk = s.trk ∧
      (s.returnSide c).sup = s.sup ∧ (s.returnSide c).plan = s.plan ∧ (s.returnSide c).brk = s.brk ∧
      (s.returnSide c).gates = s.gates ∧ (s.returnSide c).tally = s.tally ∧ (s.returnSide c).line = s.line ∧
      (s.returnSide c).links = s.links ∧ (s.returnSide c).drive = s.drive ∧ (s.returnSide c).ctl = s.ctl ∧
      (s.returnSide c).notices = s.notices ∧ (s.returnSide c).freeSeq = s.freeSeq ∧ (s.returnSide c).pending = s.pending ∧
      (s.returnSide c).doors.recs = s.doors.recs :=
  ⟨rfl, rfl, rfl, rfl, rfl, rfl, rfl, rfl, rfl, rfl, rfl, rfl, rfl, rfl, rfl, rfl⟩

@[simp] theorem State.setRun_frame (s : State) (r : Option Run) :
    (s.setRun r).now = s.now ∧ (s.setRun r).geo = s.geo ∧ (s.setRun r).trk = s.trk ∧
      (s.setRun r).sup = s.sup ∧ (s.setRun r).brk = s.brk ∧ (s.setRun r).doors = s.doors ∧
      (s.setRun r).gates = s.gates ∧ (s.setRun r).tally = s.tally ∧ (s.setRun r).line = s.line ∧
      (s.setRun r).links = s.links ∧ (s.setRun r).drive = s.drive ∧ (s.setRun r).ctl = s.ctl ∧
      (s.setRun r).notices = s.notices ∧ (s.setRun r).freeSeq = s.freeSeq ∧ (s.setRun r).pending = s.pending ∧
      (s.setRun r).plan.nextId = s.plan.nextId ∧ (s.setRun r).plan.pendingRun = s.plan.pendingRun ∧ (s.setRun r).plan.lastRun = s.plan.lastRun ∧
      (s.setRun r).plan.watches = s.plan.watches ∧ (s.setRun r).plan.ref = s.plan.ref ∧ (s.setRun r).plan.prev = s.plan.prev :=
  ⟨rfl, rfl, rfl, rfl, rfl, rfl, rfl, rfl, rfl, rfl, rfl, rfl, rfl, rfl, rfl, rfl, rfl, rfl, rfl, rfl, rfl⟩

@[simp] theorem State.setBand_frame (s : State) (b : BandRec) :
    (s.setBand b).now = s.now ∧ (s.setBand b).geo = s.geo ∧ (s.setBand b).trk = s.trk ∧
      (s.setBand b).plan = s.plan ∧ (s.setBand b).brk = s.brk ∧ (s.setBand b).doors = s.doors ∧
      (s.setBand b).gates = s.gates ∧ (s.setBand b).tally = s.tally ∧ (s.setBand b).line = s.line ∧
      (s.setBand b).links = s.links ∧ (s.setBand b).drive = s.drive ∧ (s.setBand b).ctl = s.ctl ∧
      (s.setBand b).notices = s.notices ∧ (s.setBand b).freeSeq = s.freeSeq ∧ (s.setBand b).pending = s.pending ∧
      (s.setBand b).sup.env = s.sup.env ∧ (s.setBand b).sup.trip = s.sup.trip :=
  ⟨rfl, rfl, rfl, rfl, rfl, rfl, rfl, rfl, rfl, rfl, rfl, rfl, rfl, rfl, rfl, rfl, rfl⟩

@[simp] theorem State.setRef_frame (s : State) (x : Int) :
    (s.setRef x).now = s.now ∧ (s.setRef x).geo = s.geo ∧ (s.setRef x).trk = s.trk ∧
      (s.setRef x).sup = s.sup ∧ (s.setRef x).brk = s.brk ∧ (s.setRef x).doors = s.doors ∧
      (s.setRef x).gates = s.gates ∧ (s.setRef x).tally = s.tally ∧ (s.setRef x).line = s.line ∧
      (s.setRef x).links = s.links ∧ (s.setRef x).drive = s.drive ∧ (s.setRef x).ctl = s.ctl ∧
      (s.setRef x).notices = s.notices ∧ (s.setRef x).freeSeq = s.freeSeq ∧ (s.setRef x).pending = s.pending ∧
      (s.setRef x).plan.run = s.plan.run ∧ (s.setRef x).plan.nextId = s.plan.nextId ∧ (s.setRef x).plan.pendingRun = s.plan.pendingRun ∧
      (s.setRef x).plan.lastRun = s.plan.lastRun ∧ (s.setRef x).plan.watches = s.plan.watches ∧ (s.setRef x).plan.prev = s.plan.prev :=
  ⟨rfl, rfl, rfl, rfl, rfl, rfl, rfl, rfl, rfl, rfl, rfl, rfl, rfl, rfl, rfl, rfl, rfl, rfl, rfl, rfl, rfl⟩

@[simp] theorem State.dropEnvelope_frame (s : State) :
    (s.dropEnvelope).now = s.now ∧ (s.dropEnvelope).geo = s.geo ∧ (s.dropEnvelope).trk = s.trk ∧
      (s.dropEnvelope).plan = s.plan ∧ (s.dropEnvelope).brk = s.brk ∧ (s.dropEnvelope).doors = s.doors ∧
      (s.dropEnvelope).gates = s.gates ∧ (s.dropEnvelope).tally = s.tally ∧ (s.dropEnvelope).line = s.line ∧
      (s.dropEnvelope).links = s.links ∧ (s.dropEnvelope).drive = s.drive ∧ (s.dropEnvelope).ctl = s.ctl ∧
      (s.dropEnvelope).notices = s.notices ∧ (s.dropEnvelope).freeSeq = s.freeSeq ∧ (s.dropEnvelope).pending = s.pending ∧
      (s.dropEnvelope).sup.band = s.sup.band ∧ (s.dropEnvelope).sup.trip = s.sup.trip :=
  ⟨rfl, rfl, rfl, rfl, rfl, rfl, rfl, rfl, rfl, rfl, rfl, rfl, rfl, rfl, rfl, rfl, rfl⟩

@[simp] theorem State.lowerCruise_frame (s : State) :
    (s.lowerCruise).now = s.now ∧ (s.lowerCruise).geo = s.geo ∧ (s.lowerCruise).trk = s.trk ∧
      (s.lowerCruise).sup = s.sup ∧ (s.lowerCruise).brk = s.brk ∧ (s.lowerCruise).doors = s.doors ∧
      (s.lowerCruise).gates = s.gates ∧ (s.lowerCruise).tally = s.tally ∧ (s.lowerCruise).line = s.line ∧
      (s.lowerCruise).links = s.links ∧ (s.lowerCruise).drive = s.drive ∧ (s.lowerCruise).ctl = s.ctl ∧
      (s.lowerCruise).notices = s.notices ∧ (s.lowerCruise).freeSeq = s.freeSeq ∧ (s.lowerCruise).pending = s.pending ∧
      (s.lowerCruise).plan.nextId = s.plan.nextId ∧ (s.lowerCruise).plan.pendingRun = s.plan.pendingRun ∧ (s.lowerCruise).plan.lastRun = s.plan.lastRun ∧
      (s.lowerCruise).plan.watches = s.plan.watches ∧ (s.lowerCruise).plan.ref = s.plan.ref ∧ (s.lowerCruise).plan.prev = s.plan.prev :=
  ⟨rfl, rfl, rfl, rfl, rfl, rfl, rfl, rfl, rfl, rfl, rfl, rfl, rfl, rfl, rfl, rfl, rfl, rfl, rfl, rfl, rfl⟩

@[simp] theorem State.tenOff_frame (s : State) :
    (s.tenOff).now = s.now ∧ (s.tenOff).geo = s.geo ∧ (s.tenOff).trk = s.trk ∧
      (s.tenOff).sup = s.sup ∧ (s.tenOff).plan = s.plan ∧ (s.tenOff).doors = s.doors ∧
      (s.tenOff).gates = s.gates ∧ (s.tenOff).tally = s.tally ∧ (s.tenOff).line = s.line ∧
      (s.tenOff).links = s.links ∧ (s.tenOff).ctl = s.ctl ∧ (s.tenOff).notices = s.notices ∧
      (s.tenOff).freeSeq = s.freeSeq ∧ (s.tenOff).pending = s.pending ∧ (s.tenOff).brk.sbr = s.brk.sbr ∧
      (s.tenOff).brk.ebr = s.brk.ebr ∧ (s.tenOff).brk.service = s.brk.service ∧ (s.tenOff).brk.sheave = s.brk.sheave ∧
      (s.tenOff).brk.track = s.brk.track ∧ (s.tenOff).brk.watch = s.brk.watch ∧ (s.tenOff).brk.sbApplied = s.brk.sbApplied ∧
      (s.tenOff).brk.sbReleased = s.brk.sbReleased ∧ (s.tenOff).brk.ebApplied = s.brk.ebApplied ∧ (s.tenOff).brk.ebReleased = s.brk.ebReleased ∧
      (s.tenOff).drive.status = s.drive.status ∧ (s.tenOff).drive.silent = s.drive.silent ∧ (s.tenOff).drive.lastRef = s.drive.lastRef ∧
      (s.tenOff).drive.lastFrame = s.drive.lastFrame :=
  ⟨rfl, rfl, rfl, rfl, rfl, rfl, rfl, rfl, rfl, rfl, rfl, rfl, rfl, rfl, rfl, rfl, rfl, rfl, rfl, rfl, rfl, rfl, rfl, rfl, rfl, rfl, rfl, rfl⟩

@[simp] theorem State.startWatch_frame (s : State) (v : Int) :
    (s.startWatch v).now = s.now ∧ (s.startWatch v).geo = s.geo ∧ (s.startWatch v).trk = s.trk ∧
      (s.startWatch v).sup = s.sup ∧ (s.startWatch v).plan = s.plan ∧ (s.startWatch v).doors = s.doors ∧
      (s.startWatch v).gates = s.gates ∧ (s.startWatch v).tally = s.tally ∧ (s.startWatch v).line = s.line ∧
      (s.startWatch v).links = s.links ∧ (s.startWatch v).drive = s.drive ∧ (s.startWatch v).ctl = s.ctl ∧
      (s.startWatch v).notices = s.notices ∧ (s.startWatch v).freeSeq = s.freeSeq ∧ (s.startWatch v).pending = s.pending ∧
      (s.startWatch v).brk.sbr = s.brk.sbr ∧ (s.startWatch v).brk.ebr = s.brk.ebr ∧ (s.startWatch v).brk.ten = s.brk.ten ∧
      (s.startWatch v).brk.seq = s.brk.seq ∧ (s.startWatch v).brk.abort = s.brk.abort ∧ (s.startWatch v).brk.torque = s.brk.torque ∧
      (s.startWatch v).brk.service = s.brk.service ∧ (s.startWatch v).brk.sheave = s.brk.sheave ∧ (s.startWatch v).brk.sbApplied = s.brk.sbApplied ∧
      (s.startWatch v).brk.sbReleased = s.brk.sbReleased ∧ (s.startWatch v).brk.ebApplied = s.brk.ebApplied ∧ (s.startWatch v).brk.ebReleased = s.brk.ebReleased ∧
      (s.startWatch v).brk.track = s.brk.track :=
  ⟨rfl, rfl, rfl, rfl, rfl, rfl, rfl, rfl, rfl, rfl, rfl, rfl, rfl, rfl, rfl, rfl, rfl, rfl, rfl, rfl, rfl, rfl, rfl, rfl, rfl, rfl, rfl, rfl⟩

@[simp] theorem State.setLink_frame (s : State) (c : Car) (l : CarLink) :
    (s.setLink c l).now = s.now ∧ (s.setLink c l).geo = s.geo ∧ (s.setLink c l).trk = s.trk ∧
      (s.setLink c l).sup = s.sup ∧ (s.setLink c l).plan = s.plan ∧ (s.setLink c l).brk = s.brk ∧
      (s.setLink c l).doors = s.doors ∧ (s.setLink c l).gates = s.gates ∧ (s.setLink c l).tally = s.tally ∧
      (s.setLink c l).line = s.line ∧ (s.setLink c l).drive = s.drive ∧ (s.setLink c l).ctl = s.ctl ∧
      (s.setLink c l).notices = s.notices ∧ (s.setLink c l).freeSeq = s.freeSeq ∧ (s.setLink c l).pending = s.pending :=
  ⟨rfl, rfl, rfl, rfl, rfl, rfl, rfl, rfl, rfl, rfl, rfl, rfl, rfl, rfl, rfl⟩

@[simp] theorem State.setPort_frame (s : State) (k : Port) (x : PortState) :
    (s.setPort k x).now = s.now ∧ (s.setPort k x).geo = s.geo ∧ (s.setPort k x).trk = s.trk ∧
      (s.setPort k x).sup = s.sup ∧ (s.setPort k x).plan = s.plan ∧ (s.setPort k x).brk = s.brk ∧
      (s.setPort k x).doors = s.doors ∧ (s.setPort k x).gates = s.gates ∧ (s.setPort k x).tally = s.tally ∧
      (s.setPort k x).line = s.line ∧ (s.setPort k x).links = s.links ∧ (s.setPort k x).drive = s.drive ∧
      (s.setPort k x).notices = s.notices ∧ (s.setPort k x).freeSeq = s.freeSeq ∧ (s.setPort k x).pending = s.pending :=
  ⟨rfl, rfl, rfl, rfl, rfl, rfl, rfl, rfl, rfl, rfl, rfl, rfl, rfl, rfl, rfl⟩

@[simp] theorem State.sendNotice_frame (s : State) (k : Port) :
    (s.sendNotice k).now = s.now ∧ (s.sendNotice k).geo = s.geo ∧ (s.sendNotice k).trk = s.trk ∧
      (s.sendNotice k).sup = s.sup ∧ (s.sendNotice k).plan = s.plan ∧ (s.sendNotice k).brk = s.brk ∧
      (s.sendNotice k).doors = s.doors ∧ (s.sendNotice k).gates = s.gates ∧ (s.sendNotice k).tally = s.tally ∧
      (s.sendNotice k).line = s.line ∧ (s.sendNotice k).links = s.links ∧ (s.sendNotice k).drive = s.drive ∧
      (s.sendNotice k).freeSeq = s.freeSeq ∧ (s.sendNotice k).pending = s.pending ∧ (s.sendNotice k).notices.settings = s.notices.settings ∧
      (s.sendNotice k).notices.threshold = s.notices.threshold := by
  simp only [State.sendNotice]; (repeat' split) <;> simp [NoticeQueue.handed]

@[simp] theorem State.sendNext_frame (s : State) (k : Port) :
    (s.sendNext k).now = s.now ∧ (s.sendNext k).geo = s.geo ∧ (s.sendNext k).trk = s.trk ∧
      (s.sendNext k).sup = s.sup ∧ (s.sendNext k).plan = s.plan ∧ (s.sendNext k).brk = s.brk ∧
      (s.sendNext k).doors = s.doors ∧ (s.sendNext k).gates = s.gates ∧ (s.sendNext k).tally = s.tally ∧
      (s.sendNext k).line = s.line ∧ (s.sendNext k).links = s.links ∧ (s.sendNext k).drive = s.drive ∧
      (s.sendNext k).freeSeq = s.freeSeq ∧ (s.sendNext k).pending = s.pending ∧ (s.sendNext k).notices.settings = s.notices.settings ∧
      (s.sendNext k).notices.threshold = s.notices.threshold := by
  simp only [State.sendNext]; (repeat' split) <;> simp

@[simp] theorem State.ask_frame (s : State) (k : Port) :
    (s.ask k).now = s.now ∧ (s.ask k).geo = s.geo ∧ (s.ask k).trk = s.trk ∧
      (s.ask k).sup = s.sup ∧ (s.ask k).plan = s.plan ∧ (s.ask k).brk = s.brk ∧
      (s.ask k).doors = s.doors ∧ (s.ask k).gates = s.gates ∧ (s.ask k).tally = s.tally ∧
      (s.ask k).line = s.line ∧ (s.ask k).links = s.links ∧ (s.ask k).drive = s.drive ∧
      (s.ask k).freeSeq = s.freeSeq ∧ (s.ask k).pending = s.pending ∧ (s.ask k).notices.settings = s.notices.settings ∧
      (s.ask k).notices.threshold = s.notices.threshold := by
  simp only [State.ask]; split <;> simp

@[simp] theorem State.transmit_frame (s : State) :
    (s.transmit).now = s.now ∧ (s.transmit).geo = s.geo ∧ (s.transmit).trk = s.trk ∧
      (s.transmit).sup = s.sup ∧ (s.transmit).plan = s.plan ∧ (s.transmit).brk = s.brk ∧
      (s.transmit).doors = s.doors ∧ (s.transmit).gates = s.gates ∧ (s.transmit).tally = s.tally ∧
      (s.transmit).line = s.line ∧ (s.transmit).links = s.links ∧ (s.transmit).drive = s.drive ∧
      (s.transmit).freeSeq = s.freeSeq ∧ (s.transmit).pending = s.pending ∧ (s.transmit).notices.settings = s.notices.settings ∧
      (s.transmit).notices.threshold = s.notices.threshold := by
  simp [State.transmit]

@[simp] theorem State.answer_frame (s : State) (k : Port) (r : Reply) :
    (s.answer k r).now = s.now ∧ (s.answer k r).geo = s.geo ∧ (s.answer k r).trk = s.trk ∧
      (s.answer k r).sup = s.sup ∧ (s.answer k r).plan = s.plan ∧ (s.answer k r).brk = s.brk ∧
      (s.answer k r).doors = s.doors ∧ (s.answer k r).gates = s.gates ∧ (s.answer k r).tally = s.tally ∧
      (s.answer k r).line = s.line ∧ (s.answer k r).links = s.links ∧ (s.answer k r).drive = s.drive ∧
      (s.answer k r).notices = s.notices ∧ (s.answer k r).freeSeq = s.freeSeq ∧ (s.answer k r).pending = s.pending :=
  ⟨rfl, rfl, rfl, rfl, rfl, rfl, rfl, rfl, rfl, rfl, rfl, rfl, rfl, rfl, rfl⟩

@[simp] theorem State.joinReplies_frame (s : State) (k : Port) (e : ReplyEntry) :
    (s.joinReplies k e).now = s.now ∧ (s.joinReplies k e).geo = s.geo ∧ (s.joinReplies k e).trk = s.trk ∧
      (s.joinReplies k e).sup = s.sup ∧ (s.joinReplies k e).plan = s.plan ∧ (s.joinReplies k e).brk = s.brk ∧
      (s.joinReplies k e).doors = s.doors ∧ (s.joinReplies k e).gates = s.gates ∧ (s.joinReplies k e).tally = s.tally ∧
      (s.joinReplies k e).line = s.line ∧ (s.joinReplies k e).links = s.links ∧ (s.joinReplies k e).drive = s.drive ∧
      (s.joinReplies k e).notices = s.notices ∧ (s.joinReplies k e).freeSeq = s.freeSeq ∧ (s.joinReplies k e).pending = s.pending :=
  ⟨rfl, rfl, rfl, rfl, rfl, rfl, rfl, rfl, rfl, rfl, rfl, rfl, rfl, rfl, rfl⟩

@[simp] theorem State.setStaging_frame (s : State) (g : Staging) :
    (s.setStaging g).now = s.now ∧ (s.setStaging g).trk = s.trk ∧ (s.setStaging g).sup = s.sup ∧
      (s.setStaging g).plan = s.plan ∧ (s.setStaging g).brk = s.brk ∧ (s.setStaging g).doors = s.doors ∧
      (s.setStaging g).gates = s.gates ∧ (s.setStaging g).tally = s.tally ∧ (s.setStaging g).line = s.line ∧
      (s.setStaging g).links = s.links ∧ (s.setStaging g).drive = s.drive ∧ (s.setStaging g).ctl = s.ctl ∧
      (s.setStaging g).notices = s.notices ∧ (s.setStaging g).freeSeq = s.freeSeq ∧ (s.setStaging g).pending = s.pending ∧
      (s.setStaging g).geo.committed = s.geo.committed :=
  ⟨rfl, rfl, rfl, rfl, rfl, rfl, rfl, rfl, rfl, rfl, rfl, rfl, rfl, rfl, rfl, rfl⟩

@[simp] theorem State.setPending_frame (s : State) (h : Option Nat) :
    (s.setPending h).now = s.now ∧ (s.setPending h).geo = s.geo ∧ (s.setPending h).trk = s.trk ∧
      (s.setPending h).sup = s.sup ∧ (s.setPending h).brk = s.brk ∧ (s.setPending h).doors = s.doors ∧
      (s.setPending h).gates = s.gates ∧ (s.setPending h).tally = s.tally ∧ (s.setPending h).line = s.line ∧
      (s.setPending h).links = s.links ∧ (s.setPending h).drive = s.drive ∧ (s.setPending h).ctl = s.ctl ∧
      (s.setPending h).notices = s.notices ∧ (s.setPending h).freeSeq = s.freeSeq ∧ (s.setPending h).pending = s.pending ∧
      (s.setPending h).plan.run = s.plan.run ∧ (s.setPending h).plan.nextId = s.plan.nextId ∧ (s.setPending h).plan.lastRun = s.plan.lastRun ∧
      (s.setPending h).plan.watches = s.plan.watches ∧ (s.setPending h).plan.ref = s.plan.ref ∧ (s.setPending h).plan.prev = s.plan.prev :=
  ⟨rfl, rfl, rfl, rfl, rfl, rfl, rfl, rfl, rfl, rfl, rfl, rfl, rfl, rfl, rfl, rfl, rfl, rfl, rfl, rfl, rfl⟩

@[simp] theorem State.setWatchRec_frame (s : State) (n : Ix4) (w : Watch) :
    (s.setWatchRec n w).now = s.now ∧ (s.setWatchRec n w).geo = s.geo ∧ (s.setWatchRec n w).trk = s.trk ∧
      (s.setWatchRec n w).sup = s.sup ∧ (s.setWatchRec n w).brk = s.brk ∧ (s.setWatchRec n w).doors = s.doors ∧
      (s.setWatchRec n w).gates = s.gates ∧ (s.setWatchRec n w).tally = s.tally ∧ (s.setWatchRec n w).line = s.line ∧
      (s.setWatchRec n w).links = s.links ∧ (s.setWatchRec n w).drive = s.drive ∧ (s.setWatchRec n w).ctl = s.ctl ∧
      (s.setWatchRec n w).notices = s.notices ∧ (s.setWatchRec n w).freeSeq = s.freeSeq ∧ (s.setWatchRec n w).pending = s.pending ∧
      (s.setWatchRec n w).plan.run = s.plan.run ∧ (s.setWatchRec n w).plan.nextId = s.plan.nextId ∧ (s.setWatchRec n w).plan.pendingRun = s.plan.pendingRun ∧
      (s.setWatchRec n w).plan.lastRun = s.plan.lastRun ∧ (s.setWatchRec n w).plan.ref = s.plan.ref ∧ (s.setWatchRec n w).plan.prev = s.plan.prev :=
  ⟨rfl, rfl, rfl, rfl, rfl, rfl, rfl, rfl, rfl, rfl, rfl, rfl, rfl, rfl, rfl, rfl, rfl, rfl, rfl, rfl, rfl⟩

@[simp] theorem State.putPassback_frame (s : State) (m : Nat) :
    (s.putPassback m).now = s.now ∧ (s.putPassback m).geo = s.geo ∧ (s.putPassback m).trk = s.trk ∧
      (s.putPassback m).sup = s.sup ∧ (s.putPassback m).plan = s.plan ∧ (s.putPassback m).brk = s.brk ∧
      (s.putPassback m).doors = s.doors ∧ (s.putPassback m).tally = s.tally ∧ (s.putPassback m).line = s.line ∧
      (s.putPassback m).links = s.links ∧ (s.putPassback m).drive = s.drive ∧ (s.putPassback m).ctl = s.ctl ∧
      (s.putPassback m).notices = s.notices ∧ (s.putPassback m).freeSeq = s.freeSeq ∧ (s.putPassback m).pending = s.pending ∧
      (s.putPassback m).gates.gates = s.gates.gates ∧ (s.putPassback m).gates.openMarks = s.gates.openMarks ∧ (s.putPassback m).gates.busReleased = s.gates.busReleased ∧
      (s.putPassback m).gates.trans = s.gates.trans ∧ (s.putPassback m).gates.lastMain = s.gates.lastMain ∧ (s.putPassback m).gates.round = s.gates.round ∧
      (s.putPassback m).gates.classes = s.gates.classes :=
  ⟨rfl, rfl, rfl, rfl, rfl, rfl, rfl, rfl, rfl, rfl, rfl, rfl, rfl, rfl, rfl, rfl, rfl, rfl, rfl, rfl, rfl, rfl⟩

@[simp] theorem State.sendReference_frame (s : State) :
    (s.sendReference).now = s.now ∧ (s.sendReference).geo = s.geo ∧ (s.sendReference).trk = s.trk ∧
      (s.sendReference).sup = s.sup ∧ (s.sendReference).plan = s.plan ∧ (s.sendReference).brk = s.brk ∧
      (s.sendReference).doors = s.doors ∧ (s.sendReference).gates = s.gates ∧ (s.sendReference).tally = s.tally ∧
      (s.sendReference).line = s.line ∧ (s.sendReference).links = s.links ∧ (s.sendReference).ctl = s.ctl ∧
      (s.sendReference).notices = s.notices ∧ (s.sendReference).freeSeq = s.freeSeq ∧ (s.sendReference).pending = s.pending ∧
      (s.sendReference).drive.status = s.drive.status ∧ (s.sendReference).drive.silent = s.drive.silent ∧ (s.sendReference).drive.timer = s.drive.timer :=
  ⟨rfl, rfl, rfl, rfl, rfl, rfl, rfl, rfl, rfl, rfl, rfl, rfl, rfl, rfl, rfl, rfl, rfl, rfl⟩

@[simp] theorem State.sendFrame_frame (s : State) (c : Car) :
    (s.sendFrame c).now = s.now ∧ (s.sendFrame c).geo = s.geo ∧ (s.sendFrame c).trk = s.trk ∧
      (s.sendFrame c).sup = s.sup ∧ (s.sendFrame c).plan = s.plan ∧ (s.sendFrame c).brk = s.brk ∧
      (s.sendFrame c).doors = s.doors ∧ (s.sendFrame c).gates = s.gates ∧ (s.sendFrame c).tally = s.tally ∧
      (s.sendFrame c).line = s.line ∧ (s.sendFrame c).drive = s.drive ∧ (s.sendFrame c).ctl = s.ctl ∧
      (s.sendFrame c).notices = s.notices ∧ (s.sendFrame c).freeSeq = s.freeSeq ∧ (s.sendFrame c).pending = s.pending :=
  ⟨rfl, rfl, rfl, rfl, rfl, rfl, rfl, rfl, rfl, rfl, rfl, rfl, rfl, rfl, rfl⟩

/-! ### The field an update writes -/

@[simp] theorem Doors.put_side (d : Doors) (x : Door) (r : DoorRec) : (d.put x r).side = d.side := rfl

@[simp] theorem Brakes.tenOff_fields (b : Brakes) :
    b.tenOff.ten = false ∧ b.tenOff.seq = .rest ∧ b.tenOff.abort = none ∧ b.tenOff.torque = none ∧
      b.tenOff.sbr = b.sbr ∧ b.tenOff.ebr = b.ebr ∧ b.tenOff.service = b.service ∧
      b.tenOff.sheave = b.sheave ∧ b.tenOff.sbApplied = b.sbApplied ∧ b.tenOff.sbReleased = b.sbReleased ∧
      b.tenOff.ebApplied = b.ebApplied ∧ b.tenOff.ebReleased = b.ebReleased ∧ b.tenOff.track = b.track ∧
      b.tenOff.watch = b.watch :=
  ⟨rfl, rfl, rfl, rfl, rfl, rfl, rfl, rfl, rfl, rfl, rfl, rfl, rfl, rfl⟩

@[simp] theorem Brakes.releaseOff_fields (b : Brakes) (t : Time) :
    (b.releaseOff t).sbr = false ∧ (b.releaseOff t).ebr = false ∧ (b.releaseOff t).ten = b.ten ∧
      (b.releaseOff t).seq = b.seq ∧ (b.releaseOff t).abort = b.abort ∧ (b.releaseOff t).torque = b.torque ∧
      (b.releaseOff t).service = b.dropRecord .service t ∧ (b.releaseOff t).sheave = b.dropRecord .sheave t ∧
      (b.releaseOff t).sbApplied = b.sbApplied ∧ (b.releaseOff t).sbReleased = b.sbReleased ∧
      (b.releaseOff t).ebApplied = b.ebApplied ∧ (b.releaseOff t).ebReleased = b.ebReleased ∧
      (b.releaseOff t).track = b.track ∧ (b.releaseOff t).watch = b.watch :=
  ⟨rfl, rfl, rfl, rfl, rfl, rfl, rfl, rfl, rfl, rfl, rfl, rfl, rfl, rfl⟩

@[simp] theorem Brakes.releaseOn_fields (b : Brakes) (t : Time) :
    (b.releaseOn t).sbr = true ∧ (b.releaseOn t).ebr = true ∧ (b.releaseOn t).ten = b.ten ∧
      (b.releaseOn t).seq = .releaseWait ∧ (b.releaseOn t).abort = b.abort ∧ (b.releaseOn t).torque = none ∧
      (b.releaseOn t).sbApplied = b.sbApplied ∧ (b.releaseOn t).sbReleased = b.sbReleased ∧
      (b.releaseOn t).ebApplied = b.ebApplied ∧ (b.releaseOn t).ebReleased = b.ebReleased ∧
      (b.releaseOn t).track = b.track ∧ (b.releaseOn t).watch = b.watch :=
  ⟨rfl, rfl, rfl, rfl, rfl, rfl, rfl, rfl, rfl, rfl, rfl, rfl⟩

@[simp] theorem Brakes.setRecord_fields (b : Brakes) (i : BrakeId) (r : BrakeRec) :
    (b.setRecord i r).sbr = b.sbr ∧ (b.setRecord i r).ebr = b.ebr ∧ (b.setRecord i r).ten = b.ten ∧
      (b.setRecord i r).seq = b.seq ∧ (b.setRecord i r).abort = b.abort ∧
      (b.setRecord i r).torque = b.torque ∧ (b.setRecord i r).sbApplied = b.sbApplied ∧
      (b.setRecord i r).sbReleased = b.sbReleased ∧ (b.setRecord i r).ebApplied = b.ebApplied ∧
      (b.setRecord i r).ebReleased = b.ebReleased ∧ (b.setRecord i r).track = b.track ∧
      (b.setRecord i r).watch = b.watch := by
  cases i <;> exact ⟨rfl, rfl, rfl, rfl, rfl, rfl, rfl, rfl, rfl, rfl, rfl, rfl⟩

@[simp] theorem Brakes.contact_fields (b : Brakes) (k : Contact) (x : Bool) :
    (b.contact k x).sbr = b.sbr ∧ (b.contact k x).ebr = b.ebr ∧ (b.contact k x).ten = b.ten ∧
      (b.contact k x).seq = b.seq ∧ (b.contact k x).abort = b.abort ∧ (b.contact k x).torque = b.torque ∧
      (b.contact k x).service = b.service ∧ (b.contact k x).sheave = b.sheave ∧
      (b.contact k x).track = b.track ∧ (b.contact k x).watch = b.watch := by
  cases k <;> exact ⟨rfl, rfl, rfl, rfl, rfl, rfl, rfl, rfl, rfl, rfl⟩

@[simp] theorem State.advance_now (s : State) (dt : Time) : (s.advance dt).now = s.now + dt := rfl

@[simp] theorem State.refreshFlags_flags (s : State) : s.refreshFlags.line.flags = s.flagsNow := rfl

@[simp] theorem State.notice_notices (s : State) (c : NoticeClass) (k : Nat) (b : List Field) :
    (s.notice c k b).notices = s.notices.add c k s.now b := rfl

@[simp] theorem State.handOver_conds (s : State) (c : Condition) (b : Bool) :
    (s.handOver c b).line.conds = s.line.conds.put c b := rfl

@[simp] theorem State.evalAtStop_atStop (s : State) : s.evalAtStop.line.atStop = s.findAtStop := rfl

@[simp] theorem State.setLoad_tally (s : State) (c : Car) (l : Load) :
    (s.setLoad c l).tally = s.tally.set c l := rfl

@[simp] theorem State.setDoor_doors (s : State) (x : Door) (r : DoorRec) :
    (s.setDoor x r).doors = s.doors.put x r := rfl

@[simp] theorem State.setRun_run (s : State) (r : Option Run) : (s.setRun r).plan.run = r := rfl

@[simp] theorem State.setRef_ref (s : State) (x : Int) : (s.setRef x).plan.ref = x := rfl

@[simp] theorem State.setBand_band (s : State) (b : BandRec) : (s.setBand b).sup.band = b := rfl

@[simp] theorem State.dropEnvelope_env (s : State) : s.dropEnvelope.sup.env = none := rfl

@[simp] theorem State.tenOff_brk (s : State) : s.tenOff.brk = s.brk.tenOff := rfl

@[simp] theorem State.setBrakes_brk (s : State) (b : Brakes) : (s.setBrakes b).brk = b := rfl

@[simp] theorem State.setTrack_track (s : State) (c : Car) (t : TrackRec) :
    (s.setTrack c t).brk.track = s.brk.track.set c t := rfl

@[simp] theorem State.setLink_links (s : State) (c : Car) (l : CarLink) :
    (s.setLink c l).links = s.links.set c l := rfl

@[simp] theorem State.setPort_ctl (s : State) (k : Port) (x : PortState) :
    (s.setPort k x).ctl = s.ctl.set k x := rfl

@[simp] theorem PerCar.get_set (p : PerCar α) (c d : Car) (x : α) :
    (p.set c x).get d = if d = c then x else p.get d := by cases c <;> cases d <;> rfl

@[simp] theorem PerPort.get_set (p : PerPort α) (c d : Port) (x : α) :
    (p.set c x).get d = if d = c then x else p.get d := by cases c <;> cases d <;> rfl

@[simp] theorem Quad.get_set (p : Quad α) (i j : Ix4) (x : α) :
    (p.set i x).get j = if j = i then x else p.get j := by cases i <;> cases j <;> rfl

@[simp] theorem Quad.get_map (f : α → β) (p : Quad α) (i : Ix4) : (p.map f).get i = f (p.get i) := by
  cases i <;> rfl

@[simp] theorem PerCar.get_const (x : α) (c : Car) : (PerCar.const x).get c = x := by cases c <;> rfl

@[simp] theorem PerPort.get_const (x : α) (c : Port) : (PerPort.const x).get c = x := by cases c <;> rfl

@[simp] theorem Quad.get_const (x : α) (i : Ix4) : (Quad.const x).get i = x := by cases i <;> rfl

@[simp] theorem Doors.door_put (d : Doors) (x y : Door) (r : DoorRec) :
    (d.put x r).door y = if y = x then r else d.door y := by
  obtain ⟨c, i⟩ := x
  obtain ⟨c', i'⟩ := y
  cases c <;> cases c' <;> cases i <;> cases i' <;> rfl

end Machine
end Sys2Proof
end

