-- ==== Sys2Proof/Laws/Frames.lean ====
section
/-! SUPPORT. What each composed operation of the blocks leaves as it was: one simp lemma per operation, one
equation per field. -/

namespace Sys2Proof
namespace Machine

@[simp] theorem State.brakeCondition_frame (s : State) :
    (s.brakeCondition).now = s.now ∧ (s.brakeCondition).geo = s.geo ∧ (s.brakeCondition).trk = s.trk ∧
      (s.brakeCondition).sup = s.sup ∧ (s.brakeCondition).plan = s.plan ∧ (s.brakeCondition).brk = s.brk ∧
      (s.brakeCondition).doors = s.doors ∧ (s.brakeCondition).gates = s.gates ∧ (s.brakeCondition).tally = s.tally ∧
      (s.brakeCondition).links = s.links ∧ (s.brakeCondition).drive = s.drive ∧ (s.brakeCondition).ctl = s.ctl ∧
      (s.brakeCondition).freeSeq = s.freeSeq ∧ (s.brakeCondition).pending = s.pending ∧ (s.brakeCondition).line.mode = s.line.mode ∧
      (s.brakeCondition).line.key = s.line.key ∧ (s.brakeCondition).line.loops = s.line.loops ∧ (s.brakeCondition).line.restartPending = s.line.restartPending ∧
      (s.brakeCondition).line.flags = s.line.flags ∧ (s.brakeCondition).line.atStop = s.line.atStop ∧ (s.brakeCondition).notices.settings = s.notices.settings ∧
      (s.brakeCondition).notices.threshold = s.notices.threshold := by
  simp [State.brakeCondition]

@[simp] theorem State.trackCondition_frame (s : State) :
    (s.trackCondition).now = s.now ∧ (s.trackCondition).geo = s.geo ∧ (s.trackCondition).trk = s.trk ∧
      (s.trackCondition).sup = s.sup ∧ (s.trackCondition).plan = s.plan ∧ (s.trackCondition).brk = s.brk ∧
      (s.trackCondition).doors = s.doors ∧ (s.trackCondition).gates = s.gates ∧ (s.trackCondition).tally = s.tally ∧
      (s.trackCondition).links = s.links ∧ (s.trackCondition).drive = s.drive ∧ (s.trackCondition).ctl = s.ctl ∧
      (s.trackCondition).freeSeq = s.freeSeq ∧ (s.trackCondition).pending = s.pending ∧ (s.trackCondition).line.mode = s.line.mode ∧
      (s.trackCondition).line.key = s.line.key ∧ (s.trackCondition).line.loops = s.line.loops ∧ (s.trackCondition).line.restartPending = s.line.restartPending ∧
      (s.trackCondition).line.flags = s.line.flags ∧ (s.trackCondition).line.atStop = s.line.atStop ∧ (s.trackCondition).notices.settings = s.notices.settings ∧
      (s.trackCondition).notices.threshold = s.notices.threshold := by
  simp [State.trackCondition]

@[simp] theorem State.gateCondition_frame (s : State) :
    (s.gateCondition).now = s.now ∧ (s.gateCondition).geo = s.geo ∧ (s.gateCondition).trk = s.trk ∧
      (s.gateCondition).sup = s.sup ∧ (s.gateCondition).plan = s.plan ∧ (s.gateCondition).brk = s.brk ∧
      (s.gateCondition).doors = s.doors ∧ (s.gateCondition).gates = s.gates ∧ (s.gateCondition).tally = s.tally ∧
      (s.gateCondition).links = s.links ∧ (s.gateCondition).drive = s.drive ∧ (s.gateCondition).ctl = s.ctl ∧
      (s.gateCondition).freeSeq = s.freeSeq ∧ (s.gateCondition).pending = s.pending ∧ (s.gateCondition).line.mode = s.line.mode ∧
      (s.gateCondition).line.key = s.line.key ∧ (s.gateCondition).line.loops = s.line.loops ∧ (s.gateCondition).line.restartPending = s.line.restartPending ∧
      (s.gateCondition).line.flags = s.line.flags ∧ (s.gateCondition).line.atStop = s.line.atStop ∧ (s.gateCondition).notices.settings = s.notices.settings ∧
      (s.gateCondition).notices.threshold = s.notices.threshold := by
  simp [State.gateCondition]

@[simp] theorem State.failedCondition_frame (s : State) :
    (s.failedCondition).now = s.now ∧ (s.failedCondition).geo = s.geo ∧ (s.failedCondition).trk = s.trk ∧
      (s.failedCondition).sup = s.sup ∧ (s.failedCondition).plan = s.plan ∧ (s.failedCondition).brk = s.brk ∧
      (s.failedCondition).doors = s.doors ∧ (s.failedCondition).gates = s.gates ∧ (s.failedCondition).tally = s.tally ∧
      (s.failedCondition).links = s.links ∧ (s.failedCondition).drive = s.drive ∧ (s.failedCondition).ctl = s.ctl ∧
      (s.failedCondition).freeSeq = s.freeSeq ∧ (s.failedCondition).pending = s.pending ∧ (s.failedCondition).line.mode = s.line.mode ∧
      (s.failedCondition).line.key = s.line.key ∧ (s.failedCondition).line.loops = s.line.loops ∧ (s.failedCondition).line.restartPending = s.line.restartPending ∧
      (s.failedCondition).line.flags = s.line.flags ∧ (s.failedCondition).line.atStop = s.line.atStop ∧ (s.failedCondition).notices.settings = s.notices.settings ∧
      (s.failedCondition).notices.threshold = s.notices.threshold := by
  simp [State.failedCondition]

@[simp] theorem State.isolatedCondition_frame (s : State) :
    (s.isolatedCondition).now = s.now ∧ (s.isolatedCondition).geo = s.geo ∧ (s.isolatedCondition).trk = s.trk ∧
      (s.isolatedCondition).sup = s.sup ∧ (s.isolatedCondition).plan = s.plan ∧ (s.isolatedCondition).brk = s.brk ∧
      (s.isolatedCondition).doors = s.doors ∧ (s.isolatedCondition).gates = s.gates ∧ (s.isolatedCondition).tally = s.tally ∧
      (s.isolatedCondition).links = s.links ∧ (s.isolatedCondition).drive = s.drive ∧ (s.isolatedCondition).ctl = s.ctl ∧
      (s.isolatedCondition).freeSeq = s.freeSeq ∧ (s.isolatedCondition).pending = s.pending ∧ (s.isolatedCondition).line.mode = s.line.mode ∧
      (s.isolatedCondition).line.key = s.line.key ∧ (s.isolatedCondition).line.loops = s.line.loops ∧ (s.isolatedCondition).line.restartPending = s.line.restartPending ∧
      (s.isolatedCondition).line.flags = s.line.flags ∧ (s.isolatedCondition).line.atStop = s.line.atStop ∧ (s.isolatedCondition).notices.settings = s.notices.settings ∧
      (s.isolatedCondition).notices.threshold = s.notices.threshold := by
  simp [State.isolatedCondition]

@[simp] theorem State.tryWindow_frame (s : State) (c : Car) :
    (s.tryWindow c).now = s.now ∧ (s.tryWindow c).geo = s.geo ∧ (s.tryWindow c).trk = s.trk ∧
      (s.tryWindow c).sup = s.sup ∧ (s.tryWindow c).plan = s.plan ∧ (s.tryWindow c).brk = s.brk ∧
      (s.tryWindow c).doors = s.doors ∧ (s.tryWindow c).gates = s.gates ∧ (s.tryWindow c).links = s.links ∧
      (s.tryWindow c).drive = s.drive ∧ (s.tryWindow c).ctl = s.ctl ∧ (s.tryWindow c).freeSeq = s.freeSeq ∧
      (s.tryWindow c).pending = s.pending ∧ (s.tryWindow c).line.mode = s.line.mode ∧ (s.tryWindow c).line.key = s.line.key ∧
      (s.tryWindow c).line.loops = s.line.loops ∧ (s.tryWindow c).line.restartPending = s.line.restartPending ∧ (s.tryWindow c).line.flags = s.line.flags ∧
      (s.tryWindow c).line.atStop = s.line.atStop ∧ (s.tryWindow c).notices.settings = s.notices.settings ∧ (s.tryWindow c).notices.threshold = s.notices.threshold := by
  simp only [State.tryWindow]; (repeat' split) <;> simp

@[simp] theorem State.tallyWindows_frame (s : State) :
    (s.tallyWindows).now = s.now ∧ (s.tallyWindows).geo = s.geo ∧ (s.tallyWindows).trk = s.trk ∧
      (s.tallyWindows).sup = s.sup ∧ (s.tallyWindows).plan = s.plan ∧ (s.tallyWindows).brk = s.brk ∧
      (s.tallyWindows).doors = s.doors ∧ (s.tallyWindows).gates = s.gates ∧ (s.tallyWindows).links = s.links ∧
      (s.tallyWindows).drive = s.drive ∧ (s.tallyWindows).ctl = s.ctl ∧ (s.tallyWindows).freeSeq = s.freeSeq ∧
      (s.tallyWindows).pending = s.pending ∧ (s.tallyWindows).line.mode = s.line.mode ∧ (s.tallyWindows).line.key = s.line.key ∧
      (s.tallyWindows).line.loops = s.line.loops ∧ (s.tallyWindows).line.restartPending = s.line.restartPending ∧ (s.tallyWindows).line.flags = s.line.flags ∧
      (s.tallyWindows).line.atStop = s.line.atStop ∧ (s.tallyWindows).notices.settings = s.notices.settings ∧ (s.tallyWindows).notices.threshold = s.notices.threshold := by
  simp [State.tallyWindows]

@[simp] theorem State.weighTests_frame (s : State) (c : Car) :
    (s.weighTests c).now = s.now ∧ (s.weighTests c).geo = s.geo ∧ (s.weighTests c).trk = s.trk ∧
      (s.weighTests c).sup = s.sup ∧ (s.weighTests c).plan = s.plan ∧ (s.weighTests c).brk = s.brk ∧
      (s.weighTests c).doors = s.doors ∧ (s.weighTests c).gates = s.gates ∧ (s.weighTests c).links = s.links ∧
      (s.weighTests c).drive = s.drive ∧ (s.weighTests c).ctl = s.ctl ∧ (s.weighTests c).freeSeq = s.freeSeq ∧
      (s.weighTests c).pending = s.pending ∧ (s.weighTests c).line.mode = s.line.mode ∧ (s.weighTests c).line.key = s.line.key ∧
      (s.weighTests c).line.loops = s.line.loops ∧ (s.weighTests c).line.restartPending = s.line.restartPending ∧ (s.weighTests c).line.flags = s.line.flags ∧
      (s.weighTests c).line.atStop = s.line.atStop ∧ (s.weighTests c).notices.settings = s.notices.settings ∧ (s.weighTests c).notices.threshold = s.notices.threshold := by
  simp only [State.weighTests]; (repeat' split) <;> simp

@[simp] theorem State.tallyGrant_frame (s : State) (c : Car) (p m : Nat) :
    (s.tallyGrant c p m).now = s.now ∧ (s.tallyGrant c p m).geo = s.geo ∧ (s.tallyGrant c p m).trk = s.trk ∧
      (s.tallyGrant c p m).sup = s.sup ∧ (s.tallyGrant c p m).plan = s.plan ∧ (s.tallyGrant c p m).brk = s.brk ∧
      (s.tallyGrant c p m).doors = s.doors ∧ (s.tallyGrant c p m).gates = s.gates ∧ (s.tallyGrant c p m).links = s.links ∧
      (s.tallyGrant c p m).drive = s.drive ∧ (s.tallyGrant c p m).ctl = s.ctl ∧ (s.tallyGrant c p m).freeSeq = s.freeSeq ∧
      (s.tallyGrant c p m).pending = s.pending ∧ (s.tallyGrant c p m).line.mode = s.line.mode ∧ (s.tallyGrant c p m).line.key = s.line.key ∧
      (s.tallyGrant c p m).line.loops = s.line.loops ∧ (s.tallyGrant c p m).line.restartPending = s.line.restartPending ∧ (s.tallyGrant c p m).line.flags = s.line.flags ∧
      (s.tallyGrant c p m).line.atStop = s.line.atStop ∧ (s.tallyGrant c p m).notices.settings = s.notices.settings ∧ (s.tallyGrant c p m).notices.threshold = s.notices.threshold := by
  simp [State.tallyGrant]

@[simp] theorem State.tallyConvert_frame (s : State) (c : Car) (p m : Nat) :
    (s.tallyConvert c p m).now = s.now ∧ (s.tallyConvert c p m).geo = s.geo ∧ (s.tallyConvert c p m).trk = s.trk ∧
      (s.tallyConvert c p m).sup = s.sup ∧ (s.tallyConvert c p m).plan = s.plan ∧ (s.tallyConvert c p m).brk = s.brk ∧
      (s.tallyConvert c p m).doors = s.doors ∧ (s.tallyConvert c p m).gates = s.gates ∧ (s.tallyConvert c p m).links = s.links ∧
      (s.tallyConvert c p m).drive = s.drive ∧ (s.tallyConvert c p m).ctl = s.ctl ∧ (s.tallyConvert c p m).freeSeq = s.freeSeq ∧
      (s.tallyConvert c p m).pending = s.pending ∧ (s.tallyConvert c p m).line.mode = s.line.mode ∧ (s.tallyConvert c p m).line.key = s.line.key ∧
      (s.tallyConvert c p m).line.loops = s.line.loops ∧ (s.tallyConvert c p m).line.restartPending = s.line.restartPending ∧ (s.tallyConvert c p m).line.flags = s.line.flags ∧
      (s.tallyConvert c p m).line.atStop = s.line.atStop ∧ (s.tallyConvert c p m).notices.settings = s.notices.settings ∧ (s.tallyConvert c p m).notices.threshold = s.notices.threshold := by
  simp [State.tallyConvert]

@[simp] theorem State.tallyRelease_frame (s : State) (c : Car) (p m : Nat) :
    (s.tallyRelease c p m).now = s.now ∧ (s.tallyRelease c p m).geo = s.geo ∧ (s.tallyRelease c p m).trk = s.trk ∧
      (s.tallyRelease c p m).sup = s.sup ∧ (s.tallyRelease c p m).plan = s.plan ∧ (s.tallyRelease c p m).brk = s.brk ∧
      (s.tallyRelease c p m).doors = s.doors ∧ (s.tallyRelease c p m).gates = s.gates ∧ (s.tallyRelease c p m).links = s.links ∧
      (s.tallyRelease c p m).drive = s.drive ∧ (s.tallyRelease c p m).ctl = s.ctl ∧ (s.tallyRelease c p m).freeSeq = s.freeSeq ∧
      (s.tallyRelease c p m).pending = s.pending ∧ (s.tallyRelease c p m).line.mode = s.line.mode ∧ (s.tallyRelease c p m).line.key = s.line.key ∧
      (s.tallyRelease c p m).line.loops = s.line.loops ∧ (s.tallyRelease c p m).line.restartPending = s.line.restartPending ∧ (s.tallyRelease c p m).line.flags = s.line.flags ∧
      (s.tallyRelease c p m).line.atStop = s.line.atStop ∧ (s.tallyRelease c p m).notices.settings = s.notices.settings ∧ (s.tallyRelease c p m).notices.threshold = s.notices.threshold := by
  simp [State.tallyRelease]

@[simp] theorem State.freezeCar_frame (s : State) (c : Car) :
    (s.freezeCar c).now = s.now ∧ (s.freezeCar c).geo = s.geo ∧ (s.freezeCar c).trk = s.trk ∧
      (s.freezeCar c).sup = s.sup ∧ (s.freezeCar c).plan = s.plan ∧ (s.freezeCar c).brk = s.brk ∧
      (s.freezeCar c).doors = s.doors ∧ (s.freezeCar c).gates = s.gates ∧ (s.freezeCar c).line = s.line ∧
      (s.freezeCar c).links = s.links ∧ (s.freezeCar c).drive = s.drive ∧ (s.freezeCar c).ctl = s.ctl ∧
      (s.freezeCar c).freeSeq = s.freeSeq ∧ (s.freezeCar c).pending = s.pending ∧ (s.freezeCar c).notices.settings = s.notices.settings ∧
      (s.freezeCar c).notices.threshold = s.notices.threshold := by
  simp [State.freezeCar]

@[simp] theorem State.freeze_frame (s : State) :
    (s.freeze).now = s.now ∧ (s.freeze).geo = s.geo ∧ (s.freeze).trk = s.trk ∧
      (s.freeze).sup = s.sup ∧ (s.freeze).plan = s.plan ∧ (s.freeze).brk = s.brk ∧
      (s.freeze).doors = s.doors ∧ (s.freeze).gates = s.gates ∧ (s.freeze).line = s.line ∧
      (s.freeze).links = s.links ∧ (s.freeze).drive = s.drive ∧ (s.freeze).ctl = s.ctl ∧
      (s.freeze).freeSeq = s.freeSeq ∧ (s.freeze).pending = s.pending ∧ (s.freeze).notices.settings = s.notices.settings ∧
      (s.freeze).notices.threshold = s.notices.threshold := by
  simp [State.freeze]

@[simp] theorem State.unfreezeCar_frame (s : State) (c : Car) :
    (s.unfreezeCar c).now = s.now ∧ (s.unfreezeCar c).geo = s.geo ∧ (s.unfreezeCar c).trk = s.trk ∧
      (s.unfreezeCar c).sup = s.sup ∧ (s.unfreezeCar c).plan = s.plan ∧ (s.unfreezeCar c).brk = s.brk ∧
      (s.unfreezeCar c).doors = s.doors ∧ (s.unfreezeCar c).gates = s.gates ∧ (s.unfreezeCar c).links = s.links ∧
      (s.unfreezeCar c).drive = s.drive ∧ (s.unfreezeCar c).ctl = s.ctl ∧ (s.unfreezeCar c).freeSeq = s.freeSeq ∧
      (s.unfreezeCar c).pending = s.pending ∧ (s.unfreezeCar c).line.mode = s.line.mode ∧ (s.unfreezeCar c).line.key = s.line.key ∧
      (s.unfreezeCar c).line.loops = s.line.loops ∧ (s.unfreezeCar c).line.restartPending = s.line.restartPending ∧ (s.unfreezeCar c).line.flags = s.line.flags ∧
      (s.unfreezeCar c).line.atStop = s.line.atStop ∧ (s.unfreezeCar c).notices.settings = s.notices.settings ∧ (s.unfreezeCar c).notices.threshold = s.notices.threshold := by
  simp only [State.unfreezeCar]; (repeat' split) <;> simp

@[simp] theorem State.unfreeze_frame (s : State) :
    (s.unfreeze).now = s.now ∧ (s.unfreeze).geo = s.geo ∧ (s.unfreeze).trk = s.trk ∧
      (s.unfreeze).sup = s.sup ∧ (s.unfreeze).plan = s.plan ∧ (s.unfreeze).brk = s.brk ∧
      (s.unfreeze).doors = s.doors ∧ (s.unfreeze).gates = s.gates ∧ (s.unfreeze).links = s.links ∧
      (s.unfreeze).drive = s.drive ∧ (s.unfreeze).ctl = s.ctl ∧ (s.unfreeze).freeSeq = s.freeSeq ∧
      (s.unfreeze).pending = s.pending ∧ (s.unfreeze).line.mode = s.line.mode ∧ (s.unfreeze).line.key = s.line.key ∧
      (s.unfreeze).line.loops = s.line.loops ∧ (s.unfreeze).line.restartPending = s.line.restartPending ∧ (s.unfreeze).line.flags = s.line.flags ∧
      (s.unfreeze).line.atStop = s.line.atStop ∧ (s.unfreeze).notices.settings = s.notices.settings ∧ (s.unfreeze).notices.threshold = s.notices.threshold := by
  simp [State.unfreeze]

@[simp] theorem State.releaseEvent_frame (s : State) (c : Car) :
    (s.releaseEvent c).now = s.now ∧ (s.releaseEvent c).geo = s.geo ∧ (s.releaseEvent c).trk = s.trk ∧
      (s.releaseEvent c).sup = s.sup ∧ (s.releaseEvent c).plan = s.plan ∧ (s.releaseEvent c).brk = s.brk ∧
      (s.releaseEvent c).doors = s.doors ∧ (s.releaseEvent c).gates = s.gates ∧ (s.releaseEvent c).links = s.links ∧
      (s.releaseEvent c).drive = s.drive ∧ (s.releaseEvent c).ctl = s.ctl ∧ (s.releaseEvent c).freeSeq = s.freeSeq ∧
      (s.releaseEvent c).pending = s.pending ∧ (s.releaseEvent c).line.mode = s.line.mode ∧ (s.releaseEvent c).line.key = s.line.key ∧
      (s.releaseEvent c).line.loops = s.line.loops ∧ (s.releaseEvent c).line.restartPending = s.line.restartPending ∧ (s.releaseEvent c).line.flags = s.line.flags ∧
      (s.releaseEvent c).line.atStop = s.line.atStop ∧ (s.releaseEvent c).notices.settings = s.notices.settings ∧ (s.releaseEvent c).notices.threshold = s.notices.threshold := by
  simp only [State.releaseEvent]; (repeat' split) <;> simp

@[simp] theorem State.arrivalWeigh_frame (s : State) (c : Car) (k : Nat) :
    (s.arrivalWeigh c k).now = s.now ∧ (s.arrivalWeigh c k).geo = s.geo ∧ (s.arrivalWeigh c k).trk = s.trk ∧
      (s.arrivalWeigh c k).sup = s.sup ∧ (s.arrivalWeigh c k).plan = s.plan ∧ (s.arrivalWeigh c k).brk = s.brk ∧
      (s.arrivalWeigh c k).doors = s.doors ∧ (s.arrivalWeigh c k).gates = s.gates ∧ (s.arrivalWeigh c k).line = s.line ∧
      (s.arrivalWeigh c k).links = s.links ∧ (s.arrivalWeigh c k).drive = s.drive ∧ (s.arrivalWeigh c k).ctl = s.ctl ∧
      (s.arrivalWeigh c k).freeSeq = s.freeSeq ∧ (s.arrivalWeigh c k).pending = s.pending ∧ (s.arrivalWeigh c k).notices.settings = s.notices.settings ∧
      (s.arrivalWeigh c k).notices.threshold = s.notices.threshold := by
  simp only [State.arrivalWeigh]; (repeat' split) <;> simp

@[simp] theorem State.departureWeigh_frame (s : State) (c : Car) (k : Nat) :
    (s.departureWeigh c k).now = s.now ∧ (s.departureWeigh c k).geo = s.geo ∧ (s.departureWeigh c k).trk = s.trk ∧
      (s.departureWeigh c k).sup = s.sup ∧ (s.departureWeigh c k).plan = s.plan ∧ (s.departureWeigh c k).brk = s.brk ∧
      (s.departureWeigh c k).doors = s.doors ∧ (s.departureWeigh c k).gates = s.gates ∧ (s.departureWeigh c k).links = s.links ∧
      (s.departureWeigh c k).drive = s.drive ∧ (s.departureWeigh c k).ctl = s.ctl ∧ (s.departureWeigh c k).freeSeq = s.freeSeq ∧
      (s.departureWeigh c k).pending = s.pending ∧ (s.departureWeigh c k).line.mode = s.line.mode ∧ (s.departureWeigh c k).line.key = s.line.key ∧
      (s.departureWeigh c k).line.loops = s.line.loops ∧ (s.departureWeigh c k).line.restartPending = s.line.restartPending ∧ (s.departureWeigh c k).line.flags = s.line.flags ∧
      (s.departureWeigh c k).line.atStop = s.line.atStop ∧ (s.departureWeigh c k).notices.settings = s.notices.settings ∧ (s.departureWeigh c k).notices.threshold = s.notices.threshold := by
  simp only [State.departureWeigh]; (repeat' split) <;> simp

@[simp] theorem State.reading_frame (s : State) (c : Car) (k : Nat) (b : Bool) :
    (s.reading c k b).now = s.now ∧ (s.reading c k b).geo = s.geo ∧ (s.reading c k b).trk = s.trk ∧
      (s.reading c k b).sup = s.sup ∧ (s.reading c k b).plan = s.plan ∧ (s.reading c k b).brk = s.brk ∧
      (s.reading c k b).doors = s.doors ∧ (s.reading c k b).gates = s.gates ∧ (s.reading c k b).links = s.links ∧
      (s.reading c k b).drive = s.drive ∧ (s.reading c k b).ctl = s.ctl ∧ (s.reading c k b).freeSeq = s.freeSeq ∧
      (s.reading c k b).pending = s.pending ∧ (s.reading c k b).line.mode = s.line.mode ∧ (s.reading c k b).line.key = s.line.key ∧
      (s.reading c k b).line.loops = s.line.loops ∧ (s.reading c k b).line.restartPending = s.line.restartPending ∧ (s.reading c k b).line.flags = s.line.flags ∧
      (s.reading c k b).line.atStop = s.line.atStop ∧ (s.reading c k b).notices.settings = s.notices.settings ∧ (s.reading c k b).notices.threshold = s.notices.threshold := by
  simp only [State.reading]; (repeat' split) <;> simp

/-- What a step of a fold leaves alone, the fold leaves alone. -/
theorem foldl_keeps {α β : Type} (p : State → β) (f : State → α → State) (h : ∀ s x, p (f s x) = p s)
    (xs : List α) (s : State) : p (xs.foldl f s) = p s := by
  induction xs generalizing s with
  | nil => rfl
  | cons x xs ih => simp [ih, h]

@[simp] theorem State.closeNotices_frame (s : State) (e : GateEvent) (gs : List Gate) :
    (s.closeNotices e gs).now = s.now ∧ (s.closeNotices e gs).geo = s.geo ∧ (s.closeNotices e gs).trk = s.trk ∧
      (s.closeNotices e gs).sup = s.sup ∧ (s.closeNotices e gs).plan = s.plan ∧ (s.closeNotices e gs).brk = s.brk ∧
      (s.closeNotices e gs).doors = s.doors ∧ (s.closeNotices e gs).gates = s.gates ∧ (s.closeNotices e gs).tally = s.tally ∧
      (s.closeNotices e gs).line = s.line ∧ (s.closeNotices e gs).links = s.links ∧ (s.closeNotices e gs).drive = s.drive ∧
      (s.closeNotices e gs).ctl = s.ctl ∧ (s.closeNotices e gs).freeSeq = s.freeSeq ∧ (s.closeNotices e gs).pending = s.pending ∧
      (s.closeNotices e gs).notices.settings = s.notices.settings ∧ (s.closeNotices e gs).notices.threshold = s.notices.threshold :=
  ⟨foldl_keeps (fun s => s.now) _ (by simp) _ _,
   foldl_keeps (fun s => s.geo) _ (by simp) _ _,
   foldl_keeps (fun s => s.trk) _ (by simp) _ _,
   foldl_keeps (fun s => s.sup) _ (by simp) _ _,
   foldl_keeps (fun s => s.plan) _ (by simp) _ _,
   foldl_keeps (fun s => s.brk) _ (by simp) _ _,
   foldl_keeps (fun s => s.doors) _ (by simp) _ _,
   foldl_keeps (fun s => s.gates) _ (by simp) _ _,
   foldl_keeps (fun s => s.tally) _ (by simp) _ _,
   foldl_keeps (fun s => s.line) _ (by simp) _ _,
   foldl_keeps (fun s => s.links) _ (by simp) _ _,
   foldl_keeps (fun s => s.drive) _ (by simp) _ _,
   foldl_keeps (fun s => s.ctl) _ (by simp) _ _,
   foldl_keeps (fun s => s.freeSeq) _ (by simp) _ _,
   foldl_keeps (fun s => s.pending) _ (by simp) _ _,
   foldl_keeps (fun s => s.notices.settings) _ (by simp) _ _,
   foldl_keeps (fun s => s.notices.threshold) _ (by simp) _ _⟩

@[simp] theorem State.closeStation_frame (s : State) (n : Nat) (e : GateEvent) :
    (s.closeStation n e).now = s.now ∧ (s.closeStation n e).geo = s.geo ∧ (s.closeStation n e).trk = s.trk ∧
      (s.closeStation n e).sup = s.sup ∧ (s.closeStation n e).plan = s.plan ∧ (s.closeStation n e).brk = s.brk ∧
      (s.closeStation n e).doors = s.doors ∧ (s.closeStation n e).tally = s.tally ∧ (s.closeStation n e).line = s.line ∧
      (s.closeStation n e).links = s.links ∧ (s.closeStation n e).drive = s.drive ∧ (s.closeStation n e).ctl = s.ctl ∧
      (s.closeStation n e).freeSeq = s.freeSeq ∧ (s.closeStation n e).pending = s.pending ∧ (s.closeStation n e).gates.busReleased = s.gates.busReleased ∧
      (s.closeStation n e).gates.trans = s.gates.trans ∧ (s.closeStation n e).gates.lastMain = s.gates.lastMain ∧ (s.closeStation n e).gates.round = s.gates.round ∧
      (s.closeStation n e).gates.classes = s.gates.classes ∧ (s.closeStation n e).gates.recent = s.gates.recent ∧ (s.closeStation n e).gates.passback = s.gates.passback ∧
      (s.closeStation n e).notices.settings = s.notices.settings ∧ (s.closeStation n e).notices.threshold = s.notices.threshold := by
  simp [State.closeStation, Gates.close]

@[simp] theorem State.closeStations_frame (s : State) (e : GateEvent) (ns : List Nat) :
    (s.closeStations e ns).now = s.now ∧ (s.closeStations e ns).geo = s.geo ∧ (s.closeStations e ns).trk = s.trk ∧
      (s.closeStations e ns).sup = s.sup ∧ (s.closeStations e ns).plan = s.plan ∧ (s.closeStations e ns).brk = s.brk ∧
      (s.closeStations e ns).doors = s.doors ∧ (s.closeStations e ns).tally = s.tally ∧ (s.closeStations e ns).line = s.line ∧
      (s.closeStations e ns).links = s.links ∧ (s.closeStations e ns).drive = s.drive ∧ (s.closeStations e ns).ctl = s.ctl ∧
      (s.closeStations e ns).freeSeq = s.freeSeq ∧ (s.closeStations e ns).pending = s.pending ∧ (s.closeStations e ns).gates.busReleased = s.gates.busReleased ∧
      (s.closeStations e ns).gates.trans = s.gates.trans ∧ (s.closeStations e ns).gates.lastMain = s.gates.lastMain ∧ (s.closeStations e ns).gates.round = s.gates.round ∧
      (s.closeStations e ns).gates.classes = s.gates.classes ∧ (s.closeStations e ns).gates.recent = s.gates.recent ∧ (s.closeStations e ns).gates.passback = s.gates.passback ∧
      (s.closeStations e ns).notices.settings = s.notices.settings ∧ (s.closeStations e ns).notices.threshold = s.notices.threshold :=
  ⟨foldl_keeps (fun s => s.now) _ (by simp) _ _,
   foldl_keeps (fun s => s.geo) _ (by simp) _ _,
   foldl_keeps (fun s => s.trk) _ (by simp) _ _,
   foldl_keeps (fun s => s.sup) _ (by simp) _ _,
   foldl_keeps (fun s => s.plan) _ (by simp) _ _,
   foldl_keeps (fun s => s.brk) _ (by simp) _ _,
   foldl_keeps (fun s => s.doors) _ (by simp) _ _,
   foldl_keeps (fun s => s.tally) _ (by simp) _ _,
   foldl_keeps (fun s => s.line) _ (by simp) _ _,
   foldl_keeps (fun s => s.links) _ (by simp) _ _,
   foldl_keeps (fun s => s.drive) _ (by simp) _ _,
   foldl_keeps (fun s => s.ctl) _ (by simp) _ _,
   foldl_keeps (fun s => s.freeSeq) _ (by simp) _ _,
   foldl_keeps (fun s => s.pending) _ (by simp) _ _,
   foldl_keeps (fun s => s.gates.busReleased) _ (by simp) _ _,
   foldl_keeps (fun s => s.gates.trans) _ (by simp) _ _,
   foldl_keeps (fun s => s.gates.lastMain) _ (by simp) _ _,
   foldl_keeps (fun s => s.gates.round) _ (by simp) _ _,
   foldl_keeps (fun s => s.gates.classes) _ (by simp) _ _,
   foldl_keeps (fun s => s.gates.recent) _ (by simp) _ _,
   foldl_keeps (fun s => s.gates.passback) _ (by simp) _ _,
   foldl_keeps (fun s => s.notices.settings) _ (by simp) _ _,
   foldl_keeps (fun s => s.notices.threshold) _ (by simp) _ _⟩

@[simp] theorem State.closeAll_frame (s : State) :
    (s.closeAll).now = s.now ∧ (s.closeAll).geo = s.geo ∧ (s.closeAll).trk = s.trk ∧
      (s.closeAll).sup = s.sup ∧ (s.closeAll).plan = s.plan ∧ (s.closeAll).brk = s.brk ∧
      (s.closeAll).doors = s.doors ∧ (s.closeAll).tally = s.tally ∧ (s.closeAll).line = s.line ∧
      (s.closeAll).links = s.links ∧ (s.closeAll).drive = s.drive ∧ (s.closeAll).ctl = s.ctl ∧
      (s.closeAll).freeSeq = s.freeSeq ∧ (s.closeAll).pending = s.pending ∧ (s.closeAll).gates.busReleased = s.gates.busReleased ∧
      (s.closeAll).gates.trans = s.gates.trans ∧ (s.closeAll).gates.lastMain = s.gates.lastMain ∧ (s.closeAll).gates.round = s.gates.round ∧
      (s.closeAll).gates.classes = s.gates.classes ∧ (s.closeAll).gates.recent = s.gates.recent ∧ (s.closeAll).gates.passback = s.gates.passback ∧
      (s.closeAll).notices.settings = s.notices.settings ∧ (s.closeAll).notices.threshold = s.notices.threshold := by
  simp [State.closeAll]

@[simp] theorem State.servingUpdate_frame (s : State) :
    (s.servingUpdate).now = s.now ∧ (s.servingUpdate).geo = s.geo ∧ (s.servingUpdate).trk = s.trk ∧
      (s.servingUpdate).sup = s.sup ∧ (s.servingUpdate).plan = s.plan ∧ (s.servingUpdate).brk = s.brk ∧
      (s.servingUpdate).doors = s.doors ∧ (s.servingUpdate).tally = s.tally ∧ (s.servingUpdate).line = s.line ∧
      (s.servingUpdate).links = s.links ∧ (s.servingUpdate).drive = s.drive ∧ (s.servingUpdate).ctl = s.ctl ∧
      (s.servingUpdate).freeSeq = s.freeSeq ∧ (s.servingUpdate).pending = s.pending ∧ (s.servingUpdate).gates.busReleased = s.gates.busReleased ∧
      (s.servingUpdate).gates.trans = s.gates.trans ∧ (s.servingUpdate).gates.lastMain = s.gates.lastMain ∧ (s.servingUpdate).gates.round = s.gates.round ∧
      (s.servingUpdate).gates.classes = s.gates.classes ∧ (s.servingUpdate).gates.recent = s.gates.recent ∧ (s.servingUpdate).gates.passback = s.gates.passback ∧
      (s.servingUpdate).notices.settings = s.notices.settings ∧ (s.servingUpdate).notices.threshold = s.notices.threshold := by
  simp [State.servingUpdate]

@[simp] theorem State.closeLead_frame (s : State) (c : Car) :
    (s.closeLead c).now = s.now ∧ (s.closeLead c).geo = s.geo ∧ (s.closeLead c).trk = s.trk ∧
      (s.closeLead c).sup = s.sup ∧ (s.closeLead c).plan = s.plan ∧ (s.closeLead c).brk = s.brk ∧
      (s.closeLead c).doors = s.doors ∧ (s.closeLead c).tally = s.tally ∧ (s.closeLead c).line = s.line ∧
      (s.closeLead c).links = s.links ∧ (s.closeLead c).drive = s.drive ∧ (s.closeLead c).ctl = s.ctl ∧
      (s.closeLead c).freeSeq = s.freeSeq ∧ (s.closeLead c).pending = s.pending ∧ (s.closeLead c).gates.busReleased = s.gates.busReleased ∧
      (s.closeLead c).gates.trans = s.gates.trans ∧ (s.closeLead c).gates.lastMain = s.gates.lastMain ∧ (s.closeLead c).gates.round = s.gates.round ∧
      (s.closeLead c).gates.classes = s.gates.classes ∧ (s.closeLead c).gates.recent = s.gates.recent ∧ (s.closeLead c).gates.passback = s.gates.passback ∧
      (s.closeLead c).notices.settings = s.notices.settings ∧ (s.closeLead c).notices.threshold = s.notices.threshold := by
  simp [State.closeLead]

@[simp] theorem State.runChanged_frame (s : State) :
    (s.runChanged).now = s.now ∧ (s.runChanged).geo = s.geo ∧ (s.runChanged).trk = s.trk ∧
      (s.runChanged).sup = s.sup ∧ (s.runChanged).plan = s.plan ∧ (s.runChanged).brk = s.brk ∧
      (s.runChanged).doors = s.doors ∧ (s.runChanged).links = s.links ∧ (s.runChanged).drive = s.drive ∧
      (s.runChanged).ctl = s.ctl ∧ (s.runChanged).freeSeq = s.freeSeq ∧ (s.runChanged).pending = s.pending ∧
      (s.runChanged).line.mode = s.line.mode ∧ (s.runChanged).line.key = s.line.key ∧ (s.runChanged).line.loops = s.line.loops ∧
      (s.runChanged).line.restartPending = s.line.restartPending ∧ (s.runChanged).line.flags = s.line.flags ∧ (s.runChanged).line.atStop = s.line.atStop ∧
      (s.runChanged).gates.busReleased = s.gates.busReleased ∧ (s.runChanged).gates.trans = s.gates.trans ∧ (s.runChanged).gates.lastMain = s.gates.lastMain ∧
      (s.runChanged).gates.round = s.gates.round ∧ (s.runChanged).gates.classes = s.gates.classes ∧ (s.runChanged).gates.recent = s.gates.recent ∧
      (s.runChanged).gates.passback = s.gates.passback ∧ (s.runChanged).notices.settings = s.notices.settings ∧ (s.runChanged).notices.threshold = s.notices.threshold := by
  simp [State.runChanged]

@[simp] theorem State.enterRun_frame (s : State) (b : Nat) (r : Run) (w : RunWhy) :
    (s.enterRun b r w).now = s.now ∧ (s.enterRun b r w).geo = s.geo ∧ (s.enterRun b r w).trk = s.trk ∧
      (s.enterRun b r w).sup = s.sup ∧ (s.enterRun b r w).brk = s.brk ∧ (s.enterRun b r w).doors = s.doors ∧
      (s.enterRun b r w).links = s.links ∧ (s.enterRun b r w).drive = s.drive ∧ (s.enterRun b r w).ctl = s.ctl ∧
      (s.enterRun b r w).freeSeq = s.freeSeq ∧ (s.enterRun b r w).pending = s.pending ∧ (s.enterRun b r w).plan.nextId = s.plan.nextId ∧
      (s.enterRun b r w).plan.pendingRun = s.plan.pendingRun ∧ (s.enterRun b r w).plan.lastRun = s.plan.lastRun ∧ (s.enterRun b r w).plan.watches = s.plan.watches ∧
      (s.enterRun b r w).plan.ref = s.plan.ref ∧ (s.enterRun b r w).plan.prev = s.plan.prev ∧ (s.enterRun b r w).line.mode = s.line.mode ∧
      (s.enterRun b r w).line.key = s.line.key ∧ (s.enterRun b r w).line.loops = s.line.loops ∧ (s.enterRun b r w).line.restartPending = s.line.restartPending ∧
      (s.enterRun b r w).line.flags = s.line.flags ∧ (s.enterRun b r w).line.atStop = s.line.atStop ∧ (s.enterRun b r w).gates.busReleased = s.gates.busReleased ∧
      (s.enterRun b r w).gates.trans = s.gates.trans ∧ (s.enterRun b r w).gates.lastMain = s.gates.lastMain ∧ (s.enterRun b r w).gates.round = s.gates.round ∧
      (s.enterRun b r w).gates.classes = s.gates.classes ∧ (s.enterRun b r w).gates.recent = s.gates.recent ∧ (s.enterRun b r w).gates.passback = s.gates.passback ∧
      (s.enterRun b r w).notices.settings = s.notices.settings ∧ (s.enterRun b r w).notices.threshold = s.notices.threshold := by
  simp [State.enterRun]

@[simp] theorem State.warningExit_frame (s : State) :
    (s.warningExit).now = s.now ∧ (s.warningExit).geo = s.geo ∧ (s.warningExit).trk = s.trk ∧
      (s.warningExit).plan = s.plan ∧ (s.warningExit).brk = s.brk ∧ (s.warningExit).doors = s.doors ∧
      (s.warningExit).gates = s.gates ∧ (s.warningExit).tally = s.tally ∧ (s.warningExit).line = s.line ∧
      (s.warningExit).links = s.links ∧ (s.warningExit).drive = s.drive ∧ (s.warningExit).ctl = s.ctl ∧
      (s.warningExit).freeSeq = s.freeSeq ∧ (s.warningExit).pending = s.pending ∧ (s.warningExit).sup.env = s.sup.env ∧
      (s.warningExit).sup.trip = s.sup.trip ∧ (s.warningExit).notices.settings = s.notices.settings ∧ (s.warningExit).notices.threshold = s.notices.threshold := by
  simp only [State.warningExit]; (repeat' split) <;> simp

@[simp] theorem State.closeRun_frame (s : State) (r : Run) (o : RunOutcome) (y : CloseReason) (e : Option Int) :
    (s.closeRun r o y e).now = s.now ∧ (s.closeRun r o y e).geo = s.geo ∧ (s.closeRun r o y e).trk = s.trk ∧
      (s.closeRun r o y e).brk = s.brk ∧ (s.closeRun r o y e).doors = s.doors ∧ (s.closeRun r o y e).links = s.links ∧
      (s.closeRun r o y e).drive = s.drive ∧ (s.closeRun r o y e).ctl = s.ctl ∧ (s.closeRun r o y e).freeSeq = s.freeSeq ∧
      (s.closeRun r o y e).pending = s.pending ∧ (s.closeRun r o y e).sup.trip = s.sup.trip ∧ (s.closeRun r o y e).plan.nextId = s.plan.nextId ∧
      (s.closeRun r o y e).plan.pendingRun = s.plan.pendingRun ∧ (s.closeRun r o y e).plan.watches = s.plan.watches ∧ (s.closeRun r o y e).plan.ref = s.plan.ref ∧
      (s.closeRun r o y e).plan.prev = s.plan.prev ∧ (s.closeRun r o y e).line.mode = s.line.mode ∧ (s.closeRun r o y e).line.key = s.line.key ∧
      (s.closeRun r o y e).line.loops = s.line.loops ∧ (s.closeRun r o y e).line.restartPending = s.line.restartPending ∧ (s.closeRun r o y e).line.flags = s.line.flags ∧
      (s.closeRun r o y e).line.atStop = s.line.atStop ∧ (s.closeRun r o y e).gates.busReleased = s.gates.busReleased ∧ (s.closeRun r o y e).gates.trans = s.gates.trans ∧
      (s.closeRun r o y e).gates.lastMain = s.gates.lastMain ∧ (s.closeRun r o y e).gates.round = s.gates.round ∧ (s.closeRun r o y e).gates.classes = s.gates.classes ∧
      (s.closeRun r o y e).gates.recent = s.gates.recent ∧ (s.closeRun r o y e).gates.passback = s.gates.passback ∧ (s.closeRun r o y e).notices.settings = s.notices.settings ∧
      (s.closeRun r o y e).notices.threshold = s.notices.threshold := by
  simp [State.closeRun]

@[simp] theorem State.closePlanned_frame (s : State) (y : CloseReason) :
    (s.closePlanned y).now = s.now ∧ (s.closePlanned y).geo = s.geo ∧ (s.closePlanned y).trk = s.trk ∧
      (s.closePlanned y).brk = s.brk ∧ (s.closePlanned y).doors = s.doors ∧ (s.closePlanned y).links = s.links ∧
      (s.closePlanned y).drive = s.drive ∧ (s.closePlanned y).ctl = s.ctl ∧ (s.closePlanned y).freeSeq = s.freeSeq ∧
      (s.closePlanned y).pending = s.pending ∧ (s.closePlanned y).sup.trip = s.sup.trip ∧ (s.closePlanned y).plan.nextId = s.plan.nextId ∧
      (s.closePlanned y).plan.pendingRun = s.plan.pendingRun ∧ (s.closePlanned y).plan.watches = s.plan.watches ∧ (s.closePlanned y).plan.ref = s.plan.ref ∧
      (s.closePlanned y).plan.prev = s.plan.prev ∧ (s.closePlanned y).line.mode = s.line.mode ∧ (s.closePlanned y).line.key = s.line.key ∧
      (s.closePlanned y).line.loops = s.line.loops ∧ (s.closePlanned y).line.restartPending = s.line.restartPending ∧ (s.closePlanned y).line.flags = s.line.flags ∧
      (s.closePlanned y).line.atStop = s.line.atStop ∧ (s.closePlanned y).gates.busReleased = s.gates.busReleased ∧ (s.closePlanned y).gates.trans = s.gates.trans ∧
      (s.closePlanned y).gates.lastMain = s.gates.lastMain ∧ (s.closePlanned y).gates.round = s.gates.round ∧ (s.closePlanned y).gates.classes = s.gates.classes ∧
      (s.closePlanned y).gates.recent = s.gates.recent ∧ (s.closePlanned y).gates.passback = s.gates.passback ∧ (s.closePlanned y).notices.settings = s.notices.settings ∧
      (s.closePlanned y).notices.threshold = s.notices.threshold := by
  simp only [State.closePlanned]; (repeat' split) <;> simp

@[simp] theorem State.lockForRun_frame (s : State) :
    (s.lockForRun).now = s.now ∧ (s.lockForRun).geo = s.geo ∧ (s.lockForRun).trk = s.trk ∧
      (s.lockForRun).sup = s.sup ∧ (s.lockForRun).plan = s.plan ∧ (s.lockForRun).brk = s.brk ∧
      (s.lockForRun).tally = s.tally ∧ (s.lockForRun).line = s.line ∧ (s.lockForRun).links = s.links ∧
      (s.lockForRun).drive = s.drive ∧ (s.lockForRun).ctl = s.ctl ∧ (s.lockForRun).freeSeq = s.freeSeq ∧
      (s.lockForRun).pending = s.pending ∧ (s.lockForRun).gates.busReleased = s.gates.busReleased ∧ (s.lockForRun).gates.trans = s.gates.trans ∧
      (s.lockForRun).gates.lastMain = s.gates.lastMain ∧ (s.lockForRun).gates.round = s.gates.round ∧ (s.lockForRun).gates.classes = s.gates.classes ∧
      (s.lockForRun).gates.recent = s.gates.recent ∧ (s.lockForRun).gates.passback = s.gates.passback ∧ (s.lockForRun).notices.settings = s.notices.settings ∧
      (s.lockForRun).notices.threshold = s.notices.threshold := by
  simp [State.lockForRun]

@[simp] theorem State.lockCar_frame (s : State) (c : Car) :
    (s.lockCar c).now = s.now ∧ (s.lockCar c).geo = s.geo ∧ (s.lockCar c).trk = s.trk ∧
      (s.lockCar c).sup = s.sup ∧ (s.lockCar c).plan = s.plan ∧ (s.lockCar c).brk = s.brk ∧
      (s.lockCar c).tally = s.tally ∧ (s.lockCar c).line = s.line ∧ (s.lockCar c).links = s.links ∧
      (s.lockCar c).drive = s.drive ∧ (s.lockCar c).ctl = s.ctl ∧ (s.lockCar c).freeSeq = s.freeSeq ∧
      (s.lockCar c).pending = s.pending ∧ (s.lockCar c).gates.busReleased = s.gates.busReleased ∧ (s.lockCar c).gates.trans = s.gates.trans ∧
      (s.lockCar c).gates.lastMain = s.gates.lastMain ∧ (s.lockCar c).gates.round = s.gates.round ∧ (s.lockCar c).gates.classes = s.gates.classes ∧
      (s.lockCar c).gates.recent = s.gates.recent ∧ (s.lockCar c).gates.passback = s.gates.passback ∧ (s.lockCar c).notices.settings = s.notices.settings ∧
      (s.lockCar c).notices.threshold = s.notices.threshold := by
  simp [State.lockCar]

@[simp] theorem State.applyDecision_frame (s : State) (x : Door) (d : Decision) :
    (s.applyDecision x d).now = s.now ∧ (s.applyDecision x d).geo = s.geo ∧ (s.applyDecision x d).trk = s.trk ∧
      (s.applyDecision x d).sup = s.sup ∧ (s.applyDecision x d).plan = s.plan ∧ (s.applyDecision x d).brk = s.brk ∧
      (s.applyDecision x d).gates = s.gates ∧ (s.applyDecision x d).links = s.links ∧ (s.applyDecision x d).drive = s.drive ∧
      (s.applyDecision x d).ctl = s.ctl ∧ (s.applyDecision x d).freeSeq = s.freeSeq ∧ (s.applyDecision x d).pending = s.pending ∧
      (s.applyDecision x d).line.mode = s.line.mode ∧ (s.applyDecision x d).line.key = s.line.key ∧ (s.applyDecision x d).line.loops = s.line.loops ∧
      (s.applyDecision x d).line.restartPending = s.line.restartPending ∧ (s.applyDecision x d).line.flags = s.line.flags ∧ (s.applyDecision x d).line.atStop = s.line.atStop ∧
      (s.applyDecision x d).notices.settings = s.notices.settings ∧ (s.applyDecision x d).notices.threshold = s.notices.threshold := by
  cases d <;> simp [State.applyDecision]

@[simp] theorem State.decideDoors_frame (s : State) (xs : List Door) :
    (s.decideDoors xs).1.now = s.now ∧ (s.decideDoors xs).1.geo = s.geo ∧ (s.decideDoors xs).1.trk = s.trk ∧
      (s.decideDoors xs).1.sup = s.sup ∧ (s.decideDoors xs).1.plan = s.plan ∧ (s.decideDoors xs).1.brk = s.brk ∧
      (s.decideDoors xs).1.gates = s.gates ∧ (s.decideDoors xs).1.links = s.links ∧ (s.decideDoors xs).1.drive = s.drive ∧
      (s.decideDoors xs).1.ctl = s.ctl ∧ (s.decideDoors xs).1.freeSeq = s.freeSeq ∧ (s.decideDoors xs).1.pending = s.pending ∧
      (s.decideDoors xs).1.line.mode = s.line.mode ∧ (s.decideDoors xs).1.line.key = s.line.key ∧ (s.decideDoors xs).1.line.loops = s.line.loops ∧
      (s.decideDoors xs).1.line.restartPending = s.line.restartPending ∧ (s.decideDoors xs).1.line.flags = s.line.flags ∧ (s.decideDoors xs).1.line.atStop = s.line.atStop ∧
      (s.decideDoors xs).1.notices.settings = s.notices.settings ∧ (s.decideDoors xs).1.notices.threshold = s.notices.threshold := by
  induction xs generalizing s with
  | nil => simp [State.decideDoors]
  | cons x xs ih =>
    simp only [State.decideDoors]
    have := ih (s.applyDecision x (s.decideDoor x))
    simp only [State.applyDecision_frame] at this
    exact this

@[simp] theorem State.autoRelease_frame (s : State) (c : Car) (i : Nat) :
    (s.autoRelease c i).now = s.now ∧ (s.autoRelease c i).geo = s.geo ∧ (s.autoRelease c i).trk = s.trk ∧
      (s.autoRelease c i).sup = s.sup ∧ (s.autoRelease c i).plan = s.plan ∧ (s.autoRelease c i).brk = s.brk ∧
      (s.autoRelease c i).gates = s.gates ∧ (s.autoRelease c i).links = s.links ∧ (s.autoRelease c i).drive = s.drive ∧
      (s.autoRelease c i).ctl = s.ctl ∧ (s.autoRelease c i).freeSeq = s.freeSeq ∧ (s.autoRelease c i).pending = s.pending ∧
      (s.autoRelease c i).line.mode = s.line.mode ∧ (s.autoRelease c i).line.key = s.line.key ∧ (s.autoRelease c i).line.loops = s.line.loops ∧
      (s.autoRelease c i).line.restartPending = s.line.restartPending ∧ (s.autoRelease c i).line.flags = s.line.flags ∧ (s.autoRelease c i).line.atStop = s.line.atStop ∧
      (s.autoRelease c i).notices.settings = s.notices.settings ∧ (s.autoRelease c i).notices.threshold = s.notices.threshold := by
  simp [State.autoRelease]

@[simp] theorem State.autoReleaseAt_frame (s : State) (c : Car) (p : Station) (i : Nat) :
    (s.autoReleaseAt c p i).now = s.now ∧ (s.autoReleaseAt c p i).geo = s.geo ∧ (s.autoReleaseAt c p i).trk = s.trk ∧
      (s.autoReleaseAt c p i).sup = s.sup ∧ (s.autoReleaseAt c p i).plan = s.plan ∧ (s.autoReleaseAt c p i).brk = s.brk ∧
      (s.autoReleaseAt c p i).gates = s.gates ∧ (s.autoReleaseAt c p i).links = s.links ∧ (s.autoReleaseAt c p i).drive = s.drive ∧
      (s.autoReleaseAt c p i).ctl = s.ctl ∧ (s.autoReleaseAt c p i).freeSeq = s.freeSeq ∧ (s.autoReleaseAt c p i).pending = s.pending ∧
      (s.autoReleaseAt c p i).line.mode = s.line.mode ∧ (s.autoReleaseAt c p i).line.key = s.line.key ∧ (s.autoReleaseAt c p i).line.loops = s.line.loops ∧
      (s.autoReleaseAt c p i).line.restartPending = s.line.restartPending ∧ (s.autoReleaseAt c p i).line.flags = s.line.flags ∧ (s.autoReleaseAt c p i).line.atStop = s.line.atStop ∧
      (s.autoReleaseAt c p i).notices.settings = s.notices.settings ∧ (s.autoReleaseAt c p i).notices.threshold = s.notices.threshold := by
  simp only [State.autoReleaseAt]; (repeat' split) <;> simp

@[simp] theorem State.arrive_frame (s : State) (r : Run) :
    (s.arrive r).now = s.now ∧ (s.arrive r).geo = s.geo ∧ (s.arrive r).trk = s.trk ∧
      (s.arrive r).brk = s.brk ∧ (s.arrive r).links = s.links ∧ (s.arrive r).drive = s.drive ∧
      (s.arrive r).ctl = s.ctl ∧ (s.arrive r).freeSeq = s.freeSeq ∧ (s.arrive r).pending = s.pending ∧
      (s.arrive r).sup.trip = s.sup.trip ∧ (s.arrive r).plan.nextId = s.plan.nextId ∧ (s.arrive r).plan.pendingRun = s.plan.pendingRun ∧
      (s.arrive r).plan.watches = s.plan.watches ∧ (s.arrive r).plan.ref = s.plan.ref ∧ (s.arrive r).plan.prev = s.plan.prev ∧
      (s.arrive r).line.mode = s.line.mode ∧ (s.arrive r).line.key = s.line.key ∧ (s.arrive r).line.loops = s.line.loops ∧
      (s.arrive r).line.restartPending = s.line.restartPending ∧ (s.arrive r).line.flags = s.line.flags ∧ (s.arrive r).line.atStop = s.line.atStop ∧
      (s.arrive r).gates.busReleased = s.gates.busReleased ∧ (s.arrive r).gates.trans = s.gates.trans ∧ (s.arrive r).gates.lastMain = s.gates.lastMain ∧
      (s.arrive r).gates.round = s.gates.round ∧ (s.arrive r).gates.classes = s.gates.classes ∧ (s.arrive r).gates.recent = s.gates.recent ∧
      (s.arrive r).gates.passback = s.gates.passback ∧ (s.arrive r).notices.settings = s.notices.settings ∧ (s.arrive r).notices.threshold = s.notices.threshold := by
  simp only [State.arrive]; (repeat' split) <;> simp

@[simp] theorem State.closeEnded_frame (s : State) (x : Door) :
    (s.closeEnded x).now = s.now ∧ (s.closeEnded x).geo = s.geo ∧ (s.closeEnded x).trk = s.trk ∧
      (s.closeEnded x).sup = s.sup ∧ (s.closeEnded x).plan = s.plan ∧ (s.closeEnded x).brk = s.brk ∧
      (s.closeEnded x).gates = s.gates ∧ (s.closeEnded x).tally = s.tally ∧ (s.closeEnded x).links = s.links ∧
      (s.closeEnded x).drive = s.drive ∧ (s.closeEnded x).ctl = s.ctl ∧ (s.closeEnded x).freeSeq = s.freeSeq ∧
      (s.closeEnded x).pending = s.pending ∧ (s.closeEnded x).line.mode = s.line.mode ∧ (s.closeEnded x).line.key = s.line.key ∧
      (s.closeEnded x).line.loops = s.line.loops ∧ (s.closeEnded x).line.restartPending = s.line.restartPending ∧ (s.closeEnded x).line.flags = s.line.flags ∧
      (s.closeEnded x).line.atStop = s.line.atStop ∧ (s.closeEnded x).doors.recs = s.doors.recs ∧ (s.closeEnded x).notices.settings = s.notices.settings ∧
      (s.closeEnded x).notices.threshold = s.notices.threshold := by
  simp [State.closeEnded]

@[simp] theorem State.closeFailed_frame (s : State) (x : Door) :
    (s.closeFailed x).now = s.now ∧ (s.closeFailed x).geo = s.geo ∧ (s.closeFailed x).trk = s.trk ∧
      (s.closeFailed x).sup = s.sup ∧ (s.closeFailed x).plan = s.plan ∧ (s.closeFailed x).brk = s.brk ∧
      (s.closeFailed x).doors = s.doors ∧ (s.closeFailed x).gates = s.gates ∧ (s.closeFailed x).tally = s.tally ∧
      (s.closeFailed x).links = s.links ∧ (s.closeFailed x).drive = s.drive ∧ (s.closeFailed x).ctl = s.ctl ∧
      (s.closeFailed x).freeSeq = s.freeSeq ∧ (s.closeFailed x).pending = s.pending ∧ (s.closeFailed x).line.mode = s.line.mode ∧
      (s.closeFailed x).line.key = s.line.key ∧ (s.closeFailed x).line.loops = s.line.loops ∧ (s.closeFailed x).line.restartPending = s.line.restartPending ∧
      (s.closeFailed x).line.flags = s.line.flags ∧ (s.closeFailed x).line.atStop = s.line.atStop ∧ (s.closeFailed x).notices.settings = s.notices.settings ∧
      (s.closeFailed x).notices.threshold = s.notices.threshold := by
  simp [State.closeFailed]

@[simp] theorem State.closeExpiry_frame (s : State) (x : Door) :
    (s.closeExpiry x).now = s.now ∧ (s.closeExpiry x).geo = s.geo ∧ (s.closeExpiry x).trk = s.trk ∧
      (s.closeExpiry x).sup = s.sup ∧ (s.closeExpiry x).plan = s.plan ∧ (s.closeExpiry x).brk = s.brk ∧
      (s.closeExpiry x).gates = s.gates ∧ (s.closeExpiry x).tally = s.tally ∧ (s.closeExpiry x).links = s.links ∧
      (s.closeExpiry x).drive = s.drive ∧ (s.closeExpiry x).ctl = s.ctl ∧ (s.closeExpiry x).freeSeq = s.freeSeq ∧
      (s.closeExpiry x).pending = s.pending ∧ (s.closeExpiry x).line.mode = s.line.mode ∧ (s.closeExpiry x).line.key = s.line.key ∧
      (s.closeExpiry x).line.loops = s.line.loops ∧ (s.closeExpiry x).line.restartPending = s.line.restartPending ∧ (s.closeExpiry x).line.flags = s.line.flags ∧
      (s.closeExpiry x).line.atStop = s.line.atStop ∧ (s.closeExpiry x).notices.settings = s.notices.settings ∧ (s.closeExpiry x).notices.threshold = s.notices.threshold := by
  simp only [State.closeExpiry]; (repeat' split) <;> simp

@[simp] theorem State.reopenExpiry_frame (s : State) (x : Door) :
    (s.reopenExpiry x).now = s.now ∧ (s.reopenExpiry x).geo = s.geo ∧ (s.reopenExpiry x).trk = s.trk ∧
      (s.reopenExpiry x).sup = s.sup ∧ (s.reopenExpiry x).plan = s.plan ∧ (s.reopenExpiry x).brk = s.brk ∧
      (s.reopenExpiry x).gates = s.gates ∧ (s.reopenExpiry x).tally = s.tally ∧ (s.reopenExpiry x).line = s.line ∧
      (s.reopenExpiry x).links = s.links ∧ (s.reopenExpiry x).drive = s.drive ∧ (s.reopenExpiry x).ctl = s.ctl ∧
      (s.reopenExpiry x).notices = s.notices ∧ (s.reopenExpiry x).freeSeq = s.freeSeq ∧ (s.reopenExpiry x).pending = s.pending := by
  simp only [State.reopenExpiry]; split <;> simp

@[simp] theorem State.isolate_frame (s : State) (x : Door) :
    (s.isolate x).now = s.now ∧ (s.isolate x).geo = s.geo ∧ (s.isolate x).trk = s.trk ∧
      (s.isolate x).sup = s.sup ∧ (s.isolate x).plan = s.plan ∧ (s.isolate x).brk = s.brk ∧
      (s.isolate x).gates = s.gates ∧ (s.isolate x).tally = s.tally ∧ (s.isolate x).links = s.links ∧
      (s.isolate x).drive = s.drive ∧ (s.isolate x).ctl = s.ctl ∧ (s.isolate x).freeSeq = s.freeSeq ∧
      (s.isolate x).pending = s.pending ∧ (s.isolate x).line.mode = s.line.mode ∧ (s.isolate x).line.key = s.line.key ∧
      (s.isolate x).line.loops = s.line.loops ∧ (s.isolate x).line.restartPending = s.line.restartPending ∧ (s.isolate x).line.flags = s.line.flags ∧
      (s.isolate x).line.atStop = s.line.atStop ∧ (s.isolate x).notices.settings = s.notices.settings ∧ (s.isolate x).notices.threshold = s.notices.threshold := by
  simp only [State.isolate]; (repeat' split) <;> simp

@[simp] theorem State.restore_frame (s : State) (x : Door) :
    (s.restore x).now = s.now ∧ (s.restore x).geo = s.geo ∧ (s.restore x).trk = s.trk ∧
      (s.restore x).sup = s.sup ∧ (s.restore x).plan = s.plan ∧ (s.restore x).brk = s.brk ∧
      (s.restore x).gates = s.gates ∧ (s.restore x).tally = s.tally ∧ (s.restore x).links = s.links ∧
      (s.restore x).drive = s.drive ∧ (s.restore x).ctl = s.ctl ∧ (s.restore x).freeSeq = s.freeSeq ∧
      (s.restore x).pending = s.pending ∧ (s.restore x).line.mode = s.line.mode ∧ (s.restore x).line.key = s.line.key ∧
      (s.restore x).line.loops = s.line.loops ∧ (s.restore x).line.restartPending = s.line.restartPending ∧ (s.restore x).line.flags = s.line.flags ∧
      (s.restore x).line.atStop = s.line.atStop ∧ (s.restore x).notices.settings = s.notices.settings ∧ (s.restore x).notices.threshold = s.notices.threshold := by
  simp only [State.restore]; (repeat' split) <;> simp

@[simp] theorem State.holdSetNotice_frame (s : State) (p : StopPoint) :
    (s.holdSetNotice p).now = s.now ∧ (s.holdSetNotice p).geo = s.geo ∧ (s.holdSetNotice p).trk = s.trk ∧
      (s.holdSetNotice p).sup = s.sup ∧ (s.holdSetNotice p).plan = s.plan ∧ (s.holdSetNotice p).brk = s.brk ∧
      (s.holdSetNotice p).doors = s.doors ∧ (s.holdSetNotice p).gates = s.gates ∧ (s.holdSetNotice p).tally = s.tally ∧
      (s.holdSetNotice p).line = s.line ∧ (s.holdSetNotice p).links = s.links ∧ (s.holdSetNotice p).drive = s.drive ∧
      (s.holdSetNotice p).ctl = s.ctl ∧ (s.holdSetNotice p).freeSeq = s.freeSeq ∧ (s.holdSetNotice p).pending = s.pending ∧
      (s.holdSetNotice p).notices.settings = s.notices.settings ∧ (s.holdSetNotice p).notices.threshold = s.notices.threshold := by
  cases p <;> simp [State.holdSetNotice]

@[simp] theorem State.takeHold_frame (s : State) (r : Run) (c : HoldCause) (v : Nat) :
    (s.takeHold r c v).now = s.now ∧ (s.takeHold r c v).geo = s.geo ∧ (s.takeHold r c v).trk = s.trk ∧
      (s.takeHold r c v).sup = s.sup ∧ (s.takeHold r c v).brk = s.brk ∧ (s.takeHold r c v).doors = s.doors ∧
      (s.takeHold r c v).links = s.links ∧ (s.takeHold r c v).drive = s.drive ∧ (s.takeHold r c v).ctl = s.ctl ∧
      (s.takeHold r c v).freeSeq = s.freeSeq ∧ (s.takeHold r c v).pending = s.pending ∧ (s.takeHold r c v).plan.nextId = s.plan.nextId ∧
      (s.takeHold r c v).plan.pendingRun = s.plan.pendingRun ∧ (s.takeHold r c v).plan.lastRun = s.plan.lastRun ∧ (s.takeHold r c v).plan.watches = s.plan.watches ∧
      (s.takeHold r c v).plan.ref = s.plan.ref ∧ (s.takeHold r c v).plan.prev = s.plan.prev ∧ (s.takeHold r c v).line.mode = s.line.mode ∧
      (s.takeHold r c v).line.key = s.line.key ∧ (s.takeHold r c v).line.loops = s.line.loops ∧ (s.takeHold r c v).line.restartPending = s.line.restartPending ∧
      (s.takeHold r c v).line.flags = s.line.flags ∧ (s.takeHold r c v).line.atStop = s.line.atStop ∧ (s.takeHold r c v).gates.busReleased = s.gates.busReleased ∧
      (s.takeHold r c v).gates.trans = s.gates.trans ∧ (s.takeHold r c v).gates.lastMain = s.gates.lastMain ∧ (s.takeHold r c v).gates.round = s.gates.round ∧
      (s.takeHold r c v).gates.classes = s.gates.classes ∧ (s.takeHold r c v).gates.recent = s.gates.recent ∧ (s.takeHold r c v).gates.passback = s.gates.passback ∧
      (s.takeHold r c v).notices.settings = s.notices.settings ∧ (s.takeHold r c v).notices.threshold = s.notices.threshold := by
  simp only [State.takeHold]; (repeat' split) <;> simp

@[simp] theorem State.hold_frame (s : State) (c : HoldCause) :
    (s.hold c).now = s.now ∧ (s.hold c).geo = s.geo ∧ (s.hold c).trk = s.trk ∧
      (s.hold c).sup = s.sup ∧ (s.hold c).brk = s.brk ∧ (s.hold c).doors = s.doors ∧
      (s.hold c).links = s.links ∧ (s.hold c).drive = s.drive ∧ (s.hold c).ctl = s.ctl ∧
      (s.hold c).freeSeq = s.freeSeq ∧ (s.hold c).pending = s.pending ∧ (s.hold c).plan.nextId = s.plan.nextId ∧
      (s.hold c).plan.pendingRun = s.plan.pendingRun ∧ (s.hold c).plan.lastRun = s.plan.lastRun ∧ (s.hold c).plan.watches = s.plan.watches ∧
      (s.hold c).plan.ref = s.plan.ref ∧ (s.hold c).plan.prev = s.plan.prev ∧ (s.hold c).line.mode = s.line.mode ∧
      (s.hold c).line.key = s.line.key ∧ (s.hold c).line.loops = s.line.loops ∧ (s.hold c).line.restartPending = s.line.restartPending ∧
      (s.hold c).line.flags = s.line.flags ∧ (s.hold c).line.atStop = s.line.atStop ∧ (s.hold c).gates.busReleased = s.gates.busReleased ∧
      (s.hold c).gates.trans = s.gates.trans ∧ (s.hold c).gates.lastMain = s.gates.lastMain ∧ (s.hold c).gates.round = s.gates.round ∧
      (s.hold c).gates.classes = s.gates.classes ∧ (s.hold c).gates.recent = s.gates.recent ∧ (s.hold c).gates.passback = s.gates.passback ∧
      (s.hold c).notices.settings = s.notices.settings ∧ (s.hold c).notices.threshold = s.notices.threshold := by
  simp only [State.hold]; (repeat' split) <;> simp

@[simp] theorem State.tripRun_frame (s : State) (c : Cause) :
    (s.tripRun c).now = s.now ∧ (s.tripRun c).geo = s.geo ∧ (s.tripRun c).trk = s.trk ∧
      (s.tripRun c).brk = s.brk ∧ (s.tripRun c).doors = s.doors ∧ (s.tripRun c).links = s.links ∧
      (s.tripRun c).drive = s.drive ∧ (s.tripRun c).ctl = s.ctl ∧ (s.tripRun c).freeSeq = s.freeSeq ∧
      (s.tripRun c).pending = s.pending ∧ (s.tripRun c).sup.env = s.sup.env ∧ (s.tripRun c).sup.trip = s.sup.trip ∧
      (s.tripRun c).plan.nextId = s.plan.nextId ∧ (s.tripRun c).plan.pendingRun = s.plan.pendingRun ∧ (s.tripRun c).plan.lastRun = s.plan.lastRun ∧
      (s.tripRun c).plan.watches = s.plan.watches ∧ (s.tripRun c).plan.prev = s.plan.prev ∧ (s.tripRun c).line.mode = s.line.mode ∧
      (s.tripRun c).line.key = s.line.key ∧ (s.tripRun c).line.loops = s.line.loops ∧ (s.tripRun c).line.restartPending = s.line.restartPending ∧
      (s.tripRun c).line.flags = s.line.flags ∧ (s.tripRun c).line.atStop = s.line.atStop ∧ (s.tripRun c).gates.busReleased = s.gates.busReleased ∧
      (s.tripRun c).gates.trans = s.gates.trans ∧ (s.tripRun c).gates.lastMain = s.gates.lastMain ∧ (s.tripRun c).gates.round = s.gates.round ∧
      (s.tripRun c).gates.classes = s.gates.classes ∧ (s.tripRun c).gates.recent = s.gates.recent ∧ (s.tripRun c).gates.passback = s.gates.passback ∧
      (s.tripRun c).notices.settings = s.notices.settings ∧ (s.tripRun c).notices.threshold = s.notices.threshold := by
  simp only [State.tripRun]; (repeat' split) <;> simp

@[simp] theorem State.releasesConfirmed_frame (s : State) :
    (s.releasesConfirmed).now = s.now ∧ (s.releasesConfirmed).geo = s.geo ∧ (s.releasesConfirmed).trk = s.trk ∧
      (s.releasesConfirmed).sup = s.sup ∧ (s.releasesConfirmed).brk = s.brk ∧ (s.releasesConfirmed).doors = s.doors ∧
      (s.releasesConfirmed).links = s.links ∧ (s.releasesConfirmed).drive = s.drive ∧ (s.releasesConfirmed).ctl = s.ctl ∧
      (s.releasesConfirmed).freeSeq = s.freeSeq ∧ (s.releasesConfirmed).pending = s.pending ∧ (s.releasesConfirmed).plan.nextId = s.plan.nextId ∧
      (s.releasesConfirmed).plan.pendingRun = s.plan.pendingRun ∧ (s.releasesConfirmed).plan.lastRun = s.plan.lastRun ∧ (s.releasesConfirmed).plan.watches = s.plan.watches ∧
      (s.releasesConfirmed).plan.ref = s.plan.ref ∧ (s.releasesConfirmed).plan.prev = s.plan.prev ∧ (s.releasesConfirmed).line.mode = s.line.mode ∧
      (s.releasesConfirmed).line.key = s.line.key ∧ (s.releasesConfirmed).line.loops = s.line.loops ∧ (s.releasesConfirmed).line.restartPending = s.line.restartPending ∧
      (s.releasesConfirmed).line.flags = s.line.flags ∧ (s.releasesConfirmed).line.atStop = s.line.atStop ∧ (s.releasesConfirmed).gates.busReleased = s.gates.busReleased ∧
      (s.releasesConfirmed).gates.trans = s.gates.trans ∧ (s.releasesConfirmed).gates.lastMain = s.gates.lastMain ∧ (s.releasesConfirmed).gates.round = s.gates.round ∧
      (s.releasesConfirmed).gates.classes = s.gates.classes ∧ (s.releasesConfirmed).gates.recent = s.gates.recent ∧ (s.releasesConfirmed).gates.passback = s.gates.passback ∧
      (s.releasesConfirmed).notices.settings = s.notices.settings ∧ (s.releasesConfirmed).notices.threshold = s.notices.threshold := by
  simp only [State.releasesConfirmed]; (repeat' split) <;> simp

@[simp] theorem State.backToPlanned_frame (s : State) (r : Run) (f : StartFail) :
    (s.backToPlanned r f).now = s.now ∧ (s.backToPlanned r f).geo = s.geo ∧ (s.backToPlanned r f).trk = s.trk ∧
      (s.backToPlanned r f).brk = s.brk ∧ (s.backToPlanned r f).doors = s.doors ∧ (s.backToPlanned r f).links = s.links ∧
      (s.backToPlanned r f).drive = s.drive ∧ (s.backToPlanned r f).ctl = s.ctl ∧ (s.backToPlanned r f).freeSeq = s.freeSeq ∧
      (s.backToPlanned r f).pending = s.pending ∧ (s.backToPlanned r f).sup.trip = s.sup.trip ∧ (s.backToPlanned r f).plan.nextId = s.plan.nextId ∧
      (s.backToPlanned r f).plan.pendingRun = s.plan.pendingRun ∧ (s.backToPlanned r f).plan.lastRun = s.plan.lastRun ∧ (s.backToPlanned r f).plan.watches = s.plan.watches ∧
      (s.backToPlanned r f).plan.ref = s.plan.ref ∧ (s.backToPlanned r f).plan.prev = s.plan.prev ∧ (s.backToPlanned r f).line.mode = s.line.mode ∧
      (s.backToPlanned r f).line.key = s.line.key ∧ (s.backToPlanned r f).line.loops = s.line.loops ∧ (s.backToPlanned r f).line.restartPending = s.line.restartPending ∧
      (s.backToPlanned r f).line.flags = s.line.flags ∧ (s.backToPlanned r f).line.atStop = s.line.atStop ∧ (s.backToPlanned r f).gates.busReleased = s.gates.busReleased ∧
      (s.backToPlanned r f).gates.trans = s.gates.trans ∧ (s.backToPlanned r f).gates.lastMain = s.gates.lastMain ∧ (s.backToPlanned r f).gates.round = s.gates.round ∧
      (s.backToPlanned r f).gates.classes = s.gates.classes ∧ (s.backToPlanned r f).gates.recent = s.gates.recent ∧ (s.backToPlanned r f).gates.passback = s.gates.passback ∧
      (s.backToPlanned r f).notices.settings = s.notices.settings ∧ (s.backToPlanned r f).notices.threshold = s.notices.threshold := by
  simp [State.backToPlanned]

@[simp] theorem State.backToHolding_frame (s : State) (r : Run) (l : LeftHold) (f : StartFail) :
    (s.backToHolding r l f).now = s.now ∧ (s.backToHolding r l f).geo = s.geo ∧ (s.backToHolding r l f).trk = s.trk ∧
      (s.backToHolding r l f).sup = s.sup ∧ (s.backToHolding r l f).brk = s.brk ∧ (s.backToHolding r l f).doors = s.doors ∧
      (s.backToHolding r l f).links = s.links ∧ (s.backToHolding r l f).drive = s.drive ∧ (s.backToHolding r l f).ctl = s.ctl ∧
      (s.backToHolding r l f).freeSeq = s.freeSeq ∧ (s.backToHolding r l f).pending = s.pending ∧ (s.backToHolding r l f).plan.nextId = s.plan.nextId ∧
      (s.backToHolding r l f).plan.pendingRun = s.plan.pendingRun ∧ (s.backToHolding r l f).plan.lastRun = s.plan.lastRun ∧ (s.backToHolding r l f).plan.watches = s.plan.watches ∧
      (s.backToHolding r l f).plan.ref = s.plan.ref ∧ (s.backToHolding r l f).plan.prev = s.plan.prev ∧ (s.backToHolding r l f).line.mode = s.line.mode ∧
      (s.backToHolding r l f).line.key = s.line.key ∧ (s.backToHolding r l f).line.loops = s.line.loops ∧ (s.backToHolding r l f).line.restartPending = s.line.restartPending ∧
      (s.backToHolding r l f).line.flags = s.line.flags ∧ (s.backToHolding r l f).line.atStop = s.line.atStop ∧ (s.backToHolding r l f).gates.busReleased = s.gates.busReleased ∧
      (s.backToHolding r l f).gates.trans = s.gates.trans ∧ (s.backToHolding r l f).gates.lastMain = s.gates.lastMain ∧ (s.backToHolding r l f).gates.round = s.gates.round ∧
      (s.backToHolding r l f).gates.classes = s.gates.classes ∧ (s.backToHolding r l f).gates.recent = s.gates.recent ∧ (s.backToHolding r l f).gates.passback = s.gates.passback ∧
      (s.backToHolding r l f).notices.settings = s.notices.settings ∧ (s.backToHolding r l f).notices.threshold = s.notices.threshold := by
  simp [State.backToHolding]

@[simp] theorem State.startFailed_frame (s : State) (f : StartFail) :
    (s.startFailed f).now = s.now ∧ (s.startFailed f).geo = s.geo ∧ (s.startFailed f).trk = s.trk ∧
      (s.startFailed f).brk = s.brk ∧ (s.startFailed f).doors = s.doors ∧ (s.startFailed f).links = s.links ∧
      (s.startFailed f).drive = s.drive ∧ (s.startFailed f).ctl = s.ctl ∧ (s.startFailed f).freeSeq = s.freeSeq ∧
      (s.startFailed f).pending = s.pending ∧ (s.startFailed f).sup.trip = s.sup.trip ∧ (s.startFailed f).plan.nextId = s.plan.nextId ∧
      (s.startFailed f).plan.pendingRun = s.plan.pendingRun ∧ (s.startFailed f).plan.watches = s.plan.watches ∧ (s.startFailed f).plan.ref = s.plan.ref ∧
      (s.startFailed f).plan.prev = s.plan.prev ∧ (s.startFailed f).line.mode = s.line.mode ∧ (s.startFailed f).line.key = s.line.key ∧
      (s.startFailed f).line.loops = s.line.loops ∧ (s.startFailed f).line.restartPending = s.line.restartPending ∧ (s.startFailed f).line.flags = s.line.flags ∧
      (s.startFailed f).line.atStop = s.line.atStop ∧ (s.startFailed f).gates.busReleased = s.gates.busReleased ∧ (s.startFailed f).gates.trans = s.gates.trans ∧
      (s.startFailed f).gates.lastMain = s.gates.lastMain ∧ (s.startFailed f).gates.round = s.gates.round ∧ (s.startFailed f).gates.classes = s.gates.classes ∧
      (s.startFailed f).gates.recent = s.gates.recent ∧ (s.startFailed f).gates.passback = s.gates.passback ∧ (s.startFailed f).notices.settings = s.notices.settings ∧
      (s.startFailed f).notices.threshold = s.notices.threshold := by
  simp only [State.startFailed]; (repeat' split) <;> simp

@[simp] theorem State.holdReached_frame (s : State) (n : Ix4) :
    (s.holdReached n).now = s.now ∧ (s.holdReached n).geo = s.geo ∧ (s.holdReached n).trk = s.trk ∧
      (s.holdReached n).sup = s.sup ∧ (s.holdReached n).brk = s.brk ∧ (s.holdReached n).doors = s.doors ∧
      (s.holdReached n).gates = s.gates ∧ (s.holdReached n).tally = s.tally ∧ (s.holdReached n).line = s.line ∧
      (s.holdReached n).links = s.links ∧ (s.holdReached n).drive = s.drive ∧ (s.holdReached n).ctl = s.ctl ∧
      (s.holdReached n).freeSeq = s.freeSeq ∧ (s.holdReached n).pending = s.pending ∧ (s.holdReached n).plan.run = s.plan.run ∧
      (s.holdReached n).plan.nextId = s.plan.nextId ∧ (s.holdReached n).plan.pendingRun = s.plan.pendingRun ∧ (s.holdReached n).plan.lastRun = s.plan.lastRun ∧
      (s.holdReached n).plan.ref = s.plan.ref ∧ (s.holdReached n).plan.prev = s.plan.prev ∧ (s.holdReached n).notices.settings = s.notices.settings ∧
      (s.holdReached n).notices.threshold = s.notices.threshold := by
  simp [State.holdReached]

@[simp] theorem State.holdReachedBy_frame (s : State) (c : HoldCause) :
    (s.holdReachedBy c).now = s.now ∧ (s.holdReachedBy c).geo = s.geo ∧ (s.holdReachedBy c).trk = s.trk ∧
      (s.holdReachedBy c).sup = s.sup ∧ (s.holdReachedBy c).brk = s.brk ∧ (s.holdReachedBy c).doors = s.doors ∧
      (s.holdReachedBy c).gates = s.gates ∧ (s.holdReachedBy c).tally = s.tally ∧ (s.holdReachedBy c).line = s.line ∧
      (s.holdReachedBy c).links = s.links ∧ (s.holdReachedBy c).drive = s.drive ∧ (s.holdReachedBy c).ctl = s.ctl ∧
      (s.holdReachedBy c).freeSeq = s.freeSeq ∧ (s.holdReachedBy c).pending = s.pending ∧ (s.holdReachedBy c).plan.run = s.plan.run ∧
      (s.holdReachedBy c).plan.nextId = s.plan.nextId ∧ (s.holdReachedBy c).plan.pendingRun = s.plan.pendingRun ∧ (s.holdReachedBy c).plan.lastRun = s.plan.lastRun ∧
      (s.holdReachedBy c).plan.ref = s.plan.ref ∧ (s.holdReachedBy c).plan.prev = s.plan.prev ∧ (s.holdReachedBy c).notices.settings = s.notices.settings ∧
      (s.holdReachedBy c).notices.threshold = s.notices.threshold := by
  cases c <;> simp [State.holdReachedBy]

@[simp] theorem State.enterHolding_frame (s : State) (r : Run) (c : Option HoldCause) :
    (s.enterHolding r c).now = s.now ∧ (s.enterHolding r c).geo = s.geo ∧ (s.enterHolding r c).trk = s.trk ∧
      (s.enterHolding r c).sup = s.sup ∧ (s.enterHolding r c).brk = s.brk ∧ (s.enterHolding r c).doors = s.doors ∧
      (s.enterHolding r c).links = s.links ∧ (s.enterHolding r c).drive = s.drive ∧ (s.enterHolding r c).ctl = s.ctl ∧
      (s.enterHolding r c).freeSeq = s.freeSeq ∧ (s.enterHolding r c).pending = s.pending ∧ (s.enterHolding r c).plan.nextId = s.plan.nextId ∧
      (s.enterHolding r c).plan.pendingRun = s.plan.pendingRun ∧ (s.enterHolding r c).plan.lastRun = s.plan.lastRun ∧ (s.enterHolding r c).plan.ref = s.plan.ref ∧
      (s.enterHolding r c).plan.prev = s.plan.prev ∧ (s.enterHolding r c).line.mode = s.line.mode ∧ (s.enterHolding r c).line.key = s.line.key ∧
      (s.enterHolding r c).line.loops = s.line.loops ∧ (s.enterHolding r c).line.restartPending = s.line.restartPending ∧ (s.enterHolding r c).line.flags = s.line.flags ∧
      (s.enterHolding r c).line.atStop = s.line.atStop ∧ (s.enterHolding r c).gates.busReleased = s.gates.busReleased ∧ (s.enterHolding r c).gates.trans = s.gates.trans ∧
      (s.enterHolding r c).gates.lastMain = s.gates.lastMain ∧ (s.enterHolding r c).gates.round = s.gates.round ∧ (s.enterHolding r c).gates.classes = s.gates.classes ∧
      (s.enterHolding r c).gates.recent = s.gates.recent ∧ (s.enterHolding r c).gates.passback = s.gates.passback ∧ (s.enterHolding r c).notices.settings = s.notices.settings ∧
      (s.enterHolding r c).notices.threshold = s.notices.threshold := by
  cases c <;> simp [State.enterHolding]

@[simp] theorem State.stopComplete_frame (s : State) :
    (s.stopComplete).now = s.now ∧ (s.stopComplete).geo = s.geo ∧ (s.stopComplete).trk = s.trk ∧
      (s.stopComplete).brk = s.brk ∧ (s.stopComplete).links = s.links ∧ (s.stopComplete).drive = s.drive ∧
      (s.stopComplete).ctl = s.ctl ∧ (s.stopComplete).freeSeq = s.freeSeq ∧ (s.stopComplete).pending = s.pending ∧
      (s.stopComplete).sup.trip = s.sup.trip ∧ (s.stopComplete).plan.nextId = s.plan.nextId ∧ (s.stopComplete).plan.pendingRun = s.plan.pendingRun ∧
      (s.stopComplete).plan.ref = s.plan.ref ∧ (s.stopComplete).plan.prev = s.plan.prev ∧ (s.stopComplete).line.mode = s.line.mode ∧
      (s.stopComplete).line.key = s.line.key ∧ (s.stopComplete).line.loops = s.line.loops ∧ (s.stopComplete).line.restartPending = s.line.restartPending ∧
      (s.stopComplete).line.flags = s.line.flags ∧ (s.stopComplete).line.atStop = s.line.atStop ∧ (s.stopComplete).gates.busReleased = s.gates.busReleased ∧
      (s.stopComplete).gates.trans = s.gates.trans ∧ (s.stopComplete).gates.lastMain = s.gates.lastMain ∧ (s.stopComplete).gates.round = s.gates.round ∧
      (s.stopComplete).gates.classes = s.gates.classes ∧ (s.stopComplete).gates.recent = s.gates.recent ∧ (s.stopComplete).gates.passback = s.gates.passback ∧
      (s.stopComplete).notices.settings = s.notices.settings ∧ (s.stopComplete).notices.threshold = s.notices.threshold := by
  simp only [State.stopComplete]; (repeat' split) <;> simp

@[simp] theorem State.setBrakes_frame (s : State) (b : Brakes) :
    (s.setBrakes b).now = s.now ∧ (s.setBrakes b).geo = s.geo ∧ (s.setBrakes b).trk = s.trk ∧
      (s.setBrakes b).sup = s.sup ∧ (s.setBrakes b).plan = s.plan ∧ (s.setBrakes b).doors = s.doors ∧
      (s.setBrakes b).gates = s.gates ∧ (s.setBrakes b).tally = s.tally ∧ (s.setBrakes b).line = s.line ∧
      (s.setBrakes b).links = s.links ∧ (s.setBrakes b).drive = s.drive ∧ (s.setBrakes b).ctl = s.ctl ∧
      (s.setBrakes b).freeSeq = s.freeSeq ∧ (s.setBrakes b).pending = s.pending ∧ (s.setBrakes b).notices.settings = s.notices.settings ∧
      (s.setBrakes b).notices.threshold = s.notices.threshold := by
  simp [State.setBrakes]

@[simp] theorem State.setTrack_frame (s : State) (c : Car) (t : TrackRec) :
    (s.setTrack c t).now = s.now ∧ (s.setTrack c t).geo = s.geo ∧ (s.setTrack c t).trk = s.trk ∧
      (s.setTrack c t).sup = s.sup ∧ (s.setTrack c t).plan = s.plan ∧ (s.setTrack c t).doors = s.doors ∧
      (s.setTrack c t).gates = s.gates ∧ (s.setTrack c t).tally = s.tally ∧ (s.setTrack c t).line = s.line ∧
      (s.setTrack c t).links = s.links ∧ (s.setTrack c t).drive = s.drive ∧ (s.setTrack c t).ctl = s.ctl ∧
      (s.setTrack c t).freeSeq = s.freeSeq ∧ (s.setTrack c t).pending = s.pending ∧ (s.setTrack c t).brk.sbr = s.brk.sbr ∧
      (s.setTrack c t).brk.ebr = s.brk.ebr ∧ (s.setTrack c t).brk.ten = s.brk.ten ∧ (s.setTrack c t).brk.seq = s.brk.seq ∧
      (s.setTrack c t).brk.abort = s.brk.abort ∧ (s.setTrack c t).brk.torque = s.brk.torque ∧ (s.setTrack c t).brk.service = s.brk.service ∧
      (s.setTrack c t).brk.sheave = s.brk.sheave ∧ (s.setTrack c t).brk.sbApplied = s.brk.sbApplied ∧ (s.setTrack c t).brk.sbReleased = s.brk.sbReleased ∧
      (s.setTrack c t).brk.ebApplied = s.brk.ebApplied ∧ (s.setTrack c t).brk.ebReleased = s.brk.ebReleased ∧ (s.setTrack c t).brk.watch = s.brk.watch ∧
      (s.setTrack c t).notices.settings = s.notices.settings ∧ (s.setTrack c t).notices.threshold = s.notices.threshold := by
  simp [State.setTrack]

@[simp] theorem State.escalate_frame (s : State) (e : EscCause) (y : EscSource) :
    (s.escalate e y).now = s.now ∧ (s.escalate e y).geo = s.geo ∧ (s.escalate e y).trk = s.trk ∧
      (s.escalate e y).plan = s.plan ∧ (s.escalate e y).doors = s.doors ∧ (s.escalate e y).gates = s.gates ∧
      (s.escalate e y).tally = s.tally ∧ (s.escalate e y).links = s.links ∧ (s.escalate e y).drive = s.drive ∧
      (s.escalate e y).ctl = s.ctl ∧ (s.escalate e y).freeSeq = s.freeSeq ∧ (s.escalate e y).pending = s.pending ∧
      (s.escalate e y).sup.env = s.sup.env ∧ (s.escalate e y).sup.band = s.sup.band ∧ (s.escalate e y).brk.sbr = s.brk.sbr ∧
      (s.escalate e y).brk.ebr = s.brk.ebr ∧ (s.escalate e y).brk.ten = s.brk.ten ∧ (s.escalate e y).brk.seq = s.brk.seq ∧
      (s.escalate e y).brk.abort = s.brk.abort ∧ (s.escalate e y).brk.torque = s.brk.torque ∧ (s.escalate e y).brk.service = s.brk.service ∧
      (s.escalate e y).brk.sheave = s.brk.sheave ∧ (s.escalate e y).brk.sbApplied = s.brk.sbApplied ∧ (s.escalate e y).brk.sbReleased = s.brk.sbReleased ∧
      (s.escalate e y).brk.ebApplied = s.brk.ebApplied ∧ (s.escalate e y).brk.ebReleased = s.brk.ebReleased ∧ (s.escalate e y).line.mode = s.line.mode ∧
      (s.escalate e y).line.key = s.line.key ∧ (s.escalate e y).line.loops = s.line.loops ∧ (s.escalate e y).line.restartPending = s.line.restartPending ∧
      (s.escalate e y).line.flags = s.line.flags ∧ (s.escalate e y).line.atStop = s.line.atStop ∧ (s.escalate e y).notices.settings = s.notices.settings ∧
      (s.escalate e y).notices.threshold = s.notices.threshold := by
  simp only [State.escalate]; split <;> simp [Brakes.reassert]

@[simp] theorem State.tripNotice_frame (s : State) (b : Bool) (c : Cause) (f : Figures) :
    (s.tripNotice b c f).now = s.now ∧ (s.tripNotice b c f).geo = s.geo ∧ (s.tripNotice b c f).trk = s.trk ∧
      (s.tripNotice b c f).sup = s.sup ∧ (s.tripNotice b c f).plan = s.plan ∧ (s.tripNotice b c f).brk = s.brk ∧
      (s.tripNotice b c f).doors = s.doors ∧ (s.tripNotice b c f).gates = s.gates ∧ (s.tripNotice b c f).tally = s.tally ∧
      (s.tripNotice b c f).line = s.line ∧ (s.tripNotice b c f).links = s.links ∧ (s.tripNotice b c f).drive = s.drive ∧
      (s.tripNotice b c f).ctl = s.ctl ∧ (s.tripNotice b c f).freeSeq = s.freeSeq ∧ (s.tripNotice b c f).pending = s.pending ∧
      (s.tripNotice b c f).notices.settings = s.notices.settings ∧ (s.tripNotice b c f).notices.threshold = s.notices.threshold := by
  simp only [State.tripNotice]; (repeat' split) <;> simp

@[simp] theorem State.escalate_foldl_frame (s : State) (es : List EscCause) (y : EscSource) :
    (es.foldl (fun s e => s.escalate e y) s).now = s.now ∧ (es.foldl (fun s e => s.escalate e y) s).geo = s.geo ∧ (es.foldl (fun s e => s.escalate e y) s).trk = s.trk ∧
      (es.foldl (fun s e => s.escalate e y) s).plan = s.plan ∧ (es.foldl (fun s e => s.escalate e y) s).doors = s.doors ∧ (es.foldl (fun s e => s.escalate e y) s).gates = s.gates ∧
      (es.foldl (fun s e => s.escalate e y) s).tally = s.tally ∧ (es.foldl (fun s e => s.escalate e y) s).links = s.links ∧ (es.foldl (fun s e => s.escalate e y) s).drive = s.drive ∧
      (es.foldl (fun s e => s.escalate e y) s).ctl = s.ctl ∧ (es.foldl (fun s e => s.escalate e y) s).freeSeq = s.freeSeq ∧ (es.foldl (fun s e => s.escalate e y) s).pending = s.pending ∧
      (es.foldl (fun s e => s.escalate e y) s).sup.env = s.sup.env ∧ (es.foldl (fun s e => s.escalate e y) s).sup.band = s.sup.band ∧ (es.foldl (fun s e => s.escalate e y) s).brk.sbr = s.brk.sbr ∧
      (es.foldl (fun s e => s.escalate e y) s).brk.ebr = s.brk.ebr ∧ (es.foldl (fun s e => s.escalate e y) s).brk.ten = s.brk.ten ∧ (es.foldl (fun s e => s.escalate e y) s).brk.seq = s.brk.seq ∧
      (es.foldl (fun s e => s.escalate e y) s).brk.abort = s.brk.abort ∧ (es.foldl (fun s e => s.escalate e y) s).brk.torque = s.brk.torque ∧ (es.foldl (fun s e => s.escalate e y) s).brk.service = s.brk.service ∧
      (es.foldl (fun s e => s.escalate e y) s).brk.sheave = s.brk.sheave ∧ (es.foldl (fun s e => s.escalate e y) s).brk.sbApplied = s.brk.sbApplied ∧ (es.foldl (fun s e => s.escalate e y) s).brk.sbReleased = s.brk.sbReleased ∧
      (es.foldl (fun s e => s.escalate e y) s).brk.ebApplied = s.brk.ebApplied ∧ (es.foldl (fun s e => s.escalate e y) s).brk.ebReleased = s.brk.ebReleased ∧ (es.foldl (fun s e => s.escalate e y) s).line.mode = s.line.mode ∧
      (es.foldl (fun s e => s.escalate e y) s).line.key = s.line.key ∧ (es.foldl (fun s e => s.escalate e y) s).line.loops = s.line.loops ∧ (es.foldl (fun s e => s.escalate e y) s).line.restartPending = s.line.restartPending ∧
      (es.foldl (fun s e => s.escalate e y) s).line.flags = s.line.flags ∧ (es.foldl (fun s e => s.escalate e y) s).line.atStop = s.line.atStop ∧ (es.foldl (fun s e => s.escalate e y) s).notices.settings = s.notices.settings ∧
      (es.foldl (fun s e => s.escalate e y) s).notices.threshold = s.notices.threshold :=
  ⟨foldl_keeps (fun s => s.now) _ (by simp) _ _,
   foldl_keeps (fun s => s.geo) _ (by simp) _ _,
   foldl_keeps (fun s => s.trk) _ (by simp) _ _,
   foldl_keeps (fun s => s.plan) _ (by simp) _ _,
   foldl_keeps (fun s => s.doors) _ (by simp) _ _,
   foldl_keeps (fun s => s.gates) _ (by simp) _ _,
   foldl_keeps (fun s => s.tally) _ (by simp) _ _,
   foldl_keeps (fun s => s.links) _ (by simp) _ _,
   foldl_keeps (fun s => s.drive) _ (by simp) _ _,
   foldl_keeps (fun s => s.ctl) _ (by simp) _ _,
   foldl_keeps (fun s => s.freeSeq) _ (by simp) _ _,
   foldl_keeps (fun s => s.pending) _ (by simp) _ _,
   foldl_keeps (fun s => s.sup.env) _ (by simp) _ _,
   foldl_keeps (fun s => s.sup.band) _ (by simp) _ _,
   foldl_keeps (fun s => s.brk.sbr) _ (by simp) _ _,
   foldl_keeps (fun s => s.brk.ebr) _ (by simp) _ _,
   foldl_keeps (fun s => s.brk.ten) _ (by simp) _ _,
   foldl_keeps (fun s => s.brk.seq) _ (by simp) _ _,
   foldl_keeps (fun s => s.brk.abort) _ (by simp) _ _,
   foldl_keeps (fun s => s.brk.torque) _ (by simp) _ _,
   foldl_keeps (fun s => s.brk.service) _ (by simp) _ _,
   foldl_keeps (fun s => s.brk.sheave) _ (by simp) _ _,
   foldl_keeps (fun s => s.brk.sbApplied) _ (by simp) _ _,
   foldl_keeps (fun s => s.brk.sbReleased) _ (by simp) _ _,
   foldl_keeps (fun s => s.brk.ebApplied) _ (by simp) _ _,
   foldl_keeps (fun s => s.brk.ebReleased) _ (by simp) _ _,
   foldl_keeps (fun s => s.line.mode) _ (by simp) _ _,
   foldl_keeps (fun s => s.line.key) _ (by simp) _ _,
   foldl_keeps (fun s => s.line.loops) _ (by simp) _ _,
   foldl_keeps (fun s => s.line.restartPending) _ (by simp) _ _,
   foldl_keeps (fun s => s.line.flags) _ (by simp) _ _,
   foldl_keeps (fun s => s.line.atStop) _ (by simp) _ _,
   foldl_keeps (fun s => s.notices.settings) _ (by simp) _ _,
   foldl_keeps (fun s => s.notices.threshold) _ (by simp) _ _⟩

@[simp] theorem State.emergency_frame (s : State) (c : Cause) (f : Figures) :
    (s.emergency c f).now = s.now ∧ (s.emergency c f).geo = s.geo ∧ (s.emergency c f).trk = s.trk ∧
      (s.emergency c f).doors = s.doors ∧ (s.emergency c f).links = s.links ∧ (s.emergency c f).ctl = s.ctl ∧
      (s.emergency c f).freeSeq = s.freeSeq ∧ (s.emergency c f).pending = s.pending ∧ (s.emergency c f).sup.env = s.sup.env ∧
      (s.emergency c f).brk.sbApplied = s.brk.sbApplied ∧ (s.emergency c f).brk.sbReleased = s.brk.sbReleased ∧ (s.emergency c f).brk.ebApplied = s.brk.ebApplied ∧
      (s.emergency c f).brk.ebReleased = s.brk.ebReleased ∧ (s.emergency c f).plan.nextId = s.plan.nextId ∧ (s.emergency c f).plan.pendingRun = s.plan.pendingRun ∧
      (s.emergency c f).plan.lastRun = s.plan.lastRun ∧ (s.emergency c f).plan.watches = s.plan.watches ∧ (s.emergency c f).plan.prev = s.plan.prev ∧
      (s.emergency c f).line.mode = s.line.mode ∧ (s.emergency c f).line.key = s.line.key ∧ (s.emergency c f).line.loops = s.line.loops ∧
      (s.emergency c f).line.restartPending = s.line.restartPending ∧ (s.emergency c f).line.flags = s.line.flags ∧ (s.emergency c f).line.atStop = s.line.atStop ∧
      (s.emergency c f).gates.busReleased = s.gates.busReleased ∧ (s.emergency c f).gates.trans = s.gates.trans ∧ (s.emergency c f).gates.lastMain = s.gates.lastMain ∧
      (s.emergency c f).gates.round = s.gates.round ∧ (s.emergency c f).gates.classes = s.gates.classes ∧ (s.emergency c f).gates.recent = s.gates.recent ∧
      (s.emergency c f).gates.passback = s.gates.passback ∧ (s.emergency c f).notices.settings = s.notices.settings ∧ (s.emergency c f).notices.threshold = s.notices.threshold ∧
      (s.emergency c f).drive.status = s.drive.status ∧ (s.emergency c f).drive.silent = s.drive.silent ∧ (s.emergency c f).drive.lastRef = s.drive.lastRef ∧
      (s.emergency c f).drive.lastFrame = s.drive.lastFrame := by
  simp [State.emergency, Drive.stop, Brakes.dropAll]

@[simp] theorem State.raise_frame (s : State) (c : Cause) :
    (s.raise c).now = s.now ∧ (s.raise c).geo = s.geo ∧ (s.raise c).trk = s.trk ∧
      (s.raise c).doors = s.doors ∧ (s.raise c).links = s.links ∧ (s.raise c).ctl = s.ctl ∧
      (s.raise c).pending = s.pending ∧ (s.raise c).sup.env = s.sup.env ∧ (s.raise c).brk.sbApplied = s.brk.sbApplied ∧
      (s.raise c).brk.sbReleased = s.brk.sbReleased ∧ (s.raise c).brk.ebApplied = s.brk.ebApplied ∧ (s.raise c).brk.ebReleased = s.brk.ebReleased ∧
      (s.raise c).plan.nextId = s.plan.nextId ∧ (s.raise c).plan.pendingRun = s.plan.pendingRun ∧ (s.raise c).plan.lastRun = s.plan.lastRun ∧
      (s.raise c).plan.watches = s.plan.watches ∧ (s.raise c).plan.prev = s.plan.prev ∧ (s.raise c).line.mode = s.line.mode ∧
      (s.raise c).line.key = s.line.key ∧ (s.raise c).line.loops = s.line.loops ∧ (s.raise c).line.restartPending = s.line.restartPending ∧
      (s.raise c).line.flags = s.line.flags ∧ (s.raise c).line.atStop = s.line.atStop ∧ (s.raise c).gates.busReleased = s.gates.busReleased ∧
      (s.raise c).gates.trans = s.gates.trans ∧ (s.raise c).gates.lastMain = s.gates.lastMain ∧ (s.raise c).gates.round = s.gates.round ∧
      (s.raise c).gates.classes = s.gates.classes ∧ (s.raise c).gates.recent = s.gates.recent ∧ (s.raise c).gates.passback = s.gates.passback ∧
      (s.raise c).notices.settings = s.notices.settings ∧ (s.raise c).notices.threshold = s.notices.threshold ∧ (s.raise c).drive.status = s.drive.status ∧
      (s.raise c).drive.silent = s.drive.silent ∧ (s.raise c).drive.lastRef = s.drive.lastRef ∧ (s.raise c).drive.lastFrame = s.drive.lastFrame := by
  simp [State.raise]

@[simp] theorem State.settleApply_frame (s : State) :
    (s.settleApply).now = s.now ∧ (s.settleApply).geo = s.geo ∧ (s.settleApply).trk = s.trk ∧
      (s.settleApply).links = s.links ∧ (s.settleApply).ctl = s.ctl ∧ (s.settleApply).pending = s.pending ∧
      (s.settleApply).brk.sbApplied = s.brk.sbApplied ∧ (s.settleApply).brk.sbReleased = s.brk.sbReleased ∧ (s.settleApply).brk.ebApplied = s.brk.ebApplied ∧
      (s.settleApply).brk.ebReleased = s.brk.ebReleased ∧ (s.settleApply).plan.nextId = s.plan.nextId ∧ (s.settleApply).plan.pendingRun = s.plan.pendingRun ∧
      (s.settleApply).plan.prev = s.plan.prev ∧ (s.settleApply).line.mode = s.line.mode ∧ (s.settleApply).line.key = s.line.key ∧
      (s.settleApply).line.loops = s.line.loops ∧ (s.settleApply).line.restartPending = s.line.restartPending ∧ (s.settleApply).line.flags = s.line.flags ∧
      (s.settleApply).line.atStop = s.line.atStop ∧ (s.settleApply).gates.busReleased = s.gates.busReleased ∧ (s.settleApply).gates.trans = s.gates.trans ∧
      (s.settleApply).gates.lastMain = s.gates.lastMain ∧ (s.settleApply).gates.round = s.gates.round ∧ (s.settleApply).gates.classes = s.gates.classes ∧
      (s.settleApply).gates.recent = s.gates.recent ∧ (s.settleApply).gates.passback = s.gates.passback ∧ (s.settleApply).notices.settings = s.notices.settings ∧
      (s.settleApply).notices.threshold = s.notices.threshold ∧ (s.settleApply).drive.status = s.drive.status ∧ (s.settleApply).drive.silent = s.drive.silent ∧
      (s.settleApply).drive.lastRef = s.drive.lastRef ∧ (s.settleApply).drive.lastFrame = s.drive.lastFrame := by
  simp only [State.settleApply]; (repeat' split) <;> simp

@[simp] theorem State.enterAbort_frame (s : State) (f : StartFail) :
    (s.enterAbort f).now = s.now ∧ (s.enterAbort f).geo = s.geo ∧ (s.enterAbort f).trk = s.trk ∧
      (s.enterAbort f).links = s.links ∧ (s.enterAbort f).ctl = s.ctl ∧ (s.enterAbort f).pending = s.pending ∧
      (s.enterAbort f).brk.sbApplied = s.brk.sbApplied ∧ (s.enterAbort f).brk.sbReleased = s.brk.sbReleased ∧ (s.enterAbort f).brk.ebApplied = s.brk.ebApplied ∧
      (s.enterAbort f).brk.ebReleased = s.brk.ebReleased ∧ (s.enterAbort f).plan.nextId = s.plan.nextId ∧ (s.enterAbort f).plan.pendingRun = s.plan.pendingRun ∧
      (s.enterAbort f).plan.prev = s.plan.prev ∧ (s.enterAbort f).line.mode = s.line.mode ∧ (s.enterAbort f).line.key = s.line.key ∧
      (s.enterAbort f).line.loops = s.line.loops ∧ (s.enterAbort f).line.restartPending = s.line.restartPending ∧ (s.enterAbort f).line.flags = s.line.flags ∧
      (s.enterAbort f).line.atStop = s.line.atStop ∧ (s.enterAbort f).gates.busReleased = s.gates.busReleased ∧ (s.enterAbort f).gates.trans = s.gates.trans ∧
      (s.enterAbort f).gates.lastMain = s.gates.lastMain ∧ (s.enterAbort f).gates.round = s.gates.round ∧ (s.enterAbort f).gates.classes = s.gates.classes ∧
      (s.enterAbort f).gates.recent = s.gates.recent ∧ (s.enterAbort f).gates.passback = s.gates.passback ∧ (s.enterAbort f).notices.settings = s.notices.settings ∧
      (s.enterAbort f).notices.threshold = s.notices.threshold ∧ (s.enterAbort f).drive.status = s.drive.status ∧ (s.enterAbort f).drive.silent = s.drive.silent ∧
      (s.enterAbort f).drive.lastRef = s.drive.lastRef ∧ (s.enterAbort f).drive.lastFrame = s.drive.lastFrame := by
  simp [State.enterAbort]

@[simp] theorem State.settleRelease_frame (s : State) :
    (s.settleRelease).now = s.now ∧ (s.settleRelease).geo = s.geo ∧ (s.settleRelease).trk = s.trk ∧
      (s.settleRelease).links = s.links ∧ (s.settleRelease).ctl = s.ctl ∧ (s.settleRelease).pending = s.pending ∧
      (s.settleRelease).brk.sbApplied = s.brk.sbApplied ∧ (s.settleRelease).brk.sbReleased = s.brk.sbReleased ∧ (s.settleRelease).brk.ebApplied = s.brk.ebApplied ∧
      (s.settleRelease).brk.ebReleased = s.brk.ebReleased ∧ (s.settleRelease).plan.nextId = s.plan.nextId ∧ (s.settleRelease).plan.pendingRun = s.plan.pendingRun ∧
      (s.settleRelease).plan.prev = s.plan.prev ∧ (s.settleRelease).line.mode = s.line.mode ∧ (s.settleRelease).line.key = s.line.key ∧
      (s.settleRelease).line.loops = s.line.loops ∧ (s.settleRelease).line.restartPending = s.line.restartPending ∧ (s.settleRelease).line.flags = s.line.flags ∧
      (s.settleRelease).line.atStop = s.line.atStop ∧ (s.settleRelease).gates.busReleased = s.gates.busReleased ∧ (s.settleRelease).gates.trans = s.gates.trans ∧
      (s.settleRelease).gates.lastMain = s.gates.lastMain ∧ (s.settleRelease).gates.round = s.gates.round ∧ (s.settleRelease).gates.classes = s.gates.classes ∧
      (s.settleRelease).gates.recent = s.gates.recent ∧ (s.settleRelease).gates.passback = s.gates.passback ∧ (s.settleRelease).notices.settings = s.notices.settings ∧
      (s.settleRelease).notices.threshold = s.notices.threshold ∧ (s.settleRelease).drive.status = s.drive.status ∧ (s.settleRelease).drive.silent = s.drive.silent ∧
      (s.settleRelease).drive.lastRef = s.drive.lastRef ∧ (s.settleRelease).drive.lastFrame = s.drive.lastFrame := by
  simp only [State.settleRelease]; (repeat' split) <;> simp

@[simp] theorem State.settle_frame (s : State) :
    (s.settle).now = s.now ∧ (s.settle).geo = s.geo ∧ (s.settle).trk = s.trk ∧
      (s.settle).links = s.links ∧ (s.settle).ctl = s.ctl ∧ (s.settle).pending = s.pending ∧
      (s.settle).brk.sbApplied = s.brk.sbApplied ∧ (s.settle).brk.sbReleased = s.brk.sbReleased ∧ (s.settle).brk.ebApplied = s.brk.ebApplied ∧
      (s.settle).brk.ebReleased = s.brk.ebReleased ∧ (s.settle).plan.nextId = s.plan.nextId ∧ (s.settle).plan.pendingRun = s.plan.pendingRun ∧
      (s.settle).plan.prev = s.plan.prev ∧ (s.settle).line.mode = s.line.mode ∧ (s.settle).line.key = s.line.key ∧
      (s.settle).line.loops = s.line.loops ∧ (s.settle).line.restartPending = s.line.restartPending ∧ (s.settle).line.flags = s.line.flags ∧
      (s.settle).line.atStop = s.line.atStop ∧ (s.settle).gates.busReleased = s.gates.busReleased ∧ (s.settle).gates.trans = s.gates.trans ∧
      (s.settle).gates.lastMain = s.gates.lastMain ∧ (s.settle).gates.round = s.gates.round ∧ (s.settle).gates.classes = s.gates.classes ∧
      (s.settle).gates.recent = s.gates.recent ∧ (s.settle).gates.passback = s.gates.passback ∧ (s.settle).notices.settings = s.notices.settings ∧
      (s.settle).notices.threshold = s.notices.threshold ∧ (s.settle).drive.status = s.drive.status ∧ (s.settle).drive.silent = s.drive.silent ∧
      (s.settle).drive.lastRef = s.drive.lastRef ∧ (s.settle).drive.lastFrame = s.drive.lastFrame := by
  simp only [State.settle]; (repeat' split) <;> simp

@[simp] theorem State.sheaveTest_frame (s : State) :
    (s.sheaveTest).now = s.now ∧ (s.sheaveTest).geo = s.geo ∧ (s.sheaveTest).trk = s.trk ∧
      (s.sheaveTest).plan = s.plan ∧ (s.sheaveTest).doors = s.doors ∧ (s.sheaveTest).gates = s.gates ∧
      (s.sheaveTest).tally = s.tally ∧ (s.sheaveTest).links = s.links ∧ (s.sheaveTest).drive = s.drive ∧
      (s.sheaveTest).ctl = s.ctl ∧ (s.sheaveTest).freeSeq = s.freeSeq ∧ (s.sheaveTest).pending = s.pending ∧
      (s.sheaveTest).sup.env = s.sup.env ∧ (s.sheaveTest).sup.band = s.sup.band ∧ (s.sheaveTest).brk.sbr = s.brk.sbr ∧
      (s.sheaveTest).brk.ebr = s.brk.ebr ∧ (s.sheaveTest).brk.ten = s.brk.ten ∧ (s.sheaveTest).brk.seq = s.brk.seq ∧
      (s.sheaveTest).brk.abort = s.brk.abort ∧ (s.sheaveTest).brk.torque = s.brk.torque ∧ (s.sheaveTest).brk.service = s.brk.service ∧
      (s.sheaveTest).brk.sheave = s.brk.sheave ∧ (s.sheaveTest).brk.sbApplied = s.brk.sbApplied ∧ (s.sheaveTest).brk.sbReleased = s.brk.sbReleased ∧
      (s.sheaveTest).brk.ebApplied = s.brk.ebApplied ∧ (s.sheaveTest).brk.ebReleased = s.brk.ebReleased ∧ (s.sheaveTest).line.mode = s.line.mode ∧
      (s.sheaveTest).line.key = s.line.key ∧ (s.sheaveTest).line.loops = s.line.loops ∧ (s.sheaveTest).line.restartPending = s.line.restartPending ∧
      (s.sheaveTest).line.flags = s.line.flags ∧ (s.sheaveTest).line.atStop = s.line.atStop ∧ (s.sheaveTest).notices.settings = s.notices.settings ∧
      (s.sheaveTest).notices.threshold = s.notices.threshold := by
  simp only [State.sheaveTest]; (repeat' split) <;> simp

@[simp] theorem State.brakeMoved_frame (s : State) :
    (s.brakeMoved).now = s.now ∧ (s.brakeMoved).geo = s.geo ∧ (s.brakeMoved).trk = s.trk ∧
      (s.brakeMoved).links = s.links ∧ (s.brakeMoved).ctl = s.ctl ∧ (s.brakeMoved).pending = s.pending ∧
      (s.brakeMoved).brk.sbApplied = s.brk.sbApplied ∧ (s.brakeMoved).brk.sbReleased = s.brk.sbReleased ∧ (s.brakeMoved).brk.ebApplied = s.brk.ebApplied ∧
      (s.brakeMoved).brk.ebReleased = s.brk.ebReleased ∧ (s.brakeMoved).plan.nextId = s.plan.nextId ∧ (s.brakeMoved).plan.pendingRun = s.plan.pendingRun ∧
      (s.brakeMoved).plan.prev = s.plan.prev ∧ (s.brakeMoved).line.mode = s.line.mode ∧ (s.brakeMoved).line.key = s.line.key ∧
      (s.brakeMoved).line.loops = s.line.loops ∧ (s.brakeMoved).line.restartPending = s.line.restartPending ∧ (s.brakeMoved).line.flags = s.line.flags ∧
      (s.brakeMoved).line.atStop = s.line.atStop ∧ (s.brakeMoved).gates.busReleased = s.gates.busReleased ∧ (s.brakeMoved).gates.trans = s.gates.trans ∧
      (s.brakeMoved).gates.lastMain = s.gates.lastMain ∧ (s.brakeMoved).gates.round = s.gates.round ∧ (s.brakeMoved).gates.classes = s.gates.classes ∧
      (s.brakeMoved).gates.recent = s.gates.recent ∧ (s.brakeMoved).gates.passback = s.gates.passback ∧ (s.brakeMoved).notices.settings = s.notices.settings ∧
      (s.brakeMoved).notices.threshold = s.notices.threshold ∧ (s.brakeMoved).drive.status = s.drive.status ∧ (s.brakeMoved).drive.silent = s.drive.silent ∧
      (s.brakeMoved).drive.lastRef = s.drive.lastRef ∧ (s.brakeMoved).drive.lastFrame = s.drive.lastFrame := by
  simp [State.brakeMoved]

@[simp] theorem State.startSequence_frame (s : State) :
    (s.startSequence).now = s.now ∧ (s.startSequence).geo = s.geo ∧ (s.startSequence).trk = s.trk ∧
      (s.startSequence).doors = s.doors ∧ (s.startSequence).links = s.links ∧ (s.startSequence).ctl = s.ctl ∧
      (s.startSequence).pending = s.pending ∧ (s.startSequence).sup.env = s.sup.env ∧ (s.startSequence).brk.sbApplied = s.brk.sbApplied ∧
      (s.startSequence).brk.sbReleased = s.brk.sbReleased ∧ (s.startSequence).brk.ebApplied = s.brk.ebApplied ∧ (s.startSequence).brk.ebReleased = s.brk.ebReleased ∧
      (s.startSequence).plan.nextId = s.plan.nextId ∧ (s.startSequence).plan.pendingRun = s.plan.pendingRun ∧ (s.startSequence).plan.lastRun = s.plan.lastRun ∧
      (s.startSequence).plan.watches = s.plan.watches ∧ (s.startSequence).plan.prev = s.plan.prev ∧ (s.startSequence).line.mode = s.line.mode ∧
      (s.startSequence).line.key = s.line.key ∧ (s.startSequence).line.loops = s.line.loops ∧ (s.startSequence).line.restartPending = s.line.restartPending ∧
      (s.startSequence).line.flags = s.line.flags ∧ (s.startSequence).line.atStop = s.line.atStop ∧ (s.startSequence).gates.busReleased = s.gates.busReleased ∧
      (s.startSequence).gates.trans = s.gates.trans ∧ (s.startSequence).gates.lastMain = s.gates.lastMain ∧ (s.startSequence).gates.round = s.gates.round ∧
      (s.startSequence).gates.classes = s.gates.classes ∧ (s.startSequence).gates.recent = s.gates.recent ∧ (s.startSequence).gates.passback = s.gates.passback ∧
      (s.startSequence).notices.settings = s.notices.settings ∧ (s.startSequence).notices.threshold = s.notices.threshold ∧ (s.startSequence).drive.status = s.drive.status ∧
      (s.startSequence).drive.silent = s.drive.silent ∧ (s.startSequence).drive.lastRef = s.drive.lastRef ∧ (s.startSequence).drive.lastFrame = s.drive.lastFrame := by
  simp only [State.startSequence]; (repeat' split) <;> simp

@[simp] theorem State.torqueOn_frame (s : State) :
    (s.torqueOn).now = s.now ∧ (s.torqueOn).geo = s.geo ∧ (s.torqueOn).trk = s.trk ∧
      (s.torqueOn).links = s.links ∧ (s.torqueOn).ctl = s.ctl ∧ (s.torqueOn).pending = s.pending ∧
      (s.torqueOn).brk.sbApplied = s.brk.sbApplied ∧ (s.torqueOn).brk.sbReleased = s.brk.sbReleased ∧ (s.torqueOn).brk.ebApplied = s.brk.ebApplied ∧
      (s.torqueOn).brk.ebReleased = s.brk.ebReleased ∧ (s.torqueOn).plan.nextId = s.plan.nextId ∧ (s.torqueOn).plan.pendingRun = s.plan.pendingRun ∧
      (s.torqueOn).plan.prev = s.plan.prev ∧ (s.torqueOn).line.mode = s.line.mode ∧ (s.torqueOn).line.key = s.line.key ∧
      (s.torqueOn).line.loops = s.line.loops ∧ (s.torqueOn).line.restartPending = s.line.restartPending ∧ (s.torqueOn).line.flags = s.line.flags ∧
      (s.torqueOn).line.atStop = s.line.atStop ∧ (s.torqueOn).gates.busReleased = s.gates.busReleased ∧ (s.torqueOn).gates.trans = s.gates.trans ∧
      (s.torqueOn).gates.lastMain = s.gates.lastMain ∧ (s.torqueOn).gates.round = s.gates.round ∧ (s.torqueOn).gates.classes = s.gates.classes ∧
      (s.torqueOn).gates.recent = s.gates.recent ∧ (s.torqueOn).gates.passback = s.gates.passback ∧ (s.torqueOn).notices.settings = s.notices.settings ∧
      (s.torqueOn).notices.threshold = s.notices.threshold ∧ (s.torqueOn).drive.status = s.drive.status ∧ (s.torqueOn).drive.silent = s.drive.silent ∧
      (s.torqueOn).drive.lastRef = s.drive.lastRef ∧ (s.torqueOn).drive.lastFrame = s.drive.lastFrame := by
  simp only [State.torqueOn]; split <;> simp

@[simp] theorem State.torqueExpiry_frame (s : State) :
    (s.torqueExpiry).now = s.now ∧ (s.torqueExpiry).geo = s.geo ∧ (s.torqueExpiry).trk = s.trk ∧
      (s.torqueExpiry).links = s.links ∧ (s.torqueExpiry).ctl = s.ctl ∧ (s.torqueExpiry).pending = s.pending ∧
      (s.torqueExpiry).brk.sbApplied = s.brk.sbApplied ∧ (s.torqueExpiry).brk.sbReleased = s.brk.sbReleased ∧ (s.torqueExpiry).brk.ebApplied = s.brk.ebApplied ∧
      (s.torqueExpiry).brk.ebReleased = s.brk.ebReleased ∧ (s.torqueExpiry).plan.nextId = s.plan.nextId ∧ (s.torqueExpiry).plan.pendingRun = s.plan.pendingRun ∧
      (s.torqueExpiry).plan.prev = s.plan.prev ∧ (s.torqueExpiry).line.mode = s.line.mode ∧ (s.torqueExpiry).line.key = s.line.key ∧
      (s.torqueExpiry).line.loops = s.line.loops ∧ (s.torqueExpiry).line.restartPending = s.line.restartPending ∧ (s.torqueExpiry).line.flags = s.line.flags ∧
      (s.torqueExpiry).line.atStop = s.line.atStop ∧ (s.torqueExpiry).gates.busReleased = s.gates.busReleased ∧ (s.torqueExpiry).gates.trans = s.gates.trans ∧
      (s.torqueExpiry).gates.lastMain = s.gates.lastMain ∧ (s.torqueExpiry).gates.round = s.gates.round ∧ (s.torqueExpiry).gates.classes = s.gates.classes ∧
      (s.torqueExpiry).gates.recent = s.gates.recent ∧ (s.torqueExpiry).gates.passback = s.gates.passback ∧ (s.torqueExpiry).notices.settings = s.notices.settings ∧
      (s.torqueExpiry).notices.threshold = s.notices.threshold ∧ (s.torqueExpiry).drive.status = s.drive.status ∧ (s.torqueExpiry).drive.silent = s.drive.silent ∧
      (s.torqueExpiry).drive.lastRef = s.drive.lastRef ∧ (s.torqueExpiry).drive.lastFrame = s.drive.lastFrame := by
  simp only [State.torqueExpiry]; (repeat' split) <;> simp

@[simp] theorem State.stopSequence_frame (s : State) :
    (s.stopSequence).now = s.now ∧ (s.stopSequence).geo = s.geo ∧ (s.stopSequence).trk = s.trk ∧
      (s.stopSequence).links = s.links ∧ (s.stopSequence).ctl = s.ctl ∧ (s.stopSequence).pending = s.pending ∧
      (s.stopSequence).brk.sbApplied = s.brk.sbApplied ∧ (s.stopSequence).brk.sbReleased = s.brk.sbReleased ∧ (s.stopSequence).brk.ebApplied = s.brk.ebApplied ∧
      (s.stopSequence).brk.ebReleased = s.brk.ebReleased ∧ (s.stopSequence).plan.nextId = s.plan.nextId ∧ (s.stopSequence).plan.pendingRun = s.plan.pendingRun ∧
      (s.stopSequence).plan.prev = s.plan.prev ∧ (s.stopSequence).line.mode = s.line.mode ∧ (s.stopSequence).line.key = s.line.key ∧
      (s.stopSequence).line.loops = s.line.loops ∧ (s.stopSequence).line.restartPending = s.line.restartPending ∧ (s.stopSequence).line.flags = s.line.flags ∧
      (s.stopSequence).line.atStop = s.line.atStop ∧ (s.stopSequence).gates.busReleased = s.gates.busReleased ∧ (s.stopSequence).gates.trans = s.gates.trans ∧
      (s.stopSequence).gates.lastMain = s.gates.lastMain ∧ (s.stopSequence).gates.round = s.gates.round ∧ (s.stopSequence).gates.classes = s.gates.classes ∧
      (s.stopSequence).gates.recent = s.gates.recent ∧ (s.stopSequence).gates.passback = s.gates.passback ∧ (s.stopSequence).notices.settings = s.notices.settings ∧
      (s.stopSequence).notices.threshold = s.notices.threshold ∧ (s.stopSequence).drive.status = s.drive.status ∧ (s.stopSequence).drive.silent = s.drive.silent ∧
      (s.stopSequence).drive.lastRef = s.drive.lastRef ∧ (s.stopSequence).drive.lastFrame = s.drive.lastFrame := by
  simp [State.stopSequence]

@[simp] theorem State.contactChange_frame (s : State) (k : Contact) (b : Bool) :
    (s.contactChange k b).now = s.now ∧ (s.contactChange k b).geo = s.geo ∧ (s.contactChange k b).trk = s.trk ∧
      (s.contactChange k b).links = s.links ∧ (s.contactChange k b).ctl = s.ctl ∧ (s.contactChange k b).pending = s.pending ∧
      (s.contactChange k b).plan.nextId = s.plan.nextId ∧ (s.contactChange k b).plan.pendingRun = s.plan.pendingRun ∧ (s.contactChange k b).plan.prev = s.plan.prev ∧
      (s.contactChange k b).line.mode = s.line.mode ∧ (s.contactChange k b).line.key = s.line.key ∧ (s.contactChange k b).line.loops = s.line.loops ∧
      (s.contactChange k b).line.restartPending = s.line.restartPending ∧ (s.contactChange k b).line.flags = s.line.flags ∧ (s.contactChange k b).line.atStop = s.line.atStop ∧
      (s.contactChange k b).gates.busReleased = s.gates.busReleased ∧ (s.contactChange k b).gates.trans = s.gates.trans ∧ (s.contactChange k b).gates.lastMain = s.gates.lastMain ∧
      (s.contactChange k b).gates.round = s.gates.round ∧ (s.contactChange k b).gates.classes = s.gates.classes ∧ (s.contactChange k b).gates.recent = s.gates.recent ∧
      (s.contactChange k b).gates.passback = s.gates.passback ∧ (s.contactChange k b).notices.settings = s.notices.settings ∧ (s.contactChange k b).notices.threshold = s.notices.threshold ∧
      (s.contactChange k b).drive.status = s.drive.status ∧ (s.contactChange k b).drive.silent = s.drive.silent ∧ (s.contactChange k b).drive.lastRef = s.drive.lastRef ∧
      (s.contactChange k b).drive.lastFrame = s.drive.lastFrame := by
  simp [State.contactChange]

@[simp] theorem State.brakeExpiry_frame (s : State) (i : BrakeId) :
    (s.brakeExpiry i).now = s.now ∧ (s.brakeExpiry i).geo = s.geo ∧ (s.brakeExpiry i).trk = s.trk ∧
      (s.brakeExpiry i).links = s.links ∧ (s.brakeExpiry i).ctl = s.ctl ∧ (s.brakeExpiry i).pending = s.pending ∧
      (s.brakeExpiry i).brk.sbApplied = s.brk.sbApplied ∧ (s.brakeExpiry i).brk.sbReleased = s.brk.sbReleased ∧ (s.brakeExpiry i).brk.ebApplied = s.brk.ebApplied ∧
      (s.brakeExpiry i).brk.ebReleased = s.brk.ebReleased ∧ (s.brakeExpiry i).plan.nextId = s.plan.nextId ∧ (s.brakeExpiry i).plan.pendingRun = s.plan.pendingRun ∧
      (s.brakeExpiry i).plan.prev = s.plan.prev ∧ (s.brakeExpiry i).line.mode = s.line.mode ∧ (s.brakeExpiry i).line.key = s.line.key ∧
      (s.brakeExpiry i).line.loops = s.line.loops ∧ (s.brakeExpiry i).line.restartPending = s.line.restartPending ∧ (s.brakeExpiry i).line.flags = s.line.flags ∧
      (s.brakeExpiry i).line.atStop = s.line.atStop ∧ (s.brakeExpiry i).gates.busReleased = s.gates.busReleased ∧ (s.brakeExpiry i).gates.trans = s.gates.trans ∧
      (s.brakeExpiry i).gates.lastMain = s.gates.lastMain ∧ (s.brakeExpiry i).gates.round = s.gates.round ∧ (s.brakeExpiry i).gates.classes = s.gates.classes ∧
      (s.brakeExpiry i).gates.recent = s.gates.recent ∧ (s.brakeExpiry i).gates.passback = s.gates.passback ∧ (s.brakeExpiry i).notices.settings = s.notices.settings ∧
      (s.brakeExpiry i).notices.threshold = s.notices.threshold ∧ (s.brakeExpiry i).drive.status = s.drive.status ∧ (s.brakeExpiry i).drive.silent = s.drive.silent ∧
      (s.brakeExpiry i).drive.lastRef = s.drive.lastRef ∧ (s.brakeExpiry i).drive.lastFrame = s.drive.lastFrame := by
  cases i <;> simp [State.brakeExpiry]

@[simp] theorem State.trackExpiry_frame (s : State) (c : Car) :
    (s.trackExpiry c).now = s.now ∧ (s.trackExpiry c).geo = s.geo ∧ (s.trackExpiry c).trk = s.trk ∧
      (s.trackExpiry c).sup = s.sup ∧ (s.trackExpiry c).plan = s.plan ∧ (s.trackExpiry c).doors = s.doors ∧
      (s.trackExpiry c).gates = s.gates ∧ (s.trackExpiry c).tally = s.tally ∧ (s.trackExpiry c).links = s.links ∧
      (s.trackExpiry c).drive = s.drive ∧ (s.trackExpiry c).ctl = s.ctl ∧ (s.trackExpiry c).freeSeq = s.freeSeq ∧
      (s.trackExpiry c).pending = s.pending ∧ (s.trackExpiry c).brk.sbr = s.brk.sbr ∧ (s.trackExpiry c).brk.ebr = s.brk.ebr ∧
      (s.trackExpiry c).brk.ten = s.brk.ten ∧ (s.trackExpiry c).brk.seq = s.brk.seq ∧ (s.trackExpiry c).brk.abort = s.brk.abort ∧
      (s.trackExpiry c).brk.torque = s.brk.torque ∧ (s.trackExpiry c).brk.service = s.brk.service ∧ (s.trackExpiry c).brk.sheave = s.brk.sheave ∧
      (s.trackExpiry c).brk.sbApplied = s.brk.sbApplied ∧ (s.trackExpiry c).brk.sbReleased = s.brk.sbReleased ∧ (s.trackExpiry c).brk.ebApplied = s.brk.ebApplied ∧
      (s.trackExpiry c).brk.ebReleased = s.brk.ebReleased ∧ (s.trackExpiry c).brk.watch = s.brk.watch ∧ (s.trackExpiry c).line.mode = s.line.mode ∧
      (s.trackExpiry c).line.key = s.line.key ∧ (s.trackExpiry c).line.loops = s.line.loops ∧ (s.trackExpiry c).line.restartPending = s.line.restartPending ∧
      (s.trackExpiry c).line.flags = s.line.flags ∧ (s.trackExpiry c).line.atStop = s.line.atStop ∧ (s.trackExpiry c).notices.settings = s.notices.settings ∧
      (s.trackExpiry c).notices.threshold = s.notices.threshold := by
  simp [State.trackExpiry]

@[simp] theorem State.trackReport_frame (s : State) (c : Car) (b : Bool) :
    (s.trackReport c b).now = s.now ∧ (s.trackReport c b).geo = s.geo ∧ (s.trackReport c b).trk = s.trk ∧
      (s.trackReport c b).doors = s.doors ∧ (s.trackReport c b).links = s.links ∧ (s.trackReport c b).ctl = s.ctl ∧
      (s.trackReport c b).pending = s.pending ∧ (s.trackReport c b).sup.env = s.sup.env ∧ (s.trackReport c b).brk.sbApplied = s.brk.sbApplied ∧
      (s.trackReport c b).brk.sbReleased = s.brk.sbReleased ∧ (s.trackReport c b).brk.ebApplied = s.brk.ebApplied ∧ (s.trackReport c b).brk.ebReleased = s.brk.ebReleased ∧
      (s.trackReport c b).plan.nextId = s.plan.nextId ∧ (s.trackReport c b).plan.pendingRun = s.plan.pendingRun ∧ (s.trackReport c b).plan.lastRun = s.plan.lastRun ∧
      (s.trackReport c b).plan.watches = s.plan.watches ∧ (s.trackReport c b).plan.prev = s.plan.prev ∧ (s.trackReport c b).line.mode = s.line.mode ∧
      (s.trackReport c b).line.key = s.line.key ∧ (s.trackReport c b).line.loops = s.line.loops ∧ (s.trackReport c b).line.restartPending = s.line.restartPending ∧
      (s.trackReport c b).line.flags = s.line.flags ∧ (s.trackReport c b).line.atStop = s.line.atStop ∧ (s.trackReport c b).gates.busReleased = s.gates.busReleased ∧
      (s.trackReport c b).gates.trans = s.gates.trans ∧ (s.trackReport c b).gates.lastMain = s.gates.lastMain ∧ (s.trackReport c b).gates.round = s.gates.round ∧
      (s.trackReport c b).gates.classes = s.gates.classes ∧ (s.trackReport c b).gates.recent = s.gates.recent ∧ (s.trackReport c b).gates.passback = s.gates.passback ∧
      (s.trackReport c b).notices.settings = s.notices.settings ∧ (s.trackReport c b).notices.threshold = s.notices.threshold ∧ (s.trackReport c b).drive.status = s.drive.status ∧
      (s.trackReport c b).drive.silent = s.drive.silent ∧ (s.trackReport c b).drive.lastRef = s.drive.lastRef ∧ (s.trackReport c b).drive.lastFrame = s.drive.lastFrame := by
  simp only [State.trackReport]; (repeat' split) <;> simp

@[simp] theorem State.decelTest_frame (s : State) :
    (s.decelTest).now = s.now ∧ (s.decelTest).geo = s.geo ∧ (s.decelTest).trk = s.trk ∧
      (s.decelTest).plan = s.plan ∧ (s.decelTest).doors = s.doors ∧ (s.decelTest).gates = s.gates ∧
      (s.decelTest).tally = s.tally ∧ (s.decelTest).links = s.links ∧ (s.decelTest).drive = s.drive ∧
      (s.decelTest).ctl = s.ctl ∧ (s.decelTest).freeSeq = s.freeSeq ∧ (s.decelTest).pending = s.pending ∧
      (s.decelTest).sup.env = s.sup.env ∧ (s.decelTest).sup.band = s.sup.band ∧ (s.decelTest).brk.sbr = s.brk.sbr ∧
      (s.decelTest).brk.ebr = s.brk.ebr ∧ (s.decelTest).brk.ten = s.brk.ten ∧ (s.decelTest).brk.seq = s.brk.seq ∧
      (s.decelTest).brk.abort = s.brk.abort ∧ (s.decelTest).brk.torque = s.brk.torque ∧ (s.decelTest).brk.service = s.brk.service ∧
      (s.decelTest).brk.sheave = s.brk.sheave ∧ (s.decelTest).brk.sbApplied = s.brk.sbApplied ∧ (s.decelTest).brk.sbReleased = s.brk.sbReleased ∧
      (s.decelTest).brk.ebApplied = s.brk.ebApplied ∧ (s.decelTest).brk.ebReleased = s.brk.ebReleased ∧ (s.decelTest).line.mode = s.line.mode ∧
      (s.decelTest).line.key = s.line.key ∧ (s.decelTest).line.loops = s.line.loops ∧ (s.decelTest).line.restartPending = s.line.restartPending ∧
      (s.decelTest).line.flags = s.line.flags ∧ (s.decelTest).line.atStop = s.line.atStop ∧ (s.decelTest).notices.settings = s.notices.settings ∧
      (s.decelTest).notices.threshold = s.notices.threshold := by
  simp only [State.decelTest]; (repeat' split) <;> simp

@[simp] theorem State.motionTest_frame (s : State) (x : Door) :
    (s.motionTest x).now = s.now ∧ (s.motionTest x).geo = s.geo ∧ (s.motionTest x).trk = s.trk ∧
      (s.motionTest x).doors = s.doors ∧ (s.motionTest x).links = s.links ∧ (s.motionTest x).ctl = s.ctl ∧
      (s.motionTest x).pending = s.pending ∧ (s.motionTest x).sup.env = s.sup.env ∧ (s.motionTest x).brk.sbApplied = s.brk.sbApplied ∧
      (s.motionTest x).brk.sbReleased = s.brk.sbReleased ∧ (s.motionTest x).brk.ebApplied = s.brk.ebApplied ∧ (s.motionTest x).brk.ebReleased = s.brk.ebReleased ∧
      (s.motionTest x).plan.nextId = s.plan.nextId ∧ (s.motionTest x).plan.pendingRun = s.plan.pendingRun ∧ (s.motionTest x).plan.lastRun = s.plan.lastRun ∧
      (s.motionTest x).plan.watches = s.plan.watches ∧ (s.motionTest x).plan.prev = s.plan.prev ∧ (s.motionTest x).line.mode = s.line.mode ∧
      (s.motionTest x).line.key = s.line.key ∧ (s.motionTest x).line.loops = s.line.loops ∧ (s.motionTest x).line.restartPending = s.line.restartPending ∧
      (s.motionTest x).line.flags = s.line.flags ∧ (s.motionTest x).line.atStop = s.line.atStop ∧ (s.motionTest x).gates.busReleased = s.gates.busReleased ∧
      (s.motionTest x).gates.trans = s.gates.trans ∧ (s.motionTest x).gates.lastMain = s.gates.lastMain ∧ (s.motionTest x).gates.round = s.gates.round ∧
      (s.motionTest x).gates.classes = s.gates.classes ∧ (s.motionTest x).gates.recent = s.gates.recent ∧ (s.motionTest x).gates.passback = s.gates.passback ∧
      (s.motionTest x).notices.settings = s.notices.settings ∧ (s.motionTest x).notices.threshold = s.notices.threshold ∧ (s.motionTest x).drive.status = s.drive.status ∧
      (s.motionTest x).drive.silent = s.drive.silent ∧ (s.motionTest x).drive.lastRef = s.drive.lastRef ∧ (s.motionTest x).drive.lastFrame = s.drive.lastFrame := by
  simp only [State.motionTest, State.inMotionNotice]; (repeat' split) <;> simp

@[simp] theorem State.motionTests_frame (s : State) :
    (s.motionTests).now = s.now ∧ (s.motionTests).geo = s.geo ∧ (s.motionTests).trk = s.trk ∧
      (s.motionTests).doors = s.doors ∧ (s.motionTests).links = s.links ∧ (s.motionTests).ctl = s.ctl ∧
      (s.motionTests).pending = s.pending ∧ (s.motionTests).sup.env = s.sup.env ∧ (s.motionTests).brk.sbApplied = s.brk.sbApplied ∧
      (s.motionTests).brk.sbReleased = s.brk.sbReleased ∧ (s.motionTests).brk.ebApplied = s.brk.ebApplied ∧ (s.motionTests).brk.ebReleased = s.brk.ebReleased ∧
      (s.motionTests).plan.nextId = s.plan.nextId ∧ (s.motionTests).plan.pendingRun = s.plan.pendingRun ∧ (s.motionTests).plan.lastRun = s.plan.lastRun ∧
      (s.motionTests).plan.watches = s.plan.watches ∧ (s.motionTests).plan.prev = s.plan.prev ∧ (s.motionTests).line.mode = s.line.mode ∧
      (s.motionTests).line.key = s.line.key ∧ (s.motionTests).line.loops = s.line.loops ∧ (s.motionTests).line.restartPending = s.line.restartPending ∧
      (s.motionTests).line.flags = s.line.flags ∧ (s.motionTests).line.atStop = s.line.atStop ∧ (s.motionTests).gates.busReleased = s.gates.busReleased ∧
      (s.motionTests).gates.trans = s.gates.trans ∧ (s.motionTests).gates.lastMain = s.gates.lastMain ∧ (s.motionTests).gates.round = s.gates.round ∧
      (s.motionTests).gates.classes = s.gates.classes ∧ (s.motionTests).gates.recent = s.gates.recent ∧ (s.motionTests).gates.passback = s.gates.passback ∧
      (s.motionTests).notices.settings = s.notices.settings ∧ (s.motionTests).notices.threshold = s.notices.threshold ∧ (s.motionTests).drive.status = s.drive.status ∧
      (s.motionTests).drive.silent = s.drive.silent ∧ (s.motionTests).drive.lastRef = s.drive.lastRef ∧ (s.motionTests).drive.lastFrame = s.drive.lastFrame :=
  ⟨foldl_keeps (fun s => s.now) _ (by simp) _ _,
   foldl_keeps (fun s => s.geo) _ (by simp) _ _,
   foldl_keeps (fun s => s.trk) _ (by simp) _ _,
   foldl_keeps (fun s => s.doors) _ (by simp) _ _,
   foldl_keeps (fun s => s.links) _ (by simp) _ _,
   foldl_keeps (fun s => s.ctl) _ (by simp) _ _,
   foldl_keeps (fun s => s.pending) _ (by simp) _ _,
   foldl_keeps (fun s => s.sup.env) _ (by simp) _ _,
   foldl_keeps (fun s => s.brk.sbApplied) _ (by simp) _ _,
   foldl_keeps (fun s => s.brk.sbReleased) _ (by simp) _ _,
   foldl_keeps (fun s => s.brk.ebApplied) _ (by simp) _ _,
   foldl_keeps (fun s => s.brk.ebReleased) _ (by simp) _ _,
   foldl_keeps (fun s => s.plan.nextId) _ (by simp) _ _,
   foldl_keeps (fun s => s.plan.pendingRun) _ (by simp) _ _,
   foldl_keeps (fun s => s.plan.lastRun) _ (by simp) _ _,
   foldl_keeps (fun s => s.plan.watches) _ (by simp) _ _,
   foldl_keeps (fun s => s.plan.prev) _ (by simp) _ _,
   foldl_keeps (fun s => s.line.mode) _ (by simp) _ _,
   foldl_keeps (fun s => s.line.key) _ (by simp) _ _,
   foldl_keeps (fun s => s.line.loops) _ (by simp) _ _,
   foldl_keeps (fun s => s.line.restartPending) _ (by simp) _ _,
   foldl_keeps (fun s => s.line.flags) _ (by simp) _ _,
   foldl_keeps (fun s => s.line.atStop) _ (by simp) _ _,
   foldl_keeps (fun s => s.gates.busReleased) _ (by simp) _ _,
   foldl_keeps (fun s => s.gates.trans) _ (by simp) _ _,
   foldl_keeps (fun s => s.gates.lastMain) _ (by simp) _ _,
   foldl_keeps (fun s => s.gates.round) _ (by simp) _ _,
   foldl_keeps (fun s => s.gates.classes) _ (by simp) _ _,
   foldl_keeps (fun s => s.gates.recent) _ (by simp) _ _,
   foldl_keeps (fun s => s.gates.passback) _ (by simp) _ _,
   foldl_keeps (fun s => s.notices.settings) _ (by simp) _ _,
   foldl_keeps (fun s => s.notices.threshold) _ (by simp) _ _,
   foldl_keeps (fun s => s.drive.status) _ (by simp) _ _,
   foldl_keeps (fun s => s.drive.silent) _ (by simp) _ _,
   foldl_keeps (fun s => s.drive.lastRef) _ (by simp) _ _,
   foldl_keeps (fun s => s.drive.lastFrame) _ (by simp) _ _⟩

@[simp] theorem State.reportLocked_frame (s : State) (x : Door) :
    (s.reportLocked x).now = s.now ∧ (s.reportLocked x).geo = s.geo ∧ (s.reportLocked x).trk = s.trk ∧
      (s.reportLocked x).sup = s.sup ∧ (s.reportLocked x).plan = s.plan ∧ (s.reportLocked x).brk = s.brk ∧
      (s.reportLocked x).gates = s.gates ∧ (s.reportLocked x).tally = s.tally ∧ (s.reportLocked x).links = s.links ∧
      (s.reportLocked x).drive = s.drive ∧ (s.reportLocked x).ctl = s.ctl ∧ (s.reportLocked x).freeSeq = s.freeSeq ∧
      (s.reportLocked x).pending = s.pending ∧ (s.reportLocked x).line.mode = s.line.mode ∧ (s.reportLocked x).line.key = s.line.key ∧
      (s.reportLocked x).line.loops = s.line.loops ∧ (s.reportLocked x).line.restartPending = s.line.restartPending ∧ (s.reportLocked x).line.flags = s.line.flags ∧
      (s.reportLocked x).line.atStop = s.line.atStop ∧ (s.reportLocked x).notices.settings = s.notices.settings ∧ (s.reportLocked x).notices.threshold = s.notices.threshold := by
  simp only [State.reportLocked]; (repeat' split) <;> simp

@[simp] theorem State.reportObstructed_frame (s : State) (x : Door) :
    (s.reportObstructed x).now = s.now ∧ (s.reportObstructed x).geo = s.geo ∧ (s.reportObstructed x).trk = s.trk ∧
      (s.reportObstructed x).sup = s.sup ∧ (s.reportObstructed x).plan = s.plan ∧ (s.reportObstructed x).brk = s.brk ∧
      (s.reportObstructed x).gates = s.gates ∧ (s.reportObstructed x).tally = s.tally ∧ (s.reportObstructed x).links = s.links ∧
      (s.reportObstructed x).drive = s.drive ∧ (s.reportObstructed x).ctl = s.ctl ∧ (s.reportObstructed x).freeSeq = s.freeSeq ∧
      (s.reportObstructed x).pending = s.pending ∧ (s.reportObstructed x).line.mode = s.line.mode ∧ (s.reportObstructed x).line.key = s.line.key ∧
      (s.reportObstructed x).line.loops = s.line.loops ∧ (s.reportObstructed x).line.restartPending = s.line.restartPending ∧ (s.reportObstructed x).line.flags = s.line.flags ∧
      (s.reportObstructed x).line.atStop = s.line.atStop ∧ (s.reportObstructed x).notices.settings = s.notices.settings ∧ (s.reportObstructed x).notices.threshold = s.notices.threshold := by
  simp only [State.reportObstructed]; (repeat' split) <;> simp

@[simp] theorem State.reportActs_frame (s : State) (x : Door) (r : DoorState) :
    (s.reportActs x r).now = s.now ∧ (s.reportActs x r).geo = s.geo ∧ (s.reportActs x r).trk = s.trk ∧
      (s.reportActs x r).sup = s.sup ∧ (s.reportActs x r).plan = s.plan ∧ (s.reportActs x r).brk = s.brk ∧
      (s.reportActs x r).gates = s.gates ∧ (s.reportActs x r).tally = s.tally ∧ (s.reportActs x r).links = s.links ∧
      (s.reportActs x r).drive = s.drive ∧ (s.reportActs x r).ctl = s.ctl ∧ (s.reportActs x r).freeSeq = s.freeSeq ∧
      (s.reportActs x r).pending = s.pending ∧ (s.reportActs x r).line.mode = s.line.mode ∧ (s.reportActs x r).line.key = s.line.key ∧
      (s.reportActs x r).line.loops = s.line.loops ∧ (s.reportActs x r).line.restartPending = s.line.restartPending ∧ (s.reportActs x r).line.flags = s.line.flags ∧
      (s.reportActs x r).line.atStop = s.line.atStop ∧ (s.reportActs x r).notices.settings = s.notices.settings ∧ (s.reportActs x r).notices.threshold = s.notices.threshold := by
  cases r <;> simp [State.reportActs]

@[simp] theorem State.doorReport_frame (s : State) (x : Door) (r : DoorState) :
    (s.doorReport x r).now = s.now ∧ (s.doorReport x r).geo = s.geo ∧ (s.doorReport x r).trk = s.trk ∧
      (s.doorReport x r).links = s.links ∧ (s.doorReport x r).ctl = s.ctl ∧ (s.doorReport x r).pending = s.pending ∧
      (s.doorReport x r).sup.env = s.sup.env ∧ (s.doorReport x r).brk.sbApplied = s.brk.sbApplied ∧ (s.doorReport x r).brk.sbReleased = s.brk.sbReleased ∧
      (s.doorReport x r).brk.ebApplied = s.brk.ebApplied ∧ (s.doorReport x r).brk.ebReleased = s.brk.ebReleased ∧ (s.doorReport x r).plan.nextId = s.plan.nextId ∧
      (s.doorReport x r).plan.pendingRun = s.plan.pendingRun ∧ (s.doorReport x r).plan.lastRun = s.plan.lastRun ∧ (s.doorReport x r).plan.watches = s.plan.watches ∧
      (s.doorReport x r).plan.prev = s.plan.prev ∧ (s.doorReport x r).line.mode = s.line.mode ∧ (s.doorReport x r).line.key = s.line.key ∧
      (s.doorReport x r).line.loops = s.line.loops ∧ (s.doorReport x r).line.restartPending = s.line.restartPending ∧ (s.doorReport x r).line.flags = s.line.flags ∧
      (s.doorReport x r).line.atStop = s.line.atStop ∧ (s.doorReport x r).gates.busReleased = s.gates.busReleased ∧ (s.doorReport x r).gates.trans = s.gates.trans ∧
      (s.doorReport x r).gates.lastMain = s.gates.lastMain ∧ (s.doorReport x r).gates.round = s.gates.round ∧ (s.doorReport x r).gates.classes = s.gates.classes ∧
      (s.doorReport x r).gates.recent = s.gates.recent ∧ (s.doorReport x r).gates.passback = s.gates.passback ∧ (s.doorReport x r).notices.settings = s.notices.settings ∧
      (s.doorReport x r).notices.threshold = s.notices.threshold ∧ (s.doorReport x r).drive.status = s.drive.status ∧ (s.doorReport x r).drive.silent = s.drive.silent ∧
      (s.doorReport x r).drive.lastRef = s.drive.lastRef ∧ (s.doorReport x r).drive.lastFrame = s.drive.lastFrame := by
  simp only [State.doorReport]; (repeat' split) <;> simp

@[simp] theorem State.doorReports_frame (s : State) (c : Car) (q : Quad DoorState) :
    (s.doorReports c q).now = s.now ∧ (s.doorReports c q).geo = s.geo ∧ (s.doorReports c q).trk = s.trk ∧
      (s.doorReports c q).links = s.links ∧ (s.doorReports c q).ctl = s.ctl ∧ (s.doorReports c q).pending = s.pending ∧
      (s.doorReports c q).sup.env = s.sup.env ∧ (s.doorReports c q).brk.sbApplied = s.brk.sbApplied ∧ (s.doorReports c q).brk.sbReleased = s.brk.sbReleased ∧
      (s.doorReports c q).brk.ebApplied = s.brk.ebApplied ∧ (s.doorReports c q).brk.ebReleased = s.brk.ebReleased ∧ (s.doorReports c q).plan.nextId = s.plan.nextId ∧
      (s.doorReports c q).plan.pendingRun = s.plan.pendingRun ∧ (s.doorReports c q).plan.lastRun = s.plan.lastRun ∧ (s.doorReports c q).plan.watches = s.plan.watches ∧
      (s.doorReports c q).plan.prev = s.plan.prev ∧ (s.doorReports c q).line.mode = s.line.mode ∧ (s.doorReports c q).line.key = s.line.key ∧
      (s.doorReports c q).line.loops = s.line.loops ∧ (s.doorReports c q).line.restartPending = s.line.restartPending ∧ (s.doorReports c q).line.flags = s.line.flags ∧
      (s.doorReports c q).line.atStop = s.line.atStop ∧ (s.doorReports c q).gates.busReleased = s.gates.busReleased ∧ (s.doorReports c q).gates.trans = s.gates.trans ∧
      (s.doorReports c q).gates.lastMain = s.gates.lastMain ∧ (s.doorReports c q).gates.round = s.gates.round ∧ (s.doorReports c q).gates.classes = s.gates.classes ∧
      (s.doorReports c q).gates.recent = s.gates.recent ∧ (s.doorReports c q).gates.passback = s.gates.passback ∧ (s.doorReports c q).notices.settings = s.notices.settings ∧
      (s.doorReports c q).notices.threshold = s.notices.threshold ∧ (s.doorReports c q).drive.status = s.drive.status ∧ (s.doorReports c q).drive.silent = s.drive.silent ∧
      (s.doorReports c q).drive.lastRef = s.drive.lastRef ∧ (s.doorReports c q).drive.lastFrame = s.drive.lastFrame :=
  ⟨foldl_keeps (fun s => s.now) _ (by simp) _ _,
   foldl_keeps (fun s => s.geo) _ (by simp) _ _,
   foldl_keeps (fun s => s.trk) _ (by simp) _ _,
   foldl_keeps (fun s => s.links) _ (by simp) _ _,
   foldl_keeps (fun s => s.ctl) _ (by simp) _ _,
   foldl_keeps (fun s => s.pending) _ (by simp) _ _,
   foldl_keeps (fun s => s.sup.env) _ (by simp) _ _,
   foldl_keeps (fun s => s.brk.sbApplied) _ (by simp) _ _,
   foldl_keeps (fun s => s.brk.sbReleased) _ (by simp) _ _,
   foldl_keeps (fun s => s.brk.ebApplied) _ (by simp) _ _,
   foldl_keeps (fun s => s.brk.ebReleased) _ (by simp) _ _,
   foldl_keeps (fun s => s.plan.nextId) _ (by simp) _ _,
   foldl_keeps (fun s => s.plan.pendingRun) _ (by simp) _ _,
   foldl_keeps (fun s => s.plan.lastRun) _ (by simp) _ _,
   foldl_keeps (fun s => s.plan.watches) _ (by simp) _ _,
   foldl_keeps (fun s => s.plan.prev) _ (by simp) _ _,
   foldl_keeps (fun s => s.line.mode) _ (by simp) _ _,
   foldl_keeps (fun s => s.line.key) _ (by simp) _ _,
   foldl_keeps (fun s => s.line.loops) _ (by simp) _ _,
   foldl_keeps (fun s => s.line.restartPending) _ (by simp) _ _,
   foldl_keeps (fun s => s.line.flags) _ (by simp) _ _,
   foldl_keeps (fun s => s.line.atStop) _ (by simp) _ _,
   foldl_keeps (fun s => s.gates.busReleased) _ (by simp) _ _,
   foldl_keeps (fun s => s.gates.trans) _ (by simp) _ _,
   foldl_keeps (fun s => s.gates.lastMain) _ (by simp) _ _,
   foldl_keeps (fun s => s.gates.round) _ (by simp) _ _,
   foldl_keeps (fun s => s.gates.classes) _ (by simp) _ _,
   foldl_keeps (fun s => s.gates.recent) _ (by simp) _ _,
   foldl_keeps (fun s => s.gates.passback) _ (by simp) _ _,
   foldl_keeps (fun s => s.notices.settings) _ (by simp) _ _,
   foldl_keeps (fun s => s.notices.threshold) _ (by simp) _ _,
   foldl_keeps (fun s => s.drive.status) _ (by simp) _ _,
   foldl_keeps (fun s => s.drive.silent) _ (by simp) _ _,
   foldl_keeps (fun s => s.drive.lastRef) _ (by simp) _ _,
   foldl_keeps (fun s => s.drive.lastFrame) _ (by simp) _ _⟩

@[simp] theorem State.linkTest_frame (s : State) (c : Car) :
    (s.linkTest c).now = s.now ∧ (s.linkTest c).geo = s.geo ∧ (s.linkTest c).trk = s.trk ∧
      (s.linkTest c).doors = s.doors ∧ (s.linkTest c).links = s.links ∧ (s.linkTest c).ctl = s.ctl ∧
      (s.linkTest c).pending = s.pending ∧ (s.linkTest c).sup.env = s.sup.env ∧ (s.linkTest c).brk.sbApplied = s.brk.sbApplied ∧
      (s.linkTest c).brk.sbReleased = s.brk.sbReleased ∧ (s.linkTest c).brk.ebApplied = s.brk.ebApplied ∧ (s.linkTest c).brk.ebReleased = s.brk.ebReleased ∧
      (s.linkTest c).plan.nextId = s.plan.nextId ∧ (s.linkTest c).plan.pendingRun = s.plan.pendingRun ∧ (s.linkTest c).plan.lastRun = s.plan.lastRun ∧
      (s.linkTest c).plan.watches = s.plan.watches ∧ (s.linkTest c).plan.prev = s.plan.prev ∧ (s.linkTest c).line.mode = s.line.mode ∧
      (s.linkTest c).line.key = s.line.key ∧ (s.linkTest c).line.loops = s.line.loops ∧ (s.linkTest c).line.restartPending = s.line.restartPending ∧
      (s.linkTest c).line.flags = s.line.flags ∧ (s.linkTest c).line.atStop = s.line.atStop ∧ (s.linkTest c).gates.busReleased = s.gates.busReleased ∧
      (s.linkTest c).gates.trans = s.gates.trans ∧ (s.linkTest c).gates.lastMain = s.gates.lastMain ∧ (s.linkTest c).gates.round = s.gates.round ∧
      (s.linkTest c).gates.classes = s.gates.classes ∧ (s.linkTest c).gates.recent = s.gates.recent ∧ (s.linkTest c).gates.passback = s.gates.passback ∧
      (s.linkTest c).notices.settings = s.notices.settings ∧ (s.linkTest c).notices.threshold = s.notices.threshold ∧ (s.linkTest c).drive.status = s.drive.status ∧
      (s.linkTest c).drive.silent = s.drive.silent ∧ (s.linkTest c).drive.lastRef = s.drive.lastRef ∧ (s.linkTest c).drive.lastFrame = s.drive.lastFrame := by
  simp only [State.linkTest]; (repeat' split) <;> simp

@[simp] theorem State.linkTests_frame (s : State) :
    (s.linkTests).now = s.now ∧ (s.linkTests).geo = s.geo ∧ (s.linkTests).trk = s.trk ∧
      (s.linkTests).doors = s.doors ∧ (s.linkTests).links = s.links ∧ (s.linkTests).ctl = s.ctl ∧
      (s.linkTests).pending = s.pending ∧ (s.linkTests).sup.env = s.sup.env ∧ (s.linkTests).brk.sbApplied = s.brk.sbApplied ∧
      (s.linkTests).brk.sbReleased = s.brk.sbReleased ∧ (s.linkTests).brk.ebApplied = s.brk.ebApplied ∧ (s.linkTests).brk.ebReleased = s.brk.ebReleased ∧
      (s.linkTests).plan.nextId = s.plan.nextId ∧ (s.linkTests).plan.pendingRun = s.plan.pendingRun ∧ (s.linkTests).plan.lastRun = s.plan.lastRun ∧
      (s.linkTests).plan.watches = s.plan.watches ∧ (s.linkTests).plan.prev = s.plan.prev ∧ (s.linkTests).line.mode = s.line.mode ∧
      (s.linkTests).line.key = s.line.key ∧ (s.linkTests).line.loops = s.line.loops ∧ (s.linkTests).line.restartPending = s.line.restartPending ∧
      (s.linkTests).line.flags = s.line.flags ∧ (s.linkTests).line.atStop = s.line.atStop ∧ (s.linkTests).gates.busReleased = s.gates.busReleased ∧
      (s.linkTests).gates.trans = s.gates.trans ∧ (s.linkTests).gates.lastMain = s.gates.lastMain ∧ (s.linkTests).gates.round = s.gates.round ∧
      (s.linkTests).gates.classes = s.gates.classes ∧ (s.linkTests).gates.recent = s.gates.recent ∧ (s.linkTests).gates.passback = s.gates.passback ∧
      (s.linkTests).notices.settings = s.notices.settings ∧ (s.linkTests).notices.threshold = s.notices.threshold ∧ (s.linkTests).drive.status = s.drive.status ∧
      (s.linkTests).drive.silent = s.drive.silent ∧ (s.linkTests).drive.lastRef = s.drive.lastRef ∧ (s.linkTests).drive.lastFrame = s.drive.lastFrame := by
  simp [State.linkTests]

@[simp] theorem State.doorsUnknown_frame (s : State) (c : Car) :
    (s.doorsUnknown c).now = s.now ∧ (s.doorsUnknown c).geo = s.geo ∧ (s.doorsUnknown c).trk = s.trk ∧
      (s.doorsUnknown c).links = s.links ∧ (s.doorsUnknown c).ctl = s.ctl ∧ (s.doorsUnknown c).pending = s.pending ∧
      (s.doorsUnknown c).sup.env = s.sup.env ∧ (s.doorsUnknown c).brk.sbApplied = s.brk.sbApplied ∧ (s.doorsUnknown c).brk.sbReleased = s.brk.sbReleased ∧
      (s.doorsUnknown c).brk.ebApplied = s.brk.ebApplied ∧ (s.doorsUnknown c).brk.ebReleased = s.brk.ebReleased ∧ (s.doorsUnknown c).plan.nextId = s.plan.nextId ∧
      (s.doorsUnknown c).plan.pendingRun = s.plan.pendingRun ∧ (s.doorsUnknown c).plan.lastRun = s.plan.lastRun ∧ (s.doorsUnknown c).plan.watches = s.plan.watches ∧
      (s.doorsUnknown c).plan.prev = s.plan.prev ∧ (s.doorsUnknown c).line.mode = s.line.mode ∧ (s.doorsUnknown c).line.key = s.line.key ∧
      (s.doorsUnknown c).line.loops = s.line.loops ∧ (s.doorsUnknown c).line.restartPending = s.line.restartPending ∧ (s.doorsUnknown c).line.flags = s.line.flags ∧
      (s.doorsUnknown c).line.atStop = s.line.atStop ∧ (s.doorsUnknown c).gates.busReleased = s.gates.busReleased ∧ (s.doorsUnknown c).gates.trans = s.gates.trans ∧
      (s.doorsUnknown c).gates.lastMain = s.gates.lastMain ∧ (s.doorsUnknown c).gates.round = s.gates.round ∧ (s.doorsUnknown c).gates.classes = s.gates.classes ∧
      (s.doorsUnknown c).gates.recent = s.gates.recent ∧ (s.doorsUnknown c).gates.passback = s.gates.passback ∧ (s.doorsUnknown c).notices.settings = s.notices.settings ∧
      (s.doorsUnknown c).notices.threshold = s.notices.threshold ∧ (s.doorsUnknown c).drive.status = s.drive.status ∧ (s.doorsUnknown c).drive.silent = s.drive.silent ∧
      (s.doorsUnknown c).drive.lastRef = s.drive.lastRef ∧ (s.doorsUnknown c).drive.lastFrame = s.drive.lastFrame := by
  simp [State.doorsUnknown]

@[simp] theorem State.linkChanged_frame (s : State) (c : Car) (b : LinkState) :
    (s.linkChanged c b).now = s.now ∧ (s.linkChanged c b).geo = s.geo ∧ (s.linkChanged c b).trk = s.trk ∧
      (s.linkChanged c b).ctl = s.ctl ∧ (s.linkChanged c b).pending = s.pending ∧ (s.linkChanged c b).sup.env = s.sup.env ∧
      (s.linkChanged c b).brk.sbApplied = s.brk.sbApplied ∧ (s.linkChanged c b).brk.sbReleased = s.brk.sbReleased ∧ (s.linkChanged c b).brk.ebApplied = s.brk.ebApplied ∧
      (s.linkChanged c b).brk.ebReleased = s.brk.ebReleased ∧ (s.linkChanged c b).plan.nextId = s.plan.nextId ∧ (s.linkChanged c b).plan.pendingRun = s.plan.pendingRun ∧
      (s.linkChanged c b).plan.lastRun = s.plan.lastRun ∧ (s.linkChanged c b).plan.watches = s.plan.watches ∧ (s.linkChanged c b).plan.prev = s.plan.prev ∧
      (s.linkChanged c b).line.mode = s.line.mode ∧ (s.linkChanged c b).line.key = s.line.key ∧ (s.linkChanged c b).line.loops = s.line.loops ∧
      (s.linkChanged c b).line.restartPending = s.line.restartPending ∧ (s.linkChanged c b).line.flags = s.line.flags ∧ (s.linkChanged c b).line.atStop = s.line.atStop ∧
      (s.linkChanged c b).gates.busReleased = s.gates.busReleased ∧ (s.linkChanged c b).gates.trans = s.gates.trans ∧ (s.linkChanged c b).gates.lastMain = s.gates.lastMain ∧
      (s.linkChanged c b).gates.round = s.gates.round ∧ (s.linkChanged c b).gates.classes = s.gates.classes ∧ (s.linkChanged c b).gates.recent = s.gates.recent ∧
      (s.linkChanged c b).gates.passback = s.gates.passback ∧ (s.linkChanged c b).notices.settings = s.notices.settings ∧ (s.linkChanged c b).notices.threshold = s.notices.threshold ∧
      (s.linkChanged c b).drive.status = s.drive.status ∧ (s.linkChanged c b).drive.silent = s.drive.silent ∧ (s.linkChanged c b).drive.lastRef = s.drive.lastRef ∧
      (s.linkChanged c b).drive.lastFrame = s.drive.lastFrame := by
  simp only [State.linkChanged]; (repeat' split) <;> simp

@[simp] theorem State.moveLink_frame (s : State) (c : Car) (l : CarLink) :
    (s.moveLink c l).now = s.now ∧ (s.moveLink c l).geo = s.geo ∧ (s.moveLink c l).trk = s.trk ∧
      (s.moveLink c l).ctl = s.ctl ∧ (s.moveLink c l).pending = s.pending ∧ (s.moveLink c l).sup.env = s.sup.env ∧
      (s.moveLink c l).brk.sbApplied = s.brk.sbApplied ∧ (s.moveLink c l).brk.sbReleased = s.brk.sbReleased ∧ (s.moveLink c l).brk.ebApplied = s.brk.ebApplied ∧
      (s.moveLink c l).brk.ebReleased = s.brk.ebReleased ∧ (s.moveLink c l).plan.nextId = s.plan.nextId ∧ (s.moveLink c l).plan.pendingRun = s.plan.pendingRun ∧
      (s.moveLink c l).plan.lastRun = s.plan.lastRun ∧ (s.moveLink c l).plan.watches = s.plan.watches ∧ (s.moveLink c l).plan.prev = s.plan.prev ∧
      (s.moveLink c l).line.mode = s.line.mode ∧ (s.moveLink c l).line.key = s.line.key ∧ (s.moveLink c l).line.loops = s.line.loops ∧
      (s.moveLink c l).line.restartPending = s.line.restartPending ∧ (s.moveLink c l).line.flags = s.line.flags ∧ (s.moveLink c l).line.atStop = s.line.atStop ∧
      (s.moveLink c l).gates.busReleased = s.gates.busReleased ∧ (s.moveLink c l).gates.trans = s.gates.trans ∧ (s.moveLink c l).gates.lastMain = s.gates.lastMain ∧
      (s.moveLink c l).gates.round = s.gates.round ∧ (s.moveLink c l).gates.classes = s.gates.classes ∧ (s.moveLink c l).gates.recent = s.gates.recent ∧
      (s.moveLink c l).gates.passback = s.gates.passback ∧ (s.moveLink c l).notices.settings = s.notices.settings ∧ (s.moveLink c l).notices.threshold = s.notices.threshold ∧
      (s.moveLink c l).drive.status = s.drive.status ∧ (s.moveLink c l).drive.silent = s.drive.silent ∧ (s.moveLink c l).drive.lastRef = s.drive.lastRef ∧
      (s.moveLink c l).drive.lastFrame = s.drive.lastFrame := by
  simp only [State.moveLink]; (repeat' split) <;> simp

@[simp] theorem State.staleExpiry_frame (s : State) (c : Car) :
    (s.staleExpiry c).now = s.now ∧ (s.staleExpiry c).geo = s.geo ∧ (s.staleExpiry c).trk = s.trk ∧
      (s.staleExpiry c).ctl = s.ctl ∧ (s.staleExpiry c).pending = s.pending ∧ (s.staleExpiry c).sup.env = s.sup.env ∧
      (s.staleExpiry c).brk.sbApplied = s.brk.sbApplied ∧ (s.staleExpiry c).brk.sbReleased = s.brk.sbReleased ∧ (s.staleExpiry c).brk.ebApplied = s.brk.ebApplied ∧
      (s.staleExpiry c).brk.ebReleased = s.brk.ebReleased ∧ (s.staleExpiry c).plan.nextId = s.plan.nextId ∧ (s.staleExpiry c).plan.pendingRun = s.plan.pendingRun ∧
      (s.staleExpiry c).plan.lastRun = s.plan.lastRun ∧ (s.staleExpiry c).plan.watches = s.plan.watches ∧ (s.staleExpiry c).plan.prev = s.plan.prev ∧
      (s.staleExpiry c).line.mode = s.line.mode ∧ (s.staleExpiry c).line.key = s.line.key ∧ (s.staleExpiry c).line.loops = s.line.loops ∧
      (s.staleExpiry c).line.restartPending = s.line.restartPending ∧ (s.staleExpiry c).line.flags = s.line.flags ∧ (s.staleExpiry c).line.atStop = s.line.atStop ∧
      (s.staleExpiry c).gates.busReleased = s.gates.busReleased ∧ (s.staleExpiry c).gates.trans = s.gates.trans ∧ (s.staleExpiry c).gates.lastMain = s.gates.lastMain ∧
      (s.staleExpiry c).gates.round = s.gates.round ∧ (s.staleExpiry c).gates.classes = s.gates.classes ∧ (s.staleExpiry c).gates.recent = s.gates.recent ∧
      (s.staleExpiry c).gates.passback = s.gates.passback ∧ (s.staleExpiry c).notices.settings = s.notices.settings ∧ (s.staleExpiry c).notices.threshold = s.notices.threshold ∧
      (s.staleExpiry c).drive.status = s.drive.status ∧ (s.staleExpiry c).drive.silent = s.drive.silent ∧ (s.staleExpiry c).drive.lastRef = s.drive.lastRef ∧
      (s.staleExpiry c).drive.lastFrame = s.drive.lastFrame := by
  simp only [State.staleExpiry]; (repeat' split) <;> simp

@[simp] theorem State.lostExpiry_frame (s : State) (c : Car) :
    (s.lostExpiry c).now = s.now ∧ (s.lostExpiry c).geo = s.geo ∧ (s.lostExpiry c).trk = s.trk ∧
      (s.lostExpiry c).ctl = s.ctl ∧ (s.lostExpiry c).pending = s.pending ∧ (s.lostExpiry c).sup.env = s.sup.env ∧
      (s.lostExpiry c).brk.sbApplied = s.brk.sbApplied ∧ (s.lostExpiry c).brk.sbReleased = s.brk.sbReleased ∧ (s.lostExpiry c).brk.ebApplied = s.brk.ebApplied ∧
      (s.lostExpiry c).brk.ebReleased = s.brk.ebReleased ∧ (s.lostExpiry c).plan.nextId = s.plan.nextId ∧ (s.lostExpiry c).plan.pendingRun = s.plan.pendingRun ∧
      (s.lostExpiry c).plan.lastRun = s.plan.lastRun ∧ (s.lostExpiry c).plan.watches = s.plan.watches ∧ (s.lostExpiry c).plan.prev = s.plan.prev ∧
      (s.lostExpiry c).line.mode = s.line.mode ∧ (s.lostExpiry c).line.key = s.line.key ∧ (s.lostExpiry c).line.loops = s.line.loops ∧
      (s.lostExpiry c).line.restartPending = s.line.restartPending ∧ (s.lostExpiry c).line.flags = s.line.flags ∧ (s.lostExpiry c).line.atStop = s.line.atStop ∧
      (s.lostExpiry c).gates.busReleased = s.gates.busReleased ∧ (s.lostExpiry c).gates.trans = s.gates.trans ∧ (s.lostExpiry c).gates.lastMain = s.gates.lastMain ∧
      (s.lostExpiry c).gates.round = s.gates.round ∧ (s.lostExpiry c).gates.classes = s.gates.classes ∧ (s.lostExpiry c).gates.recent = s.gates.recent ∧
      (s.lostExpiry c).gates.passback = s.gates.passback ∧ (s.lostExpiry c).notices.settings = s.notices.settings ∧ (s.lostExpiry c).notices.threshold = s.notices.threshold ∧
      (s.lostExpiry c).drive.status = s.drive.status ∧ (s.lostExpiry c).drive.silent = s.drive.silent ∧ (s.lostExpiry c).drive.lastRef = s.drive.lastRef ∧
      (s.lostExpiry c).drive.lastFrame = s.drive.lastFrame := by
  simp only [State.lostExpiry]; (repeat' split) <;> simp

@[simp] theorem State.carFault_frame (s : State) (c : Car) (n : Nat) :
    (s.carFault c n).now = s.now ∧ (s.carFault c n).geo = s.geo ∧ (s.carFault c n).trk = s.trk ∧
      (s.carFault c n).sup = s.sup ∧ (s.carFault c n).plan = s.plan ∧ (s.carFault c n).brk = s.brk ∧
      (s.carFault c n).doors = s.doors ∧ (s.carFault c n).gates = s.gates ∧ (s.carFault c n).tally = s.tally ∧
      (s.carFault c n).line = s.line ∧ (s.carFault c n).drive = s.drive ∧ (s.carFault c n).ctl = s.ctl ∧
      (s.carFault c n).freeSeq = s.freeSeq ∧ (s.carFault c n).pending = s.pending ∧ (s.carFault c n).notices.settings = s.notices.settings ∧
      (s.carFault c n).notices.threshold = s.notices.threshold := by
  simp only [State.carFault]; (repeat' split) <;> simp

@[simp] theorem State.queueMarkers_frame (s : State) (c : Car) (l : List Nat) :
    (s.queueMarkers c l).now = s.now ∧ (s.queueMarkers c l).geo = s.geo ∧ (s.queueMarkers c l).trk = s.trk ∧
      (s.queueMarkers c l).sup = s.sup ∧ (s.queueMarkers c l).plan = s.plan ∧ (s.queueMarkers c l).brk = s.brk ∧
      (s.queueMarkers c l).doors = s.doors ∧ (s.queueMarkers c l).gates = s.gates ∧ (s.queueMarkers c l).tally = s.tally ∧
      (s.queueMarkers c l).line = s.line ∧ (s.queueMarkers c l).drive = s.drive ∧ (s.queueMarkers c l).ctl = s.ctl ∧
      (s.queueMarkers c l).notices = s.notices ∧ (s.queueMarkers c l).freeSeq = s.freeSeq ∧ (s.queueMarkers c l).pending = s.pending := by
  simp [State.queueMarkers]

@[simp] theorem State.trackBrakeReport_frame (s : State) (c : Car) (b : Option Bool) :
    (s.trackBrakeReport c b).now = s.now ∧ (s.trackBrakeReport c b).geo = s.geo ∧ (s.trackBrakeReport c b).trk = s.trk ∧
      (s.trackBrakeReport c b).doors = s.doors ∧ (s.trackBrakeReport c b).links = s.links ∧ (s.trackBrakeReport c b).ctl = s.ctl ∧
      (s.trackBrakeReport c b).pending = s.pending ∧ (s.trackBrakeReport c b).sup.env = s.sup.env ∧ (s.trackBrakeReport c b).brk.sbApplied = s.brk.sbApplied ∧
      (s.trackBrakeReport c b).brk.sbReleased = s.brk.sbReleased ∧ (s.trackBrakeReport c b).brk.ebApplied = s.brk.ebApplied ∧ (s.trackBrakeReport c b).brk.ebReleased = s.brk.ebReleased ∧
      (s.trackBrakeReport c b).plan.nextId = s.plan.nextId ∧ (s.trackBrakeReport c b).plan.pendingRun = s.plan.pendingRun ∧ (s.trackBrakeReport c b).plan.lastRun = s.plan.lastRun ∧
      (s.trackBrakeReport c b).plan.watches = s.plan.watches ∧ (s.trackBrakeReport c b).plan.prev = s.plan.prev ∧ (s.trackBrakeReport c b).line.mode = s.line.mode ∧
      (s.trackBrakeReport c b).line.key = s.line.key ∧ (s.trackBrakeReport c b).line.loops = s.line.loops ∧ (s.trackBrakeReport c b).line.restartPending = s.line.restartPending ∧
      (s.trackBrakeReport c b).line.flags = s.line.flags ∧ (s.trackBrakeReport c b).line.atStop = s.line.atStop ∧ (s.trackBrakeReport c b).gates.busReleased = s.gates.busReleased ∧
      (s.trackBrakeReport c b).gates.trans = s.gates.trans ∧ (s.trackBrakeReport c b).gates.lastMain = s.gates.lastMain ∧ (s.trackBrakeReport c b).gates.round = s.gates.round ∧
      (s.trackBrakeReport c b).gates.classes = s.gates.classes ∧ (s.trackBrakeReport c b).gates.recent = s.gates.recent ∧ (s.trackBrakeReport c b).gates.passback = s.gates.passback ∧
      (s.trackBrakeReport c b).notices.settings = s.notices.settings ∧ (s.trackBrakeReport c b).notices.threshold = s.notices.threshold ∧ (s.trackBrakeReport c b).drive.status = s.drive.status ∧
      (s.trackBrakeReport c b).drive.silent = s.drive.silent ∧ (s.trackBrakeReport c b).drive.lastRef = s.drive.lastRef ∧ (s.trackBrakeReport c b).drive.lastFrame = s.drive.lastFrame := by
  cases b <;> simp [State.trackBrakeReport]

@[simp] theorem State.takeReports_frame (s : State) (c : Car) (r : CarReport) :
    (s.takeReports c r).now = s.now ∧ (s.takeReports c r).geo = s.geo ∧ (s.takeReports c r).trk = s.trk ∧
      (s.takeReports c r).ctl = s.ctl ∧ (s.takeReports c r).pending = s.pending ∧ (s.takeReports c r).sup.env = s.sup.env ∧
      (s.takeReports c r).brk.sbApplied = s.brk.sbApplied ∧ (s.takeReports c r).brk.sbReleased = s.brk.sbReleased ∧ (s.takeReports c r).brk.ebApplied = s.brk.ebApplied ∧
      (s.takeReports c r).brk.ebReleased = s.brk.ebReleased ∧ (s.takeReports c r).plan.nextId = s.plan.nextId ∧ (s.takeReports c r).plan.pendingRun = s.plan.pendingRun ∧
      (s.takeReports c r).plan.lastRun = s.plan.lastRun ∧ (s.takeReports c r).plan.watches = s.plan.watches ∧ (s.takeReports c r).plan.prev = s.plan.prev ∧
      (s.takeReports c r).line.mode = s.line.mode ∧ (s.takeReports c r).line.key = s.line.key ∧ (s.takeReports c r).line.loops = s.line.loops ∧
      (s.takeReports c r).line.restartPending = s.line.restartPending ∧ (s.takeReports c r).line.flags = s.line.flags ∧ (s.takeReports c r).line.atStop = s.line.atStop ∧
      (s.takeReports c r).gates.busReleased = s.gates.busReleased ∧ (s.takeReports c r).gates.trans = s.gates.trans ∧ (s.takeReports c r).gates.lastMain = s.gates.lastMain ∧
      (s.takeReports c r).gates.round = s.gates.round ∧ (s.takeReports c r).gates.classes = s.gates.classes ∧ (s.takeReports c r).gates.recent = s.gates.recent ∧
      (s.takeReports c r).gates.passback = s.gates.passback ∧ (s.takeReports c r).notices.settings = s.notices.settings ∧ (s.takeReports c r).notices.threshold = s.notices.threshold ∧
      (s.takeReports c r).drive.status = s.drive.status ∧ (s.takeReports c r).drive.silent = s.drive.silent ∧ (s.takeReports c r).drive.lastRef = s.drive.lastRef ∧
      (s.takeReports c r).drive.lastFrame = s.drive.lastFrame := by
  simp [State.takeReports]

@[simp] theorem State.carFrameArrives_frame (s : State) (c : Car) (b : List Byte) :
    (s.carFrameArrives c b).now = s.now ∧ (s.carFrameArrives c b).geo = s.geo ∧ (s.carFrameArrives c b).trk = s.trk ∧
      (s.carFrameArrives c b).ctl = s.ctl ∧ (s.carFrameArrives c b).pending = s.pending ∧ (s.carFrameArrives c b).sup.env = s.sup.env ∧
      (s.carFrameArrives c b).brk.sbApplied = s.brk.sbApplied ∧ (s.carFrameArrives c b).brk.sbReleased = s.brk.sbReleased ∧ (s.carFrameArrives c b).brk.ebApplied = s.brk.ebApplied ∧
      (s.carFrameArrives c b).brk.ebReleased = s.brk.ebReleased ∧ (s.carFrameArrives c b).plan.nextId = s.plan.nextId ∧ (s.carFrameArrives c b).plan.pendingRun = s.plan.pendingRun ∧
      (s.carFrameArrives c b).plan.lastRun = s.plan.lastRun ∧ (s.carFrameArrives c b).plan.watches = s.plan.watches ∧ (s.carFrameArrives c b).plan.prev = s.plan.prev ∧
      (s.carFrameArrives c b).line.mode = s.line.mode ∧ (s.carFrameArrives c b).line.key = s.line.key ∧ (s.carFrameArrives c b).line.loops = s.line.loops ∧
      (s.carFrameArrives c b).line.restartPending = s.line.restartPending ∧ (s.carFrameArrives c b).line.flags = s.line.flags ∧ (s.carFrameArrives c b).line.atStop = s.line.atStop ∧
      (s.carFrameArrives c b).gates.busReleased = s.gates.busReleased ∧ (s.carFrameArrives c b).gates.trans = s.gates.trans ∧ (s.carFrameArrives c b).gates.lastMain = s.gates.lastMain ∧
      (s.carFrameArrives c b).gates.round = s.gates.round ∧ (s.carFrameArrives c b).gates.classes = s.gates.classes ∧ (s.carFrameArrives c b).gates.recent = s.gates.recent ∧
      (s.carFrameArrives c b).gates.passback = s.gates.passback ∧ (s.carFrameArrives c b).notices.settings = s.notices.settings ∧ (s.carFrameArrives c b).notices.threshold = s.notices.threshold ∧
      (s.carFrameArrives c b).drive.status = s.drive.status ∧ (s.carFrameArrives c b).drive.silent = s.drive.silent ∧ (s.carFrameArrives c b).drive.lastRef = s.drive.lastRef ∧
      (s.carFrameArrives c b).drive.lastFrame = s.drive.lastFrame := by
  simp only [State.carFrameArrives]; (repeat' split) <;> simp

@[simp] theorem State.sequenceStatus_frame (s : State) (x : DriveStatus) :
    (s.sequenceStatus x).now = s.now ∧ (s.sequenceStatus x).geo = s.geo ∧ (s.sequenceStatus x).trk = s.trk ∧
      (s.sequenceStatus x).links = s.links ∧ (s.sequenceStatus x).ctl = s.ctl ∧ (s.sequenceStatus x).pending = s.pending ∧
      (s.sequenceStatus x).brk.sbApplied = s.brk.sbApplied ∧ (s.sequenceStatus x).brk.sbReleased = s.brk.sbReleased ∧ (s.sequenceStatus x).brk.ebApplied = s.brk.ebApplied ∧
      (s.sequenceStatus x).brk.ebReleased = s.brk.ebReleased ∧ (s.sequenceStatus x).plan.nextId = s.plan.nextId ∧ (s.sequenceStatus x).plan.pendingRun = s.plan.pendingRun ∧
      (s.sequenceStatus x).plan.prev = s.plan.prev ∧ (s.sequenceStatus x).line.mode = s.line.mode ∧ (s.sequenceStatus x).line.key = s.line.key ∧
      (s.sequenceStatus x).line.loops = s.line.loops ∧ (s.sequenceStatus x).line.restartPending = s.line.restartPending ∧ (s.sequenceStatus x).line.flags = s.line.flags ∧
      (s.sequenceStatus x).line.atStop = s.line.atStop ∧ (s.sequenceStatus x).gates.busReleased = s.gates.busReleased ∧ (s.sequenceStatus x).gates.trans = s.gates.trans ∧
      (s.sequenceStatus x).gates.lastMain = s.gates.lastMain ∧ (s.sequenceStatus x).gates.round = s.gates.round ∧ (s.sequenceStatus x).gates.classes = s.gates.classes ∧
      (s.sequenceStatus x).gates.recent = s.gates.recent ∧ (s.sequenceStatus x).gates.passback = s.gates.passback ∧ (s.sequenceStatus x).notices.settings = s.notices.settings ∧
      (s.sequenceStatus x).notices.threshold = s.notices.threshold ∧ (s.sequenceStatus x).drive.status = s.drive.status ∧ (s.sequenceStatus x).drive.silent = s.drive.silent ∧
      (s.sequenceStatus x).drive.lastRef = s.drive.lastRef ∧ (s.sequenceStatus x).drive.lastFrame = s.drive.lastFrame := by
  simp only [State.sequenceStatus]; (repeat' split) <;> simp

@[simp] theorem State.driveStatus_frame (s : State) (x : DriveStatus) :
    (s.driveStatus x).now = s.now ∧ (s.driveStatus x).geo = s.geo ∧ (s.driveStatus x).trk = s.trk ∧
      (s.driveStatus x).links = s.links ∧ (s.driveStatus x).ctl = s.ctl ∧ (s.driveStatus x).pending = s.pending ∧
      (s.driveStatus x).brk.sbApplied = s.brk.sbApplied ∧ (s.driveStatus x).brk.sbReleased = s.brk.sbReleased ∧ (s.driveStatus x).brk.ebApplied = s.brk.ebApplied ∧
      (s.driveStatus x).brk.ebReleased = s.brk.ebReleased ∧ (s.driveStatus x).plan.nextId = s.plan.nextId ∧ (s.driveStatus x).plan.pendingRun = s.plan.pendingRun ∧
      (s.driveStatus x).plan.prev = s.plan.prev ∧ (s.driveStatus x).line.mode = s.line.mode ∧ (s.driveStatus x).line.key = s.line.key ∧
      (s.driveStatus x).line.loops = s.line.loops ∧ (s.driveStatus x).line.restartPending = s.line.restartPending ∧ (s.driveStatus x).line.flags = s.line.flags ∧
      (s.driveStatus x).line.atStop = s.line.atStop ∧ (s.driveStatus x).gates.busReleased = s.gates.busReleased ∧ (s.driveStatus x).gates.trans = s.gates.trans ∧
      (s.driveStatus x).gates.lastMain = s.gates.lastMain ∧ (s.driveStatus x).gates.round = s.gates.round ∧ (s.driveStatus x).gates.classes = s.gates.classes ∧
      (s.driveStatus x).gates.recent = s.gates.recent ∧ (s.driveStatus x).gates.passback = s.gates.passback ∧ (s.driveStatus x).notices.settings = s.notices.settings ∧
      (s.driveStatus x).notices.threshold = s.notices.threshold ∧ (s.driveStatus x).drive.lastRef = s.drive.lastRef ∧ (s.driveStatus x).drive.lastFrame = s.drive.lastFrame := by
  simp only [State.driveStatus]; split <;> simp [Drive.take]

@[simp] theorem State.driveFrameArrives_frame (s : State) (b : List Byte) :
    (s.driveFrameArrives b).now = s.now ∧ (s.driveFrameArrives b).geo = s.geo ∧ (s.driveFrameArrives b).trk = s.trk ∧
      (s.driveFrameArrives b).links = s.links ∧ (s.driveFrameArrives b).ctl = s.ctl ∧ (s.driveFrameArrives b).pending = s.pending ∧
      (s.driveFrameArrives b).brk.sbApplied = s.brk.sbApplied ∧ (s.driveFrameArrives b).brk.sbReleased = s.brk.sbReleased ∧ (s.driveFrameArrives b).brk.ebApplied = s.brk.ebApplied ∧
      (s.driveFrameArrives b).brk.ebReleased = s.brk.ebReleased ∧ (s.driveFrameArrives b).plan.nextId = s.plan.nextId ∧ (s.driveFrameArrives b).plan.pendingRun = s.plan.pendingRun ∧
      (s.driveFrameArrives b).plan.prev = s.plan.prev ∧ (s.driveFrameArrives b).line.mode = s.line.mode ∧ (s.driveFrameArrives b).line.key = s.line.key ∧
      (s.driveFrameArrives b).line.loops = s.line.loops ∧ (s.driveFrameArrives b).line.restartPending = s.line.restartPending ∧ (s.driveFrameArrives b).line.flags = s.line.flags ∧
      (s.driveFrameArrives b).line.atStop = s.line.atStop ∧ (s.driveFrameArrives b).gates.busReleased = s.gates.busReleased ∧ (s.driveFrameArrives b).gates.trans = s.gates.trans ∧
      (s.driveFrameArrives b).gates.lastMain = s.gates.lastMain ∧ (s.driveFrameArrives b).gates.round = s.gates.round ∧ (s.driveFrameArrives b).gates.classes = s.gates.classes ∧
      (s.driveFrameArrives b).gates.recent = s.gates.recent ∧ (s.driveFrameArrives b).gates.passback = s.gates.passback ∧ (s.driveFrameArrives b).notices.settings = s.notices.settings ∧
      (s.driveFrameArrives b).notices.threshold = s.notices.threshold ∧ (s.driveFrameArrives b).drive.lastRef = s.drive.lastRef ∧ (s.driveFrameArrives b).drive.lastFrame = s.drive.lastFrame := by
  simp only [State.driveFrameArrives]; (repeat' split) <;> simp

@[simp] theorem State.driveSilence_frame (s : State) :
    (s.driveSilence).now = s.now ∧ (s.driveSilence).geo = s.geo ∧ (s.driveSilence).trk = s.trk ∧
      (s.driveSilence).doors = s.doors ∧ (s.driveSilence).links = s.links ∧ (s.driveSilence).ctl = s.ctl ∧
      (s.driveSilence).pending = s.pending ∧ (s.driveSilence).sup.env = s.sup.env ∧ (s.driveSilence).brk.sbApplied = s.brk.sbApplied ∧
      (s.driveSilence).brk.sbReleased = s.brk.sbReleased ∧ (s.driveSilence).brk.ebApplied = s.brk.ebApplied ∧ (s.driveSilence).brk.ebReleased = s.brk.ebReleased ∧
      (s.driveSilence).plan.nextId = s.plan.nextId ∧ (s.driveSilence).plan.pendingRun = s.plan.pendingRun ∧ (s.driveSilence).plan.lastRun = s.plan.lastRun ∧
      (s.driveSilence).plan.watches = s.plan.watches ∧ (s.driveSilence).plan.prev = s.plan.prev ∧ (s.driveSilence).line.mode = s.line.mode ∧
      (s.driveSilence).line.key = s.line.key ∧ (s.driveSilence).line.loops = s.line.loops ∧ (s.driveSilence).line.restartPending = s.line.restartPending ∧
      (s.driveSilence).line.flags = s.line.flags ∧ (s.driveSilence).line.atStop = s.line.atStop ∧ (s.driveSilence).gates.busReleased = s.gates.busReleased ∧
      (s.driveSilence).gates.trans = s.gates.trans ∧ (s.driveSilence).gates.lastMain = s.gates.lastMain ∧ (s.driveSilence).gates.round = s.gates.round ∧
      (s.driveSilence).gates.classes = s.gates.classes ∧ (s.driveSilence).gates.recent = s.gates.recent ∧ (s.driveSilence).gates.passback = s.gates.passback ∧
      (s.driveSilence).notices.settings = s.notices.settings ∧ (s.driveSilence).notices.threshold = s.notices.threshold ∧ (s.driveSilence).drive.status = s.drive.status ∧
      (s.driveSilence).drive.lastRef = s.drive.lastRef ∧ (s.driveSilence).drive.lastFrame = s.drive.lastFrame := by
  simp only [State.driveSilence]; (repeat' split) <;> simp

@[simp] theorem State.setConf_frame (s : State) (c : Confidence) :
    (s.setConf c).now = s.now ∧ (s.setConf c).geo = s.geo ∧ (s.setConf c).sup = s.sup ∧
      (s.setConf c).brk = s.brk ∧ (s.setConf c).doors = s.doors ∧ (s.setConf c).gates = s.gates ∧
      (s.setConf c).tally = s.tally ∧ (s.setConf c).links = s.links ∧ (s.setConf c).drive = s.drive ∧
      (s.setConf c).ctl = s.ctl ∧ (s.setConf c).freeSeq = s.freeSeq ∧ (s.setConf c).pending = s.pending ∧
      (s.setConf c).plan.nextId = s.plan.nextId ∧ (s.setConf c).plan.pendingRun = s.plan.pendingRun ∧ (s.setConf c).plan.lastRun = s.plan.lastRun ∧
      (s.setConf c).plan.watches = s.plan.watches ∧ (s.setConf c).plan.ref = s.plan.ref ∧ (s.setConf c).plan.prev = s.plan.prev ∧
      (s.setConf c).line.mode = s.line.mode ∧ (s.setConf c).line.key = s.line.key ∧ (s.setConf c).line.loops = s.line.loops ∧
      (s.setConf c).line.restartPending = s.line.restartPending ∧ (s.setConf c).line.flags = s.line.flags ∧ (s.setConf c).line.atStop = s.line.atStop ∧
      (s.setConf c).notices.settings = s.notices.settings ∧ (s.setConf c).notices.threshold = s.notices.threshold ∧ (s.setConf c).trk.count = s.trk.count ∧
      (s.setConf c).trk.countBase = s.trk.countBase ∧ (s.setConf c).trk.xBase = s.trk.xBase ∧ (s.setConf c).trk.sigma = s.trk.sigma ∧
      (s.setConf c).trk.window = s.trk.window ∧ (s.setConf c).trk.xA = s.trk.xA ∧ (s.setConf c).trk.xB = s.trk.xB ∧
      (s.setConf c).trk.v = s.trk.v ∧ (s.setConf c).trk.stillCount = s.trk.stillCount ∧ (s.setConf c).trk.still = s.trk.still ∧
      (s.setConf c).trk.stillSeen = s.trk.stillSeen ∧ (s.setConf c).trk.motion = s.trk.motion ∧ (s.setConf c).trk.lastDir = s.trk.lastDir ∧
      (s.setConf c).trk.sampleTime = s.trk.sampleTime ∧ (s.setConf c).trk.lastMarker = s.trk.lastMarker ∧ (s.setConf c).trk.stretch = s.trk.stretch := by
  simp only [State.setConf]; split <;> cases c <;> simp [Tracker.enter]

@[simp] theorem State.posNotice_frame (s : State) (k : PosCause) (a : Option Car) (i : Option Nat) (v : Option Int) (b : Confidence) :
    (s.posNotice k a i v b).now = s.now ∧ (s.posNotice k a i v b).geo = s.geo ∧ (s.posNotice k a i v b).trk = s.trk ∧
      (s.posNotice k a i v b).sup = s.sup ∧ (s.posNotice k a i v b).plan = s.plan ∧ (s.posNotice k a i v b).brk = s.brk ∧
      (s.posNotice k a i v b).doors = s.doors ∧ (s.posNotice k a i v b).gates = s.gates ∧ (s.posNotice k a i v b).tally = s.tally ∧
      (s.posNotice k a i v b).line = s.line ∧ (s.posNotice k a i v b).links = s.links ∧ (s.posNotice k a i v b).drive = s.drive ∧
      (s.posNotice k a i v b).ctl = s.ctl ∧ (s.posNotice k a i v b).freeSeq = s.freeSeq ∧ (s.posNotice k a i v b).pending = s.pending ∧
      (s.posNotice k a i v b).notices.settings = s.notices.settings ∧ (s.posNotice k a i v b).notices.threshold = s.notices.threshold := by
  simp [State.posNotice]

@[simp] theorem State.lostEffects_frame (s : State) (b : Confidence) :
    (s.lostEffects b).now = s.now ∧ (s.lostEffects b).geo = s.geo ∧ (s.lostEffects b).trk = s.trk ∧
      (s.lostEffects b).doors = s.doors ∧ (s.lostEffects b).links = s.links ∧ (s.lostEffects b).ctl = s.ctl ∧
      (s.lostEffects b).pending = s.pending ∧ (s.lostEffects b).brk.sbApplied = s.brk.sbApplied ∧ (s.lostEffects b).brk.sbReleased = s.brk.sbReleased ∧
      (s.lostEffects b).brk.ebApplied = s.brk.ebApplied ∧ (s.lostEffects b).brk.ebReleased = s.brk.ebReleased ∧ (s.lostEffects b).plan.nextId = s.plan.nextId ∧
      (s.lostEffects b).plan.pendingRun = s.plan.pendingRun ∧ (s.lostEffects b).plan.watches = s.plan.watches ∧ (s.lostEffects b).plan.prev = s.plan.prev ∧
      (s.lostEffects b).line.mode = s.line.mode ∧ (s.lostEffects b).line.key = s.line.key ∧ (s.lostEffects b).line.loops = s.line.loops ∧
      (s.lostEffects b).line.restartPending = s.line.restartPending ∧ (s.lostEffects b).line.flags = s.line.flags ∧ (s.lostEffects b).line.atStop = s.line.atStop ∧
      (s.lostEffects b).gates.busReleased = s.gates.busReleased ∧ (s.lostEffects b).gates.trans = s.gates.trans ∧ (s.lostEffects b).gates.lastMain = s.gates.lastMain ∧
      (s.lostEffects b).gates.round = s.gates.round ∧ (s.lostEffects b).gates.classes = s.gates.classes ∧ (s.lostEffects b).gates.recent = s.gates.recent ∧
      (s.lostEffects b).gates.passback = s.gates.passback ∧ (s.lostEffects b).notices.settings = s.notices.settings ∧ (s.lostEffects b).notices.threshold = s.notices.threshold ∧
      (s.lostEffects b).drive.status = s.drive.status ∧ (s.lostEffects b).drive.silent = s.drive.silent ∧ (s.lostEffects b).drive.lastRef = s.drive.lastRef ∧
      (s.lostEffects b).drive.lastFrame = s.drive.lastFrame := by
  simp only [State.lostEffects]; (repeat' split) <;> simp

@[simp] theorem State.confEvent_frame (s : State) (c : Confidence) (k : PosCause) (a : Option Car) (i : Option Nat) (v : Option Int) :
    (s.confEvent c k a i v).now = s.now ∧ (s.confEvent c k a i v).geo = s.geo ∧ (s.confEvent c k a i v).doors = s.doors ∧
      (s.confEvent c k a i v).links = s.links ∧ (s.confEvent c k a i v).ctl = s.ctl ∧ (s.confEvent c k a i v).pending = s.pending ∧
      (s.confEvent c k a i v).brk.sbApplied = s.brk.sbApplied ∧ (s.confEvent c k a i v).brk.sbReleased = s.brk.sbReleased ∧ (s.confEvent c k a i v).brk.ebApplied = s.brk.ebApplied ∧
      (s.confEvent c k a i v).brk.ebReleased = s.brk.ebReleased ∧ (s.confEvent c k a i v).plan.nextId = s.plan.nextId ∧ (s.confEvent c k a i v).plan.pendingRun = s.plan.pendingRun ∧
      (s.confEvent c k a i v).plan.watches = s.plan.watches ∧ (s.confEvent c k a i v).plan.prev = s.plan.prev ∧ (s.confEvent c k a i v).line.mode = s.line.mode ∧
      (s.confEvent c k a i v).line.key = s.line.key ∧ (s.confEvent c k a i v).line.loops = s.line.loops ∧ (s.confEvent c k a i v).line.restartPending = s.line.restartPending ∧
      (s.confEvent c k a i v).line.flags = s.line.flags ∧ (s.confEvent c k a i v).line.atStop = s.line.atStop ∧ (s.confEvent c k a i v).gates.busReleased = s.gates.busReleased ∧
      (s.confEvent c k a i v).gates.trans = s.gates.trans ∧ (s.confEvent c k a i v).gates.lastMain = s.gates.lastMain ∧ (s.confEvent c k a i v).gates.round = s.gates.round ∧
      (s.confEvent c k a i v).gates.classes = s.gates.classes ∧ (s.confEvent c k a i v).gates.recent = s.gates.recent ∧ (s.confEvent c k a i v).gates.passback = s.gates.passback ∧
      (s.confEvent c k a i v).notices.settings = s.notices.settings ∧ (s.confEvent c k a i v).notices.threshold = s.notices.threshold ∧ (s.confEvent c k a i v).drive.status = s.drive.status ∧
      (s.confEvent c k a i v).drive.silent = s.drive.silent ∧ (s.confEvent c k a i v).drive.lastRef = s.drive.lastRef ∧ (s.confEvent c k a i v).drive.lastFrame = s.drive.lastFrame ∧
      (s.confEvent c k a i v).trk.count = s.trk.count ∧ (s.confEvent c k a i v).trk.countBase = s.trk.countBase ∧ (s.confEvent c k a i v).trk.xBase = s.trk.xBase ∧
      (s.confEvent c k a i v).trk.sigma = s.trk.sigma ∧ (s.confEvent c k a i v).trk.window = s.trk.window ∧ (s.confEvent c k a i v).trk.xA = s.trk.xA ∧
      (s.confEvent c k a i v).trk.xB = s.trk.xB ∧ (s.confEvent c k a i v).trk.v = s.trk.v ∧ (s.confEvent c k a i v).trk.stillCount = s.trk.stillCount ∧
      (s.confEvent c k a i v).trk.still = s.trk.still ∧ (s.confEvent c k a i v).trk.stillSeen = s.trk.stillSeen ∧ (s.confEvent c k a i v).trk.motion = s.trk.motion ∧
      (s.confEvent c k a i v).trk.lastDir = s.trk.lastDir ∧ (s.confEvent c k a i v).trk.sampleTime = s.trk.sampleTime ∧ (s.confEvent c k a i v).trk.lastMarker = s.trk.lastMarker ∧
      (s.confEvent c k a i v).trk.stretch = s.trk.stretch := by
  simp [State.confEvent]

@[simp] theorem State.confQuiet_frame (s : State) (c : Confidence) (k : PosCause) (a : Option Car) (i : Option Nat) (v : Option Int) :
    (s.confQuiet c k a i v).now = s.now ∧ (s.confQuiet c k a i v).geo = s.geo ∧ (s.confQuiet c k a i v).doors = s.doors ∧
      (s.confQuiet c k a i v).links = s.links ∧ (s.confQuiet c k a i v).ctl = s.ctl ∧ (s.confQuiet c k a i v).pending = s.pending ∧
      (s.confQuiet c k a i v).brk.sbApplied = s.brk.sbApplied ∧ (s.confQuiet c k a i v).brk.sbReleased = s.brk.sbReleased ∧ (s.confQuiet c k a i v).brk.ebApplied = s.brk.ebApplied ∧
      (s.confQuiet c k a i v).brk.ebReleased = s.brk.ebReleased ∧ (s.confQuiet c k a i v).plan.nextId = s.plan.nextId ∧ (s.confQuiet c k a i v).plan.pendingRun = s.plan.pendingRun ∧
      (s.confQuiet c k a i v).plan.watches = s.plan.watches ∧ (s.confQuiet c k a i v).plan.prev = s.plan.prev ∧ (s.confQuiet c k a i v).line.mode = s.line.mode ∧
      (s.confQuiet c k a i v).line.key = s.line.key ∧ (s.confQuiet c k a i v).line.loops = s.line.loops ∧ (s.confQuiet c k a i v).line.restartPending = s.line.restartPending ∧
      (s.confQuiet c k a i v).line.flags = s.line.flags ∧ (s.confQuiet c k a i v).line.atStop = s.line.atStop ∧ (s.confQuiet c k a i v).gates.busReleased = s.gates.busReleased ∧
      (s.confQuiet c k a i v).gates.trans = s.gates.trans ∧ (s.confQuiet c k a i v).gates.lastMain = s.gates.lastMain ∧ (s.confQuiet c k a i v).gates.round = s.gates.round ∧
      (s.confQuiet c k a i v).gates.classes = s.gates.classes ∧ (s.confQuiet c k a i v).gates.recent = s.gates.recent ∧ (s.confQuiet c k a i v).gates.passback = s.gates.passback ∧
      (s.confQuiet c k a i v).notices.settings = s.notices.settings ∧ (s.confQuiet c k a i v).notices.threshold = s.notices.threshold ∧ (s.confQuiet c k a i v).drive.status = s.drive.status ∧
      (s.confQuiet c k a i v).drive.silent = s.drive.silent ∧ (s.confQuiet c k a i v).drive.lastRef = s.drive.lastRef ∧ (s.confQuiet c k a i v).drive.lastFrame = s.drive.lastFrame ∧
      (s.confQuiet c k a i v).trk.count = s.trk.count ∧ (s.confQuiet c k a i v).trk.countBase = s.trk.countBase ∧ (s.confQuiet c k a i v).trk.xBase = s.trk.xBase ∧
      (s.confQuiet c k a i v).trk.sigma = s.trk.sigma ∧ (s.confQuiet c k a i v).trk.window = s.trk.window ∧ (s.confQuiet c k a i v).trk.xA = s.trk.xA ∧
      (s.confQuiet c k a i v).trk.xB = s.trk.xB ∧ (s.confQuiet c k a i v).trk.v = s.trk.v ∧ (s.confQuiet c k a i v).trk.stillCount = s.trk.stillCount ∧
      (s.confQuiet c k a i v).trk.still = s.trk.still ∧ (s.confQuiet c k a i v).trk.stillSeen = s.trk.stillSeen ∧ (s.confQuiet c k a i v).trk.motion = s.trk.motion ∧
      (s.confQuiet c k a i v).trk.lastDir = s.trk.lastDir ∧ (s.confQuiet c k a i v).trk.sampleTime = s.trk.sampleTime ∧ (s.confQuiet c k a i v).trk.lastMarker = s.trk.lastMarker ∧
      (s.confQuiet c k a i v).trk.stretch = s.trk.stretch := by
  simp only [State.confQuiet]; (repeat' split) <;> simp

@[simp] theorem State.reportA_frame (s : State) (m : Marker) :
    (s.reportA m).now = s.now ∧ (s.reportA m).geo = s.geo ∧ (s.reportA m).doors = s.doors ∧
      (s.reportA m).links = s.links ∧ (s.reportA m).ctl = s.ctl ∧ (s.reportA m).pending = s.pending ∧
      (s.reportA m).brk.sbApplied = s.brk.sbApplied ∧ (s.reportA m).brk.sbReleased = s.brk.sbReleased ∧ (s.reportA m).brk.ebApplied = s.brk.ebApplied ∧
      (s.reportA m).brk.ebReleased = s.brk.ebReleased ∧ (s.reportA m).plan.nextId = s.plan.nextId ∧ (s.reportA m).plan.pendingRun = s.plan.pendingRun ∧
      (s.reportA m).plan.watches = s.plan.watches ∧ (s.reportA m).plan.prev = s.plan.prev ∧ (s.reportA m).line.mode = s.line.mode ∧
      (s.reportA m).line.key = s.line.key ∧ (s.reportA m).line.loops = s.line.loops ∧ (s.reportA m).line.restartPending = s.line.restartPending ∧
      (s.reportA m).line.flags = s.line.flags ∧ (s.reportA m).gates.busReleased = s.gates.busReleased ∧ (s.reportA m).gates.trans = s.gates.trans ∧
      (s.reportA m).gates.lastMain = s.gates.lastMain ∧ (s.reportA m).gates.round = s.gates.round ∧ (s.reportA m).gates.classes = s.gates.classes ∧
      (s.reportA m).gates.recent = s.gates.recent ∧ (s.reportA m).gates.passback = s.gates.passback ∧ (s.reportA m).notices.settings = s.notices.settings ∧
      (s.reportA m).notices.threshold = s.notices.threshold ∧ (s.reportA m).drive.status = s.drive.status ∧ (s.reportA m).drive.silent = s.drive.silent ∧
      (s.reportA m).drive.lastRef = s.drive.lastRef ∧ (s.reportA m).drive.lastFrame = s.drive.lastFrame ∧ (s.reportA m).trk.count = s.trk.count ∧
      (s.reportA m).trk.countBase = s.trk.countBase ∧ (s.reportA m).trk.sigma = s.trk.sigma ∧ (s.reportA m).trk.v = s.trk.v ∧
      (s.reportA m).trk.still = s.trk.still ∧ (s.reportA m).trk.motion = s.trk.motion ∧ (s.reportA m).trk.lastDir = s.trk.lastDir ∧
      (s.reportA m).trk.sampleTime = s.trk.sampleTime ∧ (s.reportA m).trk.stretch = s.trk.stretch := by
  simp only [State.reportA]; (repeat' split) <;> simp [Tracker.correct, Tracker.accept]

@[simp] theorem State.reportB_frame (s : State) (m : Marker) :
    (s.reportB m).now = s.now ∧ (s.reportB m).geo = s.geo ∧ (s.reportB m).doors = s.doors ∧
      (s.reportB m).links = s.links ∧ (s.reportB m).ctl = s.ctl ∧ (s.reportB m).pending = s.pending ∧
      (s.reportB m).brk.sbApplied = s.brk.sbApplied ∧ (s.reportB m).brk.sbReleased = s.brk.sbReleased ∧ (s.reportB m).brk.ebApplied = s.brk.ebApplied ∧
      (s.reportB m).brk.ebReleased = s.brk.ebReleased ∧ (s.reportB m).plan.nextId = s.plan.nextId ∧ (s.reportB m).plan.pendingRun = s.plan.pendingRun ∧
      (s.reportB m).plan.watches = s.plan.watches ∧ (s.reportB m).plan.prev = s.plan.prev ∧ (s.reportB m).line.mode = s.line.mode ∧
      (s.reportB m).line.key = s.line.key ∧ (s.reportB m).line.loops = s.line.loops ∧ (s.reportB m).line.restartPending = s.line.restartPending ∧
      (s.reportB m).line.flags = s.line.flags ∧ (s.reportB m).gates.busReleased = s.gates.busReleased ∧ (s.reportB m).gates.trans = s.gates.trans ∧
      (s.reportB m).gates.lastMain = s.gates.lastMain ∧ (s.reportB m).gates.round = s.gates.round ∧ (s.reportB m).gates.classes = s.gates.classes ∧
      (s.reportB m).gates.recent = s.gates.recent ∧ (s.reportB m).gates.passback = s.gates.passback ∧ (s.reportB m).notices.settings = s.notices.settings ∧
      (s.reportB m).notices.threshold = s.notices.threshold ∧ (s.reportB m).drive.status = s.drive.status ∧ (s.reportB m).drive.silent = s.drive.silent ∧
      (s.reportB m).drive.lastRef = s.drive.lastRef ∧ (s.reportB m).drive.lastFrame = s.drive.lastFrame ∧ (s.reportB m).trk.count = s.trk.count ∧
      (s.reportB m).trk.countBase = s.trk.countBase ∧ (s.reportB m).trk.xBase = s.trk.xBase ∧ (s.reportB m).trk.xA = s.trk.xA ∧
      (s.reportB m).trk.window = s.trk.window ∧ (s.reportB m).trk.v = s.trk.v ∧ (s.reportB m).trk.still = s.trk.still ∧
      (s.reportB m).trk.motion = s.trk.motion ∧ (s.reportB m).trk.lastDir = s.trk.lastDir ∧ (s.reportB m).trk.sampleTime = s.trk.sampleTime := by
  simp only [State.reportB]; (repeat' split) <;> simp [Tracker.accept]

@[simp] theorem State.missTest_frame (s : State) (c : Car) :
    (s.missTest c).now = s.now ∧ (s.missTest c).geo = s.geo ∧ (s.missTest c).doors = s.doors ∧
      (s.missTest c).links = s.links ∧ (s.missTest c).ctl = s.ctl ∧ (s.missTest c).pending = s.pending ∧
      (s.missTest c).brk.sbApplied = s.brk.sbApplied ∧ (s.missTest c).brk.sbReleased = s.brk.sbReleased ∧ (s.missTest c).brk.ebApplied = s.brk.ebApplied ∧
      (s.missTest c).brk.ebReleased = s.brk.ebReleased ∧ (s.missTest c).plan.nextId = s.plan.nextId ∧ (s.missTest c).plan.pendingRun = s.plan.pendingRun ∧
      (s.missTest c).plan.watches = s.plan.watches ∧ (s.missTest c).plan.prev = s.plan.prev ∧ (s.missTest c).line.mode = s.line.mode ∧
      (s.missTest c).line.key = s.line.key ∧ (s.missTest c).line.loops = s.line.loops ∧ (s.missTest c).line.restartPending = s.line.restartPending ∧
      (s.missTest c).line.flags = s.line.flags ∧ (s.missTest c).line.atStop = s.line.atStop ∧ (s.missTest c).gates.busReleased = s.gates.busReleased ∧
      (s.missTest c).gates.trans = s.gates.trans ∧ (s.missTest c).gates.lastMain = s.gates.lastMain ∧ (s.missTest c).gates.round = s.gates.round ∧
      (s.missTest c).gates.classes = s.gates.classes ∧ (s.missTest c).gates.recent = s.gates.recent ∧ (s.missTest c).gates.passback = s.gates.passback ∧
      (s.missTest c).notices.settings = s.notices.settings ∧ (s.missTest c).notices.threshold = s.notices.threshold ∧ (s.missTest c).drive.status = s.drive.status ∧
      (s.missTest c).drive.silent = s.drive.silent ∧ (s.missTest c).drive.lastRef = s.drive.lastRef ∧ (s.missTest c).drive.lastFrame = s.drive.lastFrame ∧
      (s.missTest c).trk.count = s.trk.count ∧ (s.missTest c).trk.countBase = s.trk.countBase ∧ (s.missTest c).trk.xBase = s.trk.xBase ∧
      (s.missTest c).trk.sigma = s.trk.sigma ∧ (s.missTest c).trk.window = s.trk.window ∧ (s.missTest c).trk.xA = s.trk.xA ∧
      (s.missTest c).trk.xB = s.trk.xB ∧ (s.missTest c).trk.v = s.trk.v ∧ (s.missTest c).trk.stillCount = s.trk.stillCount ∧
      (s.missTest c).trk.still = s.trk.still ∧ (s.missTest c).trk.stillSeen = s.trk.stillSeen ∧ (s.missTest c).trk.motion = s.trk.motion ∧
      (s.missTest c).trk.lastDir = s.trk.lastDir ∧ (s.missTest c).trk.sampleTime = s.trk.sampleTime ∧ (s.missTest c).trk.lastMarker = s.trk.lastMarker ∧
      (s.missTest c).trk.stretch = s.trk.stretch := by
  simp only [State.missTest]; (repeat' split) <;> simp

@[simp] theorem State.trackSample_frame (s : State) :
    (s.trackSample).now = s.now ∧ (s.trackSample).geo = s.geo ∧ (s.trackSample).sup = s.sup ∧
      (s.trackSample).plan = s.plan ∧ (s.trackSample).brk = s.brk ∧ (s.trackSample).doors = s.doors ∧
      (s.trackSample).gates = s.gates ∧ (s.trackSample).tally = s.tally ∧ (s.trackSample).line = s.line ∧
      (s.trackSample).links = s.links ∧ (s.trackSample).drive = s.drive ∧ (s.trackSample).ctl = s.ctl ∧
      (s.trackSample).notices = s.notices ∧ (s.trackSample).freeSeq = s.freeSeq ∧ (s.trackSample).pending = s.pending ∧
      (s.trackSample).trk.count = s.trk.count ∧ (s.trackSample).trk.sigma = s.trk.sigma ∧ (s.trackSample).trk.conf = s.trk.conf ∧
      (s.trackSample).trk.misses = s.trk.misses ∧ (s.trackSample).trk.good = s.trk.good ∧ (s.trackSample).trk.lastMarker = s.trk.lastMarker ∧
      (s.trackSample).trk.stretch = s.trk.stretch := by
  simp only [State.trackSample]; split <;> simp [Tracker.expectAll, Tracker.measure, Tracker.place, Tracker.moveBase] <;> split <;> simp

@[simp] theorem State.tracker_frame (s : State) :
    (s.tracker).now = s.now ∧ (s.tracker).geo = s.geo ∧ (s.tracker).doors = s.doors ∧
      (s.tracker).links = s.links ∧ (s.tracker).ctl = s.ctl ∧ (s.tracker).pending = s.pending ∧
      (s.tracker).brk.sbApplied = s.brk.sbApplied ∧ (s.tracker).brk.sbReleased = s.brk.sbReleased ∧ (s.tracker).brk.ebApplied = s.brk.ebApplied ∧
      (s.tracker).brk.ebReleased = s.brk.ebReleased ∧ (s.tracker).plan.nextId = s.plan.nextId ∧ (s.tracker).plan.pendingRun = s.plan.pendingRun ∧
      (s.tracker).plan.watches = s.plan.watches ∧ (s.tracker).plan.prev = s.plan.prev ∧ (s.tracker).line.mode = s.line.mode ∧
      (s.tracker).line.key = s.line.key ∧ (s.tracker).line.loops = s.line.loops ∧ (s.tracker).line.restartPending = s.line.restartPending ∧
      (s.tracker).line.flags = s.line.flags ∧ (s.tracker).line.atStop = s.line.atStop ∧ (s.tracker).gates.busReleased = s.gates.busReleased ∧
      (s.tracker).gates.trans = s.gates.trans ∧ (s.tracker).gates.lastMain = s.gates.lastMain ∧ (s.tracker).gates.round = s.gates.round ∧
      (s.tracker).gates.classes = s.gates.classes ∧ (s.tracker).gates.recent = s.gates.recent ∧ (s.tracker).gates.passback = s.gates.passback ∧
      (s.tracker).notices.settings = s.notices.settings ∧ (s.tracker).notices.threshold = s.notices.threshold ∧ (s.tracker).drive.status = s.drive.status ∧
      (s.tracker).drive.silent = s.drive.silent ∧ (s.tracker).drive.lastRef = s.drive.lastRef ∧ (s.tracker).drive.lastFrame = s.drive.lastFrame ∧
      (s.tracker).trk.count = s.trk.count ∧ (s.tracker).trk.sigma = s.trk.sigma ∧ (s.tracker).trk.lastMarker = s.trk.lastMarker ∧
      (s.tracker).trk.stretch = s.trk.stretch := by
  simp [State.tracker]

@[simp] theorem State.encoderFault_frame (s : State) :
    (s.encoderFault).now = s.now ∧ (s.encoderFault).geo = s.geo ∧ (s.encoderFault).doors = s.doors ∧
      (s.encoderFault).links = s.links ∧ (s.encoderFault).ctl = s.ctl ∧ (s.encoderFault).pending = s.pending ∧
      (s.encoderFault).brk.sbApplied = s.brk.sbApplied ∧ (s.encoderFault).brk.sbReleased = s.brk.sbReleased ∧ (s.encoderFault).brk.ebApplied = s.brk.ebApplied ∧
      (s.encoderFault).brk.ebReleased = s.brk.ebReleased ∧ (s.encoderFault).plan.nextId = s.plan.nextId ∧ (s.encoderFault).plan.pendingRun = s.plan.pendingRun ∧
      (s.encoderFault).plan.watches = s.plan.watches ∧ (s.encoderFault).plan.prev = s.plan.prev ∧ (s.encoderFault).line.mode = s.line.mode ∧
      (s.encoderFault).line.key = s.line.key ∧ (s.encoderFault).line.loops = s.line.loops ∧ (s.encoderFault).line.restartPending = s.line.restartPending ∧
      (s.encoderFault).line.flags = s.line.flags ∧ (s.encoderFault).line.atStop = s.line.atStop ∧ (s.encoderFault).gates.busReleased = s.gates.busReleased ∧
      (s.encoderFault).gates.trans = s.gates.trans ∧ (s.encoderFault).gates.lastMain = s.gates.lastMain ∧ (s.encoderFault).gates.round = s.gates.round ∧
      (s.encoderFault).gates.classes = s.gates.classes ∧ (s.encoderFault).gates.recent = s.gates.recent ∧ (s.encoderFault).gates.passback = s.gates.passback ∧
      (s.encoderFault).notices.settings = s.notices.settings ∧ (s.encoderFault).notices.threshold = s.notices.threshold ∧ (s.encoderFault).drive.status = s.drive.status ∧
      (s.encoderFault).drive.silent = s.drive.silent ∧ (s.encoderFault).drive.lastRef = s.drive.lastRef ∧ (s.encoderFault).drive.lastFrame = s.drive.lastFrame ∧
      (s.encoderFault).trk.count = s.trk.count ∧ (s.encoderFault).trk.countBase = s.trk.countBase ∧ (s.encoderFault).trk.xBase = s.trk.xBase ∧
      (s.encoderFault).trk.sigma = s.trk.sigma ∧ (s.encoderFault).trk.window = s.trk.window ∧ (s.encoderFault).trk.xA = s.trk.xA ∧
      (s.encoderFault).trk.xB = s.trk.xB ∧ (s.encoderFault).trk.v = s.trk.v ∧ (s.encoderFault).trk.stillCount = s.trk.stillCount ∧
      (s.encoderFault).trk.still = s.trk.still ∧ (s.encoderFault).trk.stillSeen = s.trk.stillSeen ∧ (s.encoderFault).trk.motion = s.trk.motion ∧
      (s.encoderFault).trk.lastDir = s.trk.lastDir ∧ (s.encoderFault).trk.sampleTime = s.trk.sampleTime ∧ (s.encoderFault).trk.lastMarker = s.trk.lastMarker ∧
      (s.encoderFault).trk.stretch = s.trk.stretch := by
  simp [State.encoderFault]

@[simp] theorem State.reference_frame (s : State) (x : Int) :
    (s.reference x).now = s.now ∧ (s.reference x).geo = s.geo ∧ (s.reference x).sup = s.sup ∧
      (s.reference x).brk = s.brk ∧ (s.reference x).doors = s.doors ∧ (s.reference x).gates = s.gates ∧
      (s.reference x).tally = s.tally ∧ (s.reference x).links = s.links ∧ (s.reference x).drive = s.drive ∧
      (s.reference x).ctl = s.ctl ∧ (s.reference x).freeSeq = s.freeSeq ∧ (s.reference x).pending = s.pending ∧
      (s.reference x).plan.nextId = s.plan.nextId ∧ (s.reference x).plan.pendingRun = s.plan.pendingRun ∧ (s.reference x).plan.lastRun = s.plan.lastRun ∧
      (s.reference x).plan.watches = s.plan.watches ∧ (s.reference x).plan.ref = s.plan.ref ∧ (s.reference x).plan.prev = s.plan.prev ∧
      (s.reference x).line.mode = s.line.mode ∧ (s.reference x).line.key = s.line.key ∧ (s.reference x).line.loops = s.line.loops ∧
      (s.reference x).line.restartPending = s.line.restartPending ∧ (s.reference x).line.flags = s.line.flags ∧ (s.reference x).notices.settings = s.notices.settings ∧
      (s.reference x).notices.threshold = s.notices.threshold := by
  simp [State.reference]

@[simp] theorem State.commitPosition_frame (s : State) :
    s.commitPosition.now = s.now ∧ s.commitPosition.geo = s.geo ∧ s.commitPosition.doors = s.doors ∧
      s.commitPosition.links = s.links ∧ s.commitPosition.ctl = s.ctl ∧ s.commitPosition.pending = s.pending ∧
      s.commitPosition.brk.sbApplied = s.brk.sbApplied ∧ s.commitPosition.brk.sbReleased = s.brk.sbReleased ∧ s.commitPosition.brk.ebApplied = s.brk.ebApplied ∧
      s.commitPosition.brk.ebReleased = s.brk.ebReleased ∧ s.commitPosition.plan.nextId = s.plan.nextId ∧ s.commitPosition.plan.pendingRun = s.plan.pendingRun ∧
      s.commitPosition.plan.watches = s.plan.watches ∧ s.commitPosition.plan.prev = s.plan.prev ∧ s.commitPosition.line.mode = s.line.mode ∧
      s.commitPosition.line.key = s.line.key ∧ s.commitPosition.line.loops = s.line.loops ∧ s.commitPosition.line.restartPending = s.line.restartPending ∧
      s.commitPosition.line.flags = s.line.flags ∧ s.commitPosition.gates.busReleased = s.gates.busReleased ∧ s.commitPosition.gates.trans = s.gates.trans ∧
      s.commitPosition.gates.lastMain = s.gates.lastMain ∧ s.commitPosition.gates.round = s.gates.round ∧ s.commitPosition.gates.classes = s.gates.classes ∧
      s.commitPosition.gates.recent = s.gates.recent ∧ s.commitPosition.gates.passback = s.gates.passback ∧ s.commitPosition.notices.settings = s.notices.settings ∧
      s.commitPosition.notices.threshold = s.notices.threshold ∧ s.commitPosition.drive.status = s.drive.status ∧ s.commitPosition.drive.silent = s.drive.silent ∧
      s.commitPosition.drive.lastRef = s.drive.lastRef ∧ s.commitPosition.drive.lastFrame = s.drive.lastFrame := by
  simp [State.commitPosition]

@[simp] theorem State.raiseHighest_frame (s : State) (b : Band) :
    (s.raiseHighest b).now = s.now ∧ (s.raiseHighest b).geo = s.geo ∧ (s.raiseHighest b).trk = s.trk ∧
      (s.raiseHighest b).brk = s.brk ∧ (s.raiseHighest b).doors = s.doors ∧ (s.raiseHighest b).gates = s.gates ∧
      (s.raiseHighest b).tally = s.tally ∧ (s.raiseHighest b).line = s.line ∧ (s.raiseHighest b).links = s.links ∧
      (s.raiseHighest b).drive = s.drive ∧ (s.raiseHighest b).ctl = s.ctl ∧ (s.raiseHighest b).notices = s.notices ∧
      (s.raiseHighest b).freeSeq = s.freeSeq ∧ (s.raiseHighest b).pending = s.pending ∧ (s.raiseHighest b).sup.env = s.sup.env ∧
      (s.raiseHighest b).sup.trip = s.sup.trip ∧ (s.raiseHighest b).plan.nextId = s.plan.nextId ∧ (s.raiseHighest b).plan.pendingRun = s.plan.pendingRun ∧
      (s.raiseHighest b).plan.lastRun = s.plan.lastRun ∧ (s.raiseHighest b).plan.watches = s.plan.watches ∧ (s.raiseHighest b).plan.ref = s.plan.ref ∧
      (s.raiseHighest b).plan.prev = s.plan.prev := by
  simp only [State.raiseHighest]; (repeat' split) <;> simp

@[simp] theorem State.interventionNotice_frame (s : State) (k : Nat) (h : List Field) :
    (s.interventionNotice k h).now = s.now ∧ (s.interventionNotice k h).geo = s.geo ∧ (s.interventionNotice k h).trk = s.trk ∧
      (s.interventionNotice k h).sup = s.sup ∧ (s.interventionNotice k h).plan = s.plan ∧ (s.interventionNotice k h).brk = s.brk ∧
      (s.interventionNotice k h).doors = s.doors ∧ (s.interventionNotice k h).gates = s.gates ∧ (s.interventionNotice k h).tally = s.tally ∧
      (s.interventionNotice k h).line = s.line ∧ (s.interventionNotice k h).links = s.links ∧ (s.interventionNotice k h).drive = s.drive ∧
      (s.interventionNotice k h).ctl = s.ctl ∧ (s.interventionNotice k h).freeSeq = s.freeSeq ∧ (s.interventionNotice k h).pending = s.pending ∧
      (s.interventionNotice k h).notices.settings = s.notices.settings ∧ (s.interventionNotice k h).notices.threshold = s.notices.threshold := by
  simp [State.interventionNotice]

@[simp] theorem State.updateWarning_frame (s : State) (w : Option Source) :
    (s.updateWarning w).now = s.now ∧ (s.updateWarning w).geo = s.geo ∧ (s.updateWarning w).trk = s.trk ∧
      (s.updateWarning w).plan = s.plan ∧ (s.updateWarning w).brk = s.brk ∧ (s.updateWarning w).doors = s.doors ∧
      (s.updateWarning w).gates = s.gates ∧ (s.updateWarning w).tally = s.tally ∧ (s.updateWarning w).line = s.line ∧
      (s.updateWarning w).links = s.links ∧ (s.updateWarning w).drive = s.drive ∧ (s.updateWarning w).ctl = s.ctl ∧
      (s.updateWarning w).freeSeq = s.freeSeq ∧ (s.updateWarning w).pending = s.pending ∧ (s.updateWarning w).sup.env = s.sup.env ∧
      (s.updateWarning w).sup.trip = s.sup.trip ∧ (s.updateWarning w).notices.settings = s.notices.settings ∧ (s.updateWarning w).notices.threshold = s.notices.threshold := by
  simp only [State.updateWarning]; (repeat' split) <;> simp

@[simp] theorem State.setLatch_frame (s : State) (y : Source) :
    (s.setLatch y).now = s.now ∧ (s.setLatch y).geo = s.geo ∧ (s.setLatch y).trk = s.trk ∧
      (s.setLatch y).plan = s.plan ∧ (s.setLatch y).brk = s.brk ∧ (s.setLatch y).doors = s.doors ∧
      (s.setLatch y).gates = s.gates ∧ (s.setLatch y).tally = s.tally ∧ (s.setLatch y).line = s.line ∧
      (s.setLatch y).links = s.links ∧ (s.setLatch y).drive = s.drive ∧ (s.setLatch y).ctl = s.ctl ∧
      (s.setLatch y).freeSeq = s.freeSeq ∧ (s.setLatch y).pending = s.pending ∧ (s.setLatch y).sup.env = s.sup.env ∧
      (s.setLatch y).sup.trip = s.sup.trip ∧ (s.setLatch y).notices.settings = s.notices.settings ∧ (s.setLatch y).notices.threshold = s.notices.threshold := by
  simp [State.setLatch]

@[simp] theorem State.bandEmergency_frame (s : State) (c : Cause) :
    (s.bandEmergency c).now = s.now ∧ (s.bandEmergency c).geo = s.geo ∧ (s.bandEmergency c).trk = s.trk ∧
      (s.bandEmergency c).doors = s.doors ∧ (s.bandEmergency c).links = s.links ∧ (s.bandEmergency c).ctl = s.ctl ∧
      (s.bandEmergency c).freeSeq = s.freeSeq ∧ (s.bandEmergency c).pending = s.pending ∧ (s.bandEmergency c).sup.env = s.sup.env ∧
      (s.bandEmergency c).brk.sbApplied = s.brk.sbApplied ∧ (s.bandEmergency c).brk.sbReleased = s.brk.sbReleased ∧ (s.bandEmergency c).brk.ebApplied = s.brk.ebApplied ∧
      (s.bandEmergency c).brk.ebReleased = s.brk.ebReleased ∧ (s.bandEmergency c).plan.nextId = s.plan.nextId ∧ (s.bandEmergency c).plan.pendingRun = s.plan.pendingRun ∧
      (s.bandEmergency c).plan.lastRun = s.plan.lastRun ∧ (s.bandEmergency c).plan.watches = s.plan.watches ∧ (s.bandEmergency c).plan.prev = s.plan.prev ∧
      (s.bandEmergency c).line.mode = s.line.mode ∧ (s.bandEmergency c).line.key = s.line.key ∧ (s.bandEmergency c).line.loops = s.line.loops ∧
      (s.bandEmergency c).line.restartPending = s.line.restartPending ∧ (s.bandEmergency c).line.flags = s.line.flags ∧ (s.bandEmergency c).line.atStop = s.line.atStop ∧
      (s.bandEmergency c).gates.busReleased = s.gates.busReleased ∧ (s.bandEmergency c).gates.trans = s.gates.trans ∧ (s.bandEmergency c).gates.lastMain = s.gates.lastMain ∧
      (s.bandEmergency c).gates.round = s.gates.round ∧ (s.bandEmergency c).gates.classes = s.gates.classes ∧ (s.bandEmergency c).gates.recent = s.gates.recent ∧
      (s.bandEmergency c).gates.passback = s.gates.passback ∧ (s.bandEmergency c).notices.settings = s.notices.settings ∧ (s.bandEmergency c).notices.threshold = s.notices.threshold ∧
      (s.bandEmergency c).drive.status = s.drive.status ∧ (s.bandEmergency c).drive.silent = s.drive.silent ∧ (s.bandEmergency c).drive.lastRef = s.drive.lastRef ∧
      (s.bandEmergency c).drive.lastFrame = s.drive.lastFrame := by
  simp [State.bandEmergency]

@[simp] theorem State.combineBands_frame (s : State) (r : Run) :
    (s.combineBands r).now = s.now ∧ (s.combineBands r).geo = s.geo ∧ (s.combineBands r).trk = s.trk ∧
      (s.combineBands r).doors = s.doors ∧ (s.combineBands r).links = s.links ∧ (s.combineBands r).ctl = s.ctl ∧
      (s.combineBands r).freeSeq = s.freeSeq ∧ (s.combineBands r).pending = s.pending ∧ (s.combineBands r).sup.env = s.sup.env ∧
      (s.combineBands r).brk.sbApplied = s.brk.sbApplied ∧ (s.combineBands r).brk.sbReleased = s.brk.sbReleased ∧ (s.combineBands r).brk.ebApplied = s.brk.ebApplied ∧
      (s.combineBands r).brk.ebReleased = s.brk.ebReleased ∧ (s.combineBands r).plan.nextId = s.plan.nextId ∧ (s.combineBands r).plan.pendingRun = s.plan.pendingRun ∧
      (s.combineBands r).plan.lastRun = s.plan.lastRun ∧ (s.combineBands r).plan.watches = s.plan.watches ∧ (s.combineBands r).plan.prev = s.plan.prev ∧
      (s.combineBands r).line.mode = s.line.mode ∧ (s.combineBands r).line.key = s.line.key ∧ (s.combineBands r).line.loops = s.line.loops ∧
      (s.combineBands r).line.restartPending = s.line.restartPending ∧ (s.combineBands r).line.flags = s.line.flags ∧ (s.combineBands r).line.atStop = s.line.atStop ∧
      (s.combineBands r).gates.busReleased = s.gates.busReleased ∧ (s.combineBands r).gates.trans = s.gates.trans ∧ (s.combineBands r).gates.lastMain = s.gates.lastMain ∧
      (s.combineBands r).gates.round = s.gates.round ∧ (s.combineBands r).gates.classes = s.gates.classes ∧ (s.combineBands r).gates.recent = s.gates.recent ∧
      (s.combineBands r).gates.passback = s.gates.passback ∧ (s.combineBands r).notices.settings = s.notices.settings ∧ (s.combineBands r).notices.threshold = s.notices.threshold ∧
      (s.combineBands r).drive.status = s.drive.status ∧ (s.combineBands r).drive.silent = s.drive.silent ∧ (s.combineBands r).drive.lastRef = s.drive.lastRef ∧
      (s.combineBands r).drive.lastFrame = s.drive.lastFrame := by
  simp only [State.combineBands]; (repeat' split) <;> simp

@[simp] theorem State.bands_frame (s : State) :
    (s.bands).now = s.now ∧ (s.bands).geo = s.geo ∧ (s.bands).trk = s.trk ∧
      (s.bands).doors = s.doors ∧ (s.bands).links = s.links ∧ (s.bands).ctl = s.ctl ∧
      (s.bands).freeSeq = s.freeSeq ∧ (s.bands).pending = s.pending ∧ (s.bands).sup.env = s.sup.env ∧
      (s.bands).brk.sbApplied = s.brk.sbApplied ∧ (s.bands).brk.sbReleased = s.brk.sbReleased ∧ (s.bands).brk.ebApplied = s.brk.ebApplied ∧
      (s.bands).brk.ebReleased = s.brk.ebReleased ∧ (s.bands).plan.nextId = s.plan.nextId ∧ (s.bands).plan.pendingRun = s.plan.pendingRun ∧
      (s.bands).plan.lastRun = s.plan.lastRun ∧ (s.bands).plan.watches = s.plan.watches ∧ (s.bands).plan.prev = s.plan.prev ∧
      (s.bands).line.mode = s.line.mode ∧ (s.bands).line.key = s.line.key ∧ (s.bands).line.loops = s.line.loops ∧
      (s.bands).line.restartPending = s.line.restartPending ∧ (s.bands).line.flags = s.line.flags ∧ (s.bands).line.atStop = s.line.atStop ∧
      (s.bands).gates.busReleased = s.gates.busReleased ∧ (s.bands).gates.trans = s.gates.trans ∧ (s.bands).gates.lastMain = s.gates.lastMain ∧
      (s.bands).gates.round = s.gates.round ∧ (s.bands).gates.classes = s.gates.classes ∧ (s.bands).gates.recent = s.gates.recent ∧
      (s.bands).gates.passback = s.gates.passback ∧ (s.bands).notices.settings = s.notices.settings ∧ (s.bands).notices.threshold = s.notices.threshold ∧
      (s.bands).drive.status = s.drive.status ∧ (s.bands).drive.silent = s.drive.silent ∧ (s.bands).drive.lastRef = s.drive.lastRef ∧
      (s.bands).drive.lastFrame = s.drive.lastFrame := by
  simp only [State.bands]; (repeat' split) <;> simp

@[simp] theorem State.motionCheck_frame (s : State) :
    (s.motionCheck).now = s.now ∧ (s.motionCheck).geo = s.geo ∧ (s.motionCheck).trk = s.trk ∧
      (s.motionCheck).doors = s.doors ∧ (s.motionCheck).links = s.links ∧ (s.motionCheck).ctl = s.ctl ∧
      (s.motionCheck).freeSeq = s.freeSeq ∧ (s.motionCheck).pending = s.pending ∧ (s.motionCheck).sup.env = s.sup.env ∧
      (s.motionCheck).brk.sbApplied = s.brk.sbApplied ∧ (s.motionCheck).brk.sbReleased = s.brk.sbReleased ∧ (s.motionCheck).brk.ebApplied = s.brk.ebApplied ∧
      (s.motionCheck).brk.ebReleased = s.brk.ebReleased ∧ (s.motionCheck).plan.nextId = s.plan.nextId ∧ (s.motionCheck).plan.pendingRun = s.plan.pendingRun ∧
      (s.motionCheck).plan.lastRun = s.plan.lastRun ∧ (s.motionCheck).plan.watches = s.plan.watches ∧ (s.motionCheck).plan.prev = s.plan.prev ∧
      (s.motionCheck).line.mode = s.line.mode ∧ (s.motionCheck).line.key = s.line.key ∧ (s.motionCheck).line.loops = s.line.loops ∧
      (s.motionCheck).line.restartPending = s.line.restartPending ∧ (s.motionCheck).line.flags = s.line.flags ∧ (s.motionCheck).line.atStop = s.line.atStop ∧
      (s.motionCheck).gates.busReleased = s.gates.busReleased ∧ (s.motionCheck).gates.trans = s.gates.trans ∧ (s.motionCheck).gates.lastMain = s.gates.lastMain ∧
      (s.motionCheck).gates.round = s.gates.round ∧ (s.motionCheck).gates.classes = s.gates.classes ∧ (s.motionCheck).gates.recent = s.gates.recent ∧
      (s.motionCheck).gates.passback = s.gates.passback ∧ (s.motionCheck).notices.settings = s.notices.settings ∧ (s.motionCheck).notices.threshold = s.notices.threshold ∧
      (s.motionCheck).drive.status = s.drive.status ∧ (s.motionCheck).drive.silent = s.drive.silent ∧ (s.motionCheck).drive.lastRef = s.drive.lastRef ∧
      (s.motionCheck).drive.lastFrame = s.drive.lastFrame := by
  simp only [State.motionCheck]; (repeat' split) <;> simp

@[simp] theorem State.notifyWatch_frame (s : State) (y : Int × Int) (n : Ix4) :
    (s.notifyWatch y n).now = s.now ∧ (s.notifyWatch y n).geo = s.geo ∧ (s.notifyWatch y n).trk = s.trk ∧
      (s.notifyWatch y n).sup = s.sup ∧ (s.notifyWatch y n).brk = s.brk ∧ (s.notifyWatch y n).doors = s.doors ∧
      (s.notifyWatch y n).gates = s.gates ∧ (s.notifyWatch y n).tally = s.tally ∧ (s.notifyWatch y n).line = s.line ∧
      (s.notifyWatch y n).links = s.links ∧ (s.notifyWatch y n).drive = s.drive ∧ (s.notifyWatch y n).ctl = s.ctl ∧
      (s.notifyWatch y n).freeSeq = s.freeSeq ∧ (s.notifyWatch y n).pending = s.pending ∧ (s.notifyWatch y n).plan.run = s.plan.run ∧
      (s.notifyWatch y n).plan.nextId = s.plan.nextId ∧ (s.notifyWatch y n).plan.pendingRun = s.plan.pendingRun ∧ (s.notifyWatch y n).plan.lastRun = s.plan.lastRun ∧
      (s.notifyWatch y n).plan.ref = s.plan.ref ∧ (s.notifyWatch y n).plan.prev = s.plan.prev ∧ (s.notifyWatch y n).notices.settings = s.notices.settings ∧
      (s.notifyWatch y n).notices.threshold = s.notices.threshold := by
  simp only [State.notifyWatch]; (repeat' split) <;> simp

@[simp] theorem State.notifyWatch_foldl_frame (s : State) (y : Int × Int) (l : List Ix4) :
    (l.foldl (fun s n => s.notifyWatch y n) s).now = s.now ∧ (l.foldl (fun s n => s.notifyWatch y n) s).geo = s.geo ∧ (l.foldl (fun s n => s.notifyWatch y n) s).trk = s.trk ∧
      (l.foldl (fun s n => s.notifyWatch y n) s).sup = s.sup ∧ (l.foldl (fun s n => s.notifyWatch y n) s).brk = s.brk ∧ (l.foldl (fun s n => s.notifyWatch y n) s).doors = s.doors ∧
      (l.foldl (fun s n => s.notifyWatch y n) s).gates = s.gates ∧ (l.foldl (fun s n => s.notifyWatch y n) s).tally = s.tally ∧ (l.foldl (fun s n => s.notifyWatch y n) s).line = s.line ∧
      (l.foldl (fun s n => s.notifyWatch y n) s).links = s.links ∧ (l.foldl (fun s n => s.notifyWatch y n) s).drive = s.drive ∧ (l.foldl (fun s n => s.notifyWatch y n) s).ctl = s.ctl ∧
      (l.foldl (fun s n => s.notifyWatch y n) s).freeSeq = s.freeSeq ∧ (l.foldl (fun s n => s.notifyWatch y n) s).pending = s.pending ∧ (l.foldl (fun s n => s.notifyWatch y n) s).plan.run = s.plan.run ∧
      (l.foldl (fun s n => s.notifyWatch y n) s).plan.nextId = s.plan.nextId ∧ (l.foldl (fun s n => s.notifyWatch y n) s).plan.pendingRun = s.plan.pendingRun ∧ (l.foldl (fun s n => s.notifyWatch y n) s).plan.lastRun = s.plan.lastRun ∧
      (l.foldl (fun s n => s.notifyWatch y n) s).plan.ref = s.plan.ref ∧ (l.foldl (fun s n => s.notifyWatch y n) s).plan.prev = s.plan.prev ∧ (l.foldl (fun s n => s.notifyWatch y n) s).notices.settings = s.notices.settings ∧
      (l.foldl (fun s n => s.notifyWatch y n) s).notices.threshold = s.notices.threshold :=
  ⟨foldl_keeps (fun s => s.now) _ (by simp) _ _,
   foldl_keeps (fun s => s.geo) _ (by simp) _ _,
   foldl_keeps (fun s => s.trk) _ (by simp) _ _,
   foldl_keeps (fun s => s.sup) _ (by simp) _ _,
   foldl_keeps (fun s => s.brk) _ (by simp) _ _,
   foldl_keeps (fun s => s.doors) _ (by simp) _ _,
   foldl_keeps (fun s => s.gates) _ (by simp) _ _,
   foldl_keeps (fun s => s.tally) _ (by simp) _ _,
   foldl_keeps (fun s => s.line) _ (by simp) _ _,
   foldl_keeps (fun s => s.links) _ (by simp) _ _,
   foldl_keeps (fun s => s.drive) _ (by simp) _ _,
   foldl_keeps (fun s => s.ctl) _ (by simp) _ _,
   foldl_keeps (fun s => s.freeSeq) _ (by simp) _ _,
   foldl_keeps (fun s => s.pending) _ (by simp) _ _,
   foldl_keeps (fun s => s.plan.run) _ (by simp) _ _,
   foldl_keeps (fun s => s.plan.nextId) _ (by simp) _ _,
   foldl_keeps (fun s => s.plan.pendingRun) _ (by simp) _ _,
   foldl_keeps (fun s => s.plan.lastRun) _ (by simp) _ _,
   foldl_keeps (fun s => s.plan.ref) _ (by simp) _ _,
   foldl_keeps (fun s => s.plan.prev) _ (by simp) _ _,
   foldl_keeps (fun s => s.notices.settings) _ (by simp) _ _,
   foldl_keeps (fun s => s.notices.threshold) _ (by simp) _ _⟩

@[simp] theorem State.notifyWatches_frame (s : State) :
    (s.notifyWatches).now = s.now ∧ (s.notifyWatches).geo = s.geo ∧ (s.notifyWatches).trk = s.trk ∧
      (s.notifyWatches).sup = s.sup ∧ (s.notifyWatches).brk = s.brk ∧ (s.notifyWatches).doors = s.doors ∧
      (s.notifyWatches).gates = s.gates ∧ (s.notifyWatches).tally = s.tally ∧ (s.notifyWatches).line = s.line ∧
      (s.notifyWatches).links = s.links ∧ (s.notifyWatches).drive = s.drive ∧ (s.notifyWatches).ctl = s.ctl ∧
      (s.notifyWatches).freeSeq = s.freeSeq ∧ (s.notifyWatches).pending = s.pending ∧ (s.notifyWatches).plan.run = s.plan.run ∧
      (s.notifyWatches).plan.nextId = s.plan.nextId ∧ (s.notifyWatches).plan.pendingRun = s.plan.pendingRun ∧ (s.notifyWatches).plan.lastRun = s.plan.lastRun ∧
      (s.notifyWatches).plan.ref = s.plan.ref ∧ (s.notifyWatches).notices.settings = s.notices.settings ∧ (s.notifyWatches).notices.threshold = s.notices.threshold := by
  simp only [State.notifyWatches]; (repeat' split) <;> simp

@[simp] theorem State.depart_frame (s : State) (r : Run) :
    (s.depart r).now = s.now ∧ (s.depart r).geo = s.geo ∧ (s.depart r).trk = s.trk ∧
      (s.depart r).doors = s.doors ∧ (s.depart r).links = s.links ∧ (s.depart r).ctl = s.ctl ∧
      (s.depart r).pending = s.pending ∧ (s.depart r).sup.env = s.sup.env ∧ (s.depart r).brk.sbApplied = s.brk.sbApplied ∧
      (s.depart r).brk.sbReleased = s.brk.sbReleased ∧ (s.depart r).brk.ebApplied = s.brk.ebApplied ∧ (s.depart r).brk.ebReleased = s.brk.ebReleased ∧
      (s.depart r).plan.nextId = s.plan.nextId ∧ (s.depart r).plan.lastRun = s.plan.lastRun ∧ (s.depart r).plan.watches = s.plan.watches ∧
      (s.depart r).plan.prev = s.plan.prev ∧ (s.depart r).line.mode = s.line.mode ∧ (s.depart r).line.key = s.line.key ∧
      (s.depart r).line.loops = s.line.loops ∧ (s.depart r).line.restartPending = s.line.restartPending ∧ (s.depart r).line.flags = s.line.flags ∧
      (s.depart r).line.atStop = s.line.atStop ∧ (s.depart r).gates.busReleased = s.gates.busReleased ∧ (s.depart r).gates.trans = s.gates.trans ∧
      (s.depart r).gates.lastMain = s.gates.lastMain ∧ (s.depart r).gates.round = s.gates.round ∧ (s.depart r).gates.classes = s.gates.classes ∧
      (s.depart r).gates.recent = s.gates.recent ∧ (s.depart r).gates.passback = s.gates.passback ∧ (s.depart r).notices.settings = s.notices.settings ∧
      (s.depart r).notices.threshold = s.notices.threshold ∧ (s.depart r).drive.status = s.drive.status ∧ (s.depart r).drive.silent = s.drive.silent ∧
      (s.depart r).drive.lastRef = s.drive.lastRef ∧ (s.depart r).drive.lastFrame = s.drive.lastFrame := by
  simp [State.depart]

@[simp] theorem State.leavePlanned_frame (s : State) (t : Tables) (r : Run) :
    (s.leavePlanned t r).now = s.now ∧ (s.leavePlanned t r).geo = s.geo ∧ (s.leavePlanned t r).trk = s.trk ∧
      (s.leavePlanned t r).doors = s.doors ∧ (s.leavePlanned t r).links = s.links ∧ (s.leavePlanned t r).ctl = s.ctl ∧
      (s.leavePlanned t r).pending = s.pending ∧ (s.leavePlanned t r).brk.sbApplied = s.brk.sbApplied ∧ (s.leavePlanned t r).brk.sbReleased = s.brk.sbReleased ∧
      (s.leavePlanned t r).brk.ebApplied = s.brk.ebApplied ∧ (s.leavePlanned t r).brk.ebReleased = s.brk.ebReleased ∧ (s.leavePlanned t r).plan.nextId = s.plan.nextId ∧
      (s.leavePlanned t r).plan.watches = s.plan.watches ∧ (s.leavePlanned t r).plan.prev = s.plan.prev ∧ (s.leavePlanned t r).line.mode = s.line.mode ∧
      (s.leavePlanned t r).line.key = s.line.key ∧ (s.leavePlanned t r).line.loops = s.line.loops ∧ (s.leavePlanned t r).line.restartPending = s.line.restartPending ∧
      (s.leavePlanned t r).line.flags = s.line.flags ∧ (s.leavePlanned t r).line.atStop = s.line.atStop ∧ (s.leavePlanned t r).gates.busReleased = s.gates.busReleased ∧
      (s.leavePlanned t r).gates.trans = s.gates.trans ∧ (s.leavePlanned t r).gates.lastMain = s.gates.lastMain ∧ (s.leavePlanned t r).gates.round = s.gates.round ∧
      (s.leavePlanned t r).gates.classes = s.gates.classes ∧ (s.leavePlanned t r).gates.recent = s.gates.recent ∧ (s.leavePlanned t r).gates.passback = s.gates.passback ∧
      (s.leavePlanned t r).notices.settings = s.notices.settings ∧ (s.leavePlanned t r).notices.threshold = s.notices.threshold ∧ (s.leavePlanned t r).drive.status = s.drive.status ∧
      (s.leavePlanned t r).drive.silent = s.drive.silent ∧ (s.leavePlanned t r).drive.lastRef = s.drive.lastRef ∧ (s.leavePlanned t r).drive.lastFrame = s.drive.lastFrame := by
  simp only [State.leavePlanned]; split <;> simp [Supervisor.forRun]

@[simp] theorem State.phase_frame (s : State) (r : Run) (x : RefTerms) :
    (s.phase r x).now = s.now ∧ (s.phase r x).geo = s.geo ∧ (s.phase r x).trk = s.trk ∧
      (s.phase r x).sup = s.sup ∧ (s.phase r x).brk = s.brk ∧ (s.phase r x).doors = s.doors ∧
      (s.phase r x).links = s.links ∧ (s.phase r x).drive = s.drive ∧ (s.phase r x).ctl = s.ctl ∧
      (s.phase r x).freeSeq = s.freeSeq ∧ (s.phase r x).pending = s.pending ∧ (s.phase r x).plan.nextId = s.plan.nextId ∧
      (s.phase r x).plan.pendingRun = s.plan.pendingRun ∧ (s.phase r x).plan.lastRun = s.plan.lastRun ∧ (s.phase r x).plan.watches = s.plan.watches ∧
      (s.phase r x).plan.ref = s.plan.ref ∧ (s.phase r x).plan.prev = s.plan.prev ∧ (s.phase r x).line.mode = s.line.mode ∧
      (s.phase r x).line.key = s.line.key ∧ (s.phase r x).line.loops = s.line.loops ∧ (s.phase r x).line.restartPending = s.line.restartPending ∧
      (s.phase r x).line.flags = s.line.flags ∧ (s.phase r x).line.atStop = s.line.atStop ∧ (s.phase r x).gates.busReleased = s.gates.busReleased ∧
      (s.phase r x).gates.trans = s.gates.trans ∧ (s.phase r x).gates.lastMain = s.gates.lastMain ∧ (s.phase r x).gates.round = s.gates.round ∧
      (s.phase r x).gates.classes = s.gates.classes ∧ (s.phase r x).gates.recent = s.gates.recent ∧ (s.phase r x).gates.passback = s.gates.passback ∧
      (s.phase r x).notices.settings = s.notices.settings ∧ (s.phase r x).notices.threshold = s.notices.threshold := by
  simp only [State.phase]; (repeat' split) <;> simp

@[simp] theorem State.drivePhase_frame (s : State) (t : Tables) (r : Run) (stop : StopPoint) (d : RunDyn) :
    (s.drivePhase t r stop d).now = s.now ∧ (s.drivePhase t r stop d).geo = s.geo ∧ (s.drivePhase t r stop d).trk = s.trk ∧
      (s.drivePhase t r stop d).links = s.links ∧ (s.drivePhase t r stop d).ctl = s.ctl ∧ (s.drivePhase t r stop d).pending = s.pending ∧
      (s.drivePhase t r stop d).brk.sbApplied = s.brk.sbApplied ∧ (s.drivePhase t r stop d).brk.sbReleased = s.brk.sbReleased ∧ (s.drivePhase t r stop d).brk.ebApplied = s.brk.ebApplied ∧
      (s.drivePhase t r stop d).brk.ebReleased = s.brk.ebReleased ∧ (s.drivePhase t r stop d).plan.nextId = s.plan.nextId ∧ (s.drivePhase t r stop d).plan.pendingRun = s.plan.pendingRun ∧
      (s.drivePhase t r stop d).plan.prev = s.plan.prev ∧ (s.drivePhase t r stop d).line.mode = s.line.mode ∧ (s.drivePhase t r stop d).line.key = s.line.key ∧
      (s.drivePhase t r stop d).line.loops = s.line.loops ∧ (s.drivePhase t r stop d).line.restartPending = s.line.restartPending ∧ (s.drivePhase t r stop d).line.flags = s.line.flags ∧
      (s.drivePhase t r stop d).line.atStop = s.line.atStop ∧ (s.drivePhase t r stop d).gates.busReleased = s.gates.busReleased ∧ (s.drivePhase t r stop d).gates.trans = s.gates.trans ∧
      (s.drivePhase t r stop d).gates.lastMain = s.gates.lastMain ∧ (s.drivePhase t r stop d).gates.round = s.gates.round ∧ (s.drivePhase t r stop d).gates.classes = s.gates.classes ∧
      (s.drivePhase t r stop d).gates.recent = s.gates.recent ∧ (s.drivePhase t r stop d).gates.passback = s.gates.passback ∧ (s.drivePhase t r stop d).notices.settings = s.notices.settings ∧
      (s.drivePhase t r stop d).notices.threshold = s.notices.threshold ∧ (s.drivePhase t r stop d).drive.status = s.drive.status ∧ (s.drivePhase t r stop d).drive.silent = s.drive.silent ∧
      (s.drivePhase t r stop d).drive.lastRef = s.drive.lastRef ∧ (s.drivePhase t r stop d).drive.lastFrame = s.drive.lastFrame := by
  simp only [State.drivePhase]; (repeat' split) <;> simp

@[simp] theorem State.planRun_frame (s : State) (found : Option StopPoint) :
    (s.planRun found).now = s.now ∧ (s.planRun found).geo = s.geo ∧ (s.planRun found).trk = s.trk ∧
      (s.planRun found).links = s.links ∧ (s.planRun found).ctl = s.ctl ∧ (s.planRun found).pending = s.pending ∧
      (s.planRun found).brk.sbApplied = s.brk.sbApplied ∧ (s.planRun found).brk.sbReleased = s.brk.sbReleased ∧ (s.planRun found).brk.ebApplied = s.brk.ebApplied ∧
      (s.planRun found).brk.ebReleased = s.brk.ebReleased ∧ (s.planRun found).plan.nextId = s.plan.nextId ∧ (s.planRun found).plan.prev = s.plan.prev ∧
      (s.planRun found).line.mode = s.line.mode ∧ (s.planRun found).line.key = s.line.key ∧ (s.planRun found).line.loops = s.line.loops ∧
      (s.planRun found).line.restartPending = s.line.restartPending ∧ (s.planRun found).line.flags = s.line.flags ∧ (s.planRun found).line.atStop = s.line.atStop ∧
      (s.planRun found).gates.busReleased = s.gates.busReleased ∧ (s.planRun found).gates.trans = s.gates.trans ∧ (s.planRun found).gates.lastMain = s.gates.lastMain ∧
      (s.planRun found).gates.round = s.gates.round ∧ (s.planRun found).gates.classes = s.gates.classes ∧ (s.planRun found).gates.recent = s.gates.recent ∧
      (s.planRun found).gates.passback = s.gates.passback ∧ (s.planRun found).notices.settings = s.notices.settings ∧ (s.planRun found).notices.threshold = s.notices.threshold ∧
      (s.planRun found).drive.status = s.drive.status ∧ (s.planRun found).drive.silent = s.drive.silent ∧ (s.planRun found).drive.lastRef = s.drive.lastRef ∧
      (s.planRun found).drive.lastFrame = s.drive.lastFrame := by
  simp only [State.planRun]; (repeat' split) <;> simp

@[simp] theorem State.withdrawDoors_frame (s : State) :
    (s.withdrawDoors).now = s.now ∧ (s.withdrawDoors).geo = s.geo ∧ (s.withdrawDoors).trk = s.trk ∧
      (s.withdrawDoors).sup = s.sup ∧ (s.withdrawDoors).plan = s.plan ∧ (s.withdrawDoors).brk = s.brk ∧
      (s.withdrawDoors).gates = s.gates ∧ (s.withdrawDoors).tally = s.tally ∧ (s.withdrawDoors).line = s.line ∧
      (s.withdrawDoors).links = s.links ∧ (s.withdrawDoors).drive = s.drive ∧ (s.withdrawDoors).ctl = s.ctl ∧
      (s.withdrawDoors).notices = s.notices ∧ (s.withdrawDoors).freeSeq = s.freeSeq ∧ (s.withdrawDoors).pending = s.pending := by
  simp [State.withdrawDoors]

@[simp] theorem State.stillTests_frame (s : State) :
    (s.stillTests).now = s.now ∧ (s.stillTests).geo = s.geo ∧ (s.stillTests).trk = s.trk ∧
      (s.stillTests).links = s.links ∧ (s.stillTests).ctl = s.ctl ∧ (s.stillTests).pending = s.pending ∧
      (s.stillTests).sup.env = s.sup.env ∧ (s.stillTests).brk.sbApplied = s.brk.sbApplied ∧ (s.stillTests).brk.sbReleased = s.brk.sbReleased ∧
      (s.stillTests).brk.ebApplied = s.brk.ebApplied ∧ (s.stillTests).brk.ebReleased = s.brk.ebReleased ∧ (s.stillTests).plan.nextId = s.plan.nextId ∧
      (s.stillTests).plan.pendingRun = s.plan.pendingRun ∧ (s.stillTests).plan.lastRun = s.plan.lastRun ∧ (s.stillTests).plan.watches = s.plan.watches ∧
      (s.stillTests).plan.prev = s.plan.prev ∧ (s.stillTests).line.mode = s.line.mode ∧ (s.stillTests).line.key = s.line.key ∧
      (s.stillTests).line.loops = s.line.loops ∧ (s.stillTests).line.restartPending = s.line.restartPending ∧ (s.stillTests).line.flags = s.line.flags ∧
      (s.stillTests).line.atStop = s.line.atStop ∧ (s.stillTests).gates.busReleased = s.gates.busReleased ∧ (s.stillTests).gates.trans = s.gates.trans ∧
      (s.stillTests).gates.lastMain = s.gates.lastMain ∧ (s.stillTests).gates.round = s.gates.round ∧ (s.stillTests).gates.classes = s.gates.classes ∧
      (s.stillTests).gates.recent = s.gates.recent ∧ (s.stillTests).gates.passback = s.gates.passback ∧ (s.stillTests).notices.settings = s.notices.settings ∧
      (s.stillTests).notices.threshold = s.notices.threshold ∧ (s.stillTests).drive.status = s.drive.status ∧ (s.stillTests).drive.silent = s.drive.silent ∧
      (s.stillTests).drive.lastRef = s.drive.lastRef ∧ (s.stillTests).drive.lastFrame = s.drive.lastFrame := by
  simp only [State.stillTests]; (repeat' split) <;> simp

@[simp] theorem State.sample_frame (s : State) :
    (s.sample).now = s.now ∧ (s.sample).geo = s.geo ∧ (s.sample).links = s.links ∧
      (s.sample).ctl = s.ctl ∧ (s.sample).pending = s.pending ∧ (s.sample).brk.sbApplied = s.brk.sbApplied ∧
      (s.sample).brk.sbReleased = s.brk.sbReleased ∧ (s.sample).brk.ebApplied = s.brk.ebApplied ∧ (s.sample).brk.ebReleased = s.brk.ebReleased ∧
      (s.sample).plan.nextId = s.plan.nextId ∧ (s.sample).line.mode = s.line.mode ∧ (s.sample).line.key = s.line.key ∧
      (s.sample).line.loops = s.line.loops ∧ (s.sample).line.restartPending = s.line.restartPending ∧ (s.sample).line.flags = s.line.flags ∧
      (s.sample).gates.busReleased = s.gates.busReleased ∧ (s.sample).gates.trans = s.gates.trans ∧ (s.sample).gates.lastMain = s.gates.lastMain ∧
      (s.sample).gates.round = s.gates.round ∧ (s.sample).gates.classes = s.gates.classes ∧ (s.sample).gates.recent = s.gates.recent ∧
      (s.sample).gates.passback = s.gates.passback ∧ (s.sample).notices.settings = s.notices.settings ∧ (s.sample).notices.threshold = s.notices.threshold ∧
      (s.sample).drive.status = s.drive.status ∧ (s.sample).drive.silent = s.drive.silent ∧ (s.sample).trk.count = s.trk.count ∧
      (s.sample).trk.sigma = s.trk.sigma ∧ (s.sample).trk.lastMarker = s.trk.lastMarker ∧ (s.sample).trk.stretch = s.trk.stretch := by
  simp only [State.sample]; split <;> simp

@[simp] theorem State.convertHeld_frame (s : State) (g : Gate) :
    (s.convertHeld g).now = s.now ∧ (s.convertHeld g).geo = s.geo ∧ (s.convertHeld g).trk = s.trk ∧
      (s.convertHeld g).sup = s.sup ∧ (s.convertHeld g).plan = s.plan ∧ (s.convertHeld g).brk = s.brk ∧
      (s.convertHeld g).doors = s.doors ∧ (s.convertHeld g).links = s.links ∧ (s.convertHeld g).drive = s.drive ∧
      (s.convertHeld g).ctl = s.ctl ∧ (s.convertHeld g).freeSeq = s.freeSeq ∧ (s.convertHeld g).pending = s.pending ∧
      (s.convertHeld g).line.mode = s.line.mode ∧ (s.convertHeld g).line.key = s.line.key ∧ (s.convertHeld g).line.loops = s.line.loops ∧
      (s.convertHeld g).line.restartPending = s.line.restartPending ∧ (s.convertHeld g).line.flags = s.line.flags ∧ (s.convertHeld g).line.atStop = s.line.atStop ∧
      (s.convertHeld g).notices.settings = s.notices.settings ∧ (s.convertHeld g).notices.threshold = s.notices.threshold ∧ (s.convertHeld g).gates.busReleased = s.gates.busReleased ∧
      (s.convertHeld g).gates.lastMain = s.gates.lastMain ∧ (s.convertHeld g).gates.round = s.gates.round ∧ (s.convertHeld g).gates.classes = s.gates.classes ∧
      (s.convertHeld g).gates.passback = s.gates.passback ∧ (s.convertHeld g).gates.trans = s.gates.trans ∧ (s.convertHeld g).gates.openMarks = s.gates.openMarks := by
  simp only [State.convertHeld]; (repeat' split) <;> simp

@[simp] theorem State.gateOffline_frame (s : State) (g : Gate) (y : OfflineCause) :
    (s.gateOffline g y).now = s.now ∧ (s.gateOffline g y).geo = s.geo ∧ (s.gateOffline g y).trk = s.trk ∧
      (s.gateOffline g y).sup = s.sup ∧ (s.gateOffline g y).plan = s.plan ∧ (s.gateOffline g y).brk = s.brk ∧
      (s.gateOffline g y).doors = s.doors ∧ (s.gateOffline g y).links = s.links ∧ (s.gateOffline g y).drive = s.drive ∧
      (s.gateOffline g y).ctl = s.ctl ∧ (s.gateOffline g y).freeSeq = s.freeSeq ∧ (s.gateOffline g y).pending = s.pending ∧
      (s.gateOffline g y).line.mode = s.line.mode ∧ (s.gateOffline g y).line.key = s.line.key ∧ (s.gateOffline g y).line.loops = s.line.loops ∧
      (s.gateOffline g y).line.restartPending = s.line.restartPending ∧ (s.gateOffline g y).line.flags = s.line.flags ∧ (s.gateOffline g y).line.atStop = s.line.atStop ∧
      (s.gateOffline g y).notices.settings = s.notices.settings ∧ (s.gateOffline g y).notices.threshold = s.notices.threshold ∧ (s.gateOffline g y).gates.busReleased = s.gates.busReleased ∧
      (s.gateOffline g y).gates.lastMain = s.gates.lastMain ∧ (s.gateOffline g y).gates.round = s.gates.round ∧ (s.gateOffline g y).gates.classes = s.gates.classes ∧
      (s.gateOffline g y).gates.passback = s.gates.passback ∧ (s.gateOffline g y).gates.trans = s.gates.trans ∧ (s.gateOffline g y).gates.openMarks = s.gates.openMarks := by
  simp [State.gateOffline]

@[simp] theorem State.endPassage_frame (s : State) (g : Gate) (e : GateEvent) :
    (s.endPassage g e).now = s.now ∧ (s.endPassage g e).geo = s.geo ∧ (s.endPassage g e).trk = s.trk ∧
      (s.endPassage g e).sup = s.sup ∧ (s.endPassage g e).plan = s.plan ∧ (s.endPassage g e).brk = s.brk ∧
      (s.endPassage g e).doors = s.doors ∧ (s.endPassage g e).links = s.links ∧ (s.endPassage g e).drive = s.drive ∧
      (s.endPassage g e).ctl = s.ctl ∧ (s.endPassage g e).freeSeq = s.freeSeq ∧ (s.endPassage g e).pending = s.pending ∧
      (s.endPassage g e).line.mode = s.line.mode ∧ (s.endPassage g e).line.key = s.line.key ∧ (s.endPassage g e).line.loops = s.line.loops ∧
      (s.endPassage g e).line.restartPending = s.line.restartPending ∧ (s.endPassage g e).line.flags = s.line.flags ∧ (s.endPassage g e).line.atStop = s.line.atStop ∧
      (s.endPassage g e).notices.settings = s.notices.settings ∧ (s.endPassage g e).notices.threshold = s.notices.threshold ∧ (s.endPassage g e).gates.busReleased = s.gates.busReleased ∧
      (s.endPassage g e).gates.lastMain = s.gates.lastMain ∧ (s.endPassage g e).gates.round = s.gates.round ∧ (s.endPassage g e).gates.classes = s.gates.classes ∧
      (s.endPassage g e).gates.passback = s.gates.passback ∧ (s.endPassage g e).gates.trans = s.gates.trans ∧ (s.endPassage g e).gates.openMarks = s.gates.openMarks := by
  simp [State.endPassage]

@[simp] theorem State.passed_frame (s : State) (g : Gate) (a : Admission) (e : GateEvent) :
    (s.passed g a e).now = s.now ∧ (s.passed g a e).geo = s.geo ∧ (s.passed g a e).trk = s.trk ∧
      (s.passed g a e).sup = s.sup ∧ (s.passed g a e).plan = s.plan ∧ (s.passed g a e).brk = s.brk ∧
      (s.passed g a e).doors = s.doors ∧ (s.passed g a e).links = s.links ∧ (s.passed g a e).drive = s.drive ∧
      (s.passed g a e).ctl = s.ctl ∧ (s.passed g a e).freeSeq = s.freeSeq ∧ (s.passed g a e).pending = s.pending ∧
      (s.passed g a e).line.mode = s.line.mode ∧ (s.passed g a e).line.key = s.line.key ∧ (s.passed g a e).line.loops = s.line.loops ∧
      (s.passed g a e).line.restartPending = s.line.restartPending ∧ (s.passed g a e).line.flags = s.line.flags ∧ (s.passed g a e).line.atStop = s.line.atStop ∧
      (s.passed g a e).notices.settings = s.notices.settings ∧ (s.passed g a e).notices.threshold = s.notices.threshold ∧ (s.passed g a e).gates.busReleased = s.gates.busReleased ∧
      (s.passed g a e).gates.lastMain = s.gates.lastMain ∧ (s.passed g a e).gates.round = s.gates.round ∧ (s.passed g a e).gates.classes = s.gates.classes ∧
      (s.passed g a e).gates.passback = s.gates.passback ∧ (s.passed g a e).gates.trans = s.gates.trans ∧ (s.passed g a e).gates.openMarks = s.gates.openMarks := by
  simp [State.passed]

@[simp] theorem State.turnedBack_frame (s : State) (g : Gate) (a : Admission) :
    (s.turnedBack g a).now = s.now ∧ (s.turnedBack g a).geo = s.geo ∧ (s.turnedBack g a).trk = s.trk ∧
      (s.turnedBack g a).sup = s.sup ∧ (s.turnedBack g a).plan = s.plan ∧ (s.turnedBack g a).brk = s.brk ∧
      (s.turnedBack g a).doors = s.doors ∧ (s.turnedBack g a).links = s.links ∧ (s.turnedBack g a).drive = s.drive ∧
      (s.turnedBack g a).ctl = s.ctl ∧ (s.turnedBack g a).freeSeq = s.freeSeq ∧ (s.turnedBack g a).pending = s.pending ∧
      (s.turnedBack g a).line.mode = s.line.mode ∧ (s.turnedBack g a).line.key = s.line.key ∧ (s.turnedBack g a).line.loops = s.line.loops ∧
      (s.turnedBack g a).line.restartPending = s.line.restartPending ∧ (s.turnedBack g a).line.flags = s.line.flags ∧ (s.turnedBack g a).line.atStop = s.line.atStop ∧
      (s.turnedBack g a).notices.settings = s.notices.settings ∧ (s.turnedBack g a).notices.threshold = s.notices.threshold ∧ (s.turnedBack g a).gates.busReleased = s.gates.busReleased ∧
      (s.turnedBack g a).gates.lastMain = s.gates.lastMain ∧ (s.turnedBack g a).gates.round = s.gates.round ∧ (s.turnedBack g a).gates.classes = s.gates.classes ∧
      (s.turnedBack g a).gates.passback = s.gates.passback ∧ (s.turnedBack g a).gates.trans = s.gates.trans ∧ (s.turnedBack g a).gates.openMarks = s.gates.openMarks := by
  simp only [State.turnedBack]; (repeat' split) <;> simp

@[simp] theorem State.passageTimeout_frame (s : State) (g : Gate) (a : Admission) :
    (s.passageTimeout g a).now = s.now ∧ (s.passageTimeout g a).geo = s.geo ∧ (s.passageTimeout g a).trk = s.trk ∧
      (s.passageTimeout g a).sup = s.sup ∧ (s.passageTimeout g a).plan = s.plan ∧ (s.passageTimeout g a).brk = s.brk ∧
      (s.passageTimeout g a).doors = s.doors ∧ (s.passageTimeout g a).links = s.links ∧ (s.passageTimeout g a).drive = s.drive ∧
      (s.passageTimeout g a).ctl = s.ctl ∧ (s.passageTimeout g a).freeSeq = s.freeSeq ∧ (s.passageTimeout g a).pending = s.pending ∧
      (s.passageTimeout g a).line.mode = s.line.mode ∧ (s.passageTimeout g a).line.key = s.line.key ∧ (s.passageTimeout g a).line.loops = s.line.loops ∧
      (s.passageTimeout g a).line.restartPending = s.line.restartPending ∧ (s.passageTimeout g a).line.flags = s.line.flags ∧ (s.passageTimeout g a).line.atStop = s.line.atStop ∧
      (s.passageTimeout g a).notices.settings = s.notices.settings ∧ (s.passageTimeout g a).notices.threshold = s.notices.threshold ∧ (s.passageTimeout g a).gates.busReleased = s.gates.busReleased ∧
      (s.passageTimeout g a).gates.lastMain = s.gates.lastMain ∧ (s.passageTimeout g a).gates.round = s.gates.round ∧ (s.passageTimeout g a).gates.classes = s.gates.classes ∧
      (s.passageTimeout g a).gates.passback = s.gates.passback ∧ (s.passageTimeout g a).gates.trans = s.gates.trans ∧ (s.passageTimeout g a).gates.openMarks = s.gates.openMarks := by
  simp [State.passageTimeout]

@[simp] theorem State.lateOutcome_frame (s : State) (g : Gate) (q : Passage) :
    (s.lateOutcome g q).now = s.now ∧ (s.lateOutcome g q).geo = s.geo ∧ (s.lateOutcome g q).trk = s.trk ∧
      (s.lateOutcome g q).sup = s.sup ∧ (s.lateOutcome g q).plan = s.plan ∧ (s.lateOutcome g q).brk = s.brk ∧
      (s.lateOutcome g q).doors = s.doors ∧ (s.lateOutcome g q).links = s.links ∧ (s.lateOutcome g q).drive = s.drive ∧
      (s.lateOutcome g q).ctl = s.ctl ∧ (s.lateOutcome g q).freeSeq = s.freeSeq ∧ (s.lateOutcome g q).pending = s.pending ∧
      (s.lateOutcome g q).line.mode = s.line.mode ∧ (s.lateOutcome g q).line.key = s.line.key ∧ (s.lateOutcome g q).line.loops = s.line.loops ∧
      (s.lateOutcome g q).line.restartPending = s.line.restartPending ∧ (s.lateOutcome g q).line.flags = s.line.flags ∧ (s.lateOutcome g q).line.atStop = s.line.atStop ∧
      (s.lateOutcome g q).notices.settings = s.notices.settings ∧ (s.lateOutcome g q).notices.threshold = s.notices.threshold ∧ (s.lateOutcome g q).gates.busReleased = s.gates.busReleased ∧
      (s.lateOutcome g q).gates.lastMain = s.gates.lastMain ∧ (s.lateOutcome g q).gates.round = s.gates.round ∧ (s.lateOutcome g q).gates.classes = s.gates.classes ∧
      (s.lateOutcome g q).gates.passback = s.gates.passback ∧ (s.lateOutcome g q).gates.trans = s.gates.trans ∧ (s.lateOutcome g q).gates.openMarks = s.gates.openMarks := by
  simp only [State.lateOutcome]; (repeat' split) <;> simp

@[simp] theorem State.refuse_frame (s : State) (a t k : Nat) (r : TicketRefusal) :
    (s.refuse a t k r).now = s.now ∧ (s.refuse a t k r).geo = s.geo ∧ (s.refuse a t k r).trk = s.trk ∧
      (s.refuse a t k r).sup = s.sup ∧ (s.refuse a t k r).plan = s.plan ∧ (s.refuse a t k r).brk = s.brk ∧
      (s.refuse a t k r).doors = s.doors ∧ (s.refuse a t k r).links = s.links ∧ (s.refuse a t k r).drive = s.drive ∧
      (s.refuse a t k r).ctl = s.ctl ∧ (s.refuse a t k r).freeSeq = s.freeSeq ∧ (s.refuse a t k r).pending = s.pending ∧
      (s.refuse a t k r).line.mode = s.line.mode ∧ (s.refuse a t k r).line.key = s.line.key ∧ (s.refuse a t k r).line.loops = s.line.loops ∧
      (s.refuse a t k r).line.restartPending = s.line.restartPending ∧ (s.refuse a t k r).line.flags = s.line.flags ∧ (s.refuse a t k r).line.atStop = s.line.atStop ∧
      (s.refuse a t k r).notices.settings = s.notices.settings ∧ (s.refuse a t k r).notices.threshold = s.notices.threshold ∧ (s.refuse a t k r).gates.busReleased = s.gates.busReleased ∧
      (s.refuse a t k r).gates.lastMain = s.gates.lastMain ∧ (s.refuse a t k r).gates.round = s.gates.round ∧ (s.refuse a t k r).gates.classes = s.gates.classes ∧
      (s.refuse a t k r).gates.passback = s.gates.passback ∧ (s.refuse a t k r).gates.trans = s.gates.trans ∧ (s.refuse a t k r).gates.openMarks = s.gates.openMarks := by
  simp [State.refuse]

@[simp] theorem State.grant_frame (s : State) (g : Gate) (c : Car) (t n m : Nat) :
    (s.grant g c t n m).now = s.now ∧ (s.grant g c t n m).geo = s.geo ∧ (s.grant g c t n m).trk = s.trk ∧
      (s.grant g c t n m).sup = s.sup ∧ (s.grant g c t n m).plan = s.plan ∧ (s.grant g c t n m).brk = s.brk ∧
      (s.grant g c t n m).doors = s.doors ∧ (s.grant g c t n m).links = s.links ∧ (s.grant g c t n m).drive = s.drive ∧
      (s.grant g c t n m).ctl = s.ctl ∧ (s.grant g c t n m).freeSeq = s.freeSeq ∧ (s.grant g c t n m).pending = s.pending ∧
      (s.grant g c t n m).line.mode = s.line.mode ∧ (s.grant g c t n m).line.key = s.line.key ∧ (s.grant g c t n m).line.loops = s.line.loops ∧
      (s.grant g c t n m).line.restartPending = s.line.restartPending ∧ (s.grant g c t n m).line.flags = s.line.flags ∧ (s.grant g c t n m).line.atStop = s.line.atStop ∧
      (s.grant g c t n m).notices.settings = s.notices.settings ∧ (s.grant g c t n m).notices.threshold = s.notices.threshold ∧ (s.grant g c t n m).gates.busReleased = s.gates.busReleased ∧
      (s.grant g c t n m).gates.lastMain = s.gates.lastMain ∧ (s.grant g c t n m).gates.round = s.gates.round ∧ (s.grant g c t n m).gates.classes = s.gates.classes ∧
      (s.grant g c t n m).gates.passback = s.gates.passback ∧ (s.grant g c t n m).gates.trans = s.gates.trans ∧ (s.grant g c t n m).gates.openMarks = s.gates.openMarks := by
  simp [State.grant]

@[simp] theorem State.ticket_frame (s : State) (g : Gate) (t k n : Nat) :
    (s.ticket g t k n).now = s.now ∧ (s.ticket g t k n).geo = s.geo ∧ (s.ticket g t k n).trk = s.trk ∧
      (s.ticket g t k n).sup = s.sup ∧ (s.ticket g t k n).plan = s.plan ∧ (s.ticket g t k n).brk = s.brk ∧
      (s.ticket g t k n).doors = s.doors ∧ (s.ticket g t k n).links = s.links ∧ (s.ticket g t k n).drive = s.drive ∧
      (s.ticket g t k n).ctl = s.ctl ∧ (s.ticket g t k n).freeSeq = s.freeSeq ∧ (s.ticket g t k n).pending = s.pending ∧
      (s.ticket g t k n).line.mode = s.line.mode ∧ (s.ticket g t k n).line.key = s.line.key ∧ (s.ticket g t k n).line.loops = s.line.loops ∧
      (s.ticket g t k n).line.restartPending = s.line.restartPending ∧ (s.ticket g t k n).line.flags = s.line.flags ∧ (s.ticket g t k n).line.atStop = s.line.atStop ∧
      (s.ticket g t k n).notices.settings = s.notices.settings ∧ (s.ticket g t k n).notices.threshold = s.notices.threshold ∧ (s.ticket g t k n).gates.busReleased = s.gates.busReleased ∧
      (s.ticket g t k n).gates.lastMain = s.gates.lastMain ∧ (s.ticket g t k n).gates.round = s.gates.round ∧ (s.ticket g t k n).gates.classes = s.gates.classes ∧
      (s.ticket g t k n).gates.passback = s.gates.passback ∧ (s.ticket g t k n).gates.trans = s.gates.trans ∧ (s.ticket g t k n).gates.openMarks = s.gates.openMarks := by
  simp only [State.ticket]; (repeat' split) <;> simp

@[simp] theorem State.missed_frame (s : State) (g : Gate) :
    (s.missed g).now = s.now ∧ (s.missed g).geo = s.geo ∧ (s.missed g).trk = s.trk ∧
      (s.missed g).sup = s.sup ∧ (s.missed g).plan = s.plan ∧ (s.missed g).brk = s.brk ∧
      (s.missed g).doors = s.doors ∧ (s.missed g).links = s.links ∧ (s.missed g).drive = s.drive ∧
      (s.missed g).ctl = s.ctl ∧ (s.missed g).freeSeq = s.freeSeq ∧ (s.missed g).pending = s.pending ∧
      (s.missed g).line.mode = s.line.mode ∧ (s.missed g).line.key = s.line.key ∧ (s.missed g).line.loops = s.line.loops ∧
      (s.missed g).line.restartPending = s.line.restartPending ∧ (s.missed g).line.flags = s.line.flags ∧ (s.missed g).line.atStop = s.line.atStop ∧
      (s.missed g).notices.settings = s.notices.settings ∧ (s.missed g).notices.threshold = s.notices.threshold ∧ (s.missed g).gates.busReleased = s.gates.busReleased ∧
      (s.missed g).gates.lastMain = s.gates.lastMain ∧ (s.missed g).gates.round = s.gates.round ∧ (s.missed g).gates.classes = s.gates.classes ∧
      (s.missed g).gates.passback = s.gates.passback ∧ (s.missed g).gates.trans = s.gates.trans ∧ (s.missed g).gates.openMarks = s.gates.openMarks := by
  simp only [State.missed]; (repeat' split) <;> simp

@[simp] theorem State.pollAnswer_frame (s : State) (g : Gate) (a : Answer) :
    (s.pollAnswer g a).now = s.now ∧ (s.pollAnswer g a).geo = s.geo ∧ (s.pollAnswer g a).trk = s.trk ∧
      (s.pollAnswer g a).sup = s.sup ∧ (s.pollAnswer g a).plan = s.plan ∧ (s.pollAnswer g a).brk = s.brk ∧
      (s.pollAnswer g a).doors = s.doors ∧ (s.pollAnswer g a).links = s.links ∧ (s.pollAnswer g a).drive = s.drive ∧
      (s.pollAnswer g a).ctl = s.ctl ∧ (s.pollAnswer g a).freeSeq = s.freeSeq ∧ (s.pollAnswer g a).pending = s.pending ∧
      (s.pollAnswer g a).line.mode = s.line.mode ∧ (s.pollAnswer g a).line.key = s.line.key ∧ (s.pollAnswer g a).line.loops = s.line.loops ∧
      (s.pollAnswer g a).line.restartPending = s.line.restartPending ∧ (s.pollAnswer g a).line.flags = s.line.flags ∧ (s.pollAnswer g a).line.atStop = s.line.atStop ∧
      (s.pollAnswer g a).notices.settings = s.notices.settings ∧ (s.pollAnswer g a).notices.threshold = s.notices.threshold ∧ (s.pollAnswer g a).gates.busReleased = s.gates.busReleased ∧
      (s.pollAnswer g a).gates.lastMain = s.gates.lastMain ∧ (s.pollAnswer g a).gates.round = s.gates.round ∧ (s.pollAnswer g a).gates.classes = s.gates.classes ∧
      (s.pollAnswer g a).gates.passback = s.gates.passback ∧ (s.pollAnswer g a).gates.trans = s.gates.trans ∧ (s.pollAnswer g a).gates.openMarks = s.gates.openMarks := by
  simp only [State.pollAnswer]; (repeat' split) <;> simp

@[simp] theorem State.mismatch_frame (s : State) (g : Gate) (c : GateCmd) (b : Bool) :
    (s.mismatch g c b).now = s.now ∧ (s.mismatch g c b).geo = s.geo ∧ (s.mismatch g c b).trk = s.trk ∧
      (s.mismatch g c b).sup = s.sup ∧ (s.mismatch g c b).plan = s.plan ∧ (s.mismatch g c b).brk = s.brk ∧
      (s.mismatch g c b).doors = s.doors ∧ (s.mismatch g c b).links = s.links ∧ (s.mismatch g c b).drive = s.drive ∧
      (s.mismatch g c b).ctl = s.ctl ∧ (s.mismatch g c b).freeSeq = s.freeSeq ∧ (s.mismatch g c b).pending = s.pending ∧
      (s.mismatch g c b).line.mode = s.line.mode ∧ (s.mismatch g c b).line.key = s.line.key ∧ (s.mismatch g c b).line.loops = s.line.loops ∧
      (s.mismatch g c b).line.restartPending = s.line.restartPending ∧ (s.mismatch g c b).line.flags = s.line.flags ∧ (s.mismatch g c b).line.atStop = s.line.atStop ∧
      (s.mismatch g c b).notices.settings = s.notices.settings ∧ (s.mismatch g c b).notices.threshold = s.notices.threshold ∧ (s.mismatch g c b).gates.busReleased = s.gates.busReleased ∧
      (s.mismatch g c b).gates.lastMain = s.gates.lastMain ∧ (s.mismatch g c b).gates.round = s.gates.round ∧ (s.mismatch g c b).gates.classes = s.gates.classes ∧
      (s.mismatch g c b).gates.passback = s.gates.passback ∧ (s.mismatch g c b).gates.trans = s.gates.trans ∧ (s.mismatch g c b).gates.openMarks = s.gates.openMarks := by
  simp only [State.mismatch]; (repeat' split) <;> simp

@[simp] theorem State.answerInService_frame (s : State) (t : Transaction) (g : Gate) (a : Option Answer) :
    (s.answerInService t g a).now = s.now ∧ (s.answerInService t g a).geo = s.geo ∧ (s.answerInService t g a).trk = s.trk ∧
      (s.answerInService t g a).sup = s.sup ∧ (s.answerInService t g a).plan = s.plan ∧ (s.answerInService t g a).brk = s.brk ∧
      (s.answerInService t g a).doors = s.doors ∧ (s.answerInService t g a).links = s.links ∧ (s.answerInService t g a).drive = s.drive ∧
      (s.answerInService t g a).ctl = s.ctl ∧ (s.answerInService t g a).freeSeq = s.freeSeq ∧ (s.answerInService t g a).pending = s.pending ∧
      (s.answerInService t g a).line.mode = s.line.mode ∧ (s.answerInService t g a).line.key = s.line.key ∧ (s.answerInService t g a).line.loops = s.line.loops ∧
      (s.answerInService t g a).line.restartPending = s.line.restartPending ∧ (s.answerInService t g a).line.flags = s.line.flags ∧ (s.answerInService t g a).line.atStop = s.line.atStop ∧
      (s.answerInService t g a).notices.settings = s.notices.settings ∧ (s.answerInService t g a).notices.threshold = s.notices.threshold ∧ (s.answerInService t g a).gates.busReleased = s.gates.busReleased ∧
      (s.answerInService t g a).gates.lastMain = s.gates.lastMain ∧ (s.answerInService t g a).gates.round = s.gates.round ∧ (s.answerInService t g a).gates.classes = s.gates.classes ∧
      (s.answerInService t g a).gates.passback = s.gates.passback ∧ (s.answerInService t g a).gates.trans = s.gates.trans ∧ (s.answerInService t g a).gates.openMarks = s.gates.openMarks := by
  simp only [State.answerInService]; (repeat' split) <;> simp

@[simp] theorem State.streak_frame (s : State) (g : Gate) :
    (s.streak g).now = s.now ∧ (s.streak g).geo = s.geo ∧ (s.streak g).trk = s.trk ∧
      (s.streak g).sup = s.sup ∧ (s.streak g).plan = s.plan ∧ (s.streak g).brk = s.brk ∧
      (s.streak g).doors = s.doors ∧ (s.streak g).links = s.links ∧ (s.streak g).drive = s.drive ∧
      (s.streak g).ctl = s.ctl ∧ (s.streak g).freeSeq = s.freeSeq ∧ (s.streak g).pending = s.pending ∧
      (s.streak g).line.mode = s.line.mode ∧ (s.streak g).line.key = s.line.key ∧ (s.streak g).line.loops = s.line.loops ∧
      (s.streak g).line.restartPending = s.line.restartPending ∧ (s.streak g).line.flags = s.line.flags ∧ (s.streak g).line.atStop = s.line.atStop ∧
      (s.streak g).notices.settings = s.notices.settings ∧ (s.streak g).notices.threshold = s.notices.threshold ∧ (s.streak g).gates.busReleased = s.gates.busReleased ∧
      (s.streak g).gates.lastMain = s.gates.lastMain ∧ (s.streak g).gates.round = s.gates.round ∧ (s.streak g).gates.classes = s.gates.classes ∧
      (s.streak g).gates.passback = s.gates.passback ∧ (s.streak g).gates.trans = s.gates.trans ∧ (s.streak g).gates.openMarks = s.gates.openMarks := by
  simp only [State.streak]; (repeat' split) <;> simp

@[simp] theorem State.answerOffline_frame (s : State) (g : Gate) (a : Option Answer) :
    (s.answerOffline g a).now = s.now ∧ (s.answerOffline g a).geo = s.geo ∧ (s.answerOffline g a).trk = s.trk ∧
      (s.answerOffline g a).sup = s.sup ∧ (s.answerOffline g a).plan = s.plan ∧ (s.answerOffline g a).brk = s.brk ∧
      (s.answerOffline g a).doors = s.doors ∧ (s.answerOffline g a).links = s.links ∧ (s.answerOffline g a).drive = s.drive ∧
      (s.answerOffline g a).ctl = s.ctl ∧ (s.answerOffline g a).freeSeq = s.freeSeq ∧ (s.answerOffline g a).pending = s.pending ∧
      (s.answerOffline g a).line.mode = s.line.mode ∧ (s.answerOffline g a).line.key = s.line.key ∧ (s.answerOffline g a).line.loops = s.line.loops ∧
      (s.answerOffline g a).line.restartPending = s.line.restartPending ∧ (s.answerOffline g a).line.flags = s.line.flags ∧ (s.answerOffline g a).line.atStop = s.line.atStop ∧
      (s.answerOffline g a).notices.settings = s.notices.settings ∧ (s.answerOffline g a).notices.threshold = s.notices.threshold ∧ (s.answerOffline g a).gates.busReleased = s.gates.busReleased ∧
      (s.answerOffline g a).gates.lastMain = s.gates.lastMain ∧ (s.answerOffline g a).gates.round = s.gates.round ∧ (s.answerOffline g a).gates.classes = s.gates.classes ∧
      (s.answerOffline g a).gates.passback = s.gates.passback ∧ (s.answerOffline g a).gates.trans = s.gates.trans ∧ (s.answerOffline g a).gates.openMarks = s.gates.openMarks := by
  simp only [State.answerOffline]; (repeat' split) <;> simp

@[simp] theorem State.takeAnswer_frame (s : State) (t : Transaction) (a : Option Answer) :
    (s.takeAnswer t a).now = s.now ∧ (s.takeAnswer t a).geo = s.geo ∧ (s.takeAnswer t a).trk = s.trk ∧
      (s.takeAnswer t a).sup = s.sup ∧ (s.takeAnswer t a).plan = s.plan ∧ (s.takeAnswer t a).brk = s.brk ∧
      (s.takeAnswer t a).doors = s.doors ∧ (s.takeAnswer t a).links = s.links ∧ (s.takeAnswer t a).drive = s.drive ∧
      (s.takeAnswer t a).ctl = s.ctl ∧ (s.takeAnswer t a).freeSeq = s.freeSeq ∧ (s.takeAnswer t a).pending = s.pending ∧
      (s.takeAnswer t a).line.mode = s.line.mode ∧ (s.takeAnswer t a).line.key = s.line.key ∧ (s.takeAnswer t a).line.loops = s.line.loops ∧
      (s.takeAnswer t a).line.restartPending = s.line.restartPending ∧ (s.takeAnswer t a).line.flags = s.line.flags ∧ (s.takeAnswer t a).line.atStop = s.line.atStop ∧
      (s.takeAnswer t a).notices.settings = s.notices.settings ∧ (s.takeAnswer t a).notices.threshold = s.notices.threshold ∧ (s.takeAnswer t a).gates.busReleased = s.gates.busReleased ∧
      (s.takeAnswer t a).gates.lastMain = s.gates.lastMain ∧ (s.takeAnswer t a).gates.round = s.gates.round ∧ (s.takeAnswer t a).gates.classes = s.gates.classes ∧
      (s.takeAnswer t a).gates.passback = s.gates.passback ∧ (s.takeAnswer t a).gates.trans = s.gates.trans ∧ (s.takeAnswer t a).gates.openMarks = s.gates.openMarks := by
  simp only [State.takeAnswer]; (repeat' split) <;> simp

@[simp] theorem Gates.next_frame (g : Gates) (t : Time) :
    (g.next t).busReleased = g.busReleased ∧ (g.next t).classes = g.classes ∧
      (g.next t).passback = g.passback ∧ (g.next t).recent = g.recent ∧
      (g.next t).openMarks = g.openMarks := by
  simp only [Gates.next, Gates.begin_, Gates.update]; (repeat' split) <;> simp

@[simp] theorem State.nextTransaction_gates (s : State) : s.nextTransaction.gates = s.gates.next s.now := rfl

@[simp] theorem State.endTransaction_frame (s : State) (t : Transaction) (a : Option Answer) :
    (s.endTransaction t a).now = s.now ∧ (s.endTransaction t a).geo = s.geo ∧ (s.endTransaction t a).trk = s.trk ∧
      (s.endTransaction t a).sup = s.sup ∧ (s.endTransaction t a).plan = s.plan ∧ (s.endTransaction t a).brk = s.brk ∧
      (s.endTransaction t a).doors = s.doors ∧ (s.endTransaction t a).links = s.links ∧ (s.endTransaction t a).drive = s.drive ∧
      (s.endTransaction t a).ctl = s.ctl ∧ (s.endTransaction t a).freeSeq = s.freeSeq ∧ (s.endTransaction t a).pending = s.pending ∧
      (s.endTransaction t a).line.mode = s.line.mode ∧ (s.endTransaction t a).line.key = s.line.key ∧ (s.endTransaction t a).line.loops = s.line.loops ∧
      (s.endTransaction t a).line.restartPending = s.line.restartPending ∧ (s.endTransaction t a).line.flags = s.line.flags ∧ (s.endTransaction t a).line.atStop = s.line.atStop ∧
      (s.endTransaction t a).notices.settings = s.notices.settings ∧ (s.endTransaction t a).notices.threshold = s.notices.threshold ∧ (s.endTransaction t a).gates.busReleased = s.gates.busReleased ∧
      (s.endTransaction t a).gates.classes = s.gates.classes ∧ (s.endTransaction t a).gates.passback = s.gates.passback ∧ (s.endTransaction t a).gates.openMarks = s.gates.openMarks := by
  simp [State.endTransaction]

@[simp] theorem State.gateAnswer_frame (s : State) (b : List Byte) :
    (s.gateAnswer b).now = s.now ∧ (s.gateAnswer b).geo = s.geo ∧ (s.gateAnswer b).trk = s.trk ∧
      (s.gateAnswer b).sup = s.sup ∧ (s.gateAnswer b).plan = s.plan ∧ (s.gateAnswer b).brk = s.brk ∧
      (s.gateAnswer b).doors = s.doors ∧ (s.gateAnswer b).links = s.links ∧ (s.gateAnswer b).drive = s.drive ∧
      (s.gateAnswer b).ctl = s.ctl ∧ (s.gateAnswer b).freeSeq = s.freeSeq ∧ (s.gateAnswer b).pending = s.pending ∧
      (s.gateAnswer b).line.mode = s.line.mode ∧ (s.gateAnswer b).line.key = s.line.key ∧ (s.gateAnswer b).line.loops = s.line.loops ∧
      (s.gateAnswer b).line.restartPending = s.line.restartPending ∧ (s.gateAnswer b).line.flags = s.line.flags ∧ (s.gateAnswer b).line.atStop = s.line.atStop ∧
      (s.gateAnswer b).notices.settings = s.notices.settings ∧ (s.gateAnswer b).notices.threshold = s.notices.threshold ∧ (s.gateAnswer b).gates.busReleased = s.gates.busReleased ∧
      (s.gateAnswer b).gates.classes = s.gates.classes ∧ (s.gateAnswer b).gates.passback = s.gates.passback ∧ (s.gateAnswer b).gates.openMarks = s.gates.openMarks := by
  simp only [State.gateAnswer]; (repeat' split) <;> simp

@[simp] theorem State.gateSilence_frame (s : State) :
    (s.gateSilence).now = s.now ∧ (s.gateSilence).geo = s.geo ∧ (s.gateSilence).trk = s.trk ∧
      (s.gateSilence).sup = s.sup ∧ (s.gateSilence).plan = s.plan ∧ (s.gateSilence).brk = s.brk ∧
      (s.gateSilence).doors = s.doors ∧ (s.gateSilence).links = s.links ∧ (s.gateSilence).drive = s.drive ∧
      (s.gateSilence).ctl = s.ctl ∧ (s.gateSilence).freeSeq = s.freeSeq ∧ (s.gateSilence).pending = s.pending ∧
      (s.gateSilence).line.mode = s.line.mode ∧ (s.gateSilence).line.key = s.line.key ∧ (s.gateSilence).line.loops = s.line.loops ∧
      (s.gateSilence).line.restartPending = s.line.restartPending ∧ (s.gateSilence).line.flags = s.line.flags ∧ (s.gateSilence).line.atStop = s.line.atStop ∧
      (s.gateSilence).notices.settings = s.notices.settings ∧ (s.gateSilence).notices.threshold = s.notices.threshold ∧ (s.gateSilence).gates.busReleased = s.gates.busReleased ∧
      (s.gateSilence).gates.classes = s.gates.classes ∧ (s.gateSilence).gates.passback = s.gates.passback ∧ (s.gateSilence).gates.openMarks = s.gates.openMarks := by
  simp only [State.gateSilence]; (repeat' split) <;> simp

@[simp] theorem State.passageExpiry_frame (s : State) (a : Nat) :
    (s.passageExpiry a).now = s.now ∧ (s.passageExpiry a).geo = s.geo ∧ (s.passageExpiry a).trk = s.trk ∧
      (s.passageExpiry a).sup = s.sup ∧ (s.passageExpiry a).plan = s.plan ∧ (s.passageExpiry a).brk = s.brk ∧
      (s.passageExpiry a).doors = s.doors ∧ (s.passageExpiry a).links = s.links ∧ (s.passageExpiry a).drive = s.drive ∧
      (s.passageExpiry a).ctl = s.ctl ∧ (s.passageExpiry a).freeSeq = s.freeSeq ∧ (s.passageExpiry a).pending = s.pending ∧
      (s.passageExpiry a).line.mode = s.line.mode ∧ (s.passageExpiry a).line.key = s.line.key ∧ (s.passageExpiry a).line.loops = s.line.loops ∧
      (s.passageExpiry a).line.restartPending = s.line.restartPending ∧ (s.passageExpiry a).line.flags = s.line.flags ∧ (s.passageExpiry a).line.atStop = s.line.atStop ∧
      (s.passageExpiry a).notices.settings = s.notices.settings ∧ (s.passageExpiry a).notices.threshold = s.notices.threshold ∧ (s.passageExpiry a).gates.busReleased = s.gates.busReleased ∧
      (s.passageExpiry a).gates.lastMain = s.gates.lastMain ∧ (s.passageExpiry a).gates.round = s.gates.round ∧ (s.passageExpiry a).gates.classes = s.gates.classes ∧
      (s.passageExpiry a).gates.passback = s.gates.passback ∧ (s.passageExpiry a).gates.trans = s.gates.trans ∧ (s.passageExpiry a).gates.openMarks = s.gates.openMarks := by
  simp only [State.passageExpiry]; (repeat' split) <;> simp

@[simp] theorem State.passbackExpiry_frame (s : State) (t : Nat) :
    (s.passbackExpiry t).now = s.now ∧ (s.passbackExpiry t).geo = s.geo ∧ (s.passbackExpiry t).trk = s.trk ∧
      (s.passbackExpiry t).sup = s.sup ∧ (s.passbackExpiry t).plan = s.plan ∧ (s.passbackExpiry t).brk = s.brk ∧
      (s.passbackExpiry t).doors = s.doors ∧ (s.passbackExpiry t).tally = s.tally ∧ (s.passbackExpiry t).line = s.line ∧
      (s.passbackExpiry t).links = s.links ∧ (s.passbackExpiry t).drive = s.drive ∧ (s.passbackExpiry t).ctl = s.ctl ∧
      (s.passbackExpiry t).notices = s.notices ∧ (s.passbackExpiry t).freeSeq = s.freeSeq ∧ (s.passbackExpiry t).pending = s.pending ∧
      (s.passbackExpiry t).gates.gates = s.gates.gates ∧ (s.passbackExpiry t).gates.openMarks = s.gates.openMarks ∧ (s.passbackExpiry t).gates.busReleased = s.gates.busReleased ∧
      (s.passbackExpiry t).gates.trans = s.gates.trans ∧ (s.passbackExpiry t).gates.lastMain = s.gates.lastMain ∧ (s.passbackExpiry t).gates.round = s.gates.round ∧
      (s.passbackExpiry t).gates.classes = s.gates.classes ∧ (s.passbackExpiry t).gates.passback = s.gates.passback := by
  simp [State.passbackExpiry]

@[simp] theorem State.waitExpiry_frame (s : State) :
    (s.waitExpiry).now = s.now ∧ (s.waitExpiry).geo = s.geo ∧ (s.waitExpiry).trk = s.trk ∧
      (s.waitExpiry).brk = s.brk ∧ (s.waitExpiry).doors = s.doors ∧ (s.waitExpiry).links = s.links ∧
      (s.waitExpiry).drive = s.drive ∧ (s.waitExpiry).ctl = s.ctl ∧ (s.waitExpiry).freeSeq = s.freeSeq ∧
      (s.waitExpiry).pending = s.pending ∧ (s.waitExpiry).sup.trip = s.sup.trip ∧ (s.waitExpiry).plan.nextId = s.plan.nextId ∧
      (s.waitExpiry).plan.pendingRun = s.plan.pendingRun ∧ (s.waitExpiry).plan.watches = s.plan.watches ∧ (s.waitExpiry).plan.ref = s.plan.ref ∧
      (s.waitExpiry).plan.prev = s.plan.prev ∧ (s.waitExpiry).line.mode = s.line.mode ∧ (s.waitExpiry).line.key = s.line.key ∧
      (s.waitExpiry).line.loops = s.line.loops ∧ (s.waitExpiry).line.restartPending = s.line.restartPending ∧ (s.waitExpiry).line.flags = s.line.flags ∧
      (s.waitExpiry).line.atStop = s.line.atStop ∧ (s.waitExpiry).gates.busReleased = s.gates.busReleased ∧ (s.waitExpiry).gates.trans = s.gates.trans ∧
      (s.waitExpiry).gates.lastMain = s.gates.lastMain ∧ (s.waitExpiry).gates.round = s.gates.round ∧ (s.waitExpiry).gates.classes = s.gates.classes ∧
      (s.waitExpiry).gates.recent = s.gates.recent ∧ (s.waitExpiry).gates.passback = s.gates.passback ∧ (s.waitExpiry).notices.settings = s.notices.settings ∧
      (s.waitExpiry).notices.threshold = s.notices.threshold := by
  simp only [State.waitExpiry]; (repeat' split) <;> simp

@[simp] theorem State.loopOpens_frame (s : State) (n : Ix4) :
    (s.loopOpens n).now = s.now ∧ (s.loopOpens n).geo = s.geo ∧ (s.loopOpens n).trk = s.trk ∧
      (s.loopOpens n).doors = s.doors ∧ (s.loopOpens n).links = s.links ∧ (s.loopOpens n).ctl = s.ctl ∧
      (s.loopOpens n).pending = s.pending ∧ (s.loopOpens n).brk.sbApplied = s.brk.sbApplied ∧ (s.loopOpens n).brk.sbReleased = s.brk.sbReleased ∧
      (s.loopOpens n).brk.ebApplied = s.brk.ebApplied ∧ (s.loopOpens n).brk.ebReleased = s.brk.ebReleased ∧ (s.loopOpens n).plan.nextId = s.plan.nextId ∧
      (s.loopOpens n).plan.pendingRun = s.plan.pendingRun ∧ (s.loopOpens n).plan.watches = s.plan.watches ∧ (s.loopOpens n).plan.prev = s.plan.prev ∧
      (s.loopOpens n).line.mode = s.line.mode ∧ (s.loopOpens n).line.key = s.line.key ∧ (s.loopOpens n).line.loops = s.line.loops ∧
      (s.loopOpens n).line.restartPending = s.line.restartPending ∧ (s.loopOpens n).line.flags = s.line.flags ∧ (s.loopOpens n).line.atStop = s.line.atStop ∧
      (s.loopOpens n).gates.busReleased = s.gates.busReleased ∧ (s.loopOpens n).gates.trans = s.gates.trans ∧ (s.loopOpens n).gates.lastMain = s.gates.lastMain ∧
      (s.loopOpens n).gates.round = s.gates.round ∧ (s.loopOpens n).gates.classes = s.gates.classes ∧ (s.loopOpens n).gates.recent = s.gates.recent ∧
      (s.loopOpens n).gates.passback = s.gates.passback ∧ (s.loopOpens n).notices.settings = s.notices.settings ∧ (s.loopOpens n).notices.threshold = s.notices.threshold ∧
      (s.loopOpens n).drive.status = s.drive.status ∧ (s.loopOpens n).drive.silent = s.drive.silent ∧ (s.loopOpens n).drive.lastRef = s.drive.lastRef ∧
      (s.loopOpens n).drive.lastFrame = s.drive.lastFrame := by
  simp only [State.loopOpens]; (repeat' split) <;> simp

@[simp] theorem State.estopChange_frame (s : State) (n : Ix4) (b : Bool) :
    (s.estopChange n b).now = s.now ∧ (s.estopChange n b).geo = s.geo ∧ (s.estopChange n b).trk = s.trk ∧
      (s.estopChange n b).doors = s.doors ∧ (s.estopChange n b).links = s.links ∧ (s.estopChange n b).ctl = s.ctl ∧
      (s.estopChange n b).pending = s.pending ∧ (s.estopChange n b).brk.sbApplied = s.brk.sbApplied ∧ (s.estopChange n b).brk.sbReleased = s.brk.sbReleased ∧
      (s.estopChange n b).brk.ebApplied = s.brk.ebApplied ∧ (s.estopChange n b).brk.ebReleased = s.brk.ebReleased ∧ (s.estopChange n b).plan.nextId = s.plan.nextId ∧
      (s.estopChange n b).plan.pendingRun = s.plan.pendingRun ∧ (s.estopChange n b).plan.watches = s.plan.watches ∧ (s.estopChange n b).plan.prev = s.plan.prev ∧
      (s.estopChange n b).line.mode = s.line.mode ∧ (s.estopChange n b).line.key = s.line.key ∧ (s.estopChange n b).line.restartPending = s.line.restartPending ∧
      (s.estopChange n b).line.flags = s.line.flags ∧ (s.estopChange n b).line.atStop = s.line.atStop ∧ (s.estopChange n b).gates.busReleased = s.gates.busReleased ∧
      (s.estopChange n b).gates.trans = s.gates.trans ∧ (s.estopChange n b).gates.lastMain = s.gates.lastMain ∧ (s.estopChange n b).gates.round = s.gates.round ∧
      (s.estopChange n b).gates.classes = s.gates.classes ∧ (s.estopChange n b).gates.recent = s.gates.recent ∧ (s.estopChange n b).gates.passback = s.gates.passback ∧
      (s.estopChange n b).notices.settings = s.notices.settings ∧ (s.estopChange n b).notices.threshold = s.notices.threshold ∧ (s.estopChange n b).drive.status = s.drive.status ∧
      (s.estopChange n b).drive.silent = s.drive.silent ∧ (s.estopChange n b).drive.lastRef = s.drive.lastRef ∧ (s.estopChange n b).drive.lastFrame = s.drive.lastFrame := by
  simp only [State.estopChange]; (repeat' split) <;> simp

@[simp] theorem State.keyChange_frame (s : State) (b : Bool) :
    (s.keyChange b).now = s.now ∧ (s.keyChange b).geo = s.geo ∧ (s.keyChange b).trk = s.trk ∧
      (s.keyChange b).sup = s.sup ∧ (s.keyChange b).plan = s.plan ∧ (s.keyChange b).brk = s.brk ∧
      (s.keyChange b).doors = s.doors ∧ (s.keyChange b).gates = s.gates ∧ (s.keyChange b).tally = s.tally ∧
      (s.keyChange b).links = s.links ∧ (s.keyChange b).drive = s.drive ∧ (s.keyChange b).ctl = s.ctl ∧
      (s.keyChange b).freeSeq = s.freeSeq ∧ (s.keyChange b).pending = s.pending ∧ (s.keyChange b).line.mode = s.line.mode ∧
      (s.keyChange b).line.loops = s.line.loops ∧ (s.keyChange b).line.restartPending = s.line.restartPending ∧ (s.keyChange b).line.flags = s.line.flags ∧
      (s.keyChange b).line.atStop = s.line.atStop ∧ (s.keyChange b).line.conds = s.line.conds ∧ (s.keyChange b).line.memory = s.line.memory ∧
      (s.keyChange b).notices.settings = s.notices.settings ∧ (s.keyChange b).notices.threshold = s.notices.threshold := by
  simp only [State.keyChange]; (repeat' split) <;> simp

@[simp] theorem State.markerReport_frame (s : State) (c : Car) (n : Nat) :
    (s.markerReport c n).now = s.now ∧ (s.markerReport c n).geo = s.geo ∧ (s.markerReport c n).doors = s.doors ∧
      (s.markerReport c n).links = s.links ∧ (s.markerReport c n).ctl = s.ctl ∧ (s.markerReport c n).pending = s.pending ∧
      (s.markerReport c n).brk.sbApplied = s.brk.sbApplied ∧ (s.markerReport c n).brk.sbReleased = s.brk.sbReleased ∧ (s.markerReport c n).brk.ebApplied = s.brk.ebApplied ∧
      (s.markerReport c n).brk.ebReleased = s.brk.ebReleased ∧ (s.markerReport c n).plan.nextId = s.plan.nextId ∧ (s.markerReport c n).plan.pendingRun = s.plan.pendingRun ∧
      (s.markerReport c n).plan.watches = s.plan.watches ∧ (s.markerReport c n).plan.prev = s.plan.prev ∧ (s.markerReport c n).line.mode = s.line.mode ∧
      (s.markerReport c n).line.key = s.line.key ∧ (s.markerReport c n).line.loops = s.line.loops ∧ (s.markerReport c n).line.restartPending = s.line.restartPending ∧
      (s.markerReport c n).line.flags = s.line.flags ∧ (s.markerReport c n).gates.busReleased = s.gates.busReleased ∧ (s.markerReport c n).gates.trans = s.gates.trans ∧
      (s.markerReport c n).gates.lastMain = s.gates.lastMain ∧ (s.markerReport c n).gates.round = s.gates.round ∧ (s.markerReport c n).gates.classes = s.gates.classes ∧
      (s.markerReport c n).gates.recent = s.gates.recent ∧ (s.markerReport c n).gates.passback = s.gates.passback ∧ (s.markerReport c n).notices.settings = s.notices.settings ∧
      (s.markerReport c n).notices.threshold = s.notices.threshold ∧ (s.markerReport c n).drive.status = s.drive.status ∧ (s.markerReport c n).drive.silent = s.drive.silent ∧
      (s.markerReport c n).drive.lastRef = s.drive.lastRef ∧ (s.markerReport c n).drive.lastFrame = s.drive.lastFrame ∧ (s.markerReport c n).trk.count = s.trk.count ∧
      (s.markerReport c n).trk.countBase = s.trk.countBase := by
  simp only [State.markerReport]; (repeat' split) <;> simp [Tracker.place]

@[simp] theorem State.takeMarkerReport_frame (s : State) (c : Car) (n : Nat) :
    (s.takeMarkerReport c n).now = s.now ∧ (s.takeMarkerReport c n).geo = s.geo ∧ (s.takeMarkerReport c n).doors = s.doors ∧
      (s.takeMarkerReport c n).ctl = s.ctl ∧ (s.takeMarkerReport c n).pending = s.pending ∧ (s.takeMarkerReport c n).brk.sbApplied = s.brk.sbApplied ∧
      (s.takeMarkerReport c n).brk.sbReleased = s.brk.sbReleased ∧ (s.takeMarkerReport c n).brk.ebApplied = s.brk.ebApplied ∧ (s.takeMarkerReport c n).brk.ebReleased = s.brk.ebReleased ∧
      (s.takeMarkerReport c n).plan.nextId = s.plan.nextId ∧ (s.takeMarkerReport c n).plan.pendingRun = s.plan.pendingRun ∧ (s.takeMarkerReport c n).plan.watches = s.plan.watches ∧
      (s.takeMarkerReport c n).plan.prev = s.plan.prev ∧ (s.takeMarkerReport c n).line.mode = s.line.mode ∧ (s.takeMarkerReport c n).line.key = s.line.key ∧
      (s.takeMarkerReport c n).line.loops = s.line.loops ∧ (s.takeMarkerReport c n).line.restartPending = s.line.restartPending ∧ (s.takeMarkerReport c n).line.flags = s.line.flags ∧
      (s.takeMarkerReport c n).gates.busReleased = s.gates.busReleased ∧ (s.takeMarkerReport c n).gates.trans = s.gates.trans ∧ (s.takeMarkerReport c n).gates.lastMain = s.gates.lastMain ∧
      (s.takeMarkerReport c n).gates.round = s.gates.round ∧ (s.takeMarkerReport c n).gates.classes = s.gates.classes ∧ (s.takeMarkerReport c n).gates.recent = s.gates.recent ∧
      (s.takeMarkerReport c n).gates.passback = s.gates.passback ∧ (s.takeMarkerReport c n).notices.settings = s.notices.settings ∧ (s.takeMarkerReport c n).notices.threshold = s.notices.threshold ∧
      (s.takeMarkerReport c n).drive.status = s.drive.status ∧ (s.takeMarkerReport c n).drive.silent = s.drive.silent ∧ (s.takeMarkerReport c n).drive.lastRef = s.drive.lastRef ∧
      (s.takeMarkerReport c n).drive.lastFrame = s.drive.lastFrame ∧ (s.takeMarkerReport c n).trk.count = s.trk.count ∧ (s.takeMarkerReport c n).trk.countBase = s.trk.countBase := by
  simp [State.takeMarkerReport]

@[simp] theorem State.joinArrival_frame (s : State) (k : Port) (t : Byte) (n y : Nat) (j : Judgement) :
    (s.joinArrival k t n y j).now = s.now ∧ (s.joinArrival k t n y j).geo = s.geo ∧ (s.joinArrival k t n y j).trk = s.trk ∧
      (s.joinArrival k t n y j).sup = s.sup ∧ (s.joinArrival k t n y j).plan = s.plan ∧ (s.joinArrival k t n y j).brk = s.brk ∧
      (s.joinArrival k t n y j).doors = s.doors ∧ (s.joinArrival k t n y j).gates = s.gates ∧ (s.joinArrival k t n y j).tally = s.tally ∧
      (s.joinArrival k t n y j).line = s.line ∧ (s.joinArrival k t n y j).links = s.links ∧ (s.joinArrival k t n y j).drive = s.drive ∧
      (s.joinArrival k t n y j).notices = s.notices ∧ (s.joinArrival k t n y j).freeSeq = s.freeSeq ∧ (s.joinArrival k t n y j).pending = s.pending := by
  simp only [State.joinArrival]; (repeat' split) <;> simp

@[simp] theorem State.arriveFrame_frame (s : State) (k : Port) (f : ControlFrame) :
    (s.arriveFrame k f).now = s.now ∧ (s.arriveFrame k f).geo = s.geo ∧ (s.arriveFrame k f).trk = s.trk ∧
      (s.arriveFrame k f).sup = s.sup ∧ (s.arriveFrame k f).plan = s.plan ∧ (s.arriveFrame k f).brk = s.brk ∧
      (s.arriveFrame k f).doors = s.doors ∧ (s.arriveFrame k f).gates = s.gates ∧ (s.arriveFrame k f).tally = s.tally ∧
      (s.arriveFrame k f).line = s.line ∧ (s.arriveFrame k f).links = s.links ∧ (s.arriveFrame k f).drive = s.drive ∧
      (s.arriveFrame k f).notices = s.notices ∧ (s.arriveFrame k f).freeSeq = s.freeSeq ∧ (s.arriveFrame k f).pending = s.pending := by
  simp [State.arriveFrame]

@[simp] theorem State.controlByte_frame (s : State) (k : Port) (b : Byte) :
    (s.controlByte k b).now = s.now ∧ (s.controlByte k b).geo = s.geo ∧ (s.controlByte k b).trk = s.trk ∧
      (s.controlByte k b).sup = s.sup ∧ (s.controlByte k b).plan = s.plan ∧ (s.controlByte k b).brk = s.brk ∧
      (s.controlByte k b).doors = s.doors ∧ (s.controlByte k b).gates = s.gates ∧ (s.controlByte k b).tally = s.tally ∧
      (s.controlByte k b).line = s.line ∧ (s.controlByte k b).links = s.links ∧ (s.controlByte k b).drive = s.drive ∧
      (s.controlByte k b).notices = s.notices ∧ (s.controlByte k b).freeSeq = s.freeSeq ∧ (s.controlByte k b).pending = s.pending := by
  simp only [State.controlByte]; (repeat' split) <;> simp

@[simp] theorem State.receiveTimeout_frame (s : State) (k : Port) :
    (s.receiveTimeout k).now = s.now ∧ (s.receiveTimeout k).geo = s.geo ∧ (s.receiveTimeout k).trk = s.trk ∧
      (s.receiveTimeout k).sup = s.sup ∧ (s.receiveTimeout k).plan = s.plan ∧ (s.receiveTimeout k).brk = s.brk ∧
      (s.receiveTimeout k).doors = s.doors ∧ (s.receiveTimeout k).gates = s.gates ∧ (s.receiveTimeout k).tally = s.tally ∧
      (s.receiveTimeout k).line = s.line ∧ (s.receiveTimeout k).links = s.links ∧ (s.receiveTimeout k).drive = s.drive ∧
      (s.receiveTimeout k).notices = s.notices ∧ (s.receiveTimeout k).freeSeq = s.freeSeq ∧ (s.receiveTimeout k).pending = s.pending := by
  simp [State.receiveTimeout]

@[simp] theorem State.controlFrame_frame (s : State) (k : Port) (b : List Byte) :
    (s.controlFrame k b).now = s.now ∧ (s.controlFrame k b).geo = s.geo ∧ (s.controlFrame k b).trk = s.trk ∧
      (s.controlFrame k b).sup = s.sup ∧ (s.controlFrame k b).plan = s.plan ∧ (s.controlFrame k b).brk = s.brk ∧
      (s.controlFrame k b).doors = s.doors ∧ (s.controlFrame k b).gates = s.gates ∧ (s.controlFrame k b).tally = s.tally ∧
      (s.controlFrame k b).line = s.line ∧ (s.controlFrame k b).links = s.links ∧ (s.controlFrame k b).drive = s.drive ∧
      (s.controlFrame k b).notices = s.notices ∧ (s.controlFrame k b).freeSeq = s.freeSeq ∧ (s.controlFrame k b).pending = s.pending := by
  simp only [State.controlFrame]; (repeat' split) <;> simp

@[simp] theorem State.load_frame {α : Type} (s : State) (r : Except Reply (Part α)) (f : Part α → Staging) :
    (s.load r f).1.now = s.now ∧
      (s.load r f).1.trk = s.trk ∧
      (s.load r f).1.sup = s.sup ∧
      (s.load r f).1.plan = s.plan ∧
      (s.load r f).1.brk = s.brk ∧
      (s.load r f).1.doors = s.doors ∧
      (s.load r f).1.gates = s.gates ∧
      (s.load r f).1.tally = s.tally ∧
      (s.load r f).1.line = s.line ∧
      (s.load r f).1.links = s.links ∧
      (s.load r f).1.drive = s.drive ∧
      (s.load r f).1.ctl = s.ctl ∧
      (s.load r f).1.notices = s.notices ∧
      (s.load r f).1.freeSeq = s.freeSeq ∧
      (s.load r f).1.pending = s.pending ∧
      (s.load r f).1.geo.committed = s.geo.committed := by
  simp only [State.load]; (repeat' split) <;> simp

@[simp] theorem State.loadZones_frame (s : State) (n i : Nat) (es : List Zone) :
    (s.loadZones n i es).1.now = s.now ∧ (s.loadZones n i es).1.trk = s.trk ∧ (s.loadZones n i es).1.sup = s.sup ∧
      (s.loadZones n i es).1.plan = s.plan ∧ (s.loadZones n i es).1.brk = s.brk ∧ (s.loadZones n i es).1.doors = s.doors ∧
      (s.loadZones n i es).1.gates = s.gates ∧ (s.loadZones n i es).1.tally = s.tally ∧ (s.loadZones n i es).1.line = s.line ∧
      (s.loadZones n i es).1.links = s.links ∧ (s.loadZones n i es).1.drive = s.drive ∧ (s.loadZones n i es).1.ctl = s.ctl ∧
      (s.loadZones n i es).1.notices = s.notices ∧ (s.loadZones n i es).1.freeSeq = s.freeSeq ∧ (s.loadZones n i es).1.pending = s.pending ∧
      (s.loadZones n i es).1.geo.committed = s.geo.committed := by
  simp [State.loadZones]

@[simp] theorem State.loadStations_frame (s : State) (n i : Nat) (es : List Station) :
    (s.loadStations n i es).1.now = s.now ∧ (s.loadStations n i es).1.trk = s.trk ∧ (s.loadStations n i es).1.sup = s.sup ∧
      (s.loadStations n i es).1.plan = s.plan ∧ (s.loadStations n i es).1.brk = s.brk ∧ (s.loadStations n i es).1.doors = s.doors ∧
      (s.loadStations n i es).1.gates = s.gates ∧ (s.loadStations n i es).1.tally = s.tally ∧ (s.loadStations n i es).1.line = s.line ∧
      (s.loadStations n i es).1.links = s.links ∧ (s.loadStations n i es).1.drive = s.drive ∧ (s.loadStations n i es).1.ctl = s.ctl ∧
      (s.loadStations n i es).1.notices = s.notices ∧ (s.loadStations n i es).1.freeSeq = s.freeSeq ∧ (s.loadStations n i es).1.pending = s.pending ∧
      (s.loadStations n i es).1.geo.committed = s.geo.committed := by
  simp [State.loadStations]

@[simp] theorem State.loadHalts_frame (s : State) (n i : Nat) (es : List Halt) :
    (s.loadHalts n i es).1.now = s.now ∧ (s.loadHalts n i es).1.trk = s.trk ∧ (s.loadHalts n i es).1.sup = s.sup ∧
      (s.loadHalts n i es).1.plan = s.plan ∧ (s.loadHalts n i es).1.brk = s.brk ∧ (s.loadHalts n i es).1.doors = s.doors ∧
      (s.loadHalts n i es).1.gates = s.gates ∧ (s.loadHalts n i es).1.tally = s.tally ∧ (s.loadHalts n i es).1.line = s.line ∧
      (s.loadHalts n i es).1.links = s.links ∧ (s.loadHalts n i es).1.drive = s.drive ∧ (s.loadHalts n i es).1.ctl = s.ctl ∧
      (s.loadHalts n i es).1.notices = s.notices ∧ (s.loadHalts n i es).1.freeSeq = s.freeSeq ∧ (s.loadHalts n i es).1.pending = s.pending ∧
      (s.loadHalts n i es).1.geo.committed = s.geo.committed := by
  simp [State.loadHalts]

@[simp] theorem State.loadMarkers_frame (s : State) (n i : Nat) (es : List Marker) :
    (s.loadMarkers n i es).1.now = s.now ∧ (s.loadMarkers n i es).1.trk = s.trk ∧ (s.loadMarkers n i es).1.sup = s.sup ∧
      (s.loadMarkers n i es).1.plan = s.plan ∧ (s.loadMarkers n i es).1.brk = s.brk ∧ (s.loadMarkers n i es).1.doors = s.doors ∧
      (s.loadMarkers n i es).1.gates = s.gates ∧ (s.loadMarkers n i es).1.tally = s.tally ∧ (s.loadMarkers n i es).1.line = s.line ∧
      (s.loadMarkers n i es).1.links = s.links ∧ (s.loadMarkers n i es).1.drive = s.drive ∧ (s.loadMarkers n i es).1.ctl = s.ctl ∧
      (s.loadMarkers n i es).1.notices = s.notices ∧ (s.loadMarkers n i es).1.freeSeq = s.freeSeq ∧ (s.loadMarkers n i es).1.pending = s.pending ∧
      (s.loadMarkers n i es).1.geo.committed = s.geo.committed := by
  simp [State.loadMarkers]

@[simp] theorem State.loadCars_frame (s : State) (n i : Nat) (es : List CarData) :
    (s.loadCars n i es).1.now = s.now ∧ (s.loadCars n i es).1.trk = s.trk ∧ (s.loadCars n i es).1.sup = s.sup ∧
      (s.loadCars n i es).1.plan = s.plan ∧ (s.loadCars n i es).1.brk = s.brk ∧ (s.loadCars n i es).1.doors = s.doors ∧
      (s.loadCars n i es).1.gates = s.gates ∧ (s.loadCars n i es).1.tally = s.tally ∧ (s.loadCars n i es).1.line = s.line ∧
      (s.loadCars n i es).1.links = s.links ∧ (s.loadCars n i es).1.drive = s.drive ∧ (s.loadCars n i es).1.ctl = s.ctl ∧
      (s.loadCars n i es).1.notices = s.notices ∧ (s.loadCars n i es).1.freeSeq = s.freeSeq ∧ (s.loadCars n i es).1.pending = s.pending ∧
      (s.loadCars n i es).1.geo.committed = s.geo.committed := by
  simp [State.loadCars]

@[simp] theorem State.loadBraking_frame (s : State) (n i : Nat) (es : List Braking) :
    (s.loadBraking n i es).1.now = s.now ∧ (s.loadBraking n i es).1.trk = s.trk ∧ (s.loadBraking n i es).1.sup = s.sup ∧
      (s.loadBraking n i es).1.plan = s.plan ∧ (s.loadBraking n i es).1.brk = s.brk ∧ (s.loadBraking n i es).1.doors = s.doors ∧
      (s.loadBraking n i es).1.gates = s.gates ∧ (s.loadBraking n i es).1.tally = s.tally ∧ (s.loadBraking n i es).1.line = s.line ∧
      (s.loadBraking n i es).1.links = s.links ∧ (s.loadBraking n i es).1.drive = s.drive ∧ (s.loadBraking n i es).1.ctl = s.ctl ∧
      (s.loadBraking n i es).1.notices = s.notices ∧ (s.loadBraking n i es).1.freeSeq = s.freeSeq ∧ (s.loadBraking n i es).1.pending = s.pending ∧
      (s.loadBraking n i es).1.geo.committed = s.geo.committed := by
  simp [State.loadBraking]

@[simp] theorem State.loadGates_frame (s : State) (n i : Nat) (es : List GateEntry) :
    (s.loadGates n i es).1.now = s.now ∧ (s.loadGates n i es).1.trk = s.trk ∧ (s.loadGates n i es).1.sup = s.sup ∧
      (s.loadGates n i es).1.plan = s.plan ∧ (s.loadGates n i es).1.brk = s.brk ∧ (s.loadGates n i es).1.doors = s.doors ∧
      (s.loadGates n i es).1.gates = s.gates ∧ (s.loadGates n i es).1.tally = s.tally ∧ (s.loadGates n i es).1.line = s.line ∧
      (s.loadGates n i es).1.links = s.links ∧ (s.loadGates n i es).1.drive = s.drive ∧ (s.loadGates n i es).1.ctl = s.ctl ∧
      (s.loadGates n i es).1.notices = s.notices ∧ (s.loadGates n i es).1.freeSeq = s.freeSeq ∧ (s.loadGates n i es).1.pending = s.pending ∧
      (s.loadGates n i es).1.geo.committed = s.geo.committed := by
  simp [State.loadGates]

@[simp] theorem State.loadSegments_frame (s : State) (n i : Nat) (l : Option LineRecord) (es : List Segment) :
    (s.loadSegments n i l es).1.now = s.now ∧ (s.loadSegments n i l es).1.trk = s.trk ∧ (s.loadSegments n i l es).1.sup = s.sup ∧
      (s.loadSegments n i l es).1.plan = s.plan ∧ (s.loadSegments n i l es).1.brk = s.brk ∧ (s.loadSegments n i l es).1.doors = s.doors ∧
      (s.loadSegments n i l es).1.gates = s.gates ∧ (s.loadSegments n i l es).1.tally = s.tally ∧ (s.loadSegments n i l es).1.line = s.line ∧
      (s.loadSegments n i l es).1.links = s.links ∧ (s.loadSegments n i l es).1.drive = s.drive ∧ (s.loadSegments n i l es).1.ctl = s.ctl ∧
      (s.loadSegments n i l es).1.notices = s.notices ∧ (s.loadSegments n i l es).1.freeSeq = s.freeSeq ∧ (s.loadSegments n i l es).1.pending = s.pending ∧
      (s.loadSegments n i l es).1.geo.committed = s.geo.committed := by
  simp [State.loadSegments]

@[simp] theorem State.changeMode_frame (s : State) (m : Mode) (e : ModeEvent) :
    (s.changeMode m e).now = s.now ∧ (s.changeMode m e).geo = s.geo ∧ (s.changeMode m e).trk = s.trk ∧
      (s.changeMode m e).sup = s.sup ∧ (s.changeMode m e).plan = s.plan ∧ (s.changeMode m e).brk = s.brk ∧
      (s.changeMode m e).doors = s.doors ∧ (s.changeMode m e).gates = s.gates ∧ (s.changeMode m e).tally = s.tally ∧
      (s.changeMode m e).links = s.links ∧ (s.changeMode m e).drive = s.drive ∧ (s.changeMode m e).ctl = s.ctl ∧
      (s.changeMode m e).freeSeq = s.freeSeq ∧ (s.changeMode m e).pending = s.pending ∧ (s.changeMode m e).line.key = s.line.key ∧
      (s.changeMode m e).line.loops = s.line.loops ∧ (s.changeMode m e).line.restartPending = s.line.restartPending ∧ (s.changeMode m e).line.flags = s.line.flags ∧
      (s.changeMode m e).line.atStop = s.line.atStop ∧ (s.changeMode m e).line.conds = s.line.conds ∧ (s.changeMode m e).line.memory = s.line.memory ∧
      (s.changeMode m e).notices.settings = s.notices.settings ∧ (s.changeMode m e).notices.threshold = s.notices.threshold := by
  simp only [State.changeMode]; (repeat' split) <;> simp

@[simp] theorem State.commit_frame (s : State) (t : Tables) :
    (s.commit t).now = s.now ∧ (s.commit t).doors = s.doors ∧ (s.commit t).links = s.links ∧
      (s.commit t).ctl = s.ctl ∧ (s.commit t).pending = s.pending ∧ (s.commit t).brk.sbApplied = s.brk.sbApplied ∧
      (s.commit t).brk.sbReleased = s.brk.sbReleased ∧ (s.commit t).brk.ebApplied = s.brk.ebApplied ∧ (s.commit t).brk.ebReleased = s.brk.ebReleased ∧
      (s.commit t).plan.nextId = s.plan.nextId ∧ (s.commit t).line.key = s.line.key ∧ (s.commit t).line.loops = s.line.loops ∧
      (s.commit t).line.restartPending = s.line.restartPending ∧ (s.commit t).line.flags = s.line.flags ∧ (s.commit t).notices.settings = s.notices.settings ∧
      (s.commit t).notices.threshold = s.notices.threshold ∧ (s.commit t).drive.status = s.drive.status ∧ (s.commit t).drive.silent = s.drive.silent ∧
      (s.commit t).drive.lastRef = s.drive.lastRef ∧ (s.commit t).drive.lastFrame = s.drive.lastFrame := by
  simp [State.commit, Planner.commit, Gates.rebuild]

@[simp] theorem State.commitGeometry_frame (s : State) :
    (s.commitGeometry).1.now = s.now ∧ (s.commitGeometry).1.doors = s.doors ∧ (s.commitGeometry).1.links = s.links ∧
      (s.commitGeometry).1.ctl = s.ctl ∧ (s.commitGeometry).1.pending = s.pending ∧ (s.commitGeometry).1.brk.sbApplied = s.brk.sbApplied ∧
      (s.commitGeometry).1.brk.sbReleased = s.brk.sbReleased ∧ (s.commitGeometry).1.brk.ebApplied = s.brk.ebApplied ∧ (s.commitGeometry).1.brk.ebReleased = s.brk.ebReleased ∧
      (s.commitGeometry).1.plan.nextId = s.plan.nextId ∧ (s.commitGeometry).1.line.key = s.line.key ∧ (s.commitGeometry).1.line.loops = s.line.loops ∧
      (s.commitGeometry).1.line.restartPending = s.line.restartPending ∧ (s.commitGeometry).1.line.flags = s.line.flags ∧ (s.commitGeometry).1.notices.settings = s.notices.settings ∧
      (s.commitGeometry).1.notices.threshold = s.notices.threshold ∧ (s.commitGeometry).1.drive.status = s.drive.status ∧ (s.commitGeometry).1.drive.silent = s.drive.silent ∧
      (s.commitGeometry).1.drive.lastRef = s.drive.lastRef ∧ (s.commitGeometry).1.drive.lastFrame = s.drive.lastFrame := by
  simp only [State.commitGeometry]; (repeat' split) <;> simp

@[simp] theorem State.discardGeometry_frame (s : State) :
    (s.discardGeometry).1.now = s.now ∧ (s.discardGeometry).1.trk = s.trk ∧ (s.discardGeometry).1.sup = s.sup ∧
      (s.discardGeometry).1.plan = s.plan ∧ (s.discardGeometry).1.brk = s.brk ∧ (s.discardGeometry).1.doors = s.doors ∧
      (s.discardGeometry).1.gates = s.gates ∧ (s.discardGeometry).1.tally = s.tally ∧ (s.discardGeometry).1.line = s.line ∧
      (s.discardGeometry).1.links = s.links ∧ (s.discardGeometry).1.drive = s.drive ∧ (s.discardGeometry).1.ctl = s.ctl ∧
      (s.discardGeometry).1.notices = s.notices ∧ (s.discardGeometry).1.freeSeq = s.freeSeq ∧ (s.discardGeometry).1.pending = s.pending ∧
      (s.discardGeometry).1.geo.committed = s.geo.committed := by
  simp [State.discardGeometry]

@[simp] theorem State.enterMode_frame (s : State) (m : Mode) :
    (s.enterMode m).now = s.now ∧ (s.enterMode m).geo = s.geo ∧ (s.enterMode m).trk = s.trk ∧
      (s.enterMode m).sup = s.sup ∧ (s.enterMode m).plan = s.plan ∧ (s.enterMode m).brk = s.brk ∧
      (s.enterMode m).doors = s.doors ∧ (s.enterMode m).tally = s.tally ∧ (s.enterMode m).links = s.links ∧
      (s.enterMode m).drive = s.drive ∧ (s.enterMode m).ctl = s.ctl ∧ (s.enterMode m).freeSeq = s.freeSeq ∧
      (s.enterMode m).pending = s.pending ∧ (s.enterMode m).line.key = s.line.key ∧ (s.enterMode m).line.loops = s.line.loops ∧
      (s.enterMode m).line.restartPending = s.line.restartPending ∧ (s.enterMode m).line.flags = s.line.flags ∧ (s.enterMode m).line.atStop = s.line.atStop ∧
      (s.enterMode m).line.conds = s.line.conds ∧ (s.enterMode m).line.memory = s.line.memory ∧ (s.enterMode m).gates.busReleased = s.gates.busReleased ∧
      (s.enterMode m).gates.trans = s.gates.trans ∧ (s.enterMode m).gates.lastMain = s.gates.lastMain ∧ (s.enterMode m).gates.round = s.gates.round ∧
      (s.enterMode m).gates.classes = s.gates.classes ∧ (s.enterMode m).gates.recent = s.gates.recent ∧ (s.enterMode m).gates.passback = s.gates.passback ∧
      (s.enterMode m).notices.settings = s.notices.settings ∧ (s.enterMode m).notices.threshold = s.notices.threshold := by
  simp only [State.enterMode]; (repeat' split) <;> simp

@[simp] theorem State.setMode_frame (s : State) (m : Nat) :
    (s.setMode m).1.now = s.now ∧ (s.setMode m).1.geo = s.geo ∧ (s.setMode m).1.trk = s.trk ∧
      (s.setMode m).1.sup = s.sup ∧ (s.setMode m).1.plan = s.plan ∧ (s.setMode m).1.brk = s.brk ∧
      (s.setMode m).1.doors = s.doors ∧ (s.setMode m).1.tally = s.tally ∧ (s.setMode m).1.links = s.links ∧
      (s.setMode m).1.drive = s.drive ∧ (s.setMode m).1.ctl = s.ctl ∧ (s.setMode m).1.freeSeq = s.freeSeq ∧
      (s.setMode m).1.pending = s.pending ∧ (s.setMode m).1.line.key = s.line.key ∧ (s.setMode m).1.line.loops = s.line.loops ∧
      (s.setMode m).1.line.restartPending = s.line.restartPending ∧ (s.setMode m).1.line.flags = s.line.flags ∧ (s.setMode m).1.line.atStop = s.line.atStop ∧
      (s.setMode m).1.line.conds = s.line.conds ∧ (s.setMode m).1.line.memory = s.line.memory ∧ (s.setMode m).1.gates.busReleased = s.gates.busReleased ∧
      (s.setMode m).1.gates.trans = s.gates.trans ∧ (s.setMode m).1.gates.lastMain = s.gates.lastMain ∧ (s.setMode m).1.gates.round = s.gates.round ∧
      (s.setMode m).1.gates.classes = s.gates.classes ∧ (s.setMode m).1.gates.recent = s.gates.recent ∧ (s.setMode m).1.gates.passback = s.gates.passback ∧
      (s.setMode m).1.notices.settings = s.notices.settings ∧ (s.setMode m).1.notices.threshold = s.notices.threshold := by
  simp only [State.setMode]; (repeat' split) <;> simp

@[simp] theorem State.lowerMemory_frame (s : State) :
    (s.lowerMemory).now = s.now ∧ (s.lowerMemory).geo = s.geo ∧ (s.lowerMemory).trk = s.trk ∧
      (s.lowerMemory).sup = s.sup ∧ (s.lowerMemory).plan = s.plan ∧ (s.lowerMemory).brk = s.brk ∧
      (s.lowerMemory).doors = s.doors ∧ (s.lowerMemory).gates = s.gates ∧ (s.lowerMemory).tally = s.tally ∧
      (s.lowerMemory).links = s.links ∧ (s.lowerMemory).drive = s.drive ∧ (s.lowerMemory).ctl = s.ctl ∧
      (s.lowerMemory).freeSeq = s.freeSeq ∧ (s.lowerMemory).pending = s.pending ∧ (s.lowerMemory).line.mode = s.line.mode ∧
      (s.lowerMemory).line.key = s.line.key ∧ (s.lowerMemory).line.loops = s.line.loops ∧ (s.lowerMemory).line.restartPending = s.line.restartPending ∧
      (s.lowerMemory).line.flags = s.line.flags ∧ (s.lowerMemory).line.atStop = s.line.atStop ∧ (s.lowerMemory).line.conds = s.line.conds ∧
      (s.lowerMemory).notices.settings = s.notices.settings ∧ (s.lowerMemory).notices.threshold = s.notices.threshold := by
  simp [State.lowerMemory]

@[simp] theorem State.clearSeverity_frame (s : State) :
    (s.clearSeverity).1.now = s.now ∧ (s.clearSeverity).1.geo = s.geo ∧ (s.clearSeverity).1.trk = s.trk ∧
      (s.clearSeverity).1.sup = s.sup ∧ (s.clearSeverity).1.plan = s.plan ∧ (s.clearSeverity).1.brk = s.brk ∧
      (s.clearSeverity).1.doors = s.doors ∧ (s.clearSeverity).1.gates = s.gates ∧ (s.clearSeverity).1.tally = s.tally ∧
      (s.clearSeverity).1.links = s.links ∧ (s.clearSeverity).1.drive = s.drive ∧ (s.clearSeverity).1.ctl = s.ctl ∧
      (s.clearSeverity).1.freeSeq = s.freeSeq ∧ (s.clearSeverity).1.pending = s.pending ∧ (s.clearSeverity).1.line.mode = s.line.mode ∧
      (s.clearSeverity).1.line.key = s.line.key ∧ (s.clearSeverity).1.line.loops = s.line.loops ∧ (s.clearSeverity).1.line.restartPending = s.line.restartPending ∧
      (s.clearSeverity).1.line.flags = s.line.flags ∧ (s.clearSeverity).1.line.atStop = s.line.atStop ∧ (s.clearSeverity).1.line.conds = s.line.conds ∧
      (s.clearSeverity).1.notices.settings = s.notices.settings ∧ (s.clearSeverity).1.notices.threshold = s.notices.threshold := by
  simp [State.clearSeverity]

@[simp] theorem State.restart_frame (s : State) :
    (s.restart).1.now = s.now ∧ (s.restart).1.geo = s.geo ∧ (s.restart).1.trk = s.trk ∧
      (s.restart).1.sup = s.sup ∧ (s.restart).1.plan = s.plan ∧ (s.restart).1.brk = s.brk ∧
      (s.restart).1.doors = s.doors ∧ (s.restart).1.gates = s.gates ∧ (s.restart).1.tally = s.tally ∧
      (s.restart).1.links = s.links ∧ (s.restart).1.drive = s.drive ∧ (s.restart).1.ctl = s.ctl ∧
      (s.restart).1.notices = s.notices ∧ (s.restart).1.freeSeq = s.freeSeq ∧ (s.restart).1.pending = s.pending ∧
      (s.restart).1.line.mode = s.line.mode ∧ (s.restart).1.line.key = s.line.key ∧ (s.restart).1.line.loops = s.line.loops ∧
      (s.restart).1.line.flags = s.line.flags ∧ (s.restart).1.line.atStop = s.line.atStop ∧ (s.restart).1.line.conds = s.line.conds ∧
      (s.restart).1.line.memory = s.line.memory := by
  simp only [State.restart]; (repeat' split) <;> simp

@[simp] theorem State.setReference_frame (s : State) (h : Nat) :
    (s.setReference h).1.now = s.now ∧ (s.setReference h).1.geo = s.geo ∧ (s.setReference h).1.sup = s.sup ∧
      (s.setReference h).1.brk = s.brk ∧ (s.setReference h).1.doors = s.doors ∧ (s.setReference h).1.gates = s.gates ∧
      (s.setReference h).1.tally = s.tally ∧ (s.setReference h).1.links = s.links ∧ (s.setReference h).1.drive = s.drive ∧
      (s.setReference h).1.ctl = s.ctl ∧ (s.setReference h).1.freeSeq = s.freeSeq ∧ (s.setReference h).1.pending = s.pending ∧
      (s.setReference h).1.plan.nextId = s.plan.nextId ∧ (s.setReference h).1.plan.pendingRun = s.plan.pendingRun ∧ (s.setReference h).1.plan.lastRun = s.plan.lastRun ∧
      (s.setReference h).1.plan.watches = s.plan.watches ∧ (s.setReference h).1.plan.ref = s.plan.ref ∧ (s.setReference h).1.plan.prev = s.plan.prev ∧
      (s.setReference h).1.line.mode = s.line.mode ∧ (s.setReference h).1.line.key = s.line.key ∧ (s.setReference h).1.line.loops = s.line.loops ∧
      (s.setReference h).1.line.restartPending = s.line.restartPending ∧ (s.setReference h).1.line.flags = s.line.flags ∧ (s.setReference h).1.notices.settings = s.notices.settings ∧
      (s.setReference h).1.notices.threshold = s.notices.threshold := by
  simp only [State.setReference]; (repeat' split) <;> simp

@[simp] theorem State.putSetting_frame (s : State) (k : NoticeClass) (x : NoticeSetting) :
    (s.putSetting k x).now = s.now ∧ (s.putSetting k x).geo = s.geo ∧ (s.putSetting k x).trk = s.trk ∧
      (s.putSetting k x).sup = s.sup ∧ (s.putSetting k x).plan = s.plan ∧ (s.putSetting k x).brk = s.brk ∧
      (s.putSetting k x).doors = s.doors ∧ (s.putSetting k x).gates = s.gates ∧ (s.putSetting k x).tally = s.tally ∧
      (s.putSetting k x).line = s.line ∧ (s.putSetting k x).links = s.links ∧ (s.putSetting k x).drive = s.drive ∧
      (s.putSetting k x).ctl = s.ctl ∧ (s.putSetting k x).freeSeq = s.freeSeq ∧ (s.putSetting k x).pending = s.pending ∧
      (s.putSetting k x).notices.threshold = s.notices.threshold := by
  simp [State.putSetting]

@[simp] theorem State.setNotice_frame (s : State) (a b c d : Nat) :
    (s.setNotice a b c d).1.now = s.now ∧ (s.setNotice a b c d).1.geo = s.geo ∧ (s.setNotice a b c d).1.trk = s.trk ∧
      (s.setNotice a b c d).1.sup = s.sup ∧ (s.setNotice a b c d).1.plan = s.plan ∧ (s.setNotice a b c d).1.brk = s.brk ∧
      (s.setNotice a b c d).1.doors = s.doors ∧ (s.setNotice a b c d).1.gates = s.gates ∧ (s.setNotice a b c d).1.tally = s.tally ∧
      (s.setNotice a b c d).1.line = s.line ∧ (s.setNotice a b c d).1.links = s.links ∧ (s.setNotice a b c d).1.drive = s.drive ∧
      (s.setNotice a b c d).1.ctl = s.ctl ∧ (s.setNotice a b c d).1.freeSeq = s.freeSeq ∧ (s.setNotice a b c d).1.pending = s.pending ∧
      (s.setNotice a b c d).1.notices.threshold = s.notices.threshold := by
  simp only [State.setNotice]; (repeat' split) <;> simp

@[simp] theorem State.putThreshold_frame (s : State) (k : Port) (x : Nat) :
    (s.putThreshold k x).now = s.now ∧ (s.putThreshold k x).geo = s.geo ∧ (s.putThreshold k x).trk = s.trk ∧
      (s.putThreshold k x).sup = s.sup ∧ (s.putThreshold k x).plan = s.plan ∧ (s.putThreshold k x).brk = s.brk ∧
      (s.putThreshold k x).doors = s.doors ∧ (s.putThreshold k x).gates = s.gates ∧ (s.putThreshold k x).tally = s.tally ∧
      (s.putThreshold k x).line = s.line ∧ (s.putThreshold k x).links = s.links ∧ (s.putThreshold k x).drive = s.drive ∧
      (s.putThreshold k x).ctl = s.ctl ∧ (s.putThreshold k x).freeSeq = s.freeSeq ∧ (s.putThreshold k x).pending = s.pending ∧
      (s.putThreshold k x).notices.settings = s.notices.settings := by
  simp [State.putThreshold]

@[simp] theorem State.setThreshold_frame (s : State) (a b : Nat) :
    (s.setThreshold a b).1.now = s.now ∧ (s.setThreshold a b).1.geo = s.geo ∧ (s.setThreshold a b).1.trk = s.trk ∧
      (s.setThreshold a b).1.sup = s.sup ∧ (s.setThreshold a b).1.plan = s.plan ∧ (s.setThreshold a b).1.brk = s.brk ∧
      (s.setThreshold a b).1.doors = s.doors ∧ (s.setThreshold a b).1.gates = s.gates ∧ (s.setThreshold a b).1.tally = s.tally ∧
      (s.setThreshold a b).1.line = s.line ∧ (s.setThreshold a b).1.links = s.links ∧ (s.setThreshold a b).1.drive = s.drive ∧
      (s.setThreshold a b).1.ctl = s.ctl ∧ (s.setThreshold a b).1.freeSeq = s.freeSeq ∧ (s.setThreshold a b).1.pending = s.pending ∧
      (s.setThreshold a b).1.notices.settings = s.notices.settings := by
  simp only [State.setThreshold]; (repeat' split) <;> simp

@[simp] theorem State.announceRun_frame (s : State) (h : Option Nat) :
    (s.announceRun h).1.now = s.now ∧ (s.announceRun h).1.geo = s.geo ∧ (s.announceRun h).1.trk = s.trk ∧
      (s.announceRun h).1.sup = s.sup ∧ (s.announceRun h).1.brk = s.brk ∧ (s.announceRun h).1.doors = s.doors ∧
      (s.announceRun h).1.gates = s.gates ∧ (s.announceRun h).1.tally = s.tally ∧ (s.announceRun h).1.line = s.line ∧
      (s.announceRun h).1.links = s.links ∧ (s.announceRun h).1.drive = s.drive ∧ (s.announceRun h).1.ctl = s.ctl ∧
      (s.announceRun h).1.notices = s.notices ∧ (s.announceRun h).1.freeSeq = s.freeSeq ∧ (s.announceRun h).1.pending = s.pending ∧
      (s.announceRun h).1.plan.run = s.plan.run ∧ (s.announceRun h).1.plan.nextId = s.plan.nextId ∧ (s.announceRun h).1.plan.lastRun = s.plan.lastRun ∧
      (s.announceRun h).1.plan.watches = s.plan.watches ∧ (s.announceRun h).1.plan.ref = s.plan.ref ∧ (s.announceRun h).1.plan.prev = s.plan.prev := by
  simp only [State.announceRun]; (repeat' split) <;> simp

@[simp] theorem State.acceptRun_frame (s : State) (r : Run) :
    (s.acceptRun r).now = s.now ∧ (s.acceptRun r).geo = s.geo ∧ (s.acceptRun r).trk = s.trk ∧
      (s.acceptRun r).sup = s.sup ∧ (s.acceptRun r).brk = s.brk ∧ (s.acceptRun r).links = s.links ∧
      (s.acceptRun r).drive = s.drive ∧ (s.acceptRun r).ctl = s.ctl ∧ (s.acceptRun r).freeSeq = s.freeSeq ∧
      (s.acceptRun r).pending = s.pending ∧ (s.acceptRun r).plan.pendingRun = s.plan.pendingRun ∧ (s.acceptRun r).plan.lastRun = s.plan.lastRun ∧
      (s.acceptRun r).plan.watches = s.plan.watches ∧ (s.acceptRun r).plan.ref = s.plan.ref ∧ (s.acceptRun r).plan.prev = s.plan.prev ∧
      (s.acceptRun r).line.mode = s.line.mode ∧ (s.acceptRun r).line.key = s.line.key ∧ (s.acceptRun r).line.loops = s.line.loops ∧
      (s.acceptRun r).line.restartPending = s.line.restartPending ∧ (s.acceptRun r).line.flags = s.line.flags ∧ (s.acceptRun r).line.atStop = s.line.atStop ∧
      (s.acceptRun r).gates.busReleased = s.gates.busReleased ∧ (s.acceptRun r).gates.trans = s.gates.trans ∧ (s.acceptRun r).gates.lastMain = s.gates.lastMain ∧
      (s.acceptRun r).gates.round = s.gates.round ∧ (s.acceptRun r).gates.classes = s.gates.classes ∧ (s.acceptRun r).gates.recent = s.gates.recent ∧
      (s.acceptRun r).gates.passback = s.gates.passback ∧ (s.acceptRun r).notices.settings = s.notices.settings ∧ (s.acceptRun r).notices.threshold = s.notices.threshold := by
  simp [State.acceptRun]

@[simp] theorem State.startRun_frame (s : State) (a b : Nat) :
    (s.startRun a b).1.now = s.now ∧ (s.startRun a b).1.geo = s.geo ∧ (s.startRun a b).1.trk = s.trk ∧
      (s.startRun a b).1.sup = s.sup ∧ (s.startRun a b).1.brk = s.brk ∧ (s.startRun a b).1.links = s.links ∧
      (s.startRun a b).1.drive = s.drive ∧ (s.startRun a b).1.ctl = s.ctl ∧ (s.startRun a b).1.freeSeq = s.freeSeq ∧
      (s.startRun a b).1.pending = s.pending ∧ (s.startRun a b).1.plan.pendingRun = s.plan.pendingRun ∧ (s.startRun a b).1.plan.lastRun = s.plan.lastRun ∧
      (s.startRun a b).1.plan.watches = s.plan.watches ∧ (s.startRun a b).1.plan.ref = s.plan.ref ∧ (s.startRun a b).1.plan.prev = s.plan.prev ∧
      (s.startRun a b).1.line.mode = s.line.mode ∧ (s.startRun a b).1.line.key = s.line.key ∧ (s.startRun a b).1.line.loops = s.line.loops ∧
      (s.startRun a b).1.line.restartPending = s.line.restartPending ∧ (s.startRun a b).1.line.flags = s.line.flags ∧ (s.startRun a b).1.line.atStop = s.line.atStop ∧
      (s.startRun a b).1.gates.busReleased = s.gates.busReleased ∧ (s.startRun a b).1.gates.trans = s.gates.trans ∧ (s.startRun a b).1.gates.lastMain = s.gates.lastMain ∧
      (s.startRun a b).1.gates.round = s.gates.round ∧ (s.startRun a b).1.gates.classes = s.gates.classes ∧ (s.startRun a b).1.gates.recent = s.gates.recent ∧
      (s.startRun a b).1.gates.passback = s.gates.passback ∧ (s.startRun a b).1.notices.settings = s.notices.settings ∧ (s.startRun a b).1.notices.threshold = s.notices.threshold := by
  simp only [State.startRun]; (repeat' split) <;> simp

@[simp] theorem State.holdRun_frame (s : State) :
    (s.holdRun).1.now = s.now ∧ (s.holdRun).1.geo = s.geo ∧ (s.holdRun).1.trk = s.trk ∧
      (s.holdRun).1.sup = s.sup ∧ (s.holdRun).1.brk = s.brk ∧ (s.holdRun).1.doors = s.doors ∧
      (s.holdRun).1.links = s.links ∧ (s.holdRun).1.drive = s.drive ∧ (s.holdRun).1.ctl = s.ctl ∧
      (s.holdRun).1.freeSeq = s.freeSeq ∧ (s.holdRun).1.pending = s.pending ∧ (s.holdRun).1.plan.nextId = s.plan.nextId ∧
      (s.holdRun).1.plan.pendingRun = s.plan.pendingRun ∧ (s.holdRun).1.plan.lastRun = s.plan.lastRun ∧ (s.holdRun).1.plan.watches = s.plan.watches ∧
      (s.holdRun).1.plan.ref = s.plan.ref ∧ (s.holdRun).1.plan.prev = s.plan.prev ∧ (s.holdRun).1.line.mode = s.line.mode ∧
      (s.holdRun).1.line.key = s.line.key ∧ (s.holdRun).1.line.loops = s.line.loops ∧ (s.holdRun).1.line.restartPending = s.line.restartPending ∧
      (s.holdRun).1.line.flags = s.line.flags ∧ (s.holdRun).1.line.atStop = s.line.atStop ∧ (s.holdRun).1.gates.busReleased = s.gates.busReleased ∧
      (s.holdRun).1.gates.trans = s.gates.trans ∧ (s.holdRun).1.gates.lastMain = s.gates.lastMain ∧ (s.holdRun).1.gates.round = s.gates.round ∧
      (s.holdRun).1.gates.classes = s.gates.classes ∧ (s.holdRun).1.gates.recent = s.gates.recent ∧ (s.holdRun).1.gates.passback = s.gates.passback ∧
      (s.holdRun).1.notices.settings = s.notices.settings ∧ (s.holdRun).1.notices.threshold = s.notices.threshold := by
  simp only [State.holdRun]; (repeat' split) <;> simp

@[simp] theorem State.cancelRun_frame (s : State) :
    (s.cancelRun).1.now = s.now ∧ (s.cancelRun).1.geo = s.geo ∧ (s.cancelRun).1.trk = s.trk ∧
      (s.cancelRun).1.brk = s.brk ∧ (s.cancelRun).1.doors = s.doors ∧ (s.cancelRun).1.links = s.links ∧
      (s.cancelRun).1.drive = s.drive ∧ (s.cancelRun).1.ctl = s.ctl ∧ (s.cancelRun).1.freeSeq = s.freeSeq ∧
      (s.cancelRun).1.pending = s.pending ∧ (s.cancelRun).1.sup.trip = s.sup.trip ∧ (s.cancelRun).1.plan.nextId = s.plan.nextId ∧
      (s.cancelRun).1.plan.pendingRun = s.plan.pendingRun ∧ (s.cancelRun).1.plan.watches = s.plan.watches ∧ (s.cancelRun).1.plan.ref = s.plan.ref ∧
      (s.cancelRun).1.plan.prev = s.plan.prev ∧ (s.cancelRun).1.line.mode = s.line.mode ∧ (s.cancelRun).1.line.key = s.line.key ∧
      (s.cancelRun).1.line.loops = s.line.loops ∧ (s.cancelRun).1.line.restartPending = s.line.restartPending ∧ (s.cancelRun).1.line.flags = s.line.flags ∧
      (s.cancelRun).1.line.atStop = s.line.atStop ∧ (s.cancelRun).1.gates.busReleased = s.gates.busReleased ∧ (s.cancelRun).1.gates.trans = s.gates.trans ∧
      (s.cancelRun).1.gates.lastMain = s.gates.lastMain ∧ (s.cancelRun).1.gates.round = s.gates.round ∧ (s.cancelRun).1.gates.classes = s.gates.classes ∧
      (s.cancelRun).1.gates.recent = s.gates.recent ∧ (s.cancelRun).1.gates.passback = s.gates.passback ∧ (s.cancelRun).1.notices.settings = s.notices.settings ∧
      (s.cancelRun).1.notices.threshold = s.notices.threshold := by
  simp only [State.cancelRun]; (repeat' split) <;> simp

@[simp] theorem State.resume_frame (s : State) (t : Tables) (r : Run) (e : Envelope) :
    (s.resume t r e).now = s.now ∧ (s.resume t r e).geo = s.geo ∧ (s.resume t r e).trk = s.trk ∧
      (s.resume t r e).doors = s.doors ∧ (s.resume t r e).links = s.links ∧ (s.resume t r e).ctl = s.ctl ∧
      (s.resume t r e).pending = s.pending ∧ (s.resume t r e).brk.sbApplied = s.brk.sbApplied ∧ (s.resume t r e).brk.sbReleased = s.brk.sbReleased ∧
      (s.resume t r e).brk.ebApplied = s.brk.ebApplied ∧ (s.resume t r e).brk.ebReleased = s.brk.ebReleased ∧ (s.resume t r e).plan.nextId = s.plan.nextId ∧
      (s.resume t r e).plan.pendingRun = s.plan.pendingRun ∧ (s.resume t r e).plan.lastRun = s.plan.lastRun ∧ (s.resume t r e).plan.watches = s.plan.watches ∧
      (s.resume t r e).plan.prev = s.plan.prev ∧ (s.resume t r e).line.mode = s.line.mode ∧ (s.resume t r e).line.key = s.line.key ∧
      (s.resume t r e).line.loops = s.line.loops ∧ (s.resume t r e).line.restartPending = s.line.restartPending ∧ (s.resume t r e).line.flags = s.line.flags ∧
      (s.resume t r e).line.atStop = s.line.atStop ∧ (s.resume t r e).gates.busReleased = s.gates.busReleased ∧ (s.resume t r e).gates.trans = s.gates.trans ∧
      (s.resume t r e).gates.lastMain = s.gates.lastMain ∧ (s.resume t r e).gates.round = s.gates.round ∧ (s.resume t r e).gates.classes = s.gates.classes ∧
      (s.resume t r e).gates.recent = s.gates.recent ∧ (s.resume t r e).gates.passback = s.gates.passback ∧ (s.resume t r e).notices.settings = s.notices.settings ∧
      (s.resume t r e).notices.threshold = s.notices.threshold ∧ (s.resume t r e).drive.status = s.drive.status ∧ (s.resume t r e).drive.silent = s.drive.silent ∧
      (s.resume t r e).drive.lastRef = s.drive.lastRef ∧ (s.resume t r e).drive.lastFrame = s.drive.lastFrame := by
  simp [State.resume]

@[simp] theorem State.tryResume_frame (s : State) (t : Tables) (r : Run) :
    (s.tryResume t r).1.now = s.now ∧ (s.tryResume t r).1.geo = s.geo ∧ (s.tryResume t r).1.trk = s.trk ∧
      (s.tryResume t r).1.doors = s.doors ∧ (s.tryResume t r).1.links = s.links ∧ (s.tryResume t r).1.ctl = s.ctl ∧
      (s.tryResume t r).1.pending = s.pending ∧ (s.tryResume t r).1.brk.sbApplied = s.brk.sbApplied ∧ (s.tryResume t r).1.brk.sbReleased = s.brk.sbReleased ∧
      (s.tryResume t r).1.brk.ebApplied = s.brk.ebApplied ∧ (s.tryResume t r).1.brk.ebReleased = s.brk.ebReleased ∧ (s.tryResume t r).1.plan.nextId = s.plan.nextId ∧
      (s.tryResume t r).1.plan.pendingRun = s.plan.pendingRun ∧ (s.tryResume t r).1.plan.lastRun = s.plan.lastRun ∧ (s.tryResume t r).1.plan.watches = s.plan.watches ∧
      (s.tryResume t r).1.plan.prev = s.plan.prev ∧ (s.tryResume t r).1.line.mode = s.line.mode ∧ (s.tryResume t r).1.line.key = s.line.key ∧
      (s.tryResume t r).1.line.loops = s.line.loops ∧ (s.tryResume t r).1.line.restartPending = s.line.restartPending ∧ (s.tryResume t r).1.line.flags = s.line.flags ∧
      (s.tryResume t r).1.line.atStop = s.line.atStop ∧ (s.tryResume t r).1.gates.busReleased = s.gates.busReleased ∧ (s.tryResume t r).1.gates.trans = s.gates.trans ∧
      (s.tryResume t r).1.gates.lastMain = s.gates.lastMain ∧ (s.tryResume t r).1.gates.round = s.gates.round ∧ (s.tryResume t r).1.gates.classes = s.gates.classes ∧
      (s.tryResume t r).1.gates.recent = s.gates.recent ∧ (s.tryResume t r).1.gates.passback = s.gates.passback ∧ (s.tryResume t r).1.notices.settings = s.notices.settings ∧
      (s.tryResume t r).1.notices.threshold = s.notices.threshold ∧ (s.tryResume t r).1.drive.status = s.drive.status ∧ (s.tryResume t r).1.drive.silent = s.drive.silent ∧
      (s.tryResume t r).1.drive.lastRef = s.drive.lastRef ∧ (s.tryResume t r).1.drive.lastFrame = s.drive.lastFrame := by
  simp only [State.tryResume]; (repeat' split) <;> simp

@[simp] theorem State.resumeHolding_frame (s : State) (r : Run) :
    (s.resumeHolding r).1.now = s.now ∧ (s.resumeHolding r).1.geo = s.geo ∧ (s.resumeHolding r).1.trk = s.trk ∧
      (s.resumeHolding r).1.links = s.links ∧ (s.resumeHolding r).1.ctl = s.ctl ∧ (s.resumeHolding r).1.pending = s.pending ∧
      (s.resumeHolding r).1.brk.sbApplied = s.brk.sbApplied ∧ (s.resumeHolding r).1.brk.sbReleased = s.brk.sbReleased ∧ (s.resumeHolding r).1.brk.ebApplied = s.brk.ebApplied ∧
      (s.resumeHolding r).1.brk.ebReleased = s.brk.ebReleased ∧ (s.resumeHolding r).1.plan.nextId = s.plan.nextId ∧ (s.resumeHolding r).1.plan.pendingRun = s.plan.pendingRun ∧
      (s.resumeHolding r).1.plan.watches = s.plan.watches ∧ (s.resumeHolding r).1.plan.prev = s.plan.prev ∧ (s.resumeHolding r).1.line.mode = s.line.mode ∧
      (s.resumeHolding r).1.line.key = s.line.key ∧ (s.resumeHolding r).1.line.loops = s.line.loops ∧ (s.resumeHolding r).1.line.restartPending = s.line.restartPending ∧
      (s.resumeHolding r).1.line.flags = s.line.flags ∧ (s.resumeHolding r).1.line.atStop = s.line.atStop ∧ (s.resumeHolding r).1.gates.busReleased = s.gates.busReleased ∧
      (s.resumeHolding r).1.gates.trans = s.gates.trans ∧ (s.resumeHolding r).1.gates.lastMain = s.gates.lastMain ∧ (s.resumeHolding r).1.gates.round = s.gates.round ∧
      (s.resumeHolding r).1.gates.classes = s.gates.classes ∧ (s.resumeHolding r).1.gates.recent = s.gates.recent ∧ (s.resumeHolding r).1.gates.passback = s.gates.passback ∧
      (s.resumeHolding r).1.notices.settings = s.notices.settings ∧ (s.resumeHolding r).1.notices.threshold = s.notices.threshold ∧ (s.resumeHolding r).1.drive.status = s.drive.status ∧
      (s.resumeHolding r).1.drive.silent = s.drive.silent ∧ (s.resumeHolding r).1.drive.lastRef = s.drive.lastRef ∧ (s.resumeHolding r).1.drive.lastFrame = s.drive.lastFrame := by
  simp only [State.resumeHolding]; (repeat' split) <;> simp

@[simp] theorem State.resumeRun_frame (s : State) :
    (s.resumeRun).1.now = s.now ∧ (s.resumeRun).1.geo = s.geo ∧ (s.resumeRun).1.trk = s.trk ∧
      (s.resumeRun).1.links = s.links ∧ (s.resumeRun).1.ctl = s.ctl ∧ (s.resumeRun).1.pending = s.pending ∧
      (s.resumeRun).1.brk.sbApplied = s.brk.sbApplied ∧ (s.resumeRun).1.brk.sbReleased = s.brk.sbReleased ∧ (s.resumeRun).1.brk.ebApplied = s.brk.ebApplied ∧
      (s.resumeRun).1.brk.ebReleased = s.brk.ebReleased ∧ (s.resumeRun).1.plan.nextId = s.plan.nextId ∧ (s.resumeRun).1.plan.pendingRun = s.plan.pendingRun ∧
      (s.resumeRun).1.plan.watches = s.plan.watches ∧ (s.resumeRun).1.plan.prev = s.plan.prev ∧ (s.resumeRun).1.line.mode = s.line.mode ∧
      (s.resumeRun).1.line.key = s.line.key ∧ (s.resumeRun).1.line.loops = s.line.loops ∧ (s.resumeRun).1.line.restartPending = s.line.restartPending ∧
      (s.resumeRun).1.line.flags = s.line.flags ∧ (s.resumeRun).1.line.atStop = s.line.atStop ∧ (s.resumeRun).1.gates.busReleased = s.gates.busReleased ∧
      (s.resumeRun).1.gates.trans = s.gates.trans ∧ (s.resumeRun).1.gates.lastMain = s.gates.lastMain ∧ (s.resumeRun).1.gates.round = s.gates.round ∧
      (s.resumeRun).1.gates.classes = s.gates.classes ∧ (s.resumeRun).1.gates.recent = s.gates.recent ∧ (s.resumeRun).1.gates.passback = s.gates.passback ∧
      (s.resumeRun).1.notices.settings = s.notices.settings ∧ (s.resumeRun).1.notices.threshold = s.notices.threshold ∧ (s.resumeRun).1.drive.status = s.drive.status ∧
      (s.resumeRun).1.drive.silent = s.drive.silent ∧ (s.resumeRun).1.drive.lastRef = s.drive.lastRef ∧ (s.resumeRun).1.drive.lastFrame = s.drive.lastFrame := by
  simp only [State.resumeRun]; (repeat' split) <;> simp

@[simp] theorem State.cancelWatch_frame (s : State) (r : Run) (n : Ix4) (w : Watch) :
    (s.cancelWatch r n w).1.now = s.now ∧ (s.cancelWatch r n w).1.geo = s.geo ∧ (s.cancelWatch r n w).1.trk = s.trk ∧
      (s.cancelWatch r n w).1.sup = s.sup ∧ (s.cancelWatch r n w).1.brk = s.brk ∧ (s.cancelWatch r n w).1.doors = s.doors ∧
      (s.cancelWatch r n w).1.gates = s.gates ∧ (s.cancelWatch r n w).1.tally = s.tally ∧ (s.cancelWatch r n w).1.line = s.line ∧
      (s.cancelWatch r n w).1.links = s.links ∧ (s.cancelWatch r n w).1.drive = s.drive ∧ (s.cancelWatch r n w).1.ctl = s.ctl ∧
      (s.cancelWatch r n w).1.freeSeq = s.freeSeq ∧ (s.cancelWatch r n w).1.pending = s.pending ∧ (s.cancelWatch r n w).1.plan.nextId = s.plan.nextId ∧
      (s.cancelWatch r n w).1.plan.pendingRun = s.plan.pendingRun ∧ (s.cancelWatch r n w).1.plan.lastRun = s.plan.lastRun ∧ (s.cancelWatch r n w).1.plan.watches = s.plan.watches ∧
      (s.cancelWatch r n w).1.plan.ref = s.plan.ref ∧ (s.cancelWatch r n w).1.plan.prev = s.plan.prev ∧ (s.cancelWatch r n w).1.notices.settings = s.notices.settings ∧
      (s.cancelWatch r n w).1.notices.threshold = s.notices.threshold := by
  simp only [State.cancelWatch]; (repeat' split) <;> simp

@[simp] theorem State.newWatch_frame (s : State) (r : Run) (n : Ix4) (w : Watch) :
    (s.newWatch r n w).now = s.now ∧ (s.newWatch r n w).geo = s.geo ∧ (s.newWatch r n w).trk = s.trk ∧
      (s.newWatch r n w).sup = s.sup ∧ (s.newWatch r n w).brk = s.brk ∧ (s.newWatch r n w).doors = s.doors ∧
      (s.newWatch r n w).links = s.links ∧ (s.newWatch r n w).drive = s.drive ∧ (s.newWatch r n w).ctl = s.ctl ∧
      (s.newWatch r n w).freeSeq = s.freeSeq ∧ (s.newWatch r n w).pending = s.pending ∧ (s.newWatch r n w).plan.nextId = s.plan.nextId ∧
      (s.newWatch r n w).plan.pendingRun = s.plan.pendingRun ∧ (s.newWatch r n w).plan.lastRun = s.plan.lastRun ∧ (s.newWatch r n w).plan.watches = s.plan.watches ∧
      (s.newWatch r n w).plan.ref = s.plan.ref ∧ (s.newWatch r n w).plan.prev = s.plan.prev ∧ (s.newWatch r n w).line.mode = s.line.mode ∧
      (s.newWatch r n w).line.key = s.line.key ∧ (s.newWatch r n w).line.loops = s.line.loops ∧ (s.newWatch r n w).line.restartPending = s.line.restartPending ∧
      (s.newWatch r n w).line.flags = s.line.flags ∧ (s.newWatch r n w).line.atStop = s.line.atStop ∧ (s.newWatch r n w).gates.busReleased = s.gates.busReleased ∧
      (s.newWatch r n w).gates.trans = s.gates.trans ∧ (s.newWatch r n w).gates.lastMain = s.gates.lastMain ∧ (s.newWatch r n w).gates.round = s.gates.round ∧
      (s.newWatch r n w).gates.classes = s.gates.classes ∧ (s.newWatch r n w).gates.recent = s.gates.recent ∧ (s.newWatch r n w).gates.passback = s.gates.passback ∧
      (s.newWatch r n w).notices.settings = s.notices.settings ∧ (s.newWatch r n w).notices.threshold = s.notices.threshold := by
  simp only [State.newWatch]; (repeat' split) <;> simp

@[simp] theorem State.watchChanged_frame (s : State) (n : Ix4) (v w : Watch) :
    (s.watchChanged n v w).now = s.now ∧ (s.watchChanged n v w).geo = s.geo ∧ (s.watchChanged n v w).trk = s.trk ∧
      (s.watchChanged n v w).sup = s.sup ∧ (s.watchChanged n v w).brk = s.brk ∧ (s.watchChanged n v w).doors = s.doors ∧
      (s.watchChanged n v w).links = s.links ∧ (s.watchChanged n v w).drive = s.drive ∧ (s.watchChanged n v w).ctl = s.ctl ∧
      (s.watchChanged n v w).freeSeq = s.freeSeq ∧ (s.watchChanged n v w).pending = s.pending ∧ (s.watchChanged n v w).plan.nextId = s.plan.nextId ∧
      (s.watchChanged n v w).plan.pendingRun = s.plan.pendingRun ∧ (s.watchChanged n v w).plan.lastRun = s.plan.lastRun ∧ (s.watchChanged n v w).plan.watches = s.plan.watches ∧
      (s.watchChanged n v w).plan.ref = s.plan.ref ∧ (s.watchChanged n v w).plan.prev = s.plan.prev ∧ (s.watchChanged n v w).line.mode = s.line.mode ∧
      (s.watchChanged n v w).line.key = s.line.key ∧ (s.watchChanged n v w).line.loops = s.line.loops ∧ (s.watchChanged n v w).line.restartPending = s.line.restartPending ∧
      (s.watchChanged n v w).line.flags = s.line.flags ∧ (s.watchChanged n v w).line.atStop = s.line.atStop ∧ (s.watchChanged n v w).gates.busReleased = s.gates.busReleased ∧
      (s.watchChanged n v w).gates.trans = s.gates.trans ∧ (s.watchChanged n v w).gates.lastMain = s.gates.lastMain ∧ (s.watchChanged n v w).gates.round = s.gates.round ∧
      (s.watchChanged n v w).gates.classes = s.gates.classes ∧ (s.watchChanged n v w).gates.recent = s.gates.recent ∧ (s.watchChanged n v w).gates.passback = s.gates.passback ∧
      (s.watchChanged n v w).notices.settings = s.notices.settings ∧ (s.watchChanged n v w).notices.threshold = s.notices.threshold := by
  simp only [State.watchChanged]; (repeat' split) <;> simp

@[simp] theorem State.replaceWatch_frame (s : State) (n : Ix4) (w : Watch) :
    (s.replaceWatch n w).now = s.now ∧ (s.replaceWatch n w).geo = s.geo ∧ (s.replaceWatch n w).trk = s.trk ∧
      (s.replaceWatch n w).sup = s.sup ∧ (s.replaceWatch n w).brk = s.brk ∧ (s.replaceWatch n w).doors = s.doors ∧
      (s.replaceWatch n w).links = s.links ∧ (s.replaceWatch n w).drive = s.drive ∧ (s.replaceWatch n w).ctl = s.ctl ∧
      (s.replaceWatch n w).freeSeq = s.freeSeq ∧ (s.replaceWatch n w).pending = s.pending ∧ (s.replaceWatch n w).plan.nextId = s.plan.nextId ∧
      (s.replaceWatch n w).plan.pendingRun = s.plan.pendingRun ∧ (s.replaceWatch n w).plan.lastRun = s.plan.lastRun ∧ (s.replaceWatch n w).plan.ref = s.plan.ref ∧
      (s.replaceWatch n w).plan.prev = s.plan.prev ∧ (s.replaceWatch n w).line.mode = s.line.mode ∧ (s.replaceWatch n w).line.key = s.line.key ∧
      (s.replaceWatch n w).line.loops = s.line.loops ∧ (s.replaceWatch n w).line.restartPending = s.line.restartPending ∧ (s.replaceWatch n w).line.flags = s.line.flags ∧
      (s.replaceWatch n w).line.atStop = s.line.atStop ∧ (s.replaceWatch n w).gates.busReleased = s.gates.busReleased ∧ (s.replaceWatch n w).gates.trans = s.gates.trans ∧
      (s.replaceWatch n w).gates.lastMain = s.gates.lastMain ∧ (s.replaceWatch n w).gates.round = s.gates.round ∧ (s.replaceWatch n w).gates.classes = s.gates.classes ∧
      (s.replaceWatch n w).gates.recent = s.gates.recent ∧ (s.replaceWatch n w).gates.passback = s.gates.passback ∧ (s.replaceWatch n w).notices.settings = s.notices.settings ∧
      (s.replaceWatch n w).notices.threshold = s.notices.threshold := by
  simp [State.replaceWatch]

@[simp] theorem State.setWatch_frame (s : State) (i : Nat) (w : WatchBytes) :
    (s.setWatch i w).1.now = s.now ∧ (s.setWatch i w).1.geo = s.geo ∧ (s.setWatch i w).1.trk = s.trk ∧
      (s.setWatch i w).1.sup = s.sup ∧ (s.setWatch i w).1.brk = s.brk ∧ (s.setWatch i w).1.doors = s.doors ∧
      (s.setWatch i w).1.links = s.links ∧ (s.setWatch i w).1.drive = s.drive ∧ (s.setWatch i w).1.ctl = s.ctl ∧
      (s.setWatch i w).1.freeSeq = s.freeSeq ∧ (s.setWatch i w).1.pending = s.pending ∧ (s.setWatch i w).1.plan.nextId = s.plan.nextId ∧
      (s.setWatch i w).1.plan.pendingRun = s.plan.pendingRun ∧ (s.setWatch i w).1.plan.lastRun = s.plan.lastRun ∧ (s.setWatch i w).1.plan.ref = s.plan.ref ∧
      (s.setWatch i w).1.plan.prev = s.plan.prev ∧ (s.setWatch i w).1.line.mode = s.line.mode ∧ (s.setWatch i w).1.line.key = s.line.key ∧
      (s.setWatch i w).1.line.loops = s.line.loops ∧ (s.setWatch i w).1.line.restartPending = s.line.restartPending ∧ (s.setWatch i w).1.line.flags = s.line.flags ∧
      (s.setWatch i w).1.line.atStop = s.line.atStop ∧ (s.setWatch i w).1.gates.busReleased = s.gates.busReleased ∧ (s.setWatch i w).1.gates.trans = s.gates.trans ∧
      (s.setWatch i w).1.gates.lastMain = s.gates.lastMain ∧ (s.setWatch i w).1.gates.round = s.gates.round ∧ (s.setWatch i w).1.gates.classes = s.gates.classes ∧
      (s.setWatch i w).1.gates.recent = s.gates.recent ∧ (s.setWatch i w).1.gates.passback = s.gates.passback ∧ (s.setWatch i w).1.notices.settings = s.notices.settings ∧
      (s.setWatch i w).1.notices.threshold = s.notices.threshold := by
  simp only [State.setWatch]; (repeat' split) <;> simp

@[simp] theorem State.clearWatch_frame (s : State) (i : Nat) :
    (s.clearWatch i).1.now = s.now ∧ (s.clearWatch i).1.geo = s.geo ∧ (s.clearWatch i).1.trk = s.trk ∧
      (s.clearWatch i).1.sup = s.sup ∧ (s.clearWatch i).1.brk = s.brk ∧ (s.clearWatch i).1.doors = s.doors ∧
      (s.clearWatch i).1.links = s.links ∧ (s.clearWatch i).1.drive = s.drive ∧ (s.clearWatch i).1.ctl = s.ctl ∧
      (s.clearWatch i).1.freeSeq = s.freeSeq ∧ (s.clearWatch i).1.pending = s.pending ∧ (s.clearWatch i).1.plan.nextId = s.plan.nextId ∧
      (s.clearWatch i).1.plan.pendingRun = s.plan.pendingRun ∧ (s.clearWatch i).1.plan.lastRun = s.plan.lastRun ∧ (s.clearWatch i).1.plan.ref = s.plan.ref ∧
      (s.clearWatch i).1.plan.prev = s.plan.prev ∧ (s.clearWatch i).1.line.mode = s.line.mode ∧ (s.clearWatch i).1.line.key = s.line.key ∧
      (s.clearWatch i).1.line.loops = s.line.loops ∧ (s.clearWatch i).1.line.restartPending = s.line.restartPending ∧ (s.clearWatch i).1.line.flags = s.line.flags ∧
      (s.clearWatch i).1.line.atStop = s.line.atStop ∧ (s.clearWatch i).1.gates.busReleased = s.gates.busReleased ∧ (s.clearWatch i).1.gates.trans = s.gates.trans ∧
      (s.clearWatch i).1.gates.lastMain = s.gates.lastMain ∧ (s.clearWatch i).1.gates.round = s.gates.round ∧ (s.clearWatch i).1.gates.classes = s.gates.classes ∧
      (s.clearWatch i).1.gates.recent = s.gates.recent ∧ (s.clearWatch i).1.gates.passback = s.gates.passback ∧ (s.clearWatch i).1.notices.settings = s.notices.settings ∧
      (s.clearWatch i).1.notices.threshold = s.notices.threshold := by
  simp only [State.clearWatch]; (repeat' split) <;> simp

@[simp] theorem State.closeTripped_frame (s : State) (c : Cause) :
    (s.closeTripped c).now = s.now ∧ (s.closeTripped c).geo = s.geo ∧ (s.closeTripped c).trk = s.trk ∧
      (s.closeTripped c).brk = s.brk ∧ (s.closeTripped c).doors = s.doors ∧ (s.closeTripped c).links = s.links ∧
      (s.closeTripped c).drive = s.drive ∧ (s.closeTripped c).ctl = s.ctl ∧ (s.closeTripped c).freeSeq = s.freeSeq ∧
      (s.closeTripped c).pending = s.pending ∧ (s.closeTripped c).sup.trip = s.sup.trip ∧ (s.closeTripped c).plan.nextId = s.plan.nextId ∧
      (s.closeTripped c).plan.pendingRun = s.plan.pendingRun ∧ (s.closeTripped c).plan.watches = s.plan.watches ∧ (s.closeTripped c).plan.ref = s.plan.ref ∧
      (s.closeTripped c).plan.prev = s.plan.prev ∧ (s.closeTripped c).line.mode = s.line.mode ∧ (s.closeTripped c).line.key = s.line.key ∧
      (s.closeTripped c).line.loops = s.line.loops ∧ (s.closeTripped c).line.restartPending = s.line.restartPending ∧ (s.closeTripped c).line.flags = s.line.flags ∧
      (s.closeTripped c).line.atStop = s.line.atStop ∧ (s.closeTripped c).gates.busReleased = s.gates.busReleased ∧ (s.closeTripped c).gates.trans = s.gates.trans ∧
      (s.closeTripped c).gates.lastMain = s.gates.lastMain ∧ (s.closeTripped c).gates.round = s.gates.round ∧ (s.closeTripped c).gates.classes = s.gates.classes ∧
      (s.closeTripped c).gates.recent = s.gates.recent ∧ (s.closeTripped c).gates.passback = s.gates.passback ∧ (s.closeTripped c).notices.settings = s.notices.settings ∧
      (s.closeTripped c).notices.threshold = s.notices.threshold := by
  simp only [State.closeTripped]; (repeat' split) <;> simp

@[simp] theorem State.tripCleared_frame (s : State) (c : Cause) :
    (s.tripCleared c).now = s.now ∧ (s.tripCleared c).geo = s.geo ∧ (s.tripCleared c).trk = s.trk ∧
      (s.tripCleared c).doors = s.doors ∧ (s.tripCleared c).links = s.links ∧ (s.tripCleared c).drive = s.drive ∧
      (s.tripCleared c).ctl = s.ctl ∧ (s.tripCleared c).freeSeq = s.freeSeq ∧ (s.tripCleared c).pending = s.pending ∧
      (s.tripCleared c).brk.sbr = s.brk.sbr ∧ (s.tripCleared c).brk.ebr = s.brk.ebr ∧ (s.tripCleared c).brk.ten = s.brk.ten ∧
      (s.tripCleared c).brk.seq = s.brk.seq ∧ (s.tripCleared c).brk.abort = s.brk.abort ∧ (s.tripCleared c).brk.torque = s.brk.torque ∧
      (s.tripCleared c).brk.service = s.brk.service ∧ (s.tripCleared c).brk.sheave = s.brk.sheave ∧ (s.tripCleared c).brk.sbApplied = s.brk.sbApplied ∧
      (s.tripCleared c).brk.sbReleased = s.brk.sbReleased ∧ (s.tripCleared c).brk.ebApplied = s.brk.ebApplied ∧ (s.tripCleared c).brk.ebReleased = s.brk.ebReleased ∧
      (s.tripCleared c).brk.track = s.brk.track ∧ (s.tripCleared c).plan.nextId = s.plan.nextId ∧ (s.tripCleared c).plan.pendingRun = s.plan.pendingRun ∧
      (s.tripCleared c).plan.watches = s.plan.watches ∧ (s.tripCleared c).plan.ref = s.plan.ref ∧ (s.tripCleared c).plan.prev = s.plan.prev ∧
      (s.tripCleared c).line.mode = s.line.mode ∧ (s.tripCleared c).line.key = s.line.key ∧ (s.tripCleared c).line.loops = s.line.loops ∧
      (s.tripCleared c).line.restartPending = s.line.restartPending ∧ (s.tripCleared c).line.flags = s.line.flags ∧ (s.tripCleared c).line.atStop = s.line.atStop ∧
      (s.tripCleared c).gates.busReleased = s.gates.busReleased ∧ (s.tripCleared c).gates.trans = s.gates.trans ∧ (s.tripCleared c).gates.lastMain = s.gates.lastMain ∧
      (s.tripCleared c).gates.round = s.gates.round ∧ (s.tripCleared c).gates.classes = s.gates.classes ∧ (s.tripCleared c).gates.recent = s.gates.recent ∧
      (s.tripCleared c).gates.passback = s.gates.passback ∧ (s.tripCleared c).notices.settings = s.notices.settings ∧ (s.tripCleared c).notices.threshold = s.notices.threshold := by
  simp [State.tripCleared]

@[simp] theorem State.clearTrip_frame (s : State) :
    (s.clearTrip).1.now = s.now ∧ (s.clearTrip).1.geo = s.geo ∧ (s.clearTrip).1.trk = s.trk ∧
      (s.clearTrip).1.doors = s.doors ∧ (s.clearTrip).1.links = s.links ∧ (s.clearTrip).1.drive = s.drive ∧
      (s.clearTrip).1.ctl = s.ctl ∧ (s.clearTrip).1.freeSeq = s.freeSeq ∧ (s.clearTrip).1.pending = s.pending ∧
      (s.clearTrip).1.brk.sbr = s.brk.sbr ∧ (s.clearTrip).1.brk.ebr = s.brk.ebr ∧ (s.clearTrip).1.brk.ten = s.brk.ten ∧
      (s.clearTrip).1.brk.seq = s.brk.seq ∧ (s.clearTrip).1.brk.abort = s.brk.abort ∧ (s.clearTrip).1.brk.torque = s.brk.torque ∧
      (s.clearTrip).1.brk.service = s.brk.service ∧ (s.clearTrip).1.brk.sheave = s.brk.sheave ∧ (s.clearTrip).1.brk.sbApplied = s.brk.sbApplied ∧
      (s.clearTrip).1.brk.sbReleased = s.brk.sbReleased ∧ (s.clearTrip).1.brk.ebApplied = s.brk.ebApplied ∧ (s.clearTrip).1.brk.ebReleased = s.brk.ebReleased ∧
      (s.clearTrip).1.brk.track = s.brk.track ∧ (s.clearTrip).1.plan.nextId = s.plan.nextId ∧ (s.clearTrip).1.plan.pendingRun = s.plan.pendingRun ∧
      (s.clearTrip).1.plan.watches = s.plan.watches ∧ (s.clearTrip).1.plan.ref = s.plan.ref ∧ (s.clearTrip).1.plan.prev = s.plan.prev ∧
      (s.clearTrip).1.line.mode = s.line.mode ∧ (s.clearTrip).1.line.key = s.line.key ∧ (s.clearTrip).1.line.loops = s.line.loops ∧
      (s.clearTrip).1.line.restartPending = s.line.restartPending ∧ (s.clearTrip).1.line.flags = s.line.flags ∧ (s.clearTrip).1.line.atStop = s.line.atStop ∧
      (s.clearTrip).1.gates.busReleased = s.gates.busReleased ∧ (s.clearTrip).1.gates.trans = s.gates.trans ∧ (s.clearTrip).1.gates.lastMain = s.gates.lastMain ∧
      (s.clearTrip).1.gates.round = s.gates.round ∧ (s.clearTrip).1.gates.classes = s.gates.classes ∧ (s.clearTrip).1.gates.recent = s.gates.recent ∧
      (s.clearTrip).1.gates.passback = s.gates.passback ∧ (s.clearTrip).1.notices.settings = s.notices.settings ∧ (s.clearTrip).1.notices.threshold = s.notices.threshold := by
  simp only [State.clearTrip]; (repeat' split) <;> simp

@[simp] theorem State.setTrack_foldl_frame (s : State) (l : List Car) :
    (l.foldl (fun s c => s.setTrack c ⟨.release, some .releasing, some s.now⟩) s).now = s.now ∧ (l.foldl (fun s c => s.setTrack c ⟨.release, some .releasing, some s.now⟩) s).geo = s.geo ∧ (l.foldl (fun s c => s.setTrack c ⟨.release, some .releasing, some s.now⟩) s).trk = s.trk ∧
      (l.foldl (fun s c => s.setTrack c ⟨.release, some .releasing, some s.now⟩) s).sup = s.sup ∧ (l.foldl (fun s c => s.setTrack c ⟨.release, some .releasing, some s.now⟩) s).plan = s.plan ∧ (l.foldl (fun s c => s.setTrack c ⟨.release, some .releasing, some s.now⟩) s).doors = s.doors ∧
      (l.foldl (fun s c => s.setTrack c ⟨.release, some .releasing, some s.now⟩) s).gates = s.gates ∧ (l.foldl (fun s c => s.setTrack c ⟨.release, some .releasing, some s.now⟩) s).tally = s.tally ∧ (l.foldl (fun s c => s.setTrack c ⟨.release, some .releasing, some s.now⟩) s).line = s.line ∧
      (l.foldl (fun s c => s.setTrack c ⟨.release, some .releasing, some s.now⟩) s).links = s.links ∧ (l.foldl (fun s c => s.setTrack c ⟨.release, some .releasing, some s.now⟩) s).drive = s.drive ∧ (l.foldl (fun s c => s.setTrack c ⟨.release, some .releasing, some s.now⟩) s).ctl = s.ctl ∧
      (l.foldl (fun s c => s.setTrack c ⟨.release, some .releasing, some s.now⟩) s).freeSeq = s.freeSeq ∧ (l.foldl (fun s c => s.setTrack c ⟨.release, some .releasing, some s.now⟩) s).pending = s.pending ∧ (l.foldl (fun s c => s.setTrack c ⟨.release, some .releasing, some s.now⟩) s).brk.sbr = s.brk.sbr ∧
      (l.foldl (fun s c => s.setTrack c ⟨.release, some .releasing, some s.now⟩) s).brk.ebr = s.brk.ebr ∧ (l.foldl (fun s c => s.setTrack c ⟨.release, some .releasing, some s.now⟩) s).brk.ten = s.brk.ten ∧ (l.foldl (fun s c => s.setTrack c ⟨.release, some .releasing, some s.now⟩) s).brk.seq = s.brk.seq ∧
      (l.foldl (fun s c => s.setTrack c ⟨.release, some .releasing, some s.now⟩) s).brk.abort = s.brk.abort ∧ (l.foldl (fun s c => s.setTrack c ⟨.release, some .releasing, some s.now⟩) s).brk.torque = s.brk.torque ∧ (l.foldl (fun s c => s.setTrack c ⟨.release, some .releasing, some s.now⟩) s).brk.service = s.brk.service ∧
      (l.foldl (fun s c => s.setTrack c ⟨.release, some .releasing, some s.now⟩) s).brk.sheave = s.brk.sheave ∧ (l.foldl (fun s c => s.setTrack c ⟨.release, some .releasing, some s.now⟩) s).brk.sbApplied = s.brk.sbApplied ∧ (l.foldl (fun s c => s.setTrack c ⟨.release, some .releasing, some s.now⟩) s).brk.sbReleased = s.brk.sbReleased ∧
      (l.foldl (fun s c => s.setTrack c ⟨.release, some .releasing, some s.now⟩) s).brk.ebApplied = s.brk.ebApplied ∧ (l.foldl (fun s c => s.setTrack c ⟨.release, some .releasing, some s.now⟩) s).brk.ebReleased = s.brk.ebReleased ∧ (l.foldl (fun s c => s.setTrack c ⟨.release, some .releasing, some s.now⟩) s).brk.watch = s.brk.watch ∧
      (l.foldl (fun s c => s.setTrack c ⟨.release, some .releasing, some s.now⟩) s).notices.settings = s.notices.settings ∧ (l.foldl (fun s c => s.setTrack c ⟨.release, some .releasing, some s.now⟩) s).notices.threshold = s.notices.threshold :=
  ⟨foldl_keeps (fun s => s.now) _ (by simp) _ _,
   foldl_keeps (fun s => s.geo) _ (by simp) _ _,
   foldl_keeps (fun s => s.trk) _ (by simp) _ _,
   foldl_keeps (fun s => s.sup) _ (by simp) _ _,
   foldl_keeps (fun s => s.plan) _ (by simp) _ _,
   foldl_keeps (fun s => s.doors) _ (by simp) _ _,
   foldl_keeps (fun s => s.gates) _ (by simp) _ _,
   foldl_keeps (fun s => s.tally) _ (by simp) _ _,
   foldl_keeps (fun s => s.line) _ (by simp) _ _,
   foldl_keeps (fun s => s.links) _ (by simp) _ _,
   foldl_keeps (fun s => s.drive) _ (by simp) _ _,
   foldl_keeps (fun s => s.ctl) _ (by simp) _ _,
   foldl_keeps (fun s => s.freeSeq) _ (by simp) _ _,
   foldl_keeps (fun s => s.pending) _ (by simp) _ _,
   foldl_keeps (fun s => s.brk.sbr) _ (by simp) _ _,
   foldl_keeps (fun s => s.brk.ebr) _ (by simp) _ _,
   foldl_keeps (fun s => s.brk.ten) _ (by simp) _ _,
   foldl_keeps (fun s => s.brk.seq) _ (by simp) _ _,
   foldl_keeps (fun s => s.brk.abort) _ (by simp) _ _,
   foldl_keeps (fun s => s.brk.torque) _ (by simp) _ _,
   foldl_keeps (fun s => s.brk.service) _ (by simp) _ _,
   foldl_keeps (fun s => s.brk.sheave) _ (by simp) _ _,
   foldl_keeps (fun s => s.brk.sbApplied) _ (by simp) _ _,
   foldl_keeps (fun s => s.brk.sbReleased) _ (by simp) _ _,
   foldl_keeps (fun s => s.brk.ebApplied) _ (by simp) _ _,
   foldl_keeps (fun s => s.brk.ebReleased) _ (by simp) _ _,
   foldl_keeps (fun s => s.brk.watch) _ (by simp) _ _,
   foldl_keeps (fun s => s.notices.settings) _ (by simp) _ _,
   foldl_keeps (fun s => s.notices.threshold) _ (by simp) _ _⟩

@[simp] theorem State.releaseTrack_frame (s : State) (l : List Car) :
    (s.releaseTrack l).now = s.now ∧ (s.releaseTrack l).geo = s.geo ∧ (s.releaseTrack l).trk = s.trk ∧
      (s.releaseTrack l).sup = s.sup ∧ (s.releaseTrack l).plan = s.plan ∧ (s.releaseTrack l).doors = s.doors ∧
      (s.releaseTrack l).gates = s.gates ∧ (s.releaseTrack l).tally = s.tally ∧ (s.releaseTrack l).links = s.links ∧
      (s.releaseTrack l).drive = s.drive ∧ (s.releaseTrack l).ctl = s.ctl ∧ (s.releaseTrack l).freeSeq = s.freeSeq ∧
      (s.releaseTrack l).pending = s.pending ∧ (s.releaseTrack l).brk.sbr = s.brk.sbr ∧ (s.releaseTrack l).brk.ebr = s.brk.ebr ∧
      (s.releaseTrack l).brk.ten = s.brk.ten ∧ (s.releaseTrack l).brk.seq = s.brk.seq ∧ (s.releaseTrack l).brk.abort = s.brk.abort ∧
      (s.releaseTrack l).brk.torque = s.brk.torque ∧ (s.releaseTrack l).brk.service = s.brk.service ∧ (s.releaseTrack l).brk.sheave = s.brk.sheave ∧
      (s.releaseTrack l).brk.sbApplied = s.brk.sbApplied ∧ (s.releaseTrack l).brk.sbReleased = s.brk.sbReleased ∧ (s.releaseTrack l).brk.ebApplied = s.brk.ebApplied ∧
      (s.releaseTrack l).brk.ebReleased = s.brk.ebReleased ∧ (s.releaseTrack l).brk.watch = s.brk.watch ∧ (s.releaseTrack l).line.mode = s.line.mode ∧
      (s.releaseTrack l).line.key = s.line.key ∧ (s.releaseTrack l).line.loops = s.line.loops ∧ (s.releaseTrack l).line.restartPending = s.line.restartPending ∧
      (s.releaseTrack l).line.flags = s.line.flags ∧ (s.releaseTrack l).line.atStop = s.line.atStop ∧ (s.releaseTrack l).notices.settings = s.notices.settings ∧
      (s.releaseTrack l).notices.threshold = s.notices.threshold := by
  simp [State.releaseTrack]

@[simp] theorem State.releaseTrackBrakes_frame (s : State) :
    (s.releaseTrackBrakes).1.now = s.now ∧ (s.releaseTrackBrakes).1.geo = s.geo ∧ (s.releaseTrackBrakes).1.trk = s.trk ∧
      (s.releaseTrackBrakes).1.sup = s.sup ∧ (s.releaseTrackBrakes).1.plan = s.plan ∧ (s.releaseTrackBrakes).1.doors = s.doors ∧
      (s.releaseTrackBrakes).1.gates = s.gates ∧ (s.releaseTrackBrakes).1.tally = s.tally ∧ (s.releaseTrackBrakes).1.links = s.links ∧
      (s.releaseTrackBrakes).1.drive = s.drive ∧ (s.releaseTrackBrakes).1.ctl = s.ctl ∧ (s.releaseTrackBrakes).1.freeSeq = s.freeSeq ∧
      (s.releaseTrackBrakes).1.pending = s.pending ∧ (s.releaseTrackBrakes).1.brk.sbr = s.brk.sbr ∧ (s.releaseTrackBrakes).1.brk.ebr = s.brk.ebr ∧
      (s.releaseTrackBrakes).1.brk.ten = s.brk.ten ∧ (s.releaseTrackBrakes).1.brk.seq = s.brk.seq ∧ (s.releaseTrackBrakes).1.brk.abort = s.brk.abort ∧
      (s.releaseTrackBrakes).1.brk.torque = s.brk.torque ∧ (s.releaseTrackBrakes).1.brk.service = s.brk.service ∧ (s.releaseTrackBrakes).1.brk.sheave = s.brk.sheave ∧
      (s.releaseTrackBrakes).1.brk.sbApplied = s.brk.sbApplied ∧ (s.releaseTrackBrakes).1.brk.sbReleased = s.brk.sbReleased ∧ (s.releaseTrackBrakes).1.brk.ebApplied = s.brk.ebApplied ∧
      (s.releaseTrackBrakes).1.brk.ebReleased = s.brk.ebReleased ∧ (s.releaseTrackBrakes).1.brk.watch = s.brk.watch ∧ (s.releaseTrackBrakes).1.line.mode = s.line.mode ∧
      (s.releaseTrackBrakes).1.line.key = s.line.key ∧ (s.releaseTrackBrakes).1.line.loops = s.line.loops ∧ (s.releaseTrackBrakes).1.line.restartPending = s.line.restartPending ∧
      (s.releaseTrackBrakes).1.line.flags = s.line.flags ∧ (s.releaseTrackBrakes).1.line.atStop = s.line.atStop ∧ (s.releaseTrackBrakes).1.notices.settings = s.notices.settings ∧
      (s.releaseTrackBrakes).1.notices.threshold = s.notices.threshold := by
  simp only [State.releaseTrackBrakes]; (repeat' split) <;> simp

@[simp] theorem State.releaseDoors_frame (s : State) (a b : Nat) :
    (s.releaseDoors a b).1.now = s.now ∧ (s.releaseDoors a b).1.geo = s.geo ∧ (s.releaseDoors a b).1.trk = s.trk ∧
      (s.releaseDoors a b).1.sup = s.sup ∧ (s.releaseDoors a b).1.plan = s.plan ∧ (s.releaseDoors a b).1.brk = s.brk ∧
      (s.releaseDoors a b).1.gates = s.gates ∧ (s.releaseDoors a b).1.links = s.links ∧ (s.releaseDoors a b).1.drive = s.drive ∧
      (s.releaseDoors a b).1.ctl = s.ctl ∧ (s.releaseDoors a b).1.freeSeq = s.freeSeq ∧ (s.releaseDoors a b).1.pending = s.pending ∧
      (s.releaseDoors a b).1.line.mode = s.line.mode ∧ (s.releaseDoors a b).1.line.key = s.line.key ∧ (s.releaseDoors a b).1.line.loops = s.line.loops ∧
      (s.releaseDoors a b).1.line.restartPending = s.line.restartPending ∧ (s.releaseDoors a b).1.line.flags = s.line.flags ∧ (s.releaseDoors a b).1.line.atStop = s.line.atStop ∧
      (s.releaseDoors a b).1.notices.settings = s.notices.settings ∧ (s.releaseDoors a b).1.notices.threshold = s.notices.threshold := by
  simp only [State.releaseDoors]; (repeat' split) <;> simp

@[simp] theorem State.lockNamed_frame (s : State) (m : Nat) (c : Car) :
    (s.lockNamed m c).now = s.now ∧ (s.lockNamed m c).geo = s.geo ∧ (s.lockNamed m c).trk = s.trk ∧
      (s.lockNamed m c).sup = s.sup ∧ (s.lockNamed m c).plan = s.plan ∧ (s.lockNamed m c).brk = s.brk ∧
      (s.lockNamed m c).tally = s.tally ∧ (s.lockNamed m c).line = s.line ∧ (s.lockNamed m c).links = s.links ∧
      (s.lockNamed m c).drive = s.drive ∧ (s.lockNamed m c).ctl = s.ctl ∧ (s.lockNamed m c).freeSeq = s.freeSeq ∧
      (s.lockNamed m c).pending = s.pending ∧ (s.lockNamed m c).gates.busReleased = s.gates.busReleased ∧ (s.lockNamed m c).gates.trans = s.gates.trans ∧
      (s.lockNamed m c).gates.lastMain = s.gates.lastMain ∧ (s.lockNamed m c).gates.round = s.gates.round ∧ (s.lockNamed m c).gates.classes = s.gates.classes ∧
      (s.lockNamed m c).gates.recent = s.gates.recent ∧ (s.lockNamed m c).gates.passback = s.gates.passback ∧ (s.lockNamed m c).notices.settings = s.notices.settings ∧
      (s.lockNamed m c).notices.threshold = s.notices.threshold := by
  simp only [State.lockNamed]; (repeat' split) <;> simp

@[simp] theorem State.lockDoors_frame (s : State) (m : Nat) :
    (s.lockDoors m).1.now = s.now ∧ (s.lockDoors m).1.geo = s.geo ∧ (s.lockDoors m).1.trk = s.trk ∧
      (s.lockDoors m).1.sup = s.sup ∧ (s.lockDoors m).1.plan = s.plan ∧ (s.lockDoors m).1.brk = s.brk ∧
      (s.lockDoors m).1.tally = s.tally ∧ (s.lockDoors m).1.line = s.line ∧ (s.lockDoors m).1.links = s.links ∧
      (s.lockDoors m).1.drive = s.drive ∧ (s.lockDoors m).1.ctl = s.ctl ∧ (s.lockDoors m).1.freeSeq = s.freeSeq ∧
      (s.lockDoors m).1.pending = s.pending ∧ (s.lockDoors m).1.gates.busReleased = s.gates.busReleased ∧ (s.lockDoors m).1.gates.trans = s.gates.trans ∧
      (s.lockDoors m).1.gates.lastMain = s.gates.lastMain ∧ (s.lockDoors m).1.gates.round = s.gates.round ∧ (s.lockDoors m).1.gates.classes = s.gates.classes ∧
      (s.lockDoors m).1.gates.recent = s.gates.recent ∧ (s.lockDoors m).1.gates.passback = s.gates.passback ∧ (s.lockDoors m).1.notices.settings = s.notices.settings ∧
      (s.lockDoors m).1.notices.threshold = s.notices.threshold := by
  simp [State.lockDoors]

@[simp] theorem State.isolateDoor_frame (s : State) (m : Nat) :
    (s.isolateDoor m).1.now = s.now ∧ (s.isolateDoor m).1.geo = s.geo ∧ (s.isolateDoor m).1.trk = s.trk ∧
      (s.isolateDoor m).1.sup = s.sup ∧ (s.isolateDoor m).1.plan = s.plan ∧ (s.isolateDoor m).1.brk = s.brk ∧
      (s.isolateDoor m).1.gates = s.gates ∧ (s.isolateDoor m).1.tally = s.tally ∧ (s.isolateDoor m).1.links = s.links ∧
      (s.isolateDoor m).1.drive = s.drive ∧ (s.isolateDoor m).1.ctl = s.ctl ∧ (s.isolateDoor m).1.freeSeq = s.freeSeq ∧
      (s.isolateDoor m).1.pending = s.pending ∧ (s.isolateDoor m).1.line.mode = s.line.mode ∧ (s.isolateDoor m).1.line.key = s.line.key ∧
      (s.isolateDoor m).1.line.loops = s.line.loops ∧ (s.isolateDoor m).1.line.restartPending = s.line.restartPending ∧ (s.isolateDoor m).1.line.flags = s.line.flags ∧
      (s.isolateDoor m).1.line.atStop = s.line.atStop ∧ (s.isolateDoor m).1.notices.settings = s.notices.settings ∧ (s.isolateDoor m).1.notices.threshold = s.notices.threshold := by
  simp only [State.isolateDoor]; (repeat' split) <;> simp

@[simp] theorem State.restoreDoor_frame (s : State) (m : Nat) :
    (s.restoreDoor m).1.now = s.now ∧ (s.restoreDoor m).1.geo = s.geo ∧ (s.restoreDoor m).1.trk = s.trk ∧
      (s.restoreDoor m).1.sup = s.sup ∧ (s.restoreDoor m).1.plan = s.plan ∧ (s.restoreDoor m).1.brk = s.brk ∧
      (s.restoreDoor m).1.gates = s.gates ∧ (s.restoreDoor m).1.tally = s.tally ∧ (s.restoreDoor m).1.links = s.links ∧
      (s.restoreDoor m).1.drive = s.drive ∧ (s.restoreDoor m).1.ctl = s.ctl ∧ (s.restoreDoor m).1.freeSeq = s.freeSeq ∧
      (s.restoreDoor m).1.pending = s.pending ∧ (s.restoreDoor m).1.line.mode = s.line.mode ∧ (s.restoreDoor m).1.line.key = s.line.key ∧
      (s.restoreDoor m).1.line.loops = s.line.loops ∧ (s.restoreDoor m).1.line.restartPending = s.line.restartPending ∧ (s.restoreDoor m).1.line.flags = s.line.flags ∧
      (s.restoreDoor m).1.line.atStop = s.line.atStop ∧ (s.restoreDoor m).1.notices.settings = s.notices.settings ∧ (s.restoreDoor m).1.notices.threshold = s.notices.threshold := by
  simp only [State.restoreDoor]; (repeat' split) <;> simp

@[simp] theorem State.stateNotices_frame (s : State) (f : Gate → Gate) (e : GateEvent) (gs : List Gate) :
    (s.stateNotices f e gs).now = s.now ∧ (s.stateNotices f e gs).geo = s.geo ∧ (s.stateNotices f e gs).trk = s.trk ∧
      (s.stateNotices f e gs).sup = s.sup ∧ (s.stateNotices f e gs).plan = s.plan ∧ (s.stateNotices f e gs).brk = s.brk ∧
      (s.stateNotices f e gs).doors = s.doors ∧ (s.stateNotices f e gs).gates = s.gates ∧ (s.stateNotices f e gs).tally = s.tally ∧
      (s.stateNotices f e gs).line = s.line ∧ (s.stateNotices f e gs).links = s.links ∧ (s.stateNotices f e gs).drive = s.drive ∧
      (s.stateNotices f e gs).ctl = s.ctl ∧ (s.stateNotices f e gs).freeSeq = s.freeSeq ∧ (s.stateNotices f e gs).pending = s.pending ∧
      (s.stateNotices f e gs).notices.settings = s.notices.settings ∧ (s.stateNotices f e gs).notices.threshold = s.notices.threshold :=
  ⟨foldl_keeps (fun s => s.now) _ (by simp) _ _,
   foldl_keeps (fun s => s.geo) _ (by simp) _ _,
   foldl_keeps (fun s => s.trk) _ (by simp) _ _,
   foldl_keeps (fun s => s.sup) _ (by simp) _ _,
   foldl_keeps (fun s => s.plan) _ (by simp) _ _,
   foldl_keeps (fun s => s.brk) _ (by simp) _ _,
   foldl_keeps (fun s => s.doors) _ (by simp) _ _,
   foldl_keeps (fun s => s.gates) _ (by simp) _ _,
   foldl_keeps (fun s => s.tally) _ (by simp) _ _,
   foldl_keeps (fun s => s.line) _ (by simp) _ _,
   foldl_keeps (fun s => s.links) _ (by simp) _ _,
   foldl_keeps (fun s => s.drive) _ (by simp) _ _,
   foldl_keeps (fun s => s.ctl) _ (by simp) _ _,
   foldl_keeps (fun s => s.freeSeq) _ (by simp) _ _,
   foldl_keeps (fun s => s.pending) _ (by simp) _ _,
   foldl_keeps (fun s => s.notices.settings) _ (by simp) _ _,
   foldl_keeps (fun s => s.notices.threshold) _ (by simp) _ _⟩

@[simp] theorem State.releaseBus_frame (s : State) :
    (s.releaseBus).now = s.now ∧ (s.releaseBus).geo = s.geo ∧ (s.releaseBus).trk = s.trk ∧
      (s.releaseBus).sup = s.sup ∧ (s.releaseBus).plan = s.plan ∧ (s.releaseBus).brk = s.brk ∧
      (s.releaseBus).doors = s.doors ∧ (s.releaseBus).tally = s.tally ∧ (s.releaseBus).links = s.links ∧
      (s.releaseBus).drive = s.drive ∧ (s.releaseBus).ctl = s.ctl ∧ (s.releaseBus).freeSeq = s.freeSeq ∧
      (s.releaseBus).pending = s.pending ∧ (s.releaseBus).line.mode = s.line.mode ∧ (s.releaseBus).line.key = s.line.key ∧
      (s.releaseBus).line.loops = s.line.loops ∧ (s.releaseBus).line.restartPending = s.line.restartPending ∧ (s.releaseBus).line.flags = s.line.flags ∧
      (s.releaseBus).line.atStop = s.line.atStop ∧ (s.releaseBus).notices.settings = s.notices.settings ∧ (s.releaseBus).notices.threshold = s.notices.threshold ∧
      (s.releaseBus).gates.classes = s.gates.classes ∧ (s.releaseBus).gates.passback = s.gates.passback ∧ (s.releaseBus).gates.recent = s.gates.recent ∧
      (s.releaseBus).gates.openMarks = s.gates.openMarks := by
  simp [State.releaseBus]

@[simp] theorem State.releaseGateBus_frame (s : State) :
    (s.releaseGateBus).1.now = s.now ∧ (s.releaseGateBus).1.geo = s.geo ∧ (s.releaseGateBus).1.trk = s.trk ∧
      (s.releaseGateBus).1.sup = s.sup ∧ (s.releaseGateBus).1.plan = s.plan ∧ (s.releaseGateBus).1.brk = s.brk ∧
      (s.releaseGateBus).1.doors = s.doors ∧ (s.releaseGateBus).1.tally = s.tally ∧ (s.releaseGateBus).1.links = s.links ∧
      (s.releaseGateBus).1.drive = s.drive ∧ (s.releaseGateBus).1.ctl = s.ctl ∧ (s.releaseGateBus).1.freeSeq = s.freeSeq ∧
      (s.releaseGateBus).1.pending = s.pending ∧ (s.releaseGateBus).1.line.mode = s.line.mode ∧ (s.releaseGateBus).1.line.key = s.line.key ∧
      (s.releaseGateBus).1.line.loops = s.line.loops ∧ (s.releaseGateBus).1.line.restartPending = s.line.restartPending ∧ (s.releaseGateBus).1.line.flags = s.line.flags ∧
      (s.releaseGateBus).1.line.atStop = s.line.atStop ∧ (s.releaseGateBus).1.notices.settings = s.notices.settings ∧ (s.releaseGateBus).1.notices.threshold = s.notices.threshold ∧
      (s.releaseGateBus).1.gates.classes = s.gates.classes ∧ (s.releaseGateBus).1.gates.passback = s.gates.passback ∧ (s.releaseGateBus).1.gates.recent = s.gates.recent ∧
      (s.releaseGateBus).1.gates.openMarks = s.gates.openMarks := by
  simp only [State.releaseGateBus]; (repeat' split) <;> simp

@[simp] theorem State.changeGate_frame (s : State) (g : Gate) (f : Gate → Gate) :
    (s.changeGate g f).now = s.now ∧ (s.changeGate g f).geo = s.geo ∧ (s.changeGate g f).trk = s.trk ∧
      (s.changeGate g f).sup = s.sup ∧ (s.changeGate g f).plan = s.plan ∧ (s.changeGate g f).brk = s.brk ∧
      (s.changeGate g f).doors = s.doors ∧ (s.changeGate g f).tally = s.tally ∧ (s.changeGate g f).links = s.links ∧
      (s.changeGate g f).drive = s.drive ∧ (s.changeGate g f).ctl = s.ctl ∧ (s.changeGate g f).freeSeq = s.freeSeq ∧
      (s.changeGate g f).pending = s.pending ∧ (s.changeGate g f).line.mode = s.line.mode ∧ (s.changeGate g f).line.key = s.line.key ∧
      (s.changeGate g f).line.loops = s.line.loops ∧ (s.changeGate g f).line.restartPending = s.line.restartPending ∧ (s.changeGate g f).line.flags = s.line.flags ∧
      (s.changeGate g f).line.atStop = s.line.atStop ∧ (s.changeGate g f).notices.settings = s.notices.settings ∧ (s.changeGate g f).notices.threshold = s.notices.threshold ∧
      (s.changeGate g f).gates.busReleased = s.gates.busReleased ∧ (s.changeGate g f).gates.classes = s.gates.classes ∧ (s.changeGate g f).gates.passback = s.gates.passback ∧
      (s.changeGate g f).gates.recent = s.gates.recent ∧ (s.changeGate g f).gates.openMarks = s.gates.openMarks := by
  simp [State.changeGate]

@[simp] theorem State.setGate_frame (s : State) (a b c d e : Nat) :
    (s.setGate a b c d e).1.now = s.now ∧ (s.setGate a b c d e).1.geo = s.geo ∧ (s.setGate a b c d e).1.trk = s.trk ∧
      (s.setGate a b c d e).1.sup = s.sup ∧ (s.setGate a b c d e).1.plan = s.plan ∧ (s.setGate a b c d e).1.brk = s.brk ∧
      (s.setGate a b c d e).1.doors = s.doors ∧ (s.setGate a b c d e).1.tally = s.tally ∧ (s.setGate a b c d e).1.links = s.links ∧
      (s.setGate a b c d e).1.drive = s.drive ∧ (s.setGate a b c d e).1.ctl = s.ctl ∧ (s.setGate a b c d e).1.freeSeq = s.freeSeq ∧
      (s.setGate a b c d e).1.pending = s.pending ∧ (s.setGate a b c d e).1.line.mode = s.line.mode ∧ (s.setGate a b c d e).1.line.key = s.line.key ∧
      (s.setGate a b c d e).1.line.loops = s.line.loops ∧ (s.setGate a b c d e).1.line.restartPending = s.line.restartPending ∧ (s.setGate a b c d e).1.line.flags = s.line.flags ∧
      (s.setGate a b c d e).1.line.atStop = s.line.atStop ∧ (s.setGate a b c d e).1.notices.settings = s.notices.settings ∧ (s.setGate a b c d e).1.notices.threshold = s.notices.threshold ∧
      (s.setGate a b c d e).1.gates.busReleased = s.gates.busReleased ∧ (s.setGate a b c d e).1.gates.classes = s.gates.classes ∧ (s.setGate a b c d e).1.gates.passback = s.gates.passback ∧
      (s.setGate a b c d e).1.gates.recent = s.gates.recent ∧ (s.setGate a b c d e).1.gates.openMarks = s.gates.openMarks := by
  simp only [State.setGate]; (repeat' split) <;> simp

@[simp] theorem State.openFor_frame (s : State) (n : Nat) (c : Car) :
    (s.openFor n c).now = s.now ∧ (s.openFor n c).geo = s.geo ∧ (s.openFor n c).trk = s.trk ∧
      (s.openFor n c).sup = s.sup ∧ (s.openFor n c).plan = s.plan ∧ (s.openFor n c).brk = s.brk ∧
      (s.openFor n c).doors = s.doors ∧ (s.openFor n c).tally = s.tally ∧ (s.openFor n c).line = s.line ∧
      (s.openFor n c).links = s.links ∧ (s.openFor n c).drive = s.drive ∧ (s.openFor n c).ctl = s.ctl ∧
      (s.openFor n c).freeSeq = s.freeSeq ∧ (s.openFor n c).pending = s.pending ∧ (s.openFor n c).gates.busReleased = s.gates.busReleased ∧
      (s.openFor n c).gates.trans = s.gates.trans ∧ (s.openFor n c).gates.lastMain = s.gates.lastMain ∧ (s.openFor n c).gates.round = s.gates.round ∧
      (s.openFor n c).gates.classes = s.gates.classes ∧ (s.openFor n c).gates.recent = s.gates.recent ∧ (s.openFor n c).gates.passback = s.gates.passback ∧
      (s.openFor n c).notices.settings = s.notices.settings ∧ (s.openFor n c).notices.threshold = s.notices.threshold := by
  simp [State.openFor, Gates.openStation]

@[simp] theorem State.openStation_frame (s : State) (n : Nat) :
    (s.openStation n).1.now = s.now ∧ (s.openStation n).1.geo = s.geo ∧ (s.openStation n).1.trk = s.trk ∧
      (s.openStation n).1.sup = s.sup ∧ (s.openStation n).1.plan = s.plan ∧ (s.openStation n).1.brk = s.brk ∧
      (s.openStation n).1.doors = s.doors ∧ (s.openStation n).1.tally = s.tally ∧ (s.openStation n).1.line = s.line ∧
      (s.openStation n).1.links = s.links ∧ (s.openStation n).1.drive = s.drive ∧ (s.openStation n).1.ctl = s.ctl ∧
      (s.openStation n).1.freeSeq = s.freeSeq ∧ (s.openStation n).1.pending = s.pending ∧ (s.openStation n).1.gates.busReleased = s.gates.busReleased ∧
      (s.openStation n).1.gates.trans = s.gates.trans ∧ (s.openStation n).1.gates.lastMain = s.gates.lastMain ∧ (s.openStation n).1.gates.round = s.gates.round ∧
      (s.openStation n).1.gates.classes = s.gates.classes ∧ (s.openStation n).1.gates.recent = s.gates.recent ∧ (s.openStation n).1.gates.passback = s.gates.passback ∧
      (s.openStation n).1.notices.settings = s.notices.settings ∧ (s.openStation n).1.notices.threshold = s.notices.threshold := by
  simp only [State.openStation]; (repeat' split) <;> simp

@[simp] theorem State.closeStationRequest_frame (s : State) (n : Nat) :
    (s.closeStationRequest n).1.now = s.now ∧ (s.closeStationRequest n).1.geo = s.geo ∧ (s.closeStationRequest n).1.trk = s.trk ∧
      (s.closeStationRequest n).1.sup = s.sup ∧ (s.closeStationRequest n).1.plan = s.plan ∧ (s.closeStationRequest n).1.brk = s.brk ∧
      (s.closeStationRequest n).1.doors = s.doors ∧ (s.closeStationRequest n).1.tally = s.tally ∧ (s.closeStationRequest n).1.line = s.line ∧
      (s.closeStationRequest n).1.links = s.links ∧ (s.closeStationRequest n).1.drive = s.drive ∧ (s.closeStationRequest n).1.ctl = s.ctl ∧
      (s.closeStationRequest n).1.freeSeq = s.freeSeq ∧ (s.closeStationRequest n).1.pending = s.pending ∧ (s.closeStationRequest n).1.gates.busReleased = s.gates.busReleased ∧
      (s.closeStationRequest n).1.gates.trans = s.gates.trans ∧ (s.closeStationRequest n).1.gates.lastMain = s.gates.lastMain ∧ (s.closeStationRequest n).1.gates.round = s.gates.round ∧
      (s.closeStationRequest n).1.gates.classes = s.gates.classes ∧ (s.closeStationRequest n).1.gates.recent = s.gates.recent ∧ (s.closeStationRequest n).1.gates.passback = s.gates.passback ∧
      (s.closeStationRequest n).1.notices.settings = s.notices.settings ∧ (s.closeStationRequest n).1.notices.threshold = s.notices.threshold := by
  simp only [State.closeStationRequest]; (repeat' split) <;> simp

@[simp] theorem State.loadClasses_frame (s : State) (es : List ClassBytes) :
    (s.loadClasses es).1.now = s.now ∧ (s.loadClasses es).1.geo = s.geo ∧ (s.loadClasses es).1.trk = s.trk ∧
      (s.loadClasses es).1.sup = s.sup ∧ (s.loadClasses es).1.plan = s.plan ∧ (s.loadClasses es).1.brk = s.brk ∧
      (s.loadClasses es).1.doors = s.doors ∧ (s.loadClasses es).1.tally = s.tally ∧ (s.loadClasses es).1.line = s.line ∧
      (s.loadClasses es).1.links = s.links ∧ (s.loadClasses es).1.drive = s.drive ∧ (s.loadClasses es).1.ctl = s.ctl ∧
      (s.loadClasses es).1.notices = s.notices ∧ (s.loadClasses es).1.freeSeq = s.freeSeq ∧ (s.loadClasses es).1.pending = s.pending ∧
      (s.loadClasses es).1.gates.gates = s.gates.gates ∧ (s.loadClasses es).1.gates.openMarks = s.gates.openMarks ∧ (s.loadClasses es).1.gates.busReleased = s.gates.busReleased ∧
      (s.loadClasses es).1.gates.trans = s.gates.trans ∧ (s.loadClasses es).1.gates.lastMain = s.gates.lastMain ∧ (s.loadClasses es).1.gates.round = s.gates.round ∧
      (s.loadClasses es).1.gates.recent = s.gates.recent ∧ (s.loadClasses es).1.gates.passback = s.gates.passback := by
  simp only [State.loadClasses]; (repeat' split) <;> simp

@[simp] theorem State.setPassback_frame (s : State) (m : Nat) :
    (s.setPassback m).1.now = s.now ∧ (s.setPassback m).1.geo = s.geo ∧ (s.setPassback m).1.trk = s.trk ∧
      (s.setPassback m).1.sup = s.sup ∧ (s.setPassback m).1.plan = s.plan ∧ (s.setPassback m).1.brk = s.brk ∧
      (s.setPassback m).1.doors = s.doors ∧ (s.setPassback m).1.tally = s.tally ∧ (s.setPassback m).1.line = s.line ∧
      (s.setPassback m).1.links = s.links ∧ (s.setPassback m).1.drive = s.drive ∧ (s.setPassback m).1.ctl = s.ctl ∧
      (s.setPassback m).1.notices = s.notices ∧ (s.setPassback m).1.freeSeq = s.freeSeq ∧ (s.setPassback m).1.pending = s.pending ∧
      (s.setPassback m).1.gates.gates = s.gates.gates ∧ (s.setPassback m).1.gates.openMarks = s.gates.openMarks ∧ (s.setPassback m).1.gates.busReleased = s.gates.busReleased ∧
      (s.setPassback m).1.gates.trans = s.gates.trans ∧ (s.setPassback m).1.gates.lastMain = s.gates.lastMain ∧ (s.setPassback m).1.gates.round = s.gates.round ∧
      (s.setPassback m).1.gates.classes = s.gates.classes := by
  simp [State.setPassback]

@[simp] theorem State.readStatus_state (s : State) : (s.readStatus).1 = s := by
  rfl

@[simp] theorem State.readPosition_state (s : State) : (s.readPosition).1 = s := by
  rfl

@[simp] theorem State.readRun_state (s : State) : (s.readRun).1 = s := by
  rfl

@[simp] theorem State.readTrip_state (s : State) : (s.readTrip).1 = s := by
  rfl

@[simp] theorem State.readDoors_state (s : State) : (s.readDoors).1 = s := by
  rfl

@[simp] theorem State.readGates_state (s : State) (f : Nat) : (s.readGates f).1 = s := by
  rfl

@[simp] theorem State.readTally_state (s : State) : (s.readTally).1 = s := by
  rfl

@[simp] theorem State.readGeometry_state (s : State) (a b c : Nat) : (s.readGeometry a b c).1 = s := by
  simp only [State.readGeometry]; (repeat' split) <;> rfl

end Machine
end Sys2Proof
end

