-- ==== Sys2Proof/Laws/Ops.lean ====
section
/-! SUPPORT. What the shared operations of one event can do, said once: an event, a reset, a request that is taken,
the door records and the release side, and the recent-ticket list. -/

namespace Sys2Proof
namespace Machine

/-- An event runs its blocks on the advanced state and ends. -/
theorem event_next (dt : Time) (f : State → State) (s : State) :
    event dt f s = .next ((f (s.advance dt)).ended s.pending) := rfl

/-- A reset event runs its blocks on the state as it stands and ends. -/
theorem resetEvent_next (f : State → State) (s : State) :
    resetEvent f s = .next ((f s).ended s.pending) := rfl

/-- A request that is the oldest waiting one of its port is taken in its event. -/
theorem requestEvent_front {h : ReqHead} {r : Request} {s : State} (act : Owner)
    (hf : (s.ctl.get h.port).expects h r = true) :
    requestEvent h r act s = .next (((s.advance h.dt).takeRequest h.port h.guard act).ended s.pending) := by
  have hf' : ((s.advance h.dt).ctl.get h.port).expects h r = true := hf
  simp only [requestEvent, event_next, State.request, hf', ite_true]

/-- A taken request is answered with what its owner makes of it. -/
theorem requestEvent_taken {h : ReqHead} {r : Request} {s : State} (act : Owner) (ht : Taken s h r) :
    requestEvent h r act s = answered s h (act (s.advance h.dt)).1 (act (s.advance h.dt)).2 := by
  have h1 : (s.advance h.dt).line.restartPending = false := ht.free
  have h2 : (s.advance h.dt).line.guard h.guard = true := ht.guard
  rw [requestEvent_front act ht.front]
  simp only [State.takeRequest, h1, h2, ite_true]
  rfl

/-- A request that comes to be taken while a RESTART is pending is answered BUSY. -/
theorem requestEvent_busy {h : ReqHead} {r : Request} {s : State} (act : Owner)
    (hf : (s.ctl.get h.port).expects h r = true) (hb : s.line.restartPending = true) :
    requestEvent h r act s = answered s h (s.advance h.dt) ⟨.busy, []⟩ := by
  have h1 : (s.advance h.dt).line.restartPending = true := hb
  rw [requestEvent_front act hf]
  simp only [State.takeRequest, h1, ite_true]
  rfl

/-- A request that comes to be taken under a false guard is answered GUARD_FALSE. -/
theorem requestEvent_guardFalse {h : ReqHead} {r : Request} {s : State} (act : Owner)
    (hf : (s.ctl.get h.port).expects h r = true) (hb : s.line.restartPending = false)
    (hg : s.line.guard h.guard = false) :
    requestEvent h r act s = answered s h (s.advance h.dt) ⟨.guardFalse, []⟩ := by
  have h1 : (s.advance h.dt).line.restartPending = false := hb
  have h2 : (s.advance h.dt).line.guard h.guard = false := hg
  rw [requestEvent_front act hf]
  simp only [State.takeRequest, h1, h2]
  rfl

/-- A record replaced by itself changes nothing. -/
theorem Doors.door_put_self (d : Doors) (x : Door) : d.put x (d.door x) = d := by
  obtain ⟨c, i⟩ := x
  cases c <;> cases i <;> rfl

/-- Every door of a car is commanded LOCK and locked (R118, R120). -/
theorem Doors.carLocked_iff (d : Doors) (c : Car) :
    d.carLocked c = true ↔ ∀ y : Door, y.car = c → (d.door y).release = false ∧ (d.door y).interlocked = true := by
  constructor
  · rintro h ⟨c', i⟩ rfl
    simp only [Doors.carLocked, Quad.toList, List.all_cons, List.all_nil, Bool.and_true, Bool.and_eq_true,
      Bool.not_eq_true'] at h
    cases i
    · exact h.1
    · exact h.2.1
    · exact h.2.2.1
    · exact h.2.2.2
  · intro h
    simp only [Doors.carLocked, Quad.toList, List.all_cons, List.all_nil, Bool.and_true, Bool.and_eq_true,
      Bool.not_eq_true']
    exact ⟨h ⟨c, .i1⟩ rfl, h ⟨c, .i2⟩ rfl, h ⟨c, .i3⟩ rfl, h ⟨c, .i4⟩ rfl⟩

/-- The side a car keeps or gives back (R120). -/
theorem Doors.returnSide_side (d : Doors) (c : Car) :
    (d.returnSide c).side.get c = if d.carLocked c then none else d.side.get c := by
  cases c <;> rfl

/-- What TURNED_BACK leaves of the recent-ticket list (R156). -/
theorem mem_dropAdmission (a : Admission) (gate : Nat) (rs : List Recent) (r : Recent) :
    r ∈ dropAdmission a gate rs ↔ r ∈ rs ∧ r ≠ ⟨a.ticket, gate, a.granted⟩ := by
  simp [dropAdmission]

end Machine
end Sys2Proof
end

