-- ==== Sys2Proof/Laws/PerInstr.lean ====
section
/-! SUPPORT. Facts about every command as syntax, one lemma per constructor of `Instr`. -/

namespace Sys2Proof
namespace Laws

/-- The request a command carries has a kind of the catalogue, 0x01 to 0x2B (section 11.3), and where the command is well
formed its guard is a byte and its parts are those its layout gives it (section 11.6). -/
def WireForm.Statement (i : Instr) : Prop :=
  ∀ (h : ReqHead) (r : Request), i.request = some (h, r) →
    (1 ≤ r.kind ∧ r.kind ≤ 0x2B) ∧
      (i.wf = true → h.guard < 256 ∧ r.wf = true ∧ Machine.bodyLengthOk r = true)

/-- Every request has a kind of the catalogue. -/
theorem request_kind_in_catalogue (r : Request) : 1 ≤ r.kind ∧ r.kind ≤ 0x2B := by
  cases r <;> exact ⟨by simp [Request.kind], by simp [Request.kind]⟩

/-- A command that is no request carries none. -/
theorem wireForm_of_none {i : Instr} (h : i.request = none) : WireForm.Statement i := by
  intro _ _ hr
  rw [h] at hr
  cases hr

/-- A request whose well-formed bodies have their parts. -/
theorem wireForm_of_request {i : Instr} {h : ReqHead} {r : Request} (hi : i.request = some (h, r))
    (hb : r.wf = true → Machine.bodyLengthOk r = true) :
    WireForm.Statement i := by
  intro h' r' hr
  rw [hi] at hr
  cases hr
  refine ⟨request_kind_in_catalogue r, fun hw => ?_⟩
  simp only [Instr.wf, hi, fitsU8, Bool.and_eq_true, decide_eq_true_eq] at hw
  exact ⟨hw.1, hw.2, hb hw.2⟩

theorem WireForm.powerOn (pins : Inputs) :
    WireForm.Statement (.powerOn pins) :=
  wireForm_of_none rfl

theorem WireForm.resetLine :
    WireForm.Statement (.resetLine) :=
  wireForm_of_none rfl

theorem WireForm.positionSample (dt : Time) :
    WireForm.Statement (.positionSample dt) :=
  wireForm_of_none rfl

theorem WireForm.encoderFault (dt : Time) :
    WireForm.Statement (.encoderFault dt) :=
  wireForm_of_none rfl

theorem WireForm.markerReport (dt : Time) (car : Car) (id : Nat) :
    WireForm.Statement (.markerReport dt car id) :=
  wireForm_of_none rfl

theorem WireForm.plannedWaitExpiry (dt : Time) :
    WireForm.Statement (.plannedWaitExpiry dt) :=
  wireForm_of_none rfl

theorem WireForm.torqueTimeout (dt : Time) :
    WireForm.Statement (.torqueTimeout dt) :=
  wireForm_of_none rfl

theorem WireForm.contactChange (dt : Time) (contact : Contact) (closed : Bool) :
    WireForm.Statement (.contactChange dt contact closed) :=
  wireForm_of_none rfl

theorem WireForm.brakeTimerExpiry (dt : Time) (brake : BrakeId) :
    WireForm.Statement (.brakeTimerExpiry dt brake) :=
  wireForm_of_none rfl

theorem WireForm.trackBrakeTimerExpiry (dt : Time) (car : Car) :
    WireForm.Statement (.trackBrakeTimerExpiry dt car) :=
  wireForm_of_none rfl

theorem WireForm.estopChange (dt : Time) (loop : Ix4) (closed : Bool) :
    WireForm.Statement (.estopChange dt loop closed) :=
  wireForm_of_none rfl

theorem WireForm.keyChange (dt : Time) (on : Bool) :
    WireForm.Statement (.keyChange dt on) :=
  wireForm_of_none rfl

theorem WireForm.carFrameSend (dt : Time) :
    WireForm.Statement (.carFrameSend dt) :=
  wireForm_of_none rfl

theorem WireForm.carFrameReceived (dt : Time) (car : Car) (bytes : List Byte) :
    WireForm.Statement (.carFrameReceived dt car bytes) :=
  wireForm_of_none rfl

theorem WireForm.linkStaleExpiry (dt : Time) (car : Car) :
    WireForm.Statement (.linkStaleExpiry dt car) :=
  wireForm_of_none rfl

theorem WireForm.linkLostExpiry (dt : Time) (car : Car) :
    WireForm.Statement (.linkLostExpiry dt car) :=
  wireForm_of_none rfl

theorem WireForm.driveStatusFrame (dt : Time) (bytes : List Byte) :
    WireForm.Statement (.driveStatusFrame dt bytes) :=
  wireForm_of_none rfl

theorem WireForm.driveSilenceExpiry (dt : Time) :
    WireForm.Statement (.driveSilenceExpiry dt) :=
  wireForm_of_none rfl

theorem WireForm.gateAnswer (dt : Time) (bytes : List Byte) :
    WireForm.Statement (.gateAnswer dt bytes) :=
  wireForm_of_none rfl

theorem WireForm.gateResponseTimeout (dt : Time) :
    WireForm.Statement (.gateResponseTimeout dt) :=
  wireForm_of_none rfl

theorem WireForm.passageTimeout (dt : Time) (gate : Nat) :
    WireForm.Statement (.passageTimeout dt gate) :=
  wireForm_of_none rfl

theorem WireForm.passbackExpiry (dt : Time) (ticket : Nat) :
    WireForm.Statement (.passbackExpiry dt ticket) :=
  wireForm_of_none rfl

theorem WireForm.reopenTimerExpiry (dt : Time) (door : Door) :
    WireForm.Statement (.reopenTimerExpiry dt door) :=
  wireForm_of_none rfl

theorem WireForm.closeTimerExpiry (dt : Time) (door : Door) :
    WireForm.Statement (.closeTimerExpiry dt door) :=
  wireForm_of_none rfl

theorem WireForm.controlFrameReceived (dt : Time) (port : Port) (bytes : List Byte) :
    WireForm.Statement (.controlFrameReceived dt port bytes) :=
  wireForm_of_none rfl

theorem WireForm.receiveTimeout (dt : Time) (port : Port) :
    WireForm.Statement (.receiveTimeout dt port) :=
  wireForm_of_none rfl

theorem WireForm.transmitterFree (dt : Time) (port : Port) :
    WireForm.Statement (.transmitterFree dt port) :=
  wireForm_of_none rfl

theorem WireForm.loadSegments (h : ReqHead) (n i : Nat) (line : Option LineRecord) (es : List Segment) :
    WireForm.Statement (.loadSegments h n i line es) :=
  wireForm_of_request rfl (fun hw => by
    simp only [Request.wf, Bool.and_eq_true] at hw
    exact hw.1.1.1)

theorem WireForm.loadZones (h : ReqHead) (n i : Nat) (es : List Zone) :
    WireForm.Statement (.loadZones h n i es) :=
  wireForm_of_request rfl (fun _ => rfl)

theorem WireForm.loadStations (h : ReqHead) (n i : Nat) (es : List Station) :
    WireForm.Statement (.loadStations h n i es) :=
  wireForm_of_request rfl (fun _ => rfl)

theorem WireForm.loadHalts (h : ReqHead) (n i : Nat) (es : List Halt) :
    WireForm.Statement (.loadHalts h n i es) :=
  wireForm_of_request rfl (fun _ => rfl)

theorem WireForm.loadMarkers (h : ReqHead) (n i : Nat) (es : List Marker) :
    WireForm.Statement (.loadMarkers h n i es) :=
  wireForm_of_request rfl (fun _ => rfl)

theorem WireForm.loadCars (h : ReqHead) (n i : Nat) (es : List CarData) :
    WireForm.Statement (.loadCars h n i es) :=
  wireForm_of_request rfl (fun _ => rfl)

theorem WireForm.loadBraking (h : ReqHead) (n i : Nat) (es : List Braking) :
    WireForm.Statement (.loadBraking h n i es) :=
  wireForm_of_request rfl (fun _ => rfl)

theorem WireForm.loadGates (h : ReqHead) (n i : Nat) (es : List GateEntry) :
    WireForm.Statement (.loadGates h n i es) :=
  wireForm_of_request rfl (fun _ => rfl)

theorem WireForm.commitGeometry (h : ReqHead) :
    WireForm.Statement (.commitGeometry h) :=
  wireForm_of_request rfl (fun _ => rfl)

theorem WireForm.discardGeometry (h : ReqHead) :
    WireForm.Statement (.discardGeometry h) :=
  wireForm_of_request rfl (fun _ => rfl)

theorem WireForm.readGeometry (h : ReqHead) (table copy first : Nat) :
    WireForm.Statement (.readGeometry h table copy first) :=
  wireForm_of_request rfl (fun _ => rfl)

theorem WireForm.setMode (h : ReqHead) (mode : Nat) :
    WireForm.Statement (.setMode h mode) :=
  wireForm_of_request rfl (fun _ => rfl)

theorem WireForm.clearSeverity (h : ReqHead) :
    WireForm.Statement (.clearSeverity h) :=
  wireForm_of_request rfl (fun _ => rfl)

theorem WireForm.restart (h : ReqHead) :
    WireForm.Statement (.restart h) :=
  wireForm_of_request rfl (fun _ => rfl)

theorem WireForm.readStatus (h : ReqHead) :
    WireForm.Statement (.readStatus h) :=
  wireForm_of_request rfl (fun _ => rfl)

theorem WireForm.setReference (h : ReqHead) (halt : Nat) :
    WireForm.Statement (.setReference h halt) :=
  wireForm_of_request rfl (fun _ => rfl)

theorem WireForm.readPosition (h : ReqHead) :
    WireForm.Statement (.readPosition h) :=
  wireForm_of_request rfl (fun _ => rfl)

theorem WireForm.announceRun (h : ReqHead) (halt : Option Nat) :
    WireForm.Statement (.announceRun h halt) :=
  wireForm_of_request rfl (fun _ => rfl)

theorem WireForm.startRun (h : ReqHead) (target cruise : Nat) :
    WireForm.Statement (.startRun h target cruise) :=
  wireForm_of_request rfl (fun _ => rfl)

theorem WireForm.holdRun (h : ReqHead) :
    WireForm.Statement (.holdRun h) :=
  wireForm_of_request rfl (fun _ => rfl)

theorem WireForm.resumeRun (h : ReqHead) :
    WireForm.Statement (.resumeRun h) :=
  wireForm_of_request rfl (fun _ => rfl)

theorem WireForm.cancelRun (h : ReqHead) :
    WireForm.Statement (.cancelRun h) :=
  wireForm_of_request rfl (fun _ => rfl)

theorem WireForm.setWatch (h : ReqHead) (index : Nat) (w : WatchBytes) :
    WireForm.Statement (.setWatch h index w) :=
  wireForm_of_request rfl (fun _ => rfl)

theorem WireForm.clearWatch (h : ReqHead) (index : Nat) :
    WireForm.Statement (.clearWatch h index) :=
  wireForm_of_request rfl (fun _ => rfl)

theorem WireForm.readRun (h : ReqHead) :
    WireForm.Statement (.readRun h) :=
  wireForm_of_request rfl (fun _ => rfl)

theorem WireForm.clearTrip (h : ReqHead) :
    WireForm.Statement (.clearTrip h) :=
  wireForm_of_request rfl (fun _ => rfl)

theorem WireForm.releaseTrackBrakes (h : ReqHead) :
    WireForm.Statement (.releaseTrackBrakes h) :=
  wireForm_of_request rfl (fun _ => rfl)

theorem WireForm.readTrip (h : ReqHead) :
    WireForm.Statement (.readTrip h) :=
  wireForm_of_request rfl (fun _ => rfl)

theorem WireForm.releaseDoors (h : ReqHead) (cars comps : Nat) :
    WireForm.Statement (.releaseDoors h cars comps) :=
  wireForm_of_request rfl (fun _ => rfl)

theorem WireForm.lockDoors (h : ReqHead) (cars : Nat) :
    WireForm.Statement (.lockDoors h cars) :=
  wireForm_of_request rfl (fun _ => rfl)

theorem WireForm.isolateDoor (h : ReqHead) (door : Nat) :
    WireForm.Statement (.isolateDoor h door) :=
  wireForm_of_request rfl (fun _ => rfl)

theorem WireForm.restoreDoor (h : ReqHead) (door : Nat) :
    WireForm.Statement (.restoreDoor h door) :=
  wireForm_of_request rfl (fun _ => rfl)

theorem WireForm.readDoors (h : ReqHead) :
    WireForm.Statement (.readDoors h) :=
  wireForm_of_request rfl (fun _ => rfl)

theorem WireForm.releaseGateBus (h : ReqHead) :
    WireForm.Statement (.releaseGateBus h) :=
  wireForm_of_request rfl (fun _ => rfl)

theorem WireForm.setGate (h : ReqHead) (address enabled mode scale verify : Nat) :
    WireForm.Statement (.setGate h address enabled mode scale verify) :=
  wireForm_of_request rfl (fun _ => rfl)

theorem WireForm.openStation (h : ReqHead) (station : Nat) :
    WireForm.Statement (.openStation h station) :=
  wireForm_of_request rfl (fun _ => rfl)

theorem WireForm.closeStation (h : ReqHead) (station : Nat) :
    WireForm.Statement (.closeStation h station) :=
  wireForm_of_request rfl (fun _ => rfl)

theorem WireForm.loadClasses (h : ReqHead) (es : List ClassBytes) :
    WireForm.Statement (.loadClasses h es) :=
  wireForm_of_request rfl (fun hw => by
    simp only [Request.wf, Bool.and_eq_true] at hw
    exact hw.1)

theorem WireForm.setPassback (h : ReqHead) (minutes : Nat) :
    WireForm.Statement (.setPassback h minutes) :=
  wireForm_of_request rfl (fun _ => rfl)

theorem WireForm.readGates (h : ReqHead) (first : Nat) :
    WireForm.Statement (.readGates h first) :=
  wireForm_of_request rfl (fun _ => rfl)

theorem WireForm.readTally (h : ReqHead) :
    WireForm.Statement (.readTally h) :=
  wireForm_of_request rfl (fun _ => rfl)

theorem WireForm.setNotice (h : ReqHead) (cls enabled priority route : Nat) :
    WireForm.Statement (.setNotice h cls enabled priority route) :=
  wireForm_of_request rfl (fun _ => rfl)

theorem WireForm.setThreshold (h : ReqHead) (port threshold : Nat) :
    WireForm.Statement (.setThreshold h port threshold) :=
  wireForm_of_request rfl (fun _ => rfl)

theorem WireForm.quadratureStep (dt : Time) (up : Bool) :
    WireForm.Statement (.quadratureStep dt up) :=
  wireForm_of_none rfl

theorem WireForm.controlByteReceived (dt : Time) (port : Port) (byte : Byte) :
    WireForm.Statement (.controlByteReceived dt port byte) :=
  wireForm_of_none rfl

end Laws
end Sys2Proof
end

