-- ==== Sys2Proof/Tests/Slice0.lean ====
section
/-! SUPPORT. Tests of the model, and a witness for the hypotheses of each statement. -/

namespace Sys2Proof
namespace Tests

open Machine

/-! ### Small states -/

/-- The tables of the line that chapter 12 and section 3.7 use. -/
def tables : Tables where
  line := ⟨1800000, 10000, 12000, 1000, 850000, 950000⟩
  segments := [⟨0, 3500⟩, ⟨600000, 4800⟩, ⟨1200000, 3900⟩]
  zones := [⟨true, 0, 40000, 2000, true, 2, 1⟩, ⟨true, 1760000, 1800001, 2000, true, 1, 2⟩]
  stations := [⟨1, 0, true, true⟩, ⟨2, 1800000, true, false⟩]
  halts := [⟨1, 2⟩, ⟨2, 1⟩]
  markers := [⟨1, 5000, 0⟩]
  cars := .const ⟨11000, 100, ⟨-4500, -1500, 1500, 4500⟩, ⟨true, false, false, false⟩⟩
  braking := ⟨60000, 9000, 600, 600, 700, 400, 2000, 50, 0, 1000⟩
  gates := [⟨1, 1, 1⟩, ⟨2, 2, 1⟩]
  noRelease := []

/-- A line with tables in AUTOMATIC, standing at the first halt. -/
def line : State :=
  { State.reset with
    geo := ⟨some tables, Staging.empty⟩
    line := { State.reset.line with mode := .automatic, atStop := some 0 }
    trk := { State.reset.trk with still := true, stillCount := 51, xB := 1800000, conf := .confirmed } }

/-- The head of the requests of the tests: port C, tag 7, guard ALWAYS. -/
def head : ReqHead := ⟨0, .C, 7, 0⟩

/-- A state whose one waiting request is `r`, on port C. -/
def asks (r : Request) (s : State) : State :=
  { s with ctl := s.ctl.set .C ⟨.hunting, [⟨7, r.kind, .waiting 0 r⟩], none⟩ }

/-- The request waiting there is taken. -/
theorem taken (r : Request) (s : State) (hf : s.line.restartPending = false) : Taken (asks r s) head r :=
  ⟨by simp [asks, head, PortState.expects, PortState.waiting, ReplyEntry.isWaiting, PerPort.set, PerPort.get], hf, rfl⟩

/-- The line of `line` with every condition of a departure met: doors locked, links live, drive ready, brakes applied. -/
def ready : State :=
  { line with
    doors := ⟨.const (Quad.const { DoorRec.afterReset false with reported := .locked }), .const none⟩
    links := .const { CarLink.afterReset with state := .live }
    drive := ⟨some ⟨true, false, false⟩, false, none, 0, []⟩
    tally := .const { Load.afterReset with departure := some 0 }
    brk := { State.reset.brk with
      service := ⟨.applied, none⟩, sheave := ⟨.applied, none⟩, sbApplied := true, ebApplied := true
      track := .const ⟨.hold, some .released, none⟩ } }

/-- A run up the line to the second halt, in a given state. -/
def run (st : RunState) : Run where
  id := 1
  origin := some 0
  target := 1
  pA := 1800000
  dir := .up
  requested := 0
  cruise := 12000
  dyn := some ⟨1000, 600, 700, 400, 1802000⟩
  stop := .target
  resumeTarget := none
  holdCause := none
  pendingStop := none
  highest := .none
  releaseTime := some 0
  planTime := 0
  state := st
  leaving := none

/-- A state with that run. -/
def under (st : RunState) (s : State) : State := { s with plan := { s.plan with run := some (run st) } }

/-- An envelope of that run. -/
def envelope : Envelope := ⟨1, .up, 0, 1800000, 1800000, 1802000, 11000, 11000, 31000, 0, 0, 1000, 600, 700⟩

/-- The run under way between the terminals: in a moving phase, at `x` mm. -/
def moving (st : RunState) (x : Int) : State :=
  { under st ready with
    brk := { ready.brk with
      sbr := true, ebr := true, ten := true, seq := .moving, service := ⟨.released, none⟩, sheave := ⟨.released, none⟩ }
    sup := { ready.sup with env := some envelope }
    trk := { ready.trk with xBase := x, xA := x, xB := 1800000 - x, still := false, stillCount := 0, stillSeen := true } }

/-- A trip record. -/
def trip : TripRec := ⟨.overspeedCurve, false, ⟨some 1, 0, 0, 0, none, none⟩, 0, none⟩

/-- A state with that trip record. -/
def tripped (s : State) : State := { s with sup := { s.sup with trip := some trip } }

/-- A car frame of car A: all doors locked, 1,300 kg settled, the track brake's state absent. -/
def carReport (echo : Byte) : List Byte :=
  frame 0x5A#8 [0x02#8, echo, 1#8, 1#8, 1#8, 1#8, 0x14#8, 0x05#8, 1#8, 0#8, 0#8, 0#8]

/-- Links that have sent frame 9 and wait for its echo. -/
def linked (st : LinkState) (streak : Nat) : State :=
  { ready with
    links := .const { CarLink.afterReset with state := st, streak := streak, sent := [9#8], nextSeq := 10#8 }
    tally := .const { Load.afterReset with window := some 1 } }

/-- A gate of station 1. -/
def gate1 (st : GateState) (a : Option Admission) : Gate :=
  { address := 1, station := 1, compartment := 1, enabled := true, leaf := false, scale := 1, verify := true, state := st,
    admission := a, overdue := none, closePending := false, outbox := [], missed := 0, streak := 0, retries := 0 }

/-- The admission of ticket 77 to car A, granted at 0. -/
def admission : Admission := ⟨77, .A, 1, 80, false, 0, 2000⟩

/-- A gate bus with that gate alone, and a poll of it in progress. -/
def gated (st : GateState) (a : Option Admission) : State :=
  { ready with
    tally := ⟨{ ready.tally.a with
      window := some 1, resPersons := if a.isSome then 1 else 0, resMass := if a.isSome then 80 else 0 }, ready.tally.b⟩
    gates := { ready.gates with
      busReleased := true, gates := [gate1 st a], openMarks := [⟨1, .A⟩], lastMain := some 1
      trans := some ⟨1, none, true, false, false, 0, transactionFrame 1 none⟩ } }

/-- The state a command ends in. -/
def after (c : Instr) (s : State) : State :=
  match exec c s with
  | .next t => t
  | .fault _ => s
  | .refused _ => s

/-- The status and body of the first reply of port C. -/
def answer (s : State) : Option Reply :=
  match s.ctl.c.replies with
  | ⟨_, _, .ready r⟩ :: _ => some r
  | _ => none

/-! ### Ill-formed terms, refused by each check of WellFormed.lean -/

theorem test_wf_records :
    LineRecord.wf ⟨-1, 0, 0, 0, 0, 0⟩ = false ∧ LineRecord.wf ⟨0, 65536, 0, 0, 0, 0⟩ = false ∧
    LineRecord.wf ⟨0, 0, 65536, 0, 0, 0⟩ = false ∧ LineRecord.wf ⟨0, 0, 0, 65536, 0, 0⟩ = false ∧
    LineRecord.wf ⟨0, 0, 0, 0, 4294967296, 0⟩ = false ∧ LineRecord.wf ⟨0, 0, 0, 0, 0, -1⟩ = false ∧
    Segment.wf ⟨-1, 0⟩ = false ∧ Segment.wf ⟨0, 32768⟩ = false ∧ Segment.wf ⟨0, -32769⟩ = false ∧
    Zone.wf ⟨true, -1, 0, 0, true, 0, 0⟩ = false ∧ Zone.wf ⟨true, 0, -1, 0, true, 0, 0⟩ = false ∧
    Zone.wf ⟨true, 0, 0, 65536, true, 0, 0⟩ = false ∧ Zone.wf ⟨true, 0, 0, 0, true, 256, 0⟩ = false ∧
    Zone.wf ⟨true, 0, 0, 0, true, 0, 256⟩ = false ∧ Station.wf ⟨256, 0, true, true⟩ = false ∧
    Station.wf ⟨0, -1, true, true⟩ = false ∧ Halt.wf ⟨256, 0⟩ = false ∧ Halt.wf ⟨0, 256⟩ = false ∧
    Marker.wf ⟨256, 0, 0⟩ = false ∧ Marker.wf ⟨0, -1, 0⟩ = false ∧ Marker.wf ⟨0, 0, 256⟩ = false ∧
    GateEntry.wf ⟨256, 0, 0⟩ = false ∧ GateEntry.wf ⟨0, 256, 0⟩ = false ∧ GateEntry.wf ⟨0, 0, 256⟩ = false := by
  decide

theorem test_wf_cars_braking :
    CarData.wf ⟨65536, 0, ⟨0, 0, 0, 0⟩, Quad.const true⟩ = false ∧
    CarData.wf ⟨0, 65536, ⟨0, 0, 0, 0⟩, Quad.const true⟩ = false ∧
    CarData.wf ⟨0, 0, ⟨32768, 0, 0, 0⟩, Quad.const true⟩ = false ∧
    CarData.wf ⟨0, 0, ⟨0, 32768, 0, 0⟩, Quad.const true⟩ = false ∧
    CarData.wf ⟨0, 0, ⟨0, 0, -32769, 0⟩, Quad.const true⟩ = false ∧
    CarData.wf ⟨0, 0, ⟨0, 0, 0, -32769⟩, Quad.const true⟩ = false ∧
    Braking.wf ⟨4294967296, 0, 0, 0, 0, 0, 0, 0, 0, 0⟩ = false ∧ Braking.wf ⟨0, 65536, 0, 0, 0, 0, 0, 0, 0, 0⟩ = false ∧
    Braking.wf ⟨0, 0, 65536, 0, 0, 0, 0, 0, 0, 0⟩ = false ∧ Braking.wf ⟨0, 0, 0, 65536, 0, 0, 0, 0, 0, 0⟩ = false ∧
    Braking.wf ⟨0, 0, 0, 0, 65536, 0, 0, 0, 0, 0⟩ = false ∧ Braking.wf ⟨0, 0, 0, 0, 0, 65536, 0, 0, 0, 0⟩ = false ∧
    Braking.wf ⟨0, 0, 0, 0, 0, 0, 65536, 0, 0, 0⟩ = false ∧ Braking.wf ⟨0, 0, 0, 0, 0, 0, 0, 65536, 0, 0⟩ = false ∧
    Braking.wf ⟨0, 0, 0, 0, 0, 0, 0, 0, 65536, 0⟩ = false ∧ Braking.wf ⟨0, 0, 0, 0, 0, 0, 0, 0, 0, 65536⟩ = false := by
  decide

/-- Too many entries for a body of 240 bytes, a first segments part without its line record, a later one with it, and
fields beyond their bytes. -/
theorem test_wf_requests :
    Request.wf (.loadSegments 1 0 none []) = false ∧ Request.wf (.loadSegments 1 1 (some tables.line) []) = false ∧
    Request.wf (.loadSegments 1 0 (some ⟨-1, 0, 0, 0, 0, 0⟩) []) = false ∧
    Request.wf (.loadSegments 256 1 none []) = false ∧ Request.wf (.loadSegments 1 1 none [⟨-1, 0⟩]) = false ∧
    Request.wf (.loadZones 1 256 []) = false ∧ Request.wf (.loadZones 16 0 (List.replicate 17 ⟨true, 0, 0, 0, true, 0, 0⟩)) = false ∧
    Request.wf (.loadStations 256 0 []) = false ∧ Request.wf (.loadHalts 256 0 []) = false ∧
    Request.wf (.loadMarkers 48 0 (List.replicate 40 ⟨0, 0, 0⟩)) = false ∧ Request.wf (.loadCars 256 0 []) = false ∧
    Request.wf (.loadBraking 256 0 []) = false ∧ Request.wf (.loadGates 256 0 []) = false ∧
    Request.wf (.readGeometry 256 0 0) = false ∧ Request.wf (.setMode 256) = false ∧
    Request.wf (.setReference 256) = false ∧ Request.wf (.announceRun (some 255)) = false ∧
    Request.wf (.startRun 256 0) = false ∧ Request.wf (.startRun 0 65536) = false ∧
    Request.wf (.setWatch 256 ⟨0, 0, 0, 0, 0⟩) = false ∧ Request.wf (.setWatch 0 ⟨256, 0, 0, 0, 0⟩) = false ∧
    Request.wf (.setWatch 0 ⟨0, 2147483648, 0, 0, 0⟩) = false ∧ Request.wf (.setWatch 0 ⟨0, 0, 256, 0, 0⟩) = false ∧
    Request.wf (.setWatch 0 ⟨0, 0, 0, 256, 0⟩) = false ∧ Request.wf (.setWatch 0 ⟨0, 0, 0, 0, 256⟩) = false ∧
    Request.wf (.clearWatch 256) = false ∧ Request.wf (.releaseDoors 256 0) = false ∧
    Request.wf (.releaseDoors 0 256) = false ∧ Request.wf (.lockDoors 256) = false ∧
    Request.wf (.isolateDoor 256) = false ∧ Request.wf (.restoreDoor 256) = false ∧
    Request.wf (.setGate 1 256 0 0 0) = false ∧ Request.wf (.openStation 256) = false ∧
    Request.wf (.closeStation 256) = false ∧ Request.wf (.loadClasses []) = false ∧
    Request.wf (.loadClasses (List.replicate 8 ⟨0, 0, 65536, 0⟩)) = false ∧ Request.wf (.setPassback 256) = false ∧
    Request.wf (.readGates 256) = false ∧ Request.wf (.setNotice 0 0 256 0) = false ∧
    Request.wf (.setThreshold 256 0) = false := by
  decide

theorem test_wf_commands :
    Instr.wf (.readStatus { head with guard := 256 }) = false ∧ Instr.wf (.setMode head 256) = false ∧
    Instr.wf (.markerReport 0 .A 256) = false ∧ Instr.wf (.passageTimeout 0 0) = false ∧
    Instr.wf (.passageTimeout 0 17) = false ∧ Instr.wf (.passbackExpiry 0 4294967296) = false ∧
    Instr.wf (.passageTimeout 0 16) = true ∧ Instr.wf (.readStatus head) = true := by
  decide

/-! ### The worked examples of the manual -/

/-- Section 1.6. -/
def exampleZones : List Zone :=
  [⟨true, 0, 40000, 2000, true, 2, 1⟩, ⟨true, 1760000, 1800001, 2000, true, 1, 2⟩,
   ⟨true, 850000, 950000, 6000, false, 3, 0⟩, ⟨true, 0, 120000, 4000, false, 3, 0⟩]

theorem test_zone_lookup :
    [20000, 40000, 100000, 500000, 1800000, -1500].map (fun x =>
      let z := lookupZone exampleZones 10000 x
      (z.cap, z.release, z.side, z.station)) =
      [(2000, true, some .right, 1), (4000, false, some .both, 0), (4000, false, some .both, 0),
       (10000, false, none, 0), (2000, true, some .left, 2), (10000, false, none, 0)] := by
  decide

/-- Section 1.7: a part out of sequence is refused, and a zone that names a station that does not exist fails. -/
theorem test_load_out_of_sequence :
    let s := { line with
      line := { line.line with mode := .locked }
      geo := ⟨some tables, { Staging.empty with zones := some ⟨5, exampleZones.take 3⟩ }⟩ }
    answer (after (.loadZones head 5 4 (exampleZones.take 1)) s) = some ⟨.state, [.code 15]⟩ := by
  decide +kernel

theorem test_commit_reference :
    validate ⟨some tables, { Staging.empty with zones := some ⟨5, exampleZones ++ [⟨true, 1, 2, 1000, false, 3, 6⟩]⟩ }⟩ =
      .error ⟨1, some 4, .reference⟩ := by
  rfl

/-- Section 1.8. -/
theorem test_mirror :
    let staged := fun (x : Int) =>
      { Staging.empty with
        stations := some ⟨4, tables.stations ++ [⟨3, 600000, false, false⟩, ⟨4, x, false, false⟩]⟩
        halts := some ⟨3, [⟨1, 2⟩, ⟨3, 4⟩, ⟨2, 1⟩]⟩ }
    validate ⟨some tables, staged 1199300⟩ = .error ⟨3, some 1, .mirror⟩ ∧
    (validate ⟨some tables, staged 1199800⟩).toOption.map (fun t => t.noRelease) = some [3, 4] :=
  ⟨by rfl, by rfl⟩

/-- Section 2.4: the base at 600,000 and 4,294,960,000, E = 1,250. -/
theorem test_positions :
    [4294960000, 4294960001, 4294960004, 4294959997, 12704].map (fun n : Nat =>
      { State.reset.trk with xBase := 600000, countBase := 4294960000#32, count := BitVec.ofNat 32 n }.freshX 1250) =
      [600000, 600001, 600005, 599996, 625000] := by
  decide

theorem test_speed_window :
    windowSpeed 104 [100] = 400 ∧ windowSpeed 105 [100, 104] = 250 ∧ windowSpeed 107 [100, 104, 105] = 233 := by
  decide

/-- Section 3.7. -/
theorem test_span :
    let r := span tables 1800000 0 .down ⟨16200, 12300, 28500⟩
    (r.fAid, r.cut, r.m, r.aGuar, r.k, r.aSvc) = (29224, 600000, 37500, 820, 492, 574) := by
  decide +kernel

theorem test_envelope :
    let e := Envelope.make 1 .down 1800000 0 2000 ⟨16200, 12300, 28500⟩ ⟨29224, 600000, 37500, 820, 492, 574⟩
    [198000, 87108, 40000, 0, -1500, -2000].map e.vE = [17625, 11606, 7821, 1384, 538, 0] := by
  decide +kernel

theorem test_bands :
    [10000, 10300, 10600, 11300].map (fun v => (curveBand v 11606, ceilingBand v 10000)) =
      [(.none, .none), (.none, .warning), (.warning, .service), (.service, .emergency)] := by
  decide

/-- A heavier car A, section 3.7, and the two checks of section 8.8. -/
theorem test_margin :
    (span tables 1800000 0 .down ⟨20900, 12300, 33200⟩).aGuar = 204 ∧
    (span tables 1800000 0 .down ⟨17320, 12300, 29620⟩).aGuar = 660 ∧
    (span tables 1800000 0 .down ⟨17400, 12300, 29700⟩).aGuar = 649 := by
  decide +kernel

/-- Section 4.10: the stop terms, and the look-ahead of both cars with the zones of section 1.6. -/
theorem test_reference_terms :
    (isqrt (2 * 574 * 200000), isqrt (2 * 574 * 3484), isqrt (2 * 574 * 1000)) = (15152, 1999, 1071) ∧
    (capTerm { tables with zones := exampleZones } 574 200000 119999,
      capTerm { tables with zones := exampleZones } 574 200000 39999,
      capTerm { tables with zones := exampleZones } 574 1600000 1760000) = (10384, 13699, 13699) ∧
    lookAheadCar { tables with zones := exampleZones } 574 110000 false = 4000 := by
  decide +kernel

/-- Section 4.11: the ASAP term 10 ms and 1,000 ms after a hold at 10,000 mm/s, and 17,422 ms after it. -/
theorem test_asap_ramp :
    [10, 1000, 17422].map (fun n : Nat =>
      stopTerm (run .braking) (.asap 10000 0) 574 0 (BitVec.ofNat 32 n)) =
      [(9995, false), (9426, false), (0, true)] := by
  decide +kernel

/-- Section 6.7: the line of the example, with door A3 isolated. -/
def platform : State :=
  { ready with
    geo := ⟨some { tables with
      stations := [⟨1, 6000, true, false⟩, ⟨2, 1794000, true, false⟩]
      zones := [⟨true, 1797000, 1800001, 2000, false, 3, 0⟩, ⟨true, 0, 20000, 2000, true, 2, 1⟩,
        ⟨true, 1780000, 1800001, 2000, true, 1, 2⟩] }, Staging.empty⟩
    trk := { ready.trk with xA := 6140, xBase := 6140, xB := 1793860 }
    doors := ready.doors.put ⟨.A, .i3⟩ { ready.doors.door ⟨.A, .i3⟩ with isolated := true } }

theorem test_release_doors :
    let t := after (.releaseDoors head 3 15) platform
    (t.doors.recs.a.map (fun d => d.release), t.doors.recs.b.map (fun d => d.release), t.doors.side) =
      (⟨true, true, false, true⟩, ⟨true, true, true, false⟩, ⟨some .right, some .left⟩) := by
  decide +kernel

/-- Section 6.8: LOCK_DOORS starts a close operation of each released door, and the third obstruction fails the door. -/
theorem test_lock_doors :
    let d : DoorRec := ⟨.opened, true, false, 0, none, none, false⟩
    let s := { ready with doors := ready.doors.put ⟨.B, .i1⟩ d }
    (after (.lockDoors head 2) s).doors.door ⟨.B, .i1⟩ = ⟨.opened, false, false, 0, some 0, none, false⟩ := by
  decide +kernel

theorem test_third_obstruction :
    let s := { linked .live 0 with doors := ⟨ready.doors.recs.set .A
      (ready.doors.recs.a.set .i2 ⟨.released, false, false, 2, some 0, none, false⟩), ⟨some .left, none⟩⟩ }
    let t := after (.carFrameReceived 10900 .A
      (frame 0x5A#8 [0x02#8, 9#8, 1#8, 4#8, 1#8, 1#8, 0#8, 0#8, 0#8, 0#8, 0#8, 0#8])) s
    t.doors.door ⟨.A, .i2⟩ = ⟨.obstructed, false, false, 3, none, none, true⟩ ∧ t.line.conds.closeFailed = true := by
  decide +kernel

/-- Section 8.9: the settled reading of 3,650 kg in the window of an intermediate station sets both weighs. -/
theorem test_arrival_weigh :
    let s := { linked .live 0 with
      tally := .const { Load.afterReset with window := some 3, carryMass := 4000, carryPersons := 54 } }
    let l := (after (.carFrameReceived 0 .B
      (frame 0x5A#8 [0x02#8, 9#8, 1#8, 1#8, 1#8, 1#8, 0x42#8, 0x0E#8, 1#8, 0#8, 0#8, 0#8])) s).tally.b
    (l.carryMass, l.carryPersons, l.arrival, l.departure) = (3650, 49, some 3650, some 3650) := by
  decide +kernel

/-- Section 9.8: a RESET line with a valid trip record. -/
theorem test_reset_severity :
    let t := after .resetLine (tripped ready)
    (t.line.memory, t.line.conds.level, t.line.mode, t.sup.trip) = (.fatal, .fatal, .unconfigured, some trip) := by
  decide +kernel

/-- Section 10.5: the third valid frame makes the link LIVE; a frame with a bad check breaks the streak. -/
theorem test_link_streak :
    (((after (.carFrameReceived 0 .A (carReport 9#8)) (linked .stale 2)).links.get .A).state = .live) ∧
    (((after (.carFrameReceived 0 .A [0x5A#8]) (linked .stale 2)).links.get .A).streak = 0) := by
  decide +kernel

/-- Section 11.5: 30 ADMISSION notices and 2 RUN notices; TRIP takes the place of the oldest, the next ADMISSION is
discarded, and TRIP is sent first with a lost count of 2. -/
theorem test_displacement :
    let q : NoticeQueue :=
      { State.reset.notices with
        entries := List.replicate 30 ⟨.admission, 0, 0, [], 2, true, false, true, false⟩ ++
          List.replicate 2 ⟨.run, 0, 0, [], 8, true, false, true, false⟩
        threshold := ⟨5, 0⟩ }
    let q1 := q.add .trip 0 0 []
    let q2 := q1.add .admission 0 0 []
    q1.entries.map (fun n => n.cls) = List.replicate 29 .admission ++ [.run, .run, .trip] ∧ q1.lost.c = 1 ∧
    q2.entries = q1.entries ∧ q2.lost.c = 2 ∧ (q2.choose .C).map (fun n => n.cls) = some .trip := by
  decide

/-- R198. -/
theorem test_crc : crc16 [0x31, 0x32, 0x33, 0x34, 0x35, 0x36, 0x37, 0x38, 0x39] = 0x29B1#16 := by decide +kernel

/-- A CONTROL frame written out from section 11.6: READ_STATUS (0x0F), tag 7, guard 0, with no body. -/
theorem test_control_frame :
    (frame 0xA5#8 [0x0F#8, 7#8, 0#8]).take 6 = [0xA5#8, 3#8, 0#8, 0x0F#8, 7#8, 0#8] ∧
    (after (.controlFrameReceived 0 .C (frame 0xA5#8 [0x0F#8, 7#8, 0#8])) ready).ctl.c.replies =
      [⟨7#8, 0x0F, .waiting 0 .readStatus⟩] := by
  decide +kernel

/-- The words of the table spell no command. -/
theorem test_decode_none : decodeTableWord 8 0 = none ∧ State.reset.withFetchWord 8 0 = State.reset := ⟨rfl, rfl⟩

/-- Section 2.13: the line of the example, with car A found at `x`, σ and the confidence as given. -/
def descent (x sigma : Int) (conf : Confidence) (good : Nat) : State :=
  { ready with
    geo := ⟨some { tables with
      markers := [⟨15, 300000, 0⟩, ⟨14, 600000, 0⟩, ⟨12, 880000, 1⟩, ⟨13, 880000, 2⟩, ⟨11, 1200000, 0⟩, ⟨10, 1500000, 0⟩]
      braking := { tables.braking with stretchBound := 1500 } }, Staging.empty⟩
    trk := { ready.trk with
      xBase := x, xA := x, sigma := sigma, conf := conf, good := good, lastDir := some .down, still := false } }

/-- What a marker report leaves: x_A, σ, confidence, the good count and the expected markers. -/
def found (c : Car) (id : Nat) (s : State) : Int × Int × Confidence × Nat × Option Nat × Option Nat :=
  let t := (after (.markerReport 0 c id) s).trk
  (t.xA, t.sigma, t.conf, t.good, (t.expected.get .A).map (fun e => e.id), (t.expected.get .B).map (fun e => e.id))

/-- Events 1, 3, 7 and 10, and the report that loses the position. -/
theorem test_markers :
    (found .A 10 (descent 1500240 0 .referenced 0)).1 = 1500000 ∧
    (found .A 10 (descent 1500240 0 .referenced 0)).2.2.1 = .confirmed ∧
    (found .A 10 (descent 1500240 0 .referenced 0)).2.2.2.2.1 = some 11 ∧
    (found .B 14 (descent 1199700 (-50) .confirmed 0)).2.1 = -300 ∧
    (found .B 14 (descent 1199700 (-50) .confirmed 0)).2.2.2.2.2 = some 13 ∧
    (found .A 12 (descent 880400 (-440) .confirmed 0)).2.2.1 = .degraded ∧
    (found .A 15 (descent 299780 (-400) .degraded 1)).2.2.1 = .confirmed ∧
    (found .B 10 (descent 298380 (-400) .confirmed 0)).2.2.1 = .lost := by
  decide +kernel

theorem test_stretch :
    let t := after (.markerReport 0 .B 10) (descent 298380 (-400) .confirmed 0)
    t.trk.stretch = true ∧ t.sup.trip.map (fun x => (x.cause, x.highest)) = some (.positionLost, some .rope) := by
  decide +kernel

/-- Section 7.10: a passage that ends PASSED, and a ticket shown again at an open gate. -/
theorem test_gate_passed :
    let t := after (.gateAnswer 1 (gateFrame 1 0x22 [])) (gated .passing (some admission))
    ((t.gates.find? 1).map (fun g => g.state), t.tally.a.resPersons, t.tally.a.admPersons, t.tally.a.admMass) =
      (some .opened, 0, 1, 80) := by
  decide +kernel

theorem test_gate_duplicate :
    let s := gated .opened none
    let t := after (.gateAnswer 1 (gateFrame 1 0x21 [77#8, 0#8, 0#8, 0#8, 0#8, 1#8]))
      { s with gates := { s.gates with recent := [⟨77, 2, 0⟩] } }
    (t.gates.find? 1).map (fun g => (g.state, g.outbox.map (fun o => o.cmd))) =
      some (.opened, [.refuse .duplicate]) := by
  decide +kernel

/-- Joining by R142: under verify a SHUT sent once keeps its place before REFUSE, and OPEN joins the end, the third command
(log 84). -/
theorem test_outbox_joins :
    let s := gated .closed none
    let g := { gate1 .closed none with outbox := [⟨.shut, true⟩, ⟨.refuse .noService, false⟩] }
    let t := after (.openStation head 1) (asks (.openStation 1)
      { s with line := { s.line with mode := .automatic }, gates := { s.gates with gates := [g] } })
    (t.gates.find? 1).map (fun g => (g.state, g.outbox.map (fun o => o.cmd))) =
      some (.opened, [.shut, .refuse .noService, .opn]) := by
  decide +kernel

/-- Section 7.11: the third silent transaction of a gate in a passage. -/
theorem test_gate_silent :
    let s := gated .passing (some admission)
    let t := after (.gateResponseTimeout 8)
      { s with gates := { s.gates with gates := [{ gate1 .passing (some admission) with missed := 2 }] } }
    ((t.gates.find? 1).map (fun g => (g.state, g.missed, g.overdue)), t.tally.a.resPersons, t.tally.a.admPersons,
      t.line.conds.gateOffline) = (some (.offline, 0, some (77, .A)), 0, 1, true) := by
  decide +kernel

/-- Section 7.10 at 5,100: the passage timeout expires, and the holder is counted aboard. -/
theorem test_passage_timeout :
    let t := after (.passageTimeout 2000 1) (gated .passing (some admission))
    ((t.gates.find? 1).map (fun g => (g.state, g.overdue)), t.tally.a.admPersons) =
      (some (.opened, some (77, .A)), 1) := by
  decide +kernel

/-- R156: TURNED_BACK takes the entry of its own admission off the list, and leaves one of the same id at another gate. -/
theorem test_turned_back :
    let s := gated .passing (some admission)
    let t := after (.gateAnswer 1 (gateFrame 1 0x23 []))
      { s with gates := { s.gates with recent := [⟨77, 1, 0⟩, ⟨77, 2, 5⟩] } }
    (t.gates.recent, t.tally.a.resPersons, t.tally.a.admPersons) = ([⟨77, 2, 5⟩], 0, 0) := by
  decide +kernel

/-- R100: the first report ends the absent state, also under a command of APPLY. -/
theorem test_track_absent :
    TrackRec.report ⟨.apply, none, none⟩ false = ⟨.apply, some .released, none⟩ ∧
    TrackRec.report ⟨.hold, none, none⟩ true = ⟨.hold, some .applied, none⟩ := by
  decide

/-- R120: a reopen timer that runs out on a door reported LOCKED returns the side. -/
theorem test_reopen_returns_side :
    let d : DoorRec := ⟨.locked, true, false, 1, some 0, some 0, false⟩
    let s := { ready with doors := ⟨ready.doors.recs.set .A (ready.doors.recs.a.set .i3 d), ⟨some .right, none⟩⟩ }
    (after (.reopenTimerExpiry 3000 ⟨.A, .i3⟩) s).doors.side.get .A = none := by
  decide +kernel

/-! ### Witnesses: the hypotheses of each statement are met -/

theorem witness_StepRunsFrontCommandOrIdles :
    ({ State.reset with pending := [.resetLine] } : State).pending = .resetLine :: [] ∧ State.reset.pending = [] :=
  ⟨rfl, rfl⟩

/-- A port C that is sending the reply to an accepted RESTART. -/
def restarting : State := { ready with ctl := ⟨⟨.hunting, [], some ⟨[0xA5#8], true⟩⟩, PortState.afterReset⟩ }

theorem witness_RestartTakesEffect : (restarting.ctl.get .C).tx = some ⟨[0xA5#8], true⟩ := rfl

/-- A port C whose first reply is in a given state. -/
def owing (x : EntryState) : State :=
  { ready with ctl := ⟨⟨.hunting, [⟨7, 0x0F, x⟩], some ⟨[], false⟩⟩, PortState.afterReset⟩ }

theorem witness_TransmitterSendsReplyOrNotice :
    (∀ x, ((owing (.ready ⟨.done, []⟩)).ctl.get .C).tx = some x → x.restartDone = false) ∧
    (let s := asks .readStatus ready
     (s.ctl.get .C).tx = none ∧ (s.ctl.get .C).replies = [⟨7, 0x0F, .waiting 0 .readStatus⟩]) ∧
    (let s := { ready with ctl := ⟨⟨.hunting, [⟨7, 0x0F, .ready ⟨.done, []⟩⟩], none⟩, PortState.afterReset⟩ }
     (s.ctl.get .C).tx = none ∧ (s.ctl.get .C).replies = [⟨7, 0x0F, .ready ⟨.done, []⟩⟩]) ∧
    (let s := { State.reset with ctl := .const PortState.afterReset }
     (s.ctl.get .C).tx = none ∧ (s.ctl.get .C).replies = [] ∧ (s.notices.choose .C).isSome = true ∧
     (s.ctl.get .S).tx = none ∧ (s.ctl.get .S).replies = [] ∧ s.notices.choose .S = none) :=
  ⟨by rintro _ ⟨⟩; rfl, ⟨rfl, rfl⟩, ⟨rfl, rfl⟩, rfl, rfl, rfl, rfl, rfl, rfl⟩

/-- A queue of MODE at priority 8 and SEVERITY at 12: the higher is handed over, and at a threshold of 12 none is (R209). -/
theorem witness_ChosenNoticeIsOldestOfHighest :
    let q := { State.reset.notices with entries := ⟨.mode, 1, 0, [], 8, true, false, true, false⟩ :: State.reset.notices.entries }
    (q.choose .C).map (fun n => n.cls) = some .severity ∧ { q with threshold := ⟨12, 0⟩ }.choose .C = none := by
  decide

/-- POWER_ON with the inputs of the reset value gives that value, STARTED on port C (0xF0, class 0x0D) and SEVERITY queued. -/
theorem test_power_on_is_reset :
    after (.powerOn ⟨false, Quad.const true, false, false, false, false⟩) line = State.reset := by
  decide +kernel

/-- R204: a ready reply leaves in the event that makes it ready, before any notice. -/
theorem test_reply_leaves_at_once :
    let t := after (.readStatus head) (asks .readStatus ready)
    (t.ctl.c.replies.length, t.ctl.c.tx.map (fun x => (x.frame.take 6).drop 3), t.notices.entries.length) =
      (0, some [0x8F#8, 7#8, 0#8], 1) := by
  decide +kernel

/-- Port C has nothing to send; port S is free, and the one notice owed to it stands at its threshold. -/
def silent : State :=
  { ready with
    ctl := .const PortState.afterReset
    notices := { ready.notices with entries := [⟨.door, 0, 0, [], 8, false, true, false, true⟩], threshold := ⟨0, 8⟩ } }

/-- R209: a free transmitter is asked again when a notice is next queued and when a threshold is lowered. -/
theorem test_notice_leaves_at_once :
    (let t := after (.keyChange 0 true) silent
     (t.ctl.c.tx.isSome, t.ctl.s.tx.isSome, t.notices.entries.length) = (true, false, 1)) ∧
    (let t := after (.setThreshold head 1 7) (asks (.setThreshold 1 7) silent)
     (t.ctl.c.tx.isSome, t.ctl.s.tx.isSome, t.notices.entries.map (fun n => n.cls)) = (true, true, [.queue])) := by
  decide +kernel

/-- A full queue: 31 entries of priority 8 around one of priority 2, the lost counts at a value. -/
def fullQueue (n : Nat) : NoticeQueue :=
  { State.reset.notices with
    entries := List.replicate 15 ⟨.door, 0, 0, [], 8, true, false, true, false⟩ ++ ⟨.admission, 0, 0, [], 2, true, false, true, false⟩ ::
      List.replicate 16 ⟨.door, 0, 0, [], 8, true, false, true, false⟩
    lost := ⟨n, n⟩ }

theorem witness_FullNoticeQueueDisplaces :
    32 ≤ (fullQueue 255).entries.length ∧ ((fullQueue 255).settings.get .mode).enabled = true ∧
    (∀ m ∈ List.replicate 15 (⟨.door, 0, 0, [], 8, true, false, true, false⟩ : Notice), 2 < m.priority) ∧
    (∀ m ∈ List.replicate 16 (⟨.door, 0, 0, [], 8, true, false, true, false⟩ : Notice), 2 ≤ m.priority) ∧
    2 < ((fullQueue 255).settings.get .mode).priority ∧ (fullQueue 255).lost.c ≤ 255 ∧ (fullQueue 0).lost.s ≤ 255 ∧
    (∀ m ∈ (fullQueue 255).entries, ((fullQueue 255).settings.get .admission).priority ≤ m.priority) := by
  decide

/-- A second head, under guard code 15 (NEVER). -/
def never : ReqHead := { head with guard := 15 }

/-- A state whose waiting request has that head. -/
def asksNever : State :=
  { line with ctl := ⟨⟨.hunting, [⟨7, 0x0F, .waiting 15 .readStatus⟩], none⟩, PortState.afterReset⟩ }

theorem witness_RequestsAreGuardedAndQueued :
    Instr.request (.readStatus head) = some (head, .readStatus) ∧
    ((asks .readStatus { line with line := { line.line with restartPending := true } }).ctl.get .C).expects
      head .readStatus = true ∧
    (asksNever.ctl.get .C).expects never .readStatus = true ∧ asksNever.line.guard 15 = false ∧
    asksNever.line.restartPending = false ∧
    (line.ctl.get .C).waiting = [] ∧ (line.ctl.get .C).replies.length < 16 ∧ bodyLengthOk .readStatus = true ∧
    never.guard ≤ 15 ∧ authorised .C line.line.key .readStatus = true := by
  decide

theorem witness_ControlFrameArrival :
    ([] : List Byte).length ≤ 240 ∧ (List.replicate 240 (0#8 : Byte)).length ≤ 240 ∧ readControl [] = none := by
  decide +kernel

theorem reset_transmitters : State.reset.TransmittersOk := by
  rintro (_ | _) h
  · exact absurd h (by decide)
  · exact ⟨fun _ _ h => (List.cons_ne_nil _ _ h.symm).elim, fun _ => by decide⟩

theorem witness_BytesOfFrameMakeFrame :
    (∀ n ∈ [3, 243], (List.replicate (n + 3) (0 : Time) ++ [50]).length = (List.replicate n (0#8 : Byte)).length + 4 ∧
      ((List.replicate (n + 3) (0 : Time) ++ [50]).map (fun d : Time => d.toNat)).sum ≤ 50) ∧
    (State.reset.ctl.get .C).rx = .hunting ∧ State.reset.TransmittersOk ∧
    ∀ content, ∃ t, exec (.controlFrameReceived (0 + (List.replicate 6 (0 : Time) ++ [50]).sum) .C
      (frame 0xA5#8 content)) State.reset = .next t :=
  ⟨by decide +kernel, rfl, reset_transmitters, fun _ => ⟨_, rfl⟩⟩

theorem witness_InputEventsAreRecorded : line.line.key ≠ true := by decide

theorem witness_LineRequestsTakeEffect :
    (∀ n, Taken (asks (.setMode n) line) head (.setMode n)) ∧ line.line.mode ≠ .unconfigured ∧ line.plan.run = none ∧
    line.line.mode = .automatic ∧ Mode.locked ≠ .automatic ∧
    Taken (asks .clearSeverity line) head .clearSeverity ∧ Taken (asks .restart line) head .restart :=
  ⟨fun _ => taken _ _ rfl, by decide, rfl, rfl, by decide, taken _ _ rfl, taken _ _ rfl⟩

theorem witness_NoticeSettingsAreReplaced :
    (∀ n e p r, Taken (asks (.setNotice n e p r) line) head (.setNotice n e p r)) ∧
    (∀ n x, Taken (asks (.setThreshold n x) line) head (.setThreshold n x)) ∧
    (1, Port.S) ∈ [(0, Port.C), (1, Port.S)] :=
  ⟨fun _ _ _ _ => taken _ _ rfl, fun _ _ => taken _ _ rfl, by decide⟩

theorem witness_ReadRequestsChangeNothing :
    (∀ r ∈ [Request.readStatus, .readPosition, .readRun, .readTrip, .readDoors, .readGates 0, .readGates 255, .readTally,
      .readGeometry 7 1 0, .readGeometry 8 0 0, .readGeometry 0 2 0], Taken (asks r line) head r) :=
  fun _ _ => taken _ _ rfl

/-- A line in LOCKED whose staging tables are each one entry short of their room. -/
def staged : State :=
  { line with
    line := { line.line with mode := .locked }
    geo := ⟨some tables,
      { segments := some ⟨tables.line, ⟨32, List.replicate 31 ⟨0, 0⟩⟩⟩
        zones := some ⟨16, List.replicate 15 ⟨true, 0, 1, 1000, true, 1, 0⟩⟩
        stations := some ⟨8, List.replicate 7 ⟨1, 0, true, true⟩⟩
        halts := some ⟨8, List.replicate 7 ⟨1, 2⟩⟩
        markers := some ⟨48, List.replicate 47 ⟨1, 5000, 0⟩⟩
        cars := some ⟨2, [tables.cars.a]⟩
        braking := none
        gates := some ⟨16, List.replicate 15 ⟨1, 1, 1⟩⟩ }⟩ }

/-- A first part, and the last entry of a full table as a later part. -/
theorem witness_StagingIsLoadedAndDiscarded :
    (∀ r, Taken (asks r staged) head r) ∧ staged.configurable ∧
    PartTaken 32 (none : Option (Machine.Part Segment)) 3 0 [⟨0, 3500⟩] ⟨3, [⟨0, 3500⟩]⟩ ∧
    PartTaken 32 (staged.geo.staging.segments.map (fun x => x.part)) 32 31 [⟨9, 0⟩]
      ⟨32, List.replicate 31 ⟨0, 0⟩ ++ [⟨9, 0⟩]⟩ ∧
    staged.geo.staging.segments.map (fun x => x.line) = some tables.line ∧
    PartTaken 16 (none : Option (Machine.Part Zone)) 0 0 [] ⟨0, []⟩ ∧
    (∃ p, PartTaken 16 staged.geo.staging.zones 16 15 [⟨true, 0, 1, 1000, true, 1, 0⟩] p) ∧
    (∃ p, PartTaken 8 staged.geo.staging.stations 8 7 [⟨2, 0, true, true⟩] p) ∧
    (∃ p, PartTaken 8 staged.geo.staging.halts 8 7 [⟨1, 2⟩] p) ∧
    (∃ p, PartTaken 48 staged.geo.staging.markers 48 47 [⟨2, 0, 0⟩] p) ∧
    (∃ p, PartTaken 2 staged.geo.staging.cars 2 1 [tables.cars.b] p) ∧
    (∃ p, PartTaken 1 staged.geo.staging.braking 1 0 [tables.braking] p) ∧
    (∃ p, PartTaken 16 staged.geo.staging.gates 16 15 [⟨2, 1, 1⟩] p) := by
  have later : ∀ {α : Type} (room n : Nat) (q : List α) (e : α), n ≤ room → q.length + 1 = n → q ≠ [] →
      PartTaken room (some ⟨n, q⟩) n q.length [e] ⟨n, q ++ [e]⟩ := by
    intro α room n q e h1 h2 h3
    exact ⟨h1, .inr ⟨by simpa using h3, ⟨n, q⟩, rfl, rfl, by simp; omega, rfl, by simp, by simp; omega, rfl⟩⟩
  refine ⟨fun _ => taken _ _ rfl, .inr rfl, ⟨by decide, .inl ⟨rfl, by decide, by decide, rfl⟩⟩,
    later 32 32 (List.replicate 31 _) _ (by decide) (by decide) (by decide), rfl,
    ⟨by decide, .inl ⟨rfl, by decide, by decide, rfl⟩⟩,
    ⟨_, later 16 16 (List.replicate 15 _) _ (by decide) (by decide) (by decide)⟩,
    ⟨_, later 8 8 (List.replicate 7 _) _ (by decide) (by decide) (by decide)⟩,
    ⟨_, later 8 8 (List.replicate 7 _) _ (by decide) (by decide) (by decide)⟩,
    ⟨_, later 48 48 (List.replicate 47 _) _ (by decide) (by decide) (by decide)⟩,
    ⟨_, later 2 2 [_] _ (by decide) (by decide) (by decide)⟩,
    ⟨_, by decide, .inl ⟨rfl, by decide, by decide, rfl⟩⟩,
    ⟨_, later 16 16 (List.replicate 15 _) _ (by decide) (by decide) (by decide)⟩⟩

/-- The tables as a complete staging copy. -/
def wholeStaging : Staging where
  segments := some ⟨tables.line, ⟨3, tables.segments⟩⟩
  zones := some ⟨2, tables.zones⟩
  stations := some ⟨2, tables.stations⟩
  halts := some ⟨2, tables.halts⟩
  markers := some ⟨1, tables.markers⟩
  cars := some ⟨2, [tables.cars.a, tables.cars.b]⟩
  braking := some ⟨1, [tables.braking]⟩
  gates := some ⟨2, tables.gates⟩

/-- The first commit, in UNCONFIGURED, and a second one in LOCKED, which takes the tables that are not staged from the
committed copy. -/
theorem witness_CommitReplacesTables :
    (let s := asks .commitGeometry { State.reset with geo := ⟨none, wholeStaging⟩ }
     Taken s head .commitGeometry ∧ s.configurable ∧ s.line.mode ≠ .locked ∧ validate s.geo = .ok tables) ∧
    (let s := asks .commitGeometry
       { line with
         line := { line.line with mode := .locked }
         geo := ⟨some tables, { Staging.empty with zones := some ⟨2, tables.zones⟩ }⟩ }
     Taken s head .commitGeometry ∧ s.configurable ∧ s.plan.run = none ∧ s.trk.still = true ∧ s.gates.shut = true ∧
     validate s.geo = .ok tables) :=
  ⟨⟨taken _ _ rfl, .inl rfl, by decide, by rfl⟩, taken _ _ rfl, .inr rfl, rfl, rfl, rfl, by rfl⟩

theorem witness_ValidatedTablesKeepLimits : validate ⟨none, wholeStaging⟩ = .ok tables := by rfl

/-- A base that moves, and one that stays: 2³⁰ − 1 counts and 2³⁰. -/
theorem test_baseMove :
    ({ State.reset.trk with count := 1073741823#32 } : Tracker).moveBase 1000 = { State.reset.trk with count := 1073741823#32 } ∧
    (({ State.reset.trk with count := 1073741824#32 } : Tracker).moveBase 1000).xBase = 1073741000 := by
  decide +kernel

theorem witness_SetReferencePlacesCars :
    let s := asks (.setReference 1) { line with line := { line.line with key := true } }
    Taken s head (.setReference 1) ∧ s.line.mode ≠ .unconfigured ∧ (s.geo.halt? 1).isSome = true ∧
      s.line.key = true ∧ s.plan.run = none ∧ s.trk.still = true :=
  ⟨taken _ _ rfl, by decide, by decide, rfl, rfl, rfl⟩

theorem witness_EncoderFaultLosesPosition :
    { line.trk with conf := .lost }.conf = .lost ∧ ready.trk.conf ≠ .lost ∧ (moving .cruising 900000).trk.conf ≠ .lost ∧
    (moving .cruising 900000).carsMoving = true ∧ (under .planned ready).carsMoving = false ∧
    (under .planned ready).plan.run = some (run .planned) := by
  decide +kernel

/-- Car A at `d` mm beyond the marker of the tables. -/
def nearMarker (d : Int) : State := { ready with trk := { ready.trk with xBase := 5000 + d } }

/-- Car B at `d` mm beyond the marker, σ being 0. -/
def nearMarkerB (d : Int) : State := { ready with trk := { ready.trk with xBase := 1800000 - (5000 + d) } }

/-- The windows at their edges: 300, 301, 1,500 and 1,501 mm; and a tracker that uses no report. -/
theorem witness_MarkerReportsCorrectPosition :
    (nearMarker 0).geo.marker? 1 = some ⟨1, 5000, 0⟩ ∧
    ¬State.reset.usesMarker .A ⟨1, 5000, 0⟩ ∧
    (∀ d ∈ [(300 : Int), 301, -1500, 1500], (nearMarker d).usesMarker .A ⟨1, 5000, 0⟩ ∧
      ((nearMarker d).reportedAt .A - 5000).natAbs ≤ 1500) ∧
    (nearMarker 1501).usesMarker .A ⟨1, 5000, 0⟩ ∧ 1500 < ((nearMarker 1501).reportedAt .A - 5000).natAbs ∧
    (∀ d ∈ [(300 : Int), -301, 1000], (nearMarkerB d).usesMarker .B ⟨1, 5000, 0⟩ ∧
      (5000 + (nearMarkerB d).reportedAt .A - 1800000).natAbs ≤ (nearMarkerB d).geo.stretchBound ∧
      (5000 + (nearMarkerB d).reportedAt .A - 1800000 - (nearMarkerB d).trk.sigma).natAbs ≤ 1500) ∧
    (nearMarkerB 1001).usesMarker .B ⟨1, 5000, 0⟩ ∧
    (nearMarkerB 1001).geo.stretchBound < (5000 + (nearMarkerB 1001).reportedAt .A - 1800000).natAbs := by
  unfold State.usesMarker
  decide +kernel

/-- A span with no mass at all, one whose force the brakes do not exceed, and one they do. -/
theorem witness_SpanDecelerations :
    (span { tables with braking := { tables.braking with mEq := 0 } } 0 1800000 .down ⟨0, 0, 0⟩).m = 0 ∧
    (tables.braking.force : Int) ≤ (span tables 1800000 0 .down ⟨900000, 11000, 911000⟩).fAid ∧
    (span tables 1800000 0 .down ⟨11000, 11000, 22000⟩).m ≠ 0 ∧
    (span tables 1800000 0 .down ⟨11000, 11000, 22000⟩).fAid < tables.braking.force := by
  decide +kernel

theorem witness_WorstForceBoundsSpan : min (1800000 : Int) 0 ≤ 600000 ∧ (600000 : Int) ≤ max 1800000 0 := by decide

/-- At the limit point, and one millimetre before it. -/
theorem witness_PermittedSpeedIsGreatest :
    (envelope.limit - 1802000) * 1 ≤ 0 ∧ 0 < (envelope.limit - 1801999) * 1 ∧ State.reset.sup.env = none := by
  decide

theorem witness_BandConditions :
    (⟨.emergency, .none, false, false⟩ : BandFinding).curve = .emergency ∧
    (⟨.service, .emergency, false, false⟩ : BandFinding).curve ≠ .emergency ∧
    (⟨.service, .emergency, false, false⟩ : BandFinding).ceiling = .emergency := by
  decide

/-- A run at speed `v` mm/s and at `x` mm as the next sample finds it. -/
def fast (x v : Int) : State :=
  { moving .cruising x with trk := { (moving .cruising x).trk with window := List.replicate 10 (x - v / 10) } }

/-- One millimetre beyond the limit point; running back; and 20 mm/s with v_E at 0. -/
theorem witness_SampleTripsOnOverrun :
    (fast 1802001 0).plan.run = some (run .cruising) ∧ (run .cruising).state.evaluated = true ∧
    (fast 1802001 0).sup.env = some envelope ∧
    (∃ t, exec (.positionSample 10) (fast 1802001 0) = .next t ∧ envelope.dLimit t.trk.xA < 0) ∧
    (∃ t, exec (.positionSample 10) (fast 900000 (-110)) = .next t ∧ 100 < -t.trk.v * (run .cruising).dir.sign) ∧
    (∃ t, exec (.positionSample 10) (fast 1802000 20) = .next t ∧ 20 ≤ t.trk.v.natAbs ∧
      envelope.vE t.trk.xA < t.trk.v.natAbs) :=
  ⟨rfl, rfl, rfl, ⟨_, rfl, by decide +kernel⟩, ⟨_, rfl, by decide +kernel⟩, ⟨_, rfl, by decide +kernel⟩⟩

/-- Car A 301 mm below the target, the nearest START_RUN takes. -/
theorem witness_StartRunPlansRun :
    let s := asks (.startRun 1 0) { ready with trk := { ready.trk with xA := 1799699 } }
    Taken s head (.startRun 1 0) ∧ s.line.mode = .automatic ∧ s.plan.run = none ∧ s.geo.committed = some tables ∧
      s.geo.halt? 1 = some ⟨1800000, 0, ⟨2, 1800000, true, false⟩, ⟨1, 0, true, true⟩⟩ ∧
      300 < (s.trk.xA - 1800000).natAbs ∧ s.trk.conf ≠ .unknown ∧ s.trk.conf ≠ .lost ∧ s.sup.trip = none ∧
      s.line.loops = Quad.const true ∧ s.brk.trackClear = true ∧
      tables.braking.aMin ≤ (span tables 1799699 1800000 .up (runMasses tables s.tally .up)).aGuar :=
  ⟨taken _ _ rfl, rfl, rfl, rfl, by decide +kernel, by decide, by decide, by decide, rfl, rfl, rfl, by decide +kernel⟩

theorem witness_AnnounceAndWatchRecords :
    Taken (asks (.announceRun (some 1)) line) head (.announceRun (some 1)) ∧
    Taken (asks (.announceRun none) line) head (.announceRun none) ∧ line.line.mode ≠ .unconfigured ∧
    (line.geo.halt? 1).isSome = true ∧ line.geo.halt? 2 = none ∧
    Taken (asks (.announceRun (some 2)) line) head (.announceRun (some 2)) ∧
    (∀ n w, Taken (asks (.setWatch n w) line) head (.setWatch n w)) ∧ line.plan.run = none ∧
    Ix4.i4.index = 3 ∧ (⟨1, 1800000, 2, 1, 1⟩ : WatchBytes).pos ≤ line.geo.length ∧
    (⟨1, 1800000, 2, 1, 1⟩ : WatchBytes).sense = WatchSense.either.code ∧
    Taken (asks (.clearWatch 3) line) head (.clearWatch 3) ∧ Taken (asks (.clearWatch 4) line) head (.clearWatch 4) :=
  ⟨taken _ _ rfl, taken _ _ rfl, by decide, by decide, by decide, taken _ _ rfl, fun _ _ => taken _ _ rfl, rfl, rfl,
    by decide, rfl, taken _ _ rfl, taken _ _ rfl⟩

/-- A run whose stop point is ASAP. -/
def asap (r : Run) : Run := { r with stop := .asap 500 0, holdCause := some .door }

theorem witness_HoldRunByState :
    Taken (asks .holdRun line) head .holdRun ∧ line.plan.run = none ∧
    (∀ st, Taken (asks .holdRun (under st ready)) head .holdRun ∧ (under st ready).plan.run = some (run st)) ∧
    (run .braking).state.moving = true ∧ (run .braking).stop.isAsap = false ∧
    Taken (asks .holdRun (ready.setRun (some (asap (run .braking))))) head .holdRun ∧
    (asap (run .braking)).stop.isAsap = true :=
  ⟨taken _ _ rfl, rfl, fun _ => ⟨taken _ _ rfl, rfl⟩, rfl, rfl, taken _ _ rfl, rfl⟩

/-- The PLANNED wait at 60,000 ms and one millisecond before. -/
theorem witness_CancelAndWaitCloseRuns :
    Taken (asks .cancelRun line) head .cancelRun ∧
    (∀ st, Taken (asks .cancelRun (under st ready)) head .cancelRun ∧ (under st ready).plan.run = some (run st)) ∧
    (run .accelerating).state.moving = true ∧
    60000 ≤ elapsed (run .planned).planTime ((under .planned ready).now + 60000) ∧
    elapsed (run .planned).planTime ((under .planned ready).now + 59999) < 60000 :=
  ⟨taken _ _ rfl, fun _ => ⟨taken _ _ rfl, rfl⟩, rfl, by decide, by decide⟩

/-- Without a latch anywhere on the line; with one, at a place where v_E is not below 300. -/
theorem witness_ResumeRunStartsAgain :
    let s := asks .resumeRun (under .holding ready)
    Taken s head .resumeRun ∧ s.plan.run = some (run .holding) ∧ s.trk.conf ≠ .unknown ∧ s.trk.conf ≠ .lost ∧
      s.line.loops = Quad.const true ∧ s.brk.trackClear = true ∧ s.doors.allLocked = true ∧ s.linksLive = true ∧
      s.drive.ok = true ∧ 300 < (s.trk.xA - (run .holding).pA).natAbs ∧ s.geo.committed = some tables ∧
      s.sup.band.latch = none ∧ 300 ≤ (s.resumeEnvelope tables (run .holding)).vE s.trk.xA ∧
      tables.braking.aMin ≤ (s.resumeEnvelope tables (run .holding)).aGuar :=
  ⟨taken _ _ rfl, rfl, by decide, by decide, rfl, rfl, by decide, rfl, rfl, by decide, rfl, rfl, by decide +kernel,
    by decide +kernel⟩

theorem witness_DepartureNeedsBrakeMargin :
    (run .planned).state = .planned ∧ (under .planned ready).plan.run = some (run .planned) ∧
    ∃ t, exec (.positionSample 10) (under .planned ready) = .next t ∧
      t.plan.run.map (fun r => r.state) = some .starting :=
  ⟨rfl, rfl, _, rfl, by decide +kernel⟩

/-- A run that has been moving for two seconds is sent a reference. -/
theorem witness_SpeedReferenceIsBounded :
    ∃ t, exec (.positionSample 2000) (moving .accelerating 900000) = .next t ∧ t.drive.lastRef ≠ 0 :=
  ⟨_, rfl, by decide +kernel⟩

/-- A start in RELEASE_WAIT whose sheave brake is released and whose service brake is releasing. -/
def releasing : State :=
  { under .starting ready with
    brk := { ready.brk with
      sbr := true, ebr := true, ten := true, seq := .releaseWait, service := ⟨.releasing, some 0⟩
      sheave := ⟨.released, none⟩, sbApplied := false, ebApplied := false, ebReleased := true } }

/-- A stop in STOP_WAIT whose sheave brake is applied and whose service brake is applying. -/
def stopping (r : Run) : State :=
  { ready.setRun (some r) with
    brk := { ready.brk with ten := true, seq := .stopWait, service := ⟨.applying, some 0⟩, sbApplied := false } }

theorem witness_ContactChangesMoveSequences :
    (releasing.brk.seq = .releaseWait ∧ releasing.plan.run = some (run .starting) ∧
      (run .starting).pendingStop = none ∧ (releasing.brk.record (contactBrake .sbReleased)).state = .releasing ∧
      (releasing.brk.record .sheave).state = .released ∧
      (releasing.brk.contact .sbReleased true).confirmedReleased .service = true) ∧
    (∀ r, r.state = .braking → (stopping r).brk.seq = .stopWait ∧ (stopping r).plan.run = some r) ∧
    ((stopping (run .braking)).brk.record (contactBrake .sbApplied)).state = .applying ∧
    ((stopping (run .braking)).brk.record .sheave).state = .applied ∧
    ((stopping (run .braking)).brk.contact .sbApplied true).confirmedApplied .service = true ∧
    (run .braking).stop = .target ∧ (asap (run .braking)).stop = .asap 500 0 ∧
    (asap (run .braking)).holdCause ≠ some .cancel ∧
    { asap (run .braking) with holdCause := some .cancel }.holdCause = some .cancel ∧
    { run .braking with stop := .watch .i1 1000000 }.stop = .watch .i1 1000000 :=
  ⟨by decide, fun _ _ => ⟨rfl, rfl⟩, by decide, by decide, by decide, rfl, rfl, by decide, rfl, rfl⟩

/-- A brake that applies at rest. -/
def applying : State := { ready with brk := { ready.brk with service := ⟨.applying, some 0⟩, sbApplied := false } }

/-- A car whose track brake has a command, its timer started at 0. -/
def tracking (c : TrackCmd) : State := { ready with brk := { ready.brk with track := .const ⟨c, some .applying, some 0⟩ } }

/-- The confirm timers at their spans, 800 and 1,500 ms, and one millisecond before. -/
theorem witness_BrakeTimersFailBrakes :
    (applying.brk.record .service).state = .applying ∧ (applying.brk.record .service).timer = some 0 ∧
    800 ≤ elapsed 0 (applying.now + 800) ∧ applying.brk.seq = .rest ∧ applying.brk.watch = none ∧
    (releasing.brk.record .service).timer = some 0 ∧ 1500 ≤ elapsed 0 (releasing.now + 1500) ∧
    releasing.brk.sbr = true ∧ releasing.brk.ebr = true ∧ releasing.brk.confirmedApplied .service = false ∧
    (stopping (run .braking)).brk.seq = .stopWait ∧ (stopping (run .braking)).brk.watch = none ∧
    ((stopping (run .braking)).brk.record .service).timer = some 0 ∧
    (∀ c : TrackCmd, (tracking c).brk.track.get .B = ⟨c, some .applying, some 0⟩) ∧
    elapsed 0 (ready.now + 799) < 800 :=
  ⟨rfl, rfl, by decide, rfl, rfl, rfl, by decide, rfl, rfl, rfl, rfl, rfl, rfl, fun _ => rfl, by decide⟩

/-- A start in TORQUE_WAIT. -/
def torqueWait (r : Run) : State :=
  { ready.setRun (some r) with brk := { ready.brk with ten := true, seq := .torqueWait, torque := some 0 } }

theorem witness_TorqueTimeoutFailsStart :
    (∀ r, (torqueWait r).plan.run = some r ∧ (torqueWait r).brk.torque = some 0 ∧ (torqueWait r).brk.seq = .torqueWait) ∧
    2000 ≤ elapsed 0 ((torqueWait (run .starting)).now + 2000) ∧
    elapsed 0 ((torqueWait (run .starting)).now + 1999) < 2000 ∧
    { run .starting with pendingStop := some .cancel }.pendingStop = some .cancel ∧
    (run .starting).pendingStop ≠ some .cancel ∧ (run .starting).leaving = none ∧
    { run .starting with leaving := some ⟨some .door, some 1, .target⟩ }.leaving = some ⟨some .door, some 1, .target⟩ :=
  ⟨fun _ => ⟨rfl, rfl, rfl⟩, by decide, by decide, rfl, by decide, rfl, rfl⟩

/-- Loop 2 open. -/
def loopOpen : State := { ready with line := { ready.line with loops := ⟨true, false, true, true⟩ } }

theorem witness_EstopLoopsTripOrClose :
    loopOpen.line.loops.get .i2 = false ∧
    ((moving .cruising 900000).line.loops.get .i4 = true ∧ (moving .cruising 900000).carsMoving = true) ∧
    (tripped (moving .cruising 900000)).sup.trip = some trip ∧ (moving .cruising 900000).sup.trip = none ∧
    (ready.line.loops.get .i4 = true ∧ ready.carsMoving = false ∧ ready.plan.run = none) ∧
    ((under .planned ready).line.loops.get .i4 = true ∧ (under .planned ready).carsMoving = false ∧
      (under .planned ready).plan.run = some (run .planned)) := by
  decide

/-- A tripped line whose cars move, whose brakes are not applied, or whose TEN is energised. -/
def uncleared (still applied ten : Bool) : State :=
  asks .clearTrip (tripped
    { under .tripped ready with
      trk := { ready.trk with still := still }
      brk := { ready.brk with service := ⟨if applied then .applied else .applying, none⟩, ten := ten } })

theorem witness_TripsAreCleared :
    (Taken (asks .clearTrip ready) head .clearTrip ∧ ready.sup.trip = none) ∧
    (∀ a b c, Taken (uncleared a b c) head .clearTrip ∧ (uncleared a b c).sup.trip = some trip ∧
      (uncleared a b c).trk.still = a ∧ (uncleared a b c).brk.both .applied = b ∧ (uncleared a b c).brk.ten = c ∧
      (uncleared a b c).plan.run = some (run .tripped)) ∧
    ((tripped ready).sup.trip = some trip ∧ (tripped ready).plan.run = none) ∧
    (let s := asks .releaseTrackBrakes
      { tracking .apply with line := { ready.line with key := true } }
     Taken s head .releaseTrackBrakes ∧ s.line.key = true ∧ s.trk.still = true ∧ s.sup.trip = none ∧
      (s.brk.track.get .A).cmd = .apply ∧ ∀ c, (s.links.get c).state = .live) ∧
    (Taken (asks .releaseTrackBrakes ready) head .releaseTrackBrakes ∧ ready.line.key = false) := by
  refine ⟨⟨taken _ _ rfl, rfl⟩, fun a b c => ⟨taken _ _ rfl, rfl, rfl, ?_, rfl, rfl⟩, ⟨rfl, rfl⟩,
    ⟨taken _ _ rfl, rfl, rfl, rfl, rfl, fun c => ?_⟩, taken _ _ rfl, rfl⟩
  · cases b <;> rfl
  · cases c <;> rfl

theorem witness_TripRecordIsKept :
    (tripped ready).sup.trip = some trip ∧ (∃ t, exec (.positionSample 10) (tripped ready) = .next t) ∧
    (∃ t, exec (.clearTrip head) (asks .clearTrip (tripped ready)) = .next t) :=
  ⟨rfl, ⟨_, rfl⟩, _, rfl⟩

/-- A loop that opens in motion writes the record. -/
theorem witness_NewTripDropsOutputs :
    (moving .cruising 900000).sup.trip = none ∧ (moving .cruising 900000).brk.watch = none ∧
    ∃ t, exec (.estopChange 0 .i1 false) (moving .cruising 900000) = .next t ∧
      t.sup.trip.map (fun x => x.cause) = some (.estop .i1) ∧ t.brk.watch.isSome = true :=
  ⟨rfl, rfl, _, rfl, by decide +kernel, by decide +kernel⟩

theorem witness_SequenceIsKept :
    (moving .cruising 900000).SequenceOk ∧ releasing.SequenceOk ∧ (torqueWait (run .starting)).SequenceOk ∧
    ∃ t, step { moving .cruising 900000 with pending := [.positionSample 10] } = .next t := by
  refine ⟨?_, ?_, ?_, _, rfl⟩ <;> (unfold State.SequenceOk; decide)

/-- The drive reports its torque while the start waits for it. -/
theorem witness_BrakesReleaseBehindLockedDoors :
    (torqueWait (run .starting)).SequenceOk ∧ (torqueWait (run .starting)).brk.sbr = false ∧
    ∃ t, exec (.driveStatusFrame 0 (frame 0x5A#8 [0x32#8, 3#8])) (torqueWait (run .starting)) = .next t ∧
      t.brk.sbr = true := by
  refine ⟨?_, rfl, _, rfl, by decide +kernel⟩
  unfold State.SequenceOk
  decide

/-- The last two doors of car A released at the lower terminal. -/
def doorsOpen : State :=
  { ready with
    doors :=
      { ready.doors with
        recs := ⟨⟨ready.doors.recs.a.q1, ready.doors.recs.a.q2, ⟨.released, true, false, 0, none, none, false⟩,
          ⟨.opened, true, false, 0, none, none, false⟩⟩, ready.doors.recs.b⟩
        side := ⟨some .right, none⟩ } }

theorem witness_NoDoorReleasedInMotion :
    doorsOpen.DoorsOk ∧ (doorsOpen.doors.door ⟨.A, .i3⟩).release = true ∧
    ∃ t, step { doorsOpen with pending := [.encoderFault 0] } = .next t := by
  refine ⟨fun _ _ => ⟨rfl, rfl, rfl⟩, rfl, _, rfl⟩

theorem witness_SeverityMemoryCoversConditions :
    State.reset.SeverityOk ∧ State.reset.line.conds.level = .degraded ∧
    ∃ t, step { State.reset with pending := [.encoderFault 0] } = .next t :=
  ⟨rfl, by decide, _, rfl⟩

/-- A device whose notice queue is full. -/
def brimming : State := { ready with notices := fullQueue 0 }

theorem witness_ListsKeepTheirRoom :
    brimming.QueuesOk ∧ brimming.notices.entries.length = 32 ∧ brimming.CountsOk ∧ brimming.TicketsOk ∧
    brimming.ExpectationsOk ∧ State.reset.ExpectationsOk ∧ State.reset.trk.conf = .unknown ∧
    ∃ t, step { brimming with pending := [.keyChange 0 true] } = .next t := by
  refine ⟨⟨by decide, fun k => by cases k <;> decide⟩, by decide,
    ⟨by decide, by decide, by decide, fun c => by cases c <;> decide⟩, ⟨by decide, by decide⟩, fun _ => ⟨rfl, rfl⟩,
    fun _ => ⟨rfl, rfl⟩, rfl, _, rfl⟩

/-- The doors of both cars named at both terminals; a door that may open and one beyond the platform. -/
theorem witness_ReleaseDoorsGrantsDoors :
    (∀ a b, Taken (asks (.releaseDoors a b) ready) head (.releaseDoors a b)) ∧ ready.line.mode ≠ .unconfigured ∧
    (∀ a b, Taken (asks (.releaseDoors a b) State.reset) head (.releaseDoors a b)) ∧
    State.reset.line.mode = .unconfigured ∧
    ready.mayRelease ⟨.A, .i3⟩ ∧ (ready.geo.zone (ready.doorPos ⟨.A, .i3⟩)).side = some .right ∧
    ¬ready.mayRelease ⟨.A, .i1⟩ := by
  refine ⟨fun _ _ => taken _ _ rfl, by decide, fun _ _ => taken _ _ rfl, rfl, ?_, by decide +kernel, ?_⟩ <;>
    (unfold State.mayRelease; decide +kernel)

/-- The key on, and door 3 of car A isolated or not. -/
def keyed (isolated : Bool) : State :=
  { ready with
    line := { ready.line with key := true }
    doors := ready.doors.put ⟨.A, .i3⟩ { ready.doors.door ⟨.A, .i3⟩ with isolated := isolated } }

theorem witness_DoorsLockAndIsolate :
    (∀ n, Taken (asks (.lockDoors n) doorsOpen) head (.lockDoors n)) ∧
    (∀ n, Taken (asks (.isolateDoor n) ready) head (.isolateDoor n)) ∧
    (∀ n, Taken (asks (.restoreDoor n) ready) head (.restoreDoor n)) ∧
    Door.ofCode? 7 = some ⟨.B, .i4⟩ ∧ Door.ofCode? 8 = none ∧ ready.line.key = false ∧
    (∀ b n, Taken (asks (.isolateDoor n) (keyed b)) head (.isolateDoor n) ∧
      Taken (asks (.restoreDoor n) (keyed b)) head (.restoreDoor n)) ∧
    (keyed true).line.key = true ∧ (keyed true).trk.still = true ∧
    ((keyed true).doors.door ⟨.A, .i3⟩).isolated = true ∧ ((keyed false).doors.door ⟨.A, .i3⟩).isolated = false ∧
    (moving .cruising 900000).trk.still = false :=
  ⟨fun _ => taken _ _ rfl, fun _ => taken _ _ rfl, fun _ => taken _ _ rfl, rfl, rfl, rfl,
    fun _ _ => ⟨taken _ _ rfl, taken _ _ rfl⟩, rfl, rfl, rfl, rfl, rfl⟩

/-- A door with a timer started at 0. -/
def timing (d : DoorState) (close reopen : Option Time) : State :=
  { ready with doors := ready.doors.put ⟨.A, .i3⟩ ⟨d, false, false, 0, close, reopen, false⟩ }

/-- The reopen timer at 3,000 ms, the close timer at 12,000, the passage at its 2,000; and one millisecond before each. -/
theorem witness_DoorAndGateTimersExpire :
    ((timing .obstructed none (some 0)).doors.door ⟨.A, .i3⟩).reopen = some 0 ∧
    3000 ≤ elapsed 0 ((timing .obstructed none (some 0)).now + 3000) ∧
    ¬3000 ≤ elapsed 0 ((timing .obstructed none (some 0)).now + 2999) ∧
    ((timing .locked (some 0) none).doors.door ⟨.A, .i3⟩).close = some 0 ∧
    12000 ≤ elapsed 0 ((timing .locked (some 0) none).now + 12000) ∧
    ¬12000 ≤ elapsed 0 ((timing .locked (some 0) none).now + 11999) ∧
    ((timing .released (some 0) none).doors.door ⟨.A, .i3⟩).reported ≠ .locked ∧
    (gated .passing (some admission)).gates.find? 1 = some (gate1 .passing (some admission)) ∧
    admission.span ≤ elapsed admission.granted ((gated .passing (some admission)).now + 2000) ∧
    elapsed admission.granted ((gated .passing (some admission)).now + 1999) < admission.span := by
  decide

theorem witness_GateSettingsTakeEffect :
    (Taken (asks .releaseGateBus State.reset) head .releaseGateBus ∧ State.reset.line.mode = .unconfigured) ∧
    (Taken (asks .releaseGateBus (gated .closed none)) head .releaseGateBus ∧
      (gated .closed none).gates.busReleased = true) ∧
    (Taken (asks .releaseGateBus ready) head .releaseGateBus ∧ ready.line.mode ≠ .unconfigured ∧
      ready.gates.busReleased = false ∧ ready.gates.trans = none) ∧
    (∀ a e m k v, Taken (asks (.setGate a e m k v) (gated .closed none)) head (.setGate a e m k v)) ∧
    (gated .closed none).gates.find? 2 = none ∧ (gated .closed none).gates.find? 1 = some (gate1 .closed none) ∧
    (gated .closed none).gates.trans.isSome = true ∧
    (∀ es, Taken (asks (.loadClasses es) ready) head (.loadClasses es)) ∧
    (⟨1, 2, 400, 1⟩ : ClassBytes).mass ≤ 400 ∧ ¬(⟨1, 3, 0, 0⟩ : ClassBytes).persons ≤ 2 ∧
    (∀ n, Taken (asks (.setPassback n) ready) head (.setPassback n)) :=
  ⟨⟨taken _ _ rfl, rfl⟩, ⟨taken _ _ rfl, rfl⟩, ⟨taken _ _ rfl, by decide, rfl, rfl⟩, fun _ _ _ _ _ => taken _ _ rfl,
    by decide, by decide, rfl, fun _ => taken _ _ rfl, by decide, by decide, fun _ => taken _ _ rfl⟩

/-- Car A serves station 1 at 300 mm from its stop, and does not at 301. -/
theorem witness_StationsOpenAndClose :
    (∀ n, Taken (asks (.openStation n) (gated .closed none)) head (.openStation n) ∧
      Taken (asks (.closeStation n) (gated .opened none)) head (.closeStation n)) ∧
    (gated .closed none).line.mode = .automatic ∧ (gated .closed none).geo.station? 3 = none ∧
    (gated .closed none).geo.station? 1 = some ⟨1, 0, true, true⟩ ∧
    State.serving { gated .closed none with trk := { ready.trk with xA := 300 } } ⟨1, 0, true, true⟩ = some .A ∧
    State.serving { gated .closed none with trk := { ready.trk with xA := 301 } } ⟨1, 0, true, true⟩ = none ∧
    (Taken (asks (.openStation 1) staged) head (.openStation 1) ∧ staged.line.mode ≠ .automatic) :=
  ⟨fun _ => ⟨taken _ _ rfl, taken _ _ rfl⟩, rfl, by decide, by decide, by decide +kernel, by decide +kernel,
    taken _ _ rfl, by decide⟩

/-- An answer of gate 1: IDLE, a ticket, PASSED, a fault, an echo; and the 8 ms without one. -/
theorem witness_GateTransactionsEnd :
    (gated .closed none).gates.trans = some ⟨1, none, true, false, false, 0, transactionFrame 1 none⟩ ∧
    (gated .closed none).gates.find? 1 = some (gate1 .closed none) ∧
    readAnswer 1 (gateFrame 1 0x20 []) = some .idle ∧
    readAnswer 1 (gateFrame 1 0x21 [77#8, 0#8, 0#8, 0#8, 0#8, 1#8]) = some (.ticket 77 0 1) ∧
    readAnswer 1 (gateFrame 1 0x22 []) = some .passed ∧ readAnswer 1 (gateFrame 1 0x23 []) = some .turnedBack ∧
    readAnswer 1 (gateFrame 1 0x24 [5#8]) = some (.fault 5) ∧
    readAnswer 1 (gateFrame 1 0x25 [0x12#8, 0#8]) = some (.echo 0x12 0) ∧
    8 ≤ elapsed 0 ((gated .closed none).now + 8) ∧ elapsed 0 ((gated .closed none).now + 7) < 8 ∧
    (gate1 .passing (some admission)).admission = some admission ∧
    { gate1 .closed none with missed := 2 }.missed = 2 ∧ { gate1 .closed none with retries := 2 }.retries = 2 ∧
    State.reset.gates.trans = none ∧ (gate1 .offline none).streak = 0 ∧
    { gate1 .offline none with streak := 1 }.streak = 1 := by
  decide +kernel

/-- Car A waits at station 1 with its gate open, and a ticket is presented. -/
theorem witness_AdmissionsKeepRoomAndMargin :
    (gated .opened none).ReservedOk ∧
    ∃ t, exec (.gateAnswer 1 (gateFrame 1 0x21 [77#8, 0#8, 0#8, 0#8, 0#8, 1#8])) (gated .opened none) = .next t ∧
      (t.gates.find? 1).map (fun g => (g.state, g.admission.map (fun a => a.ticket))) = some (.passing, some 77) := by
  refine ⟨⟨by decide, ?_, by decide, ?_, fun c => by cases c <;> decide⟩, _, rfl, by decide +kernel⟩
  · intro g hg
    simp only [gated, List.mem_singleton] at hg
    subst hg
    decide
  · rintro (h | h) <;> cases h

theorem witness_ReservationsAreHeldAdmissions :
    (gated .passing (some admission)).ReservedOk ∧
    ∃ t, step { gated .passing (some admission) with pending := [.passageTimeout 2000 1] } = .next t := by
  refine ⟨⟨by decide, ?_, by decide, ?_, fun c => by cases c <;> decide⟩, _, rfl⟩
  · intro g hg
    simp only [gated, List.mem_singleton] at hg
    subst hg
    decide
  · rintro (h | h) <;> cases h

theorem witness_CarFramesAreTaken :
    (readCarFrame (carReport 9#8)).map (fun r => (r.echo, r.kg, r.settled, r.track, r.doors.get .i4)) =
      some (9#8, 1300, true, none, .locked) ∧
    9#8 ∈ ((linked .live 0).links.get .A).sent ∧ 8#8 ∉ ((linked .live 0).links.get .A).sent ∧ readCarFrame [] = none ∧
    (linked .live 0).trk.still = true ∧ ((linked .live 0).tally.get .A).frozen = none ∧
    ((linked .live 0).tally.get .A).departure = none ∧ ((linked .live 0).tally.get .A).window.isSome = true ∧
    ((linked .live 0).tally.get .A).released = false ∧ ((linked .live 0).tally.get .A).arrival = none ∧
    (linked .live 0).windowTerminal .A = true := by
  decide +kernel

/-- Silence at 300, 1,000 and 100 ms, and one millisecond before; a drive status with and without fault and torque. -/
theorem witness_SilenceMovesLinksAndDrive :
    (((linked .live 0).links.get .A).took300 = false ∧
      300 ≤ elapsed ((linked .live 0).links.get .A).since ((linked .live 0).now + 300) ∧
      elapsed ((linked .live 0).links.get .A).since ((linked .live 0).now + 299) < 300 ∧
      ((linked .stale 0).links.get .A).state ≠ LinkState.live) ∧
    (((linked .stale 0).links.get .A).took1000 = false ∧ ((linked .stale 0).links.get .A).state = .stale ∧
      1000 ≤ elapsed ((linked .stale 0).links.get .A).since ((linked .stale 0).now + 1000) ∧
      elapsed ((linked .stale 0).links.get .A).since ((linked .stale 0).now + 999) < 1000) ∧
    readDriveFrame [] = none ∧ readDriveFrame (frame 0x5A#8 [0x32#8, 3#8]) = some ⟨true, true, false⟩ ∧
    readDriveFrame (frame 0x5A#8 [0x32#8, 1#8]) = some ⟨true, false, false⟩ ∧
    readDriveFrame (frame 0x5A#8 [0x32#8, 4#8]) = some ⟨false, false, true⟩ ∧
    ((torqueWait (run .starting)).doors.allLocked = true ∧
      (torqueWait (run .starting)).brk.confirmedApplied .service = true ∧
      (torqueWait (run .starting)).brk.confirmedApplied .sheave = true ∧ (torqueWait (run .starting)).brk.ten = true) ∧
    ready.brk.ten = false ∧ { ready.drive with timer := some 0 }.timer = some 0 ∧ 100 ≤ elapsed 0 (ready.now + 100) ∧
    elapsed 0 (ready.now + 99) < 100 := by
  decide +kernel

/-! ### Witnesses of the further clauses -/

/-- The four rows of R2 that refuse a part, for a table of any kind. -/
theorem witness_StagingIsLoadedAndDiscarded_refused {α : Type} (room : Nat) (old : Option (Machine.Part α)) (es : List α)
    (h : 0 < room) :
    (∀ r, Taken (asks r line) head r) ∧ line.LoadRefused room old room 0 es ⟨.mode, []⟩ ∧
    staged.LoadRefused room old (room + 1) 0 es ⟨.range, []⟩ ∧
    staged.LoadRefused room old room 1 ([] : List α) ⟨.state, [.code 15]⟩ ∧
    staged.LoadRefused room old room 0 ([] : List α) ⟨.range, []⟩ := by
  refine ⟨fun _ => taken _ _ rfl, .inl ⟨by unfold State.configurable; decide, rfl⟩,
    .inr (.inl ⟨.inr rfl, Nat.lt_succ_self _, rfl⟩),
    .inr (.inr (.inl ⟨.inr rfl, Nat.le_refl _, by decide, ?_, rfl⟩)),
    .inr (.inr (.inr ⟨.inr rfl, Nat.le_refl _, rfl, .inr ⟨rfl, h⟩, rfl⟩))⟩
  rintro p ⟨-, ⟨h0, -⟩ | ⟨-, q, -, -, -, -, h1, -⟩⟩
  · exact absurd h0 (by decide)
  · exact absurd h1 (Nat.not_succ_le_zero 0)

/-- A commit over a released bus with a record of gate 1 and none of gate 2. -/
theorem witness_CommitReplacesTables_gates :
    let s := asks .commitGeometry
      { gated .closed none with
        line := { line.line with mode := .locked }
        geo := ⟨some tables, { Staging.empty with zones := some ⟨2, tables.zones⟩ }⟩ }
    Taken s head .commitGeometry ∧ s.configurable ∧ s.plan.run = none ∧ s.trk.still = true ∧ s.gates.shut = true ∧
      validate s.geo = .ok tables ∧ s.gates.busReleased = true ∧ s.gates.find? 1 = some (gate1 .closed none) ∧
      s.gates.find? 2 = none :=
  ⟨taken _ _ rfl, .inr rfl, rfl, rfl, rfl, by rfl, rfl, by decide, by decide⟩

/-- Car A going up, `d` mm beyond its expected marker, with `n` misses before. -/
def missing (d : Int) (n : Nat) : State :=
  { moving .cruising 900000 with
    trk := { (moving .cruising 900000).trk with
      lastDir := some .up, expected := ⟨some ⟨1, 900000 - d, true⟩, none⟩, misses := ⟨n, 0⟩ } }

/-- A direction that changes; 1,999 and 2,000 mm beyond the expected marker, for the first, second and third miss. -/
theorem witness_PositionSampleMeasures :
    (moving .cruising 900000).trk.conf = .confirmed ∧
    (after (.positionSample 10) (fast 900000 500)).trk.lastDir ≠ (fast 900000 500).trk.lastDir ∧
    (∀ n ∈ [0, 1, 2], (after (.positionSample 10) (missing 2000 n)).trk.lastDir = (missing 2000 n).trk.lastDir ∧
      2000 ≤ (after (.positionSample 10) (missing 2000 n)).trk.pos .A - (900000 - 2000) ∧
      (missing 2000 n).trk.expected.get Car.A.other = none ∧ (missing 2000 n).trk.misses.get .A = n) ∧
    ¬2000 ≤ (after (.positionSample 10) (missing 1999 0)).trk.pos .A - (900000 - 1999) := by
  decide +kernel

/-- An id that no marker has, and a stretch of 1,001 mm found in motion. -/
theorem witness_MarkerReportsCorrectPosition_lost :
    (nearMarker 0).geo.marker? 9 = none ∧
    (let s := { nearMarkerB 1001 with trk := { (nearMarkerB 1001).trk with still := false } }
     s.usesMarker .B ⟨1, 5000, 0⟩ ∧ s.carsMoving = true ∧
      s.geo.stretchBound < (5000 + s.reportedAt .A - 1800000).natAbs ∧
      (after (.markerReport 0 .B 1) s).trk.stretch = true) := by
  unfold State.usesMarker
  decide +kernel

/-- A run in a state at 900,000 mm and 10,600 mm/s, above 105 percent of the cap there. -/
def hurrying (st : RunState) : State :=
  { fast 900000 10600 with plan := { ready.plan with run := some (run st) } }

/-- A line at rest but for a movement of `v` mm/s, with the counts of uncommanded motion given. -/
def creeping (n : Nat) (v : Int) : State :=
  { ready with
    trk := { ready.trk with
      xBase := 900000, xA := 900000, still := false, stillCount := 0, window := List.replicate 10 (900000 - v / 10) }
    sup := { ready.sup with band := { ready.sup.band with umArmed := decide (0 < n), umCount := n } } }

/-- Such a line with an escalation watch of 1,000 mm/s started at 0. -/
def slowing (v : Int) : State :=
  { creeping 0 v with brk := { ready.brk with watch := some ⟨0, 1000, 1000⟩ } }

/-- The SERVICE latch set in each state that is evaluated; the 20th and the 21st sample of motion; the watch at 999 and
1,000 ms, with a loss of 500 and of 400 mm/s. -/
theorem witness_SampleTripsOnOverrun_bands :
    (∀ st ∈ [RunState.cruising, .starting, .holding], (hurrying st).sup.band.latch = none ∧
      (after (.positionSample 10) (hurrying st)).sup.band.latch = some .ceiling ∧
      (after (.positionSample 10) (hurrying st)).plan.run.map (fun r => r.state.evaluated) = some true) ∧
    (∀ n ∈ [19, 20], (creeping n 20).plan.run = none ∧ (creeping n 20).brk.sbr = false ∧ (creeping n 20).brk.ebr = false ∧
      (creeping n 20).sup.trip = none ∧ (creeping n 20).trk.still = false ∧ (creeping n 20).sup.band.umArmed = true ∧
      20 ≤ (after (.positionSample 10) (creeping n 20)).trk.v.natAbs ∧
      (after (.positionSample 10) (creeping n 20)).trk.conf = (creeping n 20).trk.conf) ∧
    (∀ v ∈ [(500 : Int), 600], (slowing v).brk.watch = some ⟨0, 1000, 1000⟩ ∧ (slowing v).plan.run = none ∧
      (slowing v).sup.band.umArmed = false ∧ (after (.positionSample 1000) (slowing v)).trk.still = false ∧
      (after (.positionSample 1000) (slowing v)).trk.v = v ∧
      (after (.positionSample 1000) (slowing v)).trk.conf = (slowing v).trk.conf) ∧
    elapsed 0 (ready.now + 999) < 1000 ∧ 1000 ≤ elapsed 0 (ready.now + 1000) := by
  decide +kernel

/-- A run at 7,000 mm/s, whose service stopping distance is 35,000 mm, with a stop point. -/
def bound (p : StopPoint) : State :=
  { moving .cruising 900000 with
    trk := { (moving .cruising 900000).trk with v := 7000 }
    plan := { ready.plan with run := some { run .cruising with stop := p } } }

/-- A HOLD watch of car A at `x`. -/
def holdAt (x : Int) : Watch := ⟨true, .A, x, .either, true, true⟩

/-- The refusals; a watch set or cleared in STARTING, under ASAP, at the edge of the stopping distance, and as the stop point;
a NOTIFY watch crossed. -/
theorem witness_AnnounceAndWatchRecords_moving :
    (∀ n w, Taken (asks (.setWatch n w) State.reset) head (.setWatch n w)) ∧ State.reset.line.mode = .unconfigured ∧
    line.geo.length < (⟨0, 1800001, 2, 1, 1⟩ : WatchBytes).pos ∧
    (∀ st n w, Taken (asks (.setWatch n w) (under st ready)) head (.setWatch n w) ∧
      Taken (asks (.clearWatch n) (under st ready)) head (.clearWatch n) ∧
      (under st ready).plan.run = some (run st)) ∧
    ((holdAt 935000).enabled = true ∧ (holdAt 935000).hold = true) ∧
    (∀ p n w, Taken (asks (.setWatch n w) (bound p)) head (.setWatch n w) ∧
      (bound p).plan.run = some { run .cruising with stop := p } ∧ (bound p).StopsIn 700 35000) ∧
    (StopPoint.asap 0 0).isAsap = true ∧ (StopPoint.watch .i1 950000).isAsap = false ∧
    (run .cruising).dyn = some ⟨1000, 600, 700, 400, 1802000⟩ ∧
    (∀ x ∈ [(935000 : Int), 935001, 1798999], (bound .target).WatchAt (run .cruising) (holdAt x) x) ∧
    ¬(bound .target).WatchAt (run .cruising) (holdAt 1799000) 1799000 ∧
    (let s := { nearMarker 0 with plan := { ready.plan with
        prev := some (4999, 1795001), watches := ready.plan.watches.set .i2 ⟨true, .A, 5000, .up, false, false⟩ } }
     s.runInMotion = false ∧ (after (.positionSample 10) s).trk.pos .A = 5000 ∧ ready.plan.prev = none) := by
  refine ⟨fun _ _ => taken _ _ rfl, rfl, by decide, fun _ _ _ => ⟨taken _ _ rfl, taken _ _ rfl, rfl⟩, ⟨rfl, rfl⟩,
    fun p _ _ => ⟨taken _ _ rfl, rfl, ?_⟩, rfl, rfl, rfl, ?_, ?_, by decide +kernel⟩
  · exact ⟨by decide, by show 7000 * 7000 ≤ _; decide, .inr (by show _ < 7000 * 7000; decide)⟩
  all_goals (unfold State.WatchAt; decide +kernel)

/-- A run HOLDING, asked to resume. -/
def asksResume (s : State) : State := asks .resumeRun (under .holding s)

/-- Tables whose a_min no car meets. -/
def strict : Tables := { tables with braking := { tables.braking with aMin := 2501 } }

/-- Each refusal of R86, the target at 300 mm, v_E below 300 under the latch, and too little deceleration. -/
theorem witness_ResumeRunStartsAgain_refused :
    (∀ s, s.line.restartPending = false → Taken (asksResume s) head .resumeRun ∧
      (asksResume s).plan.run = some (run .holding)) ∧
    (Taken (asks .resumeRun line) head .resumeRun ∧ line.plan.run = none) ∧
    { ready.trk with conf := .lost }.conf = .lost ∧ loopOpen.line.loops ≠ Quad.const true ∧
    (tracking .apply).brk.trackClear = false ∧ doorsOpen.doors.allLocked = false ∧
    (linked .stale 0).linksLive = false ∧ { ready.drive with silent := true }.ok = false ∧
    ready.linksLive = true ∧ ready.drive.ok = true ∧ ((1799700 : Int) - 1800000).natAbs ≤ 300 ∧
    (let s := asksResume { ready with
        trk := { ready.trk with xA := 1801990 }, sup := { ready.sup with band := { ready.sup.band with latch := some .curve } } }
     s.sup.band.latch.isSome = true ∧ (s.resumeEnvelope tables (run .holding)).vE s.trk.xA < 300) ∧
    ((asksResume ready).resumeEnvelope strict (run .holding)).aGuar < strict.braking.aMin := by
  refine ⟨fun _ h => ⟨taken _ _ h, rfl⟩, ⟨taken _ _ rfl, rfl⟩, ?_⟩
  decide +kernel

/-- The start conditions met, not met, and met with too little deceleration; the pending run naming the target. -/
theorem witness_DepartureNeedsBrakeMargin_wait :
    (∀ s ∈ [under .planned ready, under .planned doorsOpen, under .planned { ready with geo := ⟨some strict, Staging.empty⟩ }],
      s.plan.run = some (run .planned) ∧ s.brk.watch = none ∧ s.geo.committed.isSome = true ∧
      (after (.positionSample 10) s).trk.still = true ∧ (after (.positionSample 10) s).trk.conf ≠ .lost) ∧
    ready.doors.allLocked = true ∧ (∀ c : Car, (ready.tally.get c).departure.isSome = true) ∧ ready.gates.gates = [] ∧
    ready.drive.ok = true ∧ ready.linksLive = true ∧ ready.brk.trackClear = true ∧ doorsOpen.doors.allLocked = false ∧
    tables.braking.aMin ≤ (span tables 0 1800000 .up (runMasses tables ready.tally .up)).aGuar ∧
    (span strict 0 1800000 .up (runMasses strict ready.tally .up)).aGuar < strict.braking.aMin := by
  refine ⟨by decide +kernel, by decide +kernel, fun c => by cases c <;> rfl, rfl, rfl, rfl, rfl, ?_⟩
  decide +kernel

/-- A sheave brake that applies, in a state of the sequence, with the watch given. -/
def sheaveApplying (q : SeqState) (w : Option EscWatch) : State :=
  { ready with brk := { ready.brk with seq := q, sheave := ⟨.applying, some 0⟩, ebApplied := false, watch := w } }

/-- ABORT_WAIT, the escalation watch, and a timer that is not due. -/
theorem witness_BrakeTimersFailBrakes_apply :
    (∀ q w, ((sheaveApplying q w).brk.record .sheave) = ⟨.applying, some 0⟩ ∧ (sheaveApplying q w).brk.seq = q ∧
      (sheaveApplying q w).brk.ebr = false ∧ (sheaveApplying q w).brk.failed = false) ∧
    (sheaveApplying .abortWait none).brk.watch = none ∧
    (sheaveApplying .rest (some ⟨0, 1000, 1000⟩)).brk.watch.isSome = true ∧
    (sheaveApplying .rest (some ⟨0, 1000, 1000⟩)).brk.sheave.state ≠ .failed ∧
    ready.brk.service.state ≠ .applying ∧ ready.brk.service.state ≠ .releasing ∧
    elapsed 0 (ready.now + 1499) < 1500 ∧ (ready.brk.track.get .A).timer = none :=
  ⟨fun _ _ => ⟨rfl, rfl, rfl, rfl⟩, rfl, rfl, by decide, by decide, by decide, by decide, rfl⟩

/-- No torque timer, and one that runs in another state of the sequence. -/
theorem witness_TorqueTimeoutFailsStart_idle :
    ready.brk.torque = none ∧ releasing.brk.seq ≠ .torqueWait := by
  decide

/-- Last evaluated values without and with an envelope; a watch that runs; a slack sheave brake and a stretched rope. -/
theorem witness_EstopLoopsTripOrClose_watch :
    (let s := after (.positionSample 10) (fast 900000 500)
     s.sup.band.last.isSome = true ∧ s.sup.env = some envelope ∧ s.carsMoving = true ∧ s.line.loops.get .i4 = true ∧
      s.brk.watch = none ∧ s.sup.trip = none ∧ s.brk.ebr = true ∧ s.trk.stretch = false) ∧
    (let s := after (.positionSample 10) (creeping 0 500)
     s.sup.band.last.isSome = true ∧ s.sup.env = none ∧ s.carsMoving = true ∧ s.geo.committed = some tables) ∧
    ((slowing 500).brk.watch = some ⟨0, 1000, 1000⟩ ∧ (slowing 500).carsMoving = true) ∧
    ({ ready.brk with sheave := ⟨.failed, none⟩ }.ebr = false) ∧ { ready.trk with stretch := true }.stretch = true := by
  decide +kernel

/-- Doors that are all locked as a reopen timer runs out, and one that is not; no gate at address 7. -/
theorem witness_DoorAndGateTimersExpire_locked :
    (after (.reopenTimerExpiry 3000 ⟨.A, .i3⟩) (timing .locked none (some 0))).doors.carLocked .A = true ∧
    (after (.reopenTimerExpiry 3000 ⟨.A, .i3⟩) (timing .obstructed none (some 0))).doors.carLocked .A = false ∧
    ready.gates.find? 7 = none ∧ (gate1 .closed none).admission = none := by
  decide +kernel

/-- A gate in a state, in a transaction that carries a command, under verify or not, final or not. -/
def commanded (g : Gate) (c : Option GateCmd) (verify final : Bool) : State :=
  { gated .closed none with
    gates := { (gated .closed none).gates with
      gates := [g], trans := some ⟨1, c, verify, final, false, 0, transactionFrame 1 c⟩ } }

/-- A command with its echo, a mismatch and silence; a final SHUT; a ticket granted, and refused for its class, for its second
showing and where no car serves; an outcome of a gate that holds no admission. -/
theorem witness_GateTransactionsEnd_commands :
    (∀ g c v f, g.address = 1 →
      (commanded g c v f).gates.trans = some ⟨1, c, v, f, false, 0, transactionFrame 1 c⟩ ∧
      (commanded g c v f).gates.find? 1 = some g) ∧
    GateCmd.shut.kind = 0x12 ∧ readAnswer 1 (gateFrame 1 0x25 [0x12#8, 0#8]) = some (.echo GateCmd.shut.kind GateCmd.shut.arg) ∧
    readAnswer 1 [] = none ∧ readAnswer 1 (gateFrame 1 0x20 []) ≠ some (.echo GateCmd.shut.kind GateCmd.shut.arg) ∧
    { gate1 .closed none with retries := 1 }.retries < 2 ∧ (gate1 .disabled none).state = .disabled ∧
    (let s := gated .opened none
     s.gates.openFor 1 = some .A ∧ s.gates.classes[0]? = some ⟨true, 1, 80, false⟩ ∧
      s.gates.classes[1]? = some ⟨false, 0, 0, false⟩ ∧ s.gates.recent = [] ∧
      (s.admissionCheck .A 1 80).1 = .grant) ∧
    (commanded (gate1 .opened none) none true false).gates.openFor 2 = none ∧
    (gate1 .closed none).admission = none := by
  refine ⟨fun g c v f h => ⟨rfl, ?_⟩, ?_⟩
  · simp [commanded, Gates.find?, h]
  · decide +kernel

/-- A frame of car A: its door states, with its track brake applied (1), released (2) or unreported (0). -/
def doorFrame (d1 d2 d3 d4 track : Byte) : List Byte :=
  frame 0x5A#8 [0x02#8, 9#8, d1, d2, d3, d4, 0x14#8, 0x05#8, 1#8, track, 0#8, 0#8]

/-- Car A in motion or at rest behind locked doors, its link LIVE; a door with its close timer running. -/
def closing (still : Bool) (attempts : Nat) : State :=
  { linked .live 0 with
    trk := { ready.trk with still := still, stillSeen := true }
    doors := ⟨ready.doors.recs.set .A (ready.doors.recs.a.set .i3 ⟨.released, false, false, attempts, some 0, none, false⟩),
      ⟨some .right, none⟩⟩ }

/-- A frame with and without a track brake report; doors that become LOCKED, OBSTRUCTED, OPEN and RELEASED, at rest and in
motion. -/
theorem witness_CarFramesAreTaken_doors :
    (∀ b ∈ [(0#8, (none : Option Bool)), (1#8, some true), (2#8, some false)],
      (readCarFrame (doorFrame 1#8 1#8 4#8 1#8 b.1)).map (fun r => (r.echo, r.track, r.doors)) =
        some (9#8, b.2, ⟨.locked, .locked, .obstructed, .locked⟩)) ∧
    (readCarFrame (doorFrame 1#8 1#8 1#8 1#8 0#8)).map (fun r => r.doors) = some (Quad.const .locked) ∧
    (readCarFrame (doorFrame 3#8 2#8 1#8 1#8 0#8)).map (fun r => r.doors) = some ⟨.opened, .released, .locked, .locked⟩ ∧
    (∀ still n, ((closing still n).links.get .A).sent = [9#8] ∧
      (closing still n).doors.door ⟨.A, .i3⟩ = ⟨.released, false, false, n, some 0, none, false⟩ ∧
      (closing still n).trk.still = still ∧ (closing still n).trk.stillSeen = true ∧ (closing still n).brk.ten = false ∧
      (closing still n).plan.run = none ∧ ((closing still n).doors.side.get .A).isSome = true ∧
      ((closing still n).brk.track.get .A).cmd = .hold) ∧
    (closing true 0).carsMovingSeen = false ∧ (closing false 0).carsMovingSeen = true ∧
    (after (.carFrameReceived 0 .A (doorFrame 1#8 1#8 1#8 1#8 2#8)) (closing true 0)).doors.carLocked .A = true ∧
    (run .cruising).state.moving = true ∧ (run .cruising).stop.isAsap = false := by
  refine ⟨by decide +kernel, by decide +kernel, by decide +kernel, fun _ _ => ⟨rfl, rfl, rfl, rfl, rfl, rfl, rfl, rfl⟩, ?_⟩
  decide +kernel

/-- A disabled class, and one with room: 31 entries. -/
theorem witness_FullNoticeQueueDisplaces_room :
    (let q := { fullQueue 0 with settings := { Settings.default with mode := ⟨false, 8, true, true⟩ } }
     (q.settings.get .mode).enabled = false) ∧
    { fullQueue 0 with entries := (fullQueue 0).entries.tail }.entries.length < 32 ∧
    (((fullQueue 0).settings.get .mode).enabled = true) := by
  decide

/-- A key-level request, one that port S may send, one that it may not, and the threshold of its own port. -/
theorem witness_ControlFrameArrival_authority :
    Request.kind (.setReference 0) ∈ [0x10, 0x1B, 0x1F, 0x20] ∧ Request.kind .restart ∉ [0x10, 0x1B, 0x1F, 0x20] ∧
    Request.kind .readStatus ∈ [0x0B, 0x0F, 0x11, 0x19, 0x1C, 0x21, 0x28, 0x29, 0x14, 0x1D, 0x1E, 0x24, 0x25] ∧
    Request.kind .restart ∉ [0x0B, 0x0F, 0x11, 0x19, 0x1C, 0x21, 0x28, 0x29, 0x14, 0x1D, 0x1E, 0x24, 0x25] ∧
    Request.kind (.setThreshold 1 0) ∉ [0x10, 0x1B, 0x1F, 0x20] := by
  decide

/-- SET_MODE in UNCONFIGURED, with mode 4, and with a run; RESTART with a run, and in motion. -/
theorem witness_LineRequestsTakeEffect_refused :
    (∀ r s, s.line.restartPending = false → Taken (asks r s) head r) ∧ State.reset.line.mode = .unconfigured ∧
    line.line.mode ≠ .unconfigured ∧ (under .planned line).plan.run.isSome = true ∧ line.plan.run = none ∧
    (creeping 0 500).trk.still = false ∧ (creeping 0 500).plan.run = none :=
  ⟨fun _ _ h => taken _ _ h, rfl, by decide, rfl, rfl, rfl, rfl⟩

/-- The refusals of COMMIT_GEOMETRY, up to a candidate whose required tables are missing, and one that is PARTIAL. -/
theorem witness_CommitReplacesTables_refused :
    (∀ r s, s.line.restartPending = false → Taken (asks r s) head r) ∧ ¬line.configurable ∧ staged.configurable ∧
    (staged.line.mode = .locked ∧ (under .planned staged).plan.run.isSome = true) ∧
    (staged.plan.run = none ∧ { staged.trk with still := false }.still = false ∧ staged.trk.still = true) ∧
    (∃ g ∈ (gated .passing (some admission)).gates.gates, g.state = .opened ∨ g.state = .passing) ∧
    validate State.reset.geo = .error ⟨0, none, .missing⟩ ∧ State.reset.geo.Missing 0 ∧
    validate staged.geo = .error ⟨0, none, .incomplete⟩ ∧ staged.geo.Partial 0 ∧ staged.gates.shut = true :=
  ⟨fun _ _ h => taken _ _ h, by unfold State.configurable; decide, .inr rfl, ⟨rfl, rfl⟩, ⟨rfl, rfl, rfl⟩,
    ⟨_, List.mem_singleton.mpr rfl, .inr rfl⟩, by rfl, ⟨rfl, rfl, by decide, by decide, by decide⟩, by rfl,
    ⟨_, _, rfl, by decide⟩, rfl⟩

/-- Car A at rest 300 mm above the stop of station 1, at 301 mm, and in a window that is open. -/
theorem witness_PositionSampleMeasures_window :
    (let s := { ready with trk := { ready.trk with xBase := 300, xA := 300, window := List.replicate 10 300 } }
     let t := after (.positionSample 10) s
     s.plan.run = none ∧ (s.tally.get .A).window = none ∧ t.trk.still = true ∧ s.geo.committed = some tables ∧
      (t.trk.pos .A - 0).natAbs ≤ 300) ∧
    (let s := { ready with trk := { ready.trk with xBase := 301, xA := 301, window := List.replicate 10 301 } }
     let t := after (.positionSample 10) s
     t.trk.still = true ∧ ∀ st ∈ s.geo.stations, ¬(t.trk.pos .A - st.stopPos).natAbs ≤ 300) ∧
    ((linked .live 0).plan.run = none ∧ ((linked .live 0).tally.get .A).window.isSome = true) ∧
    ((creeping 0 500).plan.run = none ∧ (after (.positionSample 10) (creeping 0 500)).trk.still = false) := by
  decide +kernel

/-- Below the second segment, at its start, and below the first. -/
theorem witness_WorstForceBoundsSpan_sine :
    ([⟨0, 3500⟩] ++ ⟨600000, 4800⟩ :: [⟨1200000, 3900⟩] : List Segment).Pairwise (fun a b => a.start < b.start) ∧
    (∀ x ∈ [(600000 : Int), 1199999], ((⟨600000, 4800⟩ : Segment).start ≤ x ∧
      ∀ k ∈ ([⟨1200000, 3900⟩] : List Segment), x < k.start)) ∧
    (∀ k ∈ ([⟨600000, 4800⟩, ⟨1200000, 3900⟩] : List Segment), (-1 : Int) < k.start) := by
  decide

/-- The ceiling of 10,000 mm/s: 11,300 is more than 12 percent above it. -/
theorem witness_SampleTripsOnOverrun_cause :
    (let s := fast 900000 11300
     let t := after (.positionSample 10) s
     s.plan.run = some (run .cruising) ∧ s.sup.env = some envelope ∧ s.sup.trip = none ∧ s.trk.still = false ∧
      t.trk.conf = s.trk.conf ∧ t.trk.v = 11300 ∧
      112 * min (run .cruising).cruise (min (s.geo.zone t.trk.xA).cap (s.geo.zone t.trk.xB).cap) < 100 * t.trk.v.natAbs ∧
      ¬envelope.vE t.trk.xA < t.trk.v.natAbs) ∧
    (fast 900000 11300).ExpectationsOk ∧ (∀ n, (creeping n 20).ExpectationsOk) ∧ (∀ v, (slowing v).ExpectationsOk) :=
  ⟨by decide +kernel, fun _ => ⟨rfl, rfl⟩, fun _ _ => ⟨rfl, rfl⟩, fun _ _ => ⟨rfl, rfl⟩⟩

/-- Each refusal of R67 in its order, the earlier tests passed. -/
theorem witness_StartRunPlansRun_refused :
    (∀ r s, s.line.restartPending = false → Taken (asks r s) head r) ∧
    (State.reset.line.mode = .unconfigured ∧ ready.line.mode = .automatic) ∧
    (under .planned ready).plan.run.isSome = true ∧ ready.plan.run = none ∧ ready.geo.halt? 2 = none ∧
    (ready.geo.halt? 1).map (fun x => x.pA) = some 1800000 ∧
    ¬300 < ({ ready.trk with xA := 1799700 }.xA - 1800000).natAbs ∧ 300 < (ready.trk.xA - 1800000).natAbs ∧
    { ready.trk with conf := .lost }.conf = .lost ∧ ready.trk.conf ≠ .unknown ∧ ready.trk.conf ≠ .lost ∧
    (tripped ready).sup.trip.isSome = true ∧ ready.sup.trip = none ∧ loopOpen.line.loops ≠ Quad.const true ∧
    ready.line.loops = Quad.const true ∧ (tracking .apply).brk.trackClear = false ∧ ready.brk.trackClear = true ∧
    (span strict 0 1800000 .up (runMasses strict ready.tally .up)).aGuar < strict.braking.aMin :=
  ⟨fun _ _ h => taken _ _ h, by decide, rfl, rfl, by decide, by decide, by decide, by decide, rfl, by decide, by decide, rfl,
    rfl, by decide, rfl, rfl, rfl, by decide +kernel⟩

/-- A run BRAKING at rest on its target, that finds its reference 0. -/
def resting (q : SeqState) : State :=
  { moving .braking 1800000 with
    brk := { (moving .braking 1800000).brk with
      seq := q, sbr := q == .moving, ebr := q == .moving, sbApplied := false, ebApplied := false }
    trk := { (moving .braking 1800000).trk with still := true, stillCount := 51, window := List.replicate 10 1800000 } }

/-- A run on its way, a run that rests on its target, and one whose stop sequence runs. -/
theorem witness_SpeedReferenceIsBounded_terms :
    (let s := moving .accelerating 900000
     let t := after (.positionSample 2000) s
     s.geo.committed = some tables ∧ s.plan.run = some (run .accelerating) ∧
      (run .accelerating).dyn = some ⟨1000, 600, 700, 400, 1802000⟩ ∧ s.brk.seq = .moving ∧ s.brk.watch = none ∧
      t.plan.run.map (fun r => (r.state, r.stop)) = some (.accelerating, .target)) ∧
    (let s := resting .moving
     let t := after (.positionSample 10) s
     s.plan.run = some (run .braking) ∧ s.brk.seq = .moving ∧ s.brk.watch = none ∧ s.brk.sbr = true ∧ s.brk.ebr = true ∧
      t.plan.run.map (fun r => (r.state, r.stop)) = some (.braking, .target) ∧ t.trk.still = true ∧ t.plan.ref = 0) ∧
    (let s := resting .stopWait
     let t := after (.positionSample 10) s
     s.brk.seq ≠ .moving ∧ t.plan.run.map (fun r => r.state) = some .braking) := by
  decide +kernel

/-- The arrival at the upper halt: car B stands at station 1, which releases by itself, with two doors before the platform. -/
theorem witness_ContactChangesMoveSequences_arrival :
    let s := { stopping (run .braking) with
      trk := { ready.trk with xA := 1800000, xB := 0 }, line := { ready.line with atStop := some 1 } }
    (s.geo.halt? (run .braking).target).map (fun x => (x.stationA.autoRelease, x.stationB.autoRelease)) = some (false, true) ∧
    s.trk.still = true ∧ (s.links.get .B).state = .live ∧ s.line.atStop.isSome = true ∧ s.doors.side.get .B = none ∧
    (s.doors.door ⟨.B, .i3⟩).release = false ∧ (s.doors.door ⟨.B, .i3⟩).isolated = false ∧
    (s.geo.zone (s.doorPos ⟨.B, .i3⟩)).release = true ∧ (s.geo.zone (s.doorPos ⟨.B, .i3⟩)).side.isSome = true ∧
    (s.geo.zone (s.doorPos ⟨.B, .i1⟩)).release = false ∧ (s.geo.zone (s.doorPos ⟨.B, .i2⟩)).release = false ∧
    ({ s.doors with side := ⟨none, some .right⟩ } : Doors).side.get .B = some .right := by
  decide +kernel

/-- The key on with the cars in motion, a trip, and a link that is not LIVE. -/
theorem witness_TripsAreCleared_refused :
    (∀ r s, s.line.restartPending = false → Taken (asks r s) head r) ∧ (keyed false).line.key = true ∧
    { (keyed false).trk with still := false }.still = false ∧ (keyed false).trk.still = true ∧
    (tripped (keyed false)).sup.trip.isSome = true ∧ (keyed false).sup.trip = none ∧
    ((tracking .apply).brk.track.get .A).cmd = .apply ∧ ((linked .stale 0).links.get .A).state ≠ .live :=
  ⟨fun _ _ h => taken _ _ h, rfl, rfl, rfl, rfl, rfl, rfl, by decide⟩

/-- A departure weigh that an admission leaves above the expected load, and one short of the admitted mass. -/
theorem witness_DoorAndGateTimersExpire_weigh :
    (let l := { (gated .passing (some admission)).tally.a with departure := some 2000 }
     l.carryMass + (l.admMass + admission.mass) + (l.resMass - admission.mass) + tables.braking.tolerance < 2000) ∧
    (let l := { (gated .passing (some admission)).tally.a with departure := some 0, admMass := 2000 }
     0 + tables.braking.tolerance < l.admMass + admission.mass) := by
  decide

/-- A released bus with no transaction in progress, its gates and its round of inserted transactions given. -/
def waiting (gs : List Gate) (round : List Nat) : State :=
  { gated .closed none with
    gates := { (gated .closed none).gates with gates := gs, trans := none, round := round, lastMain := some 1 } }

/-- The next gate of the main order beyond the last, wrapping and not; a gate of the round; and no gate at all. -/
theorem witness_GateSettingsTakeEffect_next :
    (∀ gs r, (waiting gs r).gates.trans = none ∧ (waiting gs r).gates.busReleased = true) ∧
    (let gate2 := { gate1 .closed none with address := 2 }
     NextInOrder (fun a => a = 1 ∨ a = 2) (some 1) 2 ∧ NextInOrder (fun a => a = 1 ∨ a = 2) (some 2) 1 ∧
      gate2.InMainOrder ∧ (gate1 .closed none).InMainOrder ∧ (waiting [gate1 .closed none, gate2] []).gates.find? 2 = some gate2) ∧
    ((waiting [gate1 .passing (some admission)] [1]).gates.find? 1).any (fun y => y.state == .passing) = true ∧
    (waiting [] []).gates.find? 1 = none ∧ ¬(gate1 .held none).InMainOrder ∧ ¬(gate1 .disabled none).InMainOrder := by
  refine ⟨fun _ _ => ⟨rfl, rfl⟩, ⟨?_, ?_, .inr (.inl rfl), .inr (.inl rfl), by decide⟩, by decide, rfl, ?_, ?_⟩
  · exact ⟨by decide, .inr rfl, .inl ⟨by decide, fun b h1 h2 => by omega⟩⟩
  · exact ⟨by decide, .inl rfl, .inr ⟨by decide, fun b h1 _ => by omega, fun b h => by omega⟩⟩
  all_goals (unfold Gate.InMainOrder; decide)

/-- A transaction of a bus that is held, and an inserted one. -/
theorem witness_GateTransactionsEnd_bus :
    (let s := { gated .closed none with gates := { (gated .closed none).gates with busReleased := false } }
     s.gates.busReleased = false ∧ s.gates.trans.isSome = true) ∧
    (gated .closed none).gates.busReleased = true ∧
    (⟨1, none, true, false, true, 0, []⟩ : Transaction).inserted = true := by
  decide

/-- A car frozen, full by one person and not full, with the pending target 301 mm and 300 mm away, and with none. -/
theorem witness_AdmissionsKeepRoomAndMargin_check :
    State.reset.geo.committed = none ∧ line.geo.committed = some tables ∧
    { ready.tally.a with frozen := some (0, 0) }.frozen.isSome = true ∧ (ready.tally.get .A).frozen = none ∧
    ((tables.cars.get .A).capacity < 0 + 0 + 0 + 101 ∧ ¬(tables.cars.get .A).capacity < 0 + 0 + 0 + 100) ∧
    (ready.tally.get .A).carryPersons = 0 ∧
    (let s := { ready with plan := { ready.plan with pendingRun := some 1 }, line := { ready.line with atStop := none } }
     (s.plan.pendingRun.bind s.geo.halt?).map (fun x => x.pA) = some 1800000 ∧
      300 < ((1800000 : Int) - { s.trk with xA := 1799699 }.xA).natAbs ∧
      ((1800000 : Int) - { s.trk with xA := 1799700 }.xA).natAbs ≤ 300) ∧
    ready.plan.pendingRun.bind ready.geo.halt? = none := by
  decide

/-- 1,300 kg where 1,000 was to be expected at most, and where 2,301 were admitted; excess not set before. -/
theorem witness_CarFramesAreTaken_weigh :
    (let s := linked .live 0
     let l := (after (.carFrameReceived 0 .A (carReport 9#8)) s).tally.get .A
     l.carryMass + l.admMass + l.resMass + s.geo.tolerance < 1300 ∧ (s.tally.get .A).excess = false) ∧
    (let s := linked .live 0
     let l := { s.tally.a with admMass := 2301 }
     1300 + s.geo.tolerance < l.admMass) := by
  decide +kernel

/-- A start whose doors are not locked as the torque comes: cancelled, from PLANNED, and from a hold; and torque that goes in
RELEASE_WAIT. -/
theorem witness_SilenceMovesLinksAndDrive_start :
    (∀ r, r.state = .starting →
      let s := { torqueWait r with doors := doorsOpen.doors }
      s.plan.run = some r ∧ s.brk.seq = .torqueWait ∧ s.doors.allLocked = false ∧
        s.notices.settings.run.enabled = true ∧ s.notices.entries.length ≤ 16) ∧
    { run .starting with pendingStop := some .cancel }.pendingStop = some .cancel ∧
    (run .starting).pendingStop ≠ some .cancel ∧ (run .starting).leaving = none ∧
    { run .starting with leaving := some ⟨some .door, some 1, .target⟩ }.leaving = some ⟨some .door, some 1, .target⟩ ∧
    (releasing.brk.seq = .releaseWait ∧ releasing.brk.sbr = true ∧ releasing.brk.ebr = true ∧
      releasing.brk.confirmedApplied .service = false) ∧
    readDriveFrame (frame 0x5A#8 [0x32#8, 1#8]) = some ⟨true, false, false⟩ :=
  ⟨fun _ _ => ⟨rfl, rfl, (by decide : doorsOpen.doors.allLocked = false), rfl,
    (by decide : ready.notices.entries.length ≤ 16)⟩, rfl, by decide, rfl, rfl, by decide, by decide +kernel⟩

/-- A port C whose receiver stands in a state. -/
def receiving (rx : Receiver) : State := { ready with ctl := ⟨⟨rx, [], none⟩, PortState.afterReset⟩ }

/-- A receiver in each state, at 50 ms and at 51; the lengths 2, 3, 243 and 244, the low byte of a bad one the start byte; and
a body one byte short of its check sequence, and two. -/
theorem witness_BytesOfFrameMakeFrame_byte :
    (∀ rx, ((receiving rx).ctl.get .C).rx = rx) ∧ Receiver.hunting.since = none ∧ (Receiver.started 0).since = some 0 ∧
    ¬50 < elapsed 0 (ready.now + 50) ∧ 50 < elapsed 0 (ready.now + 51) ∧
    (∀ b ∈ [(3#8 : Byte), 243#8], 3 ≤ b.toNat + 256 * (0#8 : Byte).toNat ∧ b.toNat + 256 * (0#8 : Byte).toNat ≤ 243) ∧
    (2#8 : Byte).toNat + 256 * (0#8 : Byte).toNat < 3 ∧ 243 < (244#8 : Byte).toNat + 256 * (0#8 : Byte).toNat ∧
    243 < (0xA5#8 : Byte).toNat + 256 * (1#8 : Byte).toNat ∧
    (List.replicate 4 (0#8 : Byte)).length + 1 = 3 + 2 ∧ (List.replicate 3 (0#8 : Byte)).length + 1 ≠ 3 + 2 := by
  refine ⟨fun _ => rfl, ?_⟩
  decide +kernel

/-- Motion at 20 mm/s with a run PLANNED: the 20th sample leaves it PLANNED, the 21st makes it TRIPPED. One that waits at rest
stays PLANNED. And a run whose start conditions hold leaves PLANNED, armed and moving: that sample is none of the clause. -/
theorem witness_SampleTripsOnOverrun_planned :
    (∀ x ∈ [(19, RunState.planned), (20, .tripped)], let s := under .planned (creeping x.1 20)
      let s := { s with links := .const CarLink.afterReset }
      let t := after (.positionSample 10) s
      s.plan.run = some (run .planned) ∧ s.brk.sbr = false ∧ s.brk.ebr = false ∧ s.sup.trip = none ∧
        t.plan.run.map (fun r => r.state) = some x.2 ∧ t.trk.still = false ∧ t.trk.conf = s.trk.conf) ∧
    (under .planned (creeping 20 20)).ExpectationsOk ∧
    (let t := after (.positionSample 10) (under .planned doorsOpen)
     t.plan.run.map (fun r => r.state) = some .planned ∧ t.trk.still = true) ∧
    (let t := after (.positionSample 10) (under .planned (creeping 1 20))
     t.plan.run.map (fun r => r.state) = some .starting ∧ t.trk.still = false ∧ t.sup.band.umArmed = false) :=
  ⟨by decide +kernel, fun _ => ⟨rfl, rfl⟩, by decide +kernel, by decide +kernel⟩

/-- A hold taken at the bands of the very sample: the stop point becomes ASAP and the run BRAKING. -/
theorem witness_SpeedReferenceIsBounded_held :
    let s := hurrying .cruising
    let t := after (.positionSample 10) s
    s.geo.committed = some tables ∧ s.plan.run = some (run .cruising) ∧ s.brk.seq = .moving ∧ s.brk.watch = none ∧
      t.plan.run.map (fun r => (r.state, decide (r.stop ≠ (run .cruising).stop), r.stop.isAsap)) = some (.braking, true, true) := by
  decide +kernel

/-- R84: 90 mm before its target a hold taken at a sample leaves the reference of that sample 0, by the stop point it found;
the ASAP ramp, below the speed at the hold, is that of the next. -/
theorem test_hold_at_sample :
    let s := { fast 1799910 320 with plan := { ready.plan with run := some { run .cruising with cruise := 300 } } }
    let t := after (.positionSample 10) s
    let u := after (.positionSample 10) t
    (t.plan.run.map (fun r => r.stop.isAsap), t.plan.ref, decide (0 < u.plan.ref)) = (some true, 0, true) := by
  decide +kernel

/-- A door that its car reports LOCKED under RELEASE with CLOSE_FAILED set; and one reported OBSTRUCTED that was reported LOCKED
with its close timer running, while no other door becomes LOCKED. -/
theorem witness_CarFramesAreTaken_locked :
    (let d : DoorRec := ⟨.released, true, false, 0, none, none, true⟩
     let s := { closing true 0 with doors := (closing true 0).doors.put ⟨.A, .i3⟩ d }
     (s.doors.door ⟨.A, .i3⟩).release = true ∧ (s.doors.door ⟨.A, .i3⟩).failed = true ∧
      (s.doors.door ⟨.A, .i3⟩).isolated = false ∧ (s.doors.door ⟨.A, .i3⟩).reported ≠ .locked ∧
      (readCarFrame (doorFrame 1#8 1#8 1#8 1#8 0#8)).map (fun r => r.doors.get .i3) = some .locked) ∧
    (let d : DoorRec := ⟨.locked, false, false, 0, some 0, none, false⟩
     let s := { closing true 0 with doors := (closing true 0).doors.put ⟨.A, .i3⟩ d }
     s.doors.door ⟨.A, .i3⟩ = d ∧
      (readCarFrame (doorFrame 1#8 1#8 4#8 1#8 0#8)).map (fun r => r.doors.get .i3) = some .obstructed ∧
      (∀ j, (s.doors.door ⟨.A, j⟩).reported = .locked) ∧ (s.doors.side.get .A).isSome = true) := by
  refine ⟨by decide +kernel, by decide +kernel, by decide +kernel, ?_, by decide +kernel⟩
  intro j
  cases j <;> rfl

/-- READ_STATUS carries each present condition with its source and level (R188): after a reset both links are STALE, a DEGRADED
condition of the Car Link Controller. The codes are those of log 73. -/
theorem test_conditions_with_source :
    State.reset.line.conds.fields =
      [.count 2, .code 3, .present, .code 0, .code 2, .code 1, .code 3, .present, .code 1, .code 2, .code 1] ∧
    Condition.entry .tripValid = [.code 11, .absent, .code 7, .code 2] := by
  decide

end Tests
end Sys2Proof
end

section
/-! PROOFS. The braking envelope: stages 3 and 4 of a span (R46, R47). -/

namespace Sys2Proof
namespace Machine

/-- The ceiling of a quotient, multiplied back: not below the dividend, and above it by less than the divisor. -/
theorem ceilDiv_mul_bounds (a : Nat) {b : Nat} (hb : 0 < b) : a ≤ ceilDiv a b * b ∧ ceilDiv a b * b < a + b := by
  have hquot : ceilDiv a b * b + (a + b - 1) % b = a + b - 1 := Nat.div_add_mod' (a + b - 1) b
  have hrem : (a + b - 1) % b < b := Nat.mod_lt _ hb
  omega

@[simp] theorem guaranteed_zero_mass (force : Nat) (fAid : Int) : guaranteed force fAid 0 = 0 := by
  simp [guaranteed]

theorem guaranteed_of_force_le {force : Nat} {fAid : Int} (h : (force : Int) ≤ fAid) (m : Nat) :
    guaranteed force fAid m = 0 := by
  simp [guaranteed, h]

/-- R46 where it computes: what is left of the brake force per mass, clamped at a_cap. -/
theorem guaranteed_of_lt_force {force m : Nat} {fAid : Int} (hm : m ≠ 0) (h : fAid < force) :
    (guaranteed force fAid m : Int) = min 2500 (Int.fdiv ((force - fAid) * 1000) m) := by
  have hleft : (((force : Int) - fAid).toNat : Int) = force - fAid := Int.toNat_of_nonneg (by omega)
  have hdiv : ((((force : Int) - fAid).toNat * 1000 / m : Nat) : Int) = Int.fdiv ((force - fAid) * 1000) m := by
    rw [Int.fdiv_eq_ediv_of_nonneg _ (Int.natCast_nonneg m), Int.natCast_ediv, Nat.cast_mul, hleft, Nat.cast_ofNat]
  simp only [guaranteed, if_neg hm, if_neg (not_le.mpr h), Nat.cast_min, hdiv, Config.aCap, Nat.cast_ofNat]

/-- The reaction constant is the least whole number not below a_guar·t_r / 1000. -/
theorem reaction_bounds (aGuar tR : Nat) :
    aGuar * tR ≤ reaction aGuar tR * 1000 ∧ reaction aGuar tR * 1000 < aGuar * tR + 1000 :=
  ceilDiv_mul_bounds (aGuar * tR) (by omega)

@[simp] theorem reaction_zero (tR : Nat) : reaction 0 tR = 0 := by
  simp [reaction, ceilDiv]

@[simp] theorem service_zero (aSvcCfg : Nat) : service aSvcCfg 0 = 0 := by
  simp [service]

section
variable (t : Tables) (xFrom xTo : Int) (dir : Dir) (ms : Masses)

/-- M of a span (R46). -/
theorem span_m : (span t xFrom xTo dir ms).m = ms.cars + t.braking.mEq := rfl

/-- Stage 3 of a span, from its own force and mass. -/
theorem span_aGuar : (span t xFrom xTo dir ms).aGuar =
    guaranteed t.braking.force (span t xFrom xTo dir ms).fAid (span t xFrom xTo dir ms).m := rfl

/-- Stage 4 of a span: k, from its own a_guar. -/
theorem span_k : (span t xFrom xTo dir ms).k = reaction (span t xFrom xTo dir ms).aGuar t.braking.tR := rfl

/-- Stage 4 of a span: a_svc, from its own a_guar. -/
theorem span_aSvc :
    (span t xFrom xTo dir ms).aSvc = service t.braking.aSvcCfg (span t xFrom xTo dir ms).aGuar := rfl

end

/-- Settles O28: each stage of the span by its own lemma. -/
theorem spanDecelerations : Obligations.SpanDecelerations := by
  intro t xFrom xTo dir ms r
  have haGuar : r.aGuar = guaranteed t.braking.force r.fAid r.m := span_aGuar t xFrom xTo dir ms
  have hk : r.k = reaction r.aGuar t.braking.tR := span_k t xFrom xTo dir ms
  have haSvc : r.aSvc = service t.braking.aSvcCfg r.aGuar := span_aSvc t xFrom xTo dir ms
  refine ⟨span_m t xFrom xTo dir ms, ?unbraked, ?braked, ?reaction, haSvc, ?zero⟩
  case unbraked =>
    rintro (hmass | hforce)
    · rw [haGuar, hmass, guaranteed_zero_mass]
    · rw [haGuar, guaranteed_of_force_le hforce]
  case braked =>
    intro hmass hforce
    rw [haGuar, guaranteed_of_lt_force hmass hforce]
  case reaction => exact hk ▸ reaction_bounds r.aGuar t.braking.tR
  case zero =>
    intro hzero
    rw [hk, haSvc, hzero, reaction_zero, service_zero]
    exact ⟨rfl, rfl⟩

end Machine
end Sys2Proof
end

section
/-! PROOFS. The supervision bands (R54, R55, R58). -/

namespace Sys2Proof
namespace Machine

/-- The shape both band tests share: the highest of three levels whose condition holds. -/
def gradedBand (emergency service warning : Prop) [Decidable emergency] [Decidable service] [Decidable warning] : Band :=
  if emergency then .emergency else if service then .service else if warning then .warning else .none

/-- Where the conditions are nested, a graded band reaches each level exactly on that level's condition. -/
theorem atLeast_gradedBand {e s w : Prop} [Decidable e] [Decidable s] [Decidable w] (hes : e → s) (hsw : s → w) :
    ((gradedBand e s w).atLeast .warning = true ↔ w) ∧ ((gradedBand e s w).atLeast .service = true ↔ s) ∧
      ((gradedBand e s w).atLeast .emergency = true ↔ e) := by
  unfold gradedBand
  split
  next he => simp [Band.atLeast, Band.code, he, hes he, hsw (hes he)]
  next he =>
    split
    next hs => simp [Band.atLeast, Band.code, he, hs, hsw hs]
    next hs => split <;> simp [Band.atLeast, Band.code, *]

/-- R54: below 20 mm/s no curve band is found, even where v_E is 0. -/
theorem curveBand_of_slow {v : Nat} (h : v < 20) (vE : Nat) : curveBand v vE = .none := if_pos h

theorem curveBand_eq_gradedBand {v : Nat} (h : 20 ≤ v) (vE : Nat) :
    curveBand v vE = gradedBand (vE < v) (95 * vE < 100 * v) (90 * vE < 100 * v) :=
  if_neg (not_lt.mpr h)

theorem ceilingBand_eq_gradedBand (v c : Nat) :
    ceilingBand v c = gradedBand (112 * c < 100 * v) (105 * c < 100 * v) (c < v) := rfl

theorem Band.max_emergency_left (b : Band) : Band.max .emergency b = .emergency := by
  cases b <;> rfl

theorem Band.max_emergency_right (b : Band) : b.max .emergency = .emergency := by
  cases b <;> rfl

/-- R58 where neither the limit point nor the direction is violated: the bands alone decide. -/
theorem BandFinding.level_eq_max {f : BandFinding} (hlimit : f.limit = false) (hback : f.rollback = false) :
    f.level = f.curve.max f.ceiling := by
  simp [BandFinding.level, hlimit, hback]

theorem BandFinding.cause_eq_overspeed {f : BandFinding} (hlimit : f.limit = false) (hback : f.rollback = false) :
    f.cause = if f.curve = .emergency then .overspeedCurve else .overspeedCeiling := by
  simp [BandFinding.cause, hlimit, hback]

/-- Settles O30: both tests are graded bands with nested conditions, and the order of R58 picks the cause. -/
theorem bandConditions : Obligations.BandConditions := by
  refine ⟨fun v vE => ⟨fun hslow => curveBand_of_slow hslow vE, fun hfast => ?curve⟩, fun v c => ?ceiling,
    fun f hlimit hback => ⟨fun hcurve => ?byCurve, fun hcurve hceil => ?byCeiling⟩⟩
  case curve =>
    rw [curveBand_eq_gradedBand hfast]
    exact atLeast_gradedBand (by omega) (by omega)
  case ceiling =>
    rw [ceilingBand_eq_gradedBand]
    exact atLeast_gradedBand (by omega) (by omega)
  case byCurve =>
    rw [BandFinding.level_eq_max hlimit hback, BandFinding.cause_eq_overspeed hlimit hback, hcurve,
      Band.max_emergency_left, if_pos rfl]
    exact ⟨rfl, rfl⟩
  case byCeiling =>
    rw [BandFinding.level_eq_max hlimit hback, BandFinding.cause_eq_overspeed hlimit hback, hceil,
      Band.max_emergency_right, if_neg hcurve]
    exact ⟨rfl, rfl⟩

end Machine
end Sys2Proof
end

section
/-! PROOFS. The lost counts (R208), and which entry of a full notice queue gives way. -/

namespace Sys2Proof
namespace Machine

theorem satInc_eq_min {n : Nat} (h : n ≤ 255) : satInc n = min (n + 1) 255 := by
  unfold satInc
  split <;> omega

theorem countLost_eq_min {lost : PerPort Nat} (hc : lost.c ≤ 255) (hs : lost.s ≤ 255) (toC toS : Bool) :
    countLost lost toC toS =
      ⟨if toC then min (lost.c + 1) 255 else lost.c, if toS then min (lost.s + 1) 255 else lost.s⟩ := by
  rw [countLost, satInc_eq_min hc, satInc_eq_min hs]

@[simp] theorem lowestPriority_nil (p : Nat) : lowestPriority [] p = p := rfl

@[simp] theorem lowestPriority_cons (e : Notice) (es : List Notice) (p : Nat) :
    lowestPriority (e :: es) p = lowestPriority es (min p e.priority) := rfl

theorem lowestPriority_append (es fs : List Notice) (p : Nat) :
    lowestPriority (es ++ fs) p = lowestPriority fs (lowestPriority es p) := List.foldl_append

theorem lowestPriority_eq_self {es : List Notice} {p : Nat} (h : ∀ m ∈ es, p ≤ m.priority) :
    lowestPriority es p = p := by
  induction es with
  | nil => rfl
  | cons e es ih =>
    obtain ⟨he, hes⟩ := List.forall_mem_cons.mp h
    rw [lowestPriority_cons, min_eq_left he, ih hes]

theorem le_lowestPriority {es : List Notice} {a p : Nat} (hp : a ≤ p) (h : ∀ m ∈ es, a ≤ m.priority) :
    a ≤ lowestPriority es p := by
  induction es generalizing p with
  | nil => exact hp
  | cons e es ih =>
    obtain ⟨he, hes⟩ := List.forall_mem_cons.mp h
    exact ih (le_min hp he) hes

section Lowest

variable {pre post : List Notice} {old : Notice}

/-- R208: an entry that no other is below, and that is below the new notice, has the lowest priority. -/
theorem lowestPriority_eq_of_lowest {p : Nat} (hold : old.priority ≤ p) (hpre : ∀ m ∈ pre, old.priority ≤ m.priority)
    (hpost : ∀ m ∈ post, old.priority ≤ m.priority) : lowestPriority (pre ++ old :: post) p = old.priority := by
  have hbefore : old.priority ≤ lowestPriority pre p := le_lowestPriority hold hpre
  rw [lowestPriority_append, lowestPriority_cons, min_eq_right hbefore, lowestPriority_eq_self hpost]

theorem firstOf_append_cons (hpre : ∀ m ∈ pre, m.priority ≠ old.priority) :
    firstOf old.priority (pre ++ old :: post) = some old := by
  have hnone : pre.find? (fun e => e.priority == old.priority) = none := by simpa using hpre
  rw [firstOf, List.find?_append, hnone, Option.none_or]
  exact List.find?_cons_of_pos (beq_self_eq_true old.priority)

theorem dropFirst_append_cons (hpre : ∀ m ∈ pre, m.priority ≠ old.priority) :
    dropFirst old.priority (pre ++ old :: post) = pre ++ post := by
  rw [dropFirst, List.eraseP_append_right _ (by simpa using hpre), List.eraseP_cons]
  simp only [beq_self_eq_true, cond_true]

end Lowest

theorem priority_of_firstOf {p : Nat} {es : List Notice} {old : Notice} (h : firstOf p es = some old) :
    old.priority = p := by
  have hp := List.find?_some h
  exact beq_iff_eq.mp hp

end Machine
end Sys2Proof
end

section
/-! PROOFS. What a notice does to the queue that it is to join, by the branches of R207 and R208. -/

namespace Sys2Proof
namespace Machine

/-- The entry that a notice makes when it joins: the priority and the route of its class, owed to each port of the route. -/
def NoticeQueue.newEntry (q : NoticeQueue) (c : NoticeClass) (kind : Nat) (now : Time) (body : List Field) : Notice :=
  let x := q.settings.get c
  ⟨c, kind, now, body, x.priority, x.toC, x.toS, x.toC, x.toS⟩

section Add

variable {q : NoticeQueue} {c : NoticeClass} (kind : Nat) (now : Time) (body : List Field)

theorem NoticeQueue.add_of_disabled (h : (q.settings.get c).enabled = false) : q.add c kind now body = q :=
  if_pos h

theorem NoticeQueue.add_of_room (h : (q.settings.get c).enabled = true) (hroom : q.entries.length < noticeRoom) :
    q.add c kind now body = { q with entries := q.entries ++ [q.newEntry c kind now body] } := by
  simp [NoticeQueue.add, NoticeQueue.newEntry, h, hroom]

variable (h : (q.settings.get c).enabled = true) (hfull : noticeRoom ≤ q.entries.length)
include h hfull

theorem NoticeQueue.add_of_displaced {old : Notice}
    (hfirst : firstOf (lowestPriority q.entries (q.settings.get c).priority) q.entries = some old)
    (hold : old.priority < (q.settings.get c).priority) :
    q.add c kind now body =
      { q with
        entries := dropFirst old.priority q.entries ++ [q.newEntry c kind now body]
        lost := countLost q.lost old.owedC old.owedS } := by
  simp [NoticeQueue.add, NoticeQueue.newEntry, h, hfull, hfirst, hold]

theorem NoticeQueue.add_of_lost (hlow : ∀ m ∈ q.entries, (q.settings.get c).priority ≤ m.priority) :
    q.add c kind now body =
      { q with lost := countLost q.lost (q.settings.get c).toC (q.settings.get c).toS } := by
  have hlowest := lowestPriority_eq_self hlow
  cases hfirst : firstOf (q.settings.get c).priority q.entries with
  | none => simp [NoticeQueue.add, h, hfull, hlowest, hfirst]
  | some old =>
    have hold : old.priority = (q.settings.get c).priority := priority_of_firstOf hfirst
    simp [NoticeQueue.add, h, hfull, hlowest, hfirst, hold]

end Add

/-- Settles O9, by the branches of `NoticeQueue.add`: where the queue is full, the entry named in the statement is the one
that `firstOf` finds at the lowest priority. -/
theorem fullNoticeQueueDisplaces : Obligations.FullNoticeQueueDisplaces := by
  intro q c kind now body
  refine ⟨NoticeQueue.add_of_disabled kind now body, NoticeQueue.add_of_room kind now body, ?displaced, ?lost⟩
  case displaced =>
    intro pre post old henabled hfull hentries hold hpre hpost hc hs
    have hne : ∀ m ∈ pre, m.priority ≠ old.priority := fun m hm => (hpre m hm).ne'
    have hlowest : lowestPriority q.entries (q.settings.get c).priority = old.priority :=
      hentries ▸ lowestPriority_eq_of_lowest hold.le (fun m hm => (hpre m hm).le) hpost
    have hfirst : firstOf (lowestPriority q.entries (q.settings.get c).priority) q.entries = some old := by
      rw [hlowest, hentries, firstOf_append_cons hne]
    rw [NoticeQueue.add_of_displaced kind now body henabled hfull hfirst hold, hentries, dropFirst_append_cons hne,
      countLost_eq_min hc hs]
    rfl
  case lost =>
    intro henabled hfull hlow hc hs
    rw [NoticeQueue.add_of_lost kind now body henabled hfull hlow, countLost_eq_min hc hs]

end Machine
end Sys2Proof
end

section
/-! PROOFS. The check sequence (R198): one byte at a time, and at the end of each frame. -/

namespace Sys2Proof
namespace Machine

@[simp] theorem crc16_nil : crc16 [] = 0xFFFF#16 := rfl

theorem crc16_concat (bs : List Byte) (b : Byte) : crc16 (bs ++ [b]) = crcByte (crc16 bs) b :=
  List.foldl_concat ..

theorem crcBit_eq_xor (r : BitVec 16) :
    crcBit r = (r <<< 1) ^^^ (if r.msb then 0x1021#16 else 0#16) := by
  unfold crcBit
  split
  · rfl
  · exact BitVec.xor_zero.symm

theorem crcByte_eq_repeat (r : BitVec 16) (b : Byte) :
    crcByte r b = Nat.repeat crcBit 8 (r ^^^ ((b.setWidth 16) <<< 8)) := rfl

theorem crcBytes_eq (bs : List Byte) : crcBytes bs = [(crc16 bs).extractLsb' 0 8, (crc16 bs).extractLsb' 8 8] := rfl

/-- The check of a frame with a start byte covers all between the start byte and itself. -/
theorem frame_eq_start_cons (start : Byte) (content : List Byte) : ∃ front,
    frame start content = start :: front ++ crcBytes front :=
  ⟨bytes16 (BitVec.ofNat 16 content.length) ++ content, rfl⟩

/-- The check of a frame of the gate bus, which has no start byte, covers all before itself. -/
theorem gateFrame_eq_append (a kind : Nat) (body : List Byte) : ∃ front, gateFrame a kind body = front ++ crcBytes front :=
  ⟨_, rfl⟩

/-- Settles O14: the check is folded byte by byte, each frame is built from a front and its check, and the check value is
computed. -/
theorem checkSequence : Obligations.CheckSequence := by
  refine ⟨crc16_nil, fun bs b => ?byte, ?digits, frame_eq_start_cons, gateFrame_eq_append⟩
  case byte => rw [crc16_concat, crcByte_eq_repeat, funext crcBit_eq_xor]
  case digits => decide +kernel

end Machine
end Sys2Proof
end

section
/-! PROOFS. What a command does, said once: the blocks act on the state with its time advanced, and the event ends. Every
request command is one event with its owner's rule, and a property that no queue of the links touches passes through it. -/

namespace Sys2Proof

/-- The rule of the block that owns a request. -/
def Request.owner : Request → Machine.Owner
  | .loadSegments n i line es => fun s => s.loadSegments n i line es
  | .loadZones n i es => fun s => s.loadZones n i es
  | .loadStations n i es => fun s => s.loadStations n i es
  | .loadHalts n i es => fun s => s.loadHalts n i es
  | .loadMarkers n i es => fun s => s.loadMarkers n i es
  | .loadCars n i es => fun s => s.loadCars n i es
  | .loadBraking n i es => fun s => s.loadBraking n i es
  | .loadGates n i es => fun s => s.loadGates n i es
  | .commitGeometry => fun s => s.commitGeometry
  | .discardGeometry => fun s => s.discardGeometry
  | .readGeometry table copy first => fun s => s.readGeometry table copy first
  | .setMode mode => fun s => s.setMode mode
  | .clearSeverity => fun s => s.clearSeverity
  | .restart => fun s => s.restart
  | .readStatus => fun s => s.readStatus
  | .setReference halt => fun s => s.setReference halt
  | .readPosition => fun s => s.readPosition
  | .announceRun halt => fun s => s.announceRun halt
  | .startRun target cruise => fun s => s.startRun target cruise
  | .holdRun => fun s => s.holdRun
  | .resumeRun => fun s => s.resumeRun
  | .cancelRun => fun s => s.cancelRun
  | .setWatch index w => fun s => s.setWatch index w
  | .clearWatch index => fun s => s.clearWatch index
  | .readRun => fun s => s.readRun
  | .clearTrip => fun s => s.clearTrip
  | .releaseTrackBrakes => fun s => s.releaseTrackBrakes
  | .readTrip => fun s => s.readTrip
  | .releaseDoors cars comps => fun s => s.releaseDoors cars comps
  | .lockDoors cars => fun s => s.lockDoors cars
  | .isolateDoor door => fun s => s.isolateDoor door
  | .restoreDoor door => fun s => s.restoreDoor door
  | .readDoors => fun s => s.readDoors
  | .releaseGateBus => fun s => s.releaseGateBus
  | .setGate address enabled mode scale verify => fun s => s.setGate address enabled mode scale verify
  | .openStation station => fun s => s.openStation station
  | .closeStation station => fun s => s.closeStationRequest station
  | .loadClasses es => fun s => s.loadClasses es
  | .setPassback minutes => fun s => s.setPassback minutes
  | .readGates first => fun s => s.readGates first
  | .readTally => fun s => s.readTally
  | .setNotice cls enabled priority route => fun s => s.setNotice cls enabled priority route
  | .setThreshold port threshold => fun s => s.setThreshold port threshold

namespace Machine

/-- A request command's event as the blocks act in it. -/
def State.asked (s : State) (h : ReqHead) (r : Request) : State := (s.advance h.dt).request h r r.owner

/-- What the blocks make of the state in a command's event: of the state as it stands at a reset, of the one `dt` later
otherwise. -/
def effect (c : Instr) (s : State) : State :=
  match c with
  | .powerOn pins => s.doReset .powerOn pins
  | .resetLine => s.doReset .resetLine s.levels
  | .positionSample dt => (s.advance dt).sample
  | .encoderFault dt => (s.advance dt).encoderFault
  | .markerReport dt car id => (s.advance dt).takeMarkerReport car id
  | .plannedWaitExpiry dt => (s.advance dt).waitExpiry
  | .torqueTimeout dt => (s.advance dt).torqueExpiry
  | .contactChange dt contact closed => (s.advance dt).contactChange contact closed
  | .brakeTimerExpiry dt brake => (s.advance dt).brakeExpiry brake
  | .trackBrakeTimerExpiry dt car => (s.advance dt).trackExpiry car
  | .estopChange dt loop closed => (s.advance dt).estopChange loop closed
  | .keyChange dt on => (s.advance dt).keyChange on
  | .carFrameSend dt => ((s.advance dt).sendFrame .A).sendFrame .B
  | .carFrameReceived dt car bytes => (s.advance dt).carFrameArrives car bytes
  | .linkStaleExpiry dt car => (s.advance dt).staleExpiry car
  | .linkLostExpiry dt car => (s.advance dt).lostExpiry car
  | .driveStatusFrame dt bytes => (s.advance dt).driveFrameArrives bytes
  | .driveSilenceExpiry dt => (s.advance dt).driveSilence
  | .gateAnswer dt bytes => (s.advance dt).gateAnswer bytes
  | .gateResponseTimeout dt => (s.advance dt).gateSilence
  | .passageTimeout dt gate => (s.advance dt).passageExpiry gate
  | .passbackExpiry dt ticket => (s.advance dt).passbackExpiry ticket
  | .reopenTimerExpiry dt door => (s.advance dt).reopenExpiry door
  | .closeTimerExpiry dt door => (s.advance dt).closeExpiry door
  | .controlFrameReceived dt port bytes => (s.advance dt).controlFrame port bytes
  | .receiveTimeout dt port => (s.advance dt).receiveTimeout port
  | .transmitterFree dt port => (s.advance dt).transmitterFree port
  | .quadratureStep dt up => { s.advance dt with trk := (s.advance dt).trk.count_ up }
  | .controlByteReceived dt port byte => (s.advance dt).controlByte port byte
  | .loadSegments h n i l es => s.asked h (.loadSegments n i l es)
  | .loadZones h n i es => s.asked h (.loadZones n i es)
  | .loadStations h n i es => s.asked h (.loadStations n i es)
  | .loadHalts h n i es => s.asked h (.loadHalts n i es)
  | .loadMarkers h n i es => s.asked h (.loadMarkers n i es)
  | .loadCars h n i es => s.asked h (.loadCars n i es)
  | .loadBraking h n i es => s.asked h (.loadBraking n i es)
  | .loadGates h n i es => s.asked h (.loadGates n i es)
  | .commitGeometry h => s.asked h .commitGeometry
  | .discardGeometry h => s.asked h .discardGeometry
  | .readGeometry h t c f => s.asked h (.readGeometry t c f)
  | .setMode h m => s.asked h (.setMode m)
  | .clearSeverity h => s.asked h .clearSeverity
  | .restart h => s.asked h .restart
  | .readStatus h => s.asked h .readStatus
  | .setReference h x => s.asked h (.setReference x)
  | .readPosition h => s.asked h .readPosition
  | .announceRun h x => s.asked h (.announceRun x)
  | .startRun h t c => s.asked h (.startRun t c)
  | .holdRun h => s.asked h .holdRun
  | .resumeRun h => s.asked h .resumeRun
  | .cancelRun h => s.asked h .cancelRun
  | .setWatch h i w => s.asked h (.setWatch i w)
  | .clearWatch h i => s.asked h (.clearWatch i)
  | .readRun h => s.asked h .readRun
  | .clearTrip h => s.asked h .clearTrip
  | .releaseTrackBrakes h => s.asked h .releaseTrackBrakes
  | .readTrip h => s.asked h .readTrip
  | .releaseDoors h a b => s.asked h (.releaseDoors a b)
  | .lockDoors h a => s.asked h (.lockDoors a)
  | .isolateDoor h d => s.asked h (.isolateDoor d)
  | .restoreDoor h d => s.asked h (.restoreDoor d)
  | .readDoors h => s.asked h .readDoors
  | .releaseGateBus h => s.asked h .releaseGateBus
  | .setGate h a b c d e => s.asked h (.setGate a b c d e)
  | .openStation h n => s.asked h (.openStation n)
  | .closeStation h n => s.asked h (.closeStation n)
  | .loadClasses h es => s.asked h (.loadClasses es)
  | .setPassback h m => s.asked h (.setPassback m)
  | .readGates h f => s.asked h (.readGates f)
  | .readTally h => s.asked h .readTally
  | .setNotice h a b c d => s.asked h (.setNotice a b c d)
  | .setThreshold h p t => s.asked h (.setThreshold p t)

/-! The two equations of an event once more, as rewrite rules that are no definitional unfolding: the kernel then compares no
unfolded ends of events. -/

theorem event_eq_ended (dt : Time) (f : State → State) (s : State) :
    event dt f s = .next ((f (s.advance dt)).ended s.pending) := by rw [event_next]

theorem resetEvent_eq_ended (f : State → State) (s : State) :
    resetEvent f s = .next ((f s).ended s.pending) := by rw [resetEvent_next]

/-- Every command is its effect, with the event's end. -/
theorem exec_eq_ended (c : Instr) (s : State) : exec c s = .next ((effect c s).ended s.pending) := by
  cases c <;>
    simp only [exec, effect, State.asked, Request.owner, requestEvent, event_eq_ended, resetEvent_eq_ended,
      execPowerOn, execResetLine, execPositionSample, execEncoderFault, execMarkerReport, execPlannedWaitExpiry,
      execTorqueTimeout, execContactChange, execBrakeTimerExpiry, execTrackBrakeTimerExpiry, execEstopChange,
      execKeyChange, execCarFrameSend, execCarFrameReceived, execLinkStaleExpiry, execLinkLostExpiry,
      execDriveStatusFrame, execDriveSilenceExpiry, execGateAnswer, execGateResponseTimeout, execPassageTimeout,
      execPassbackExpiry, execReopenTimerExpiry, execCloseTimerExpiry, execControlFrameReceived,
      execReceiveTimeout, execTransmitterFree, execLoadSegments, execLoadZones, execLoadStations, execLoadHalts,
      execLoadMarkers, execLoadCars, execLoadBraking, execLoadGates, execCommitGeometry, execDiscardGeometry,
      execReadGeometry, execSetMode, execClearSeverity, execRestart, execReadStatus, execSetReference,
      execReadPosition, execAnnounceRun, execStartRun, execHoldRun, execResumeRun, execCancelRun, execSetWatch,
      execClearWatch, execReadRun, execClearTrip, execReleaseTrackBrakes, execReadTrip, execReleaseDoors,
      execLockDoors, execIsolateDoor, execRestoreDoor, execReadDoors, execReleaseGateBus, execSetGate,
      execOpenStation, execCloseStation, execLoadClasses, execSetPassback, execReadGates, execReadTally,
      execSetNotice, execSetThreshold, execQuadratureStep, execControlByteReceived]

theorem effect_eq_asked {c : Instr} {h : ReqHead} {r : Request} (hc : c.request = some (h, r)) (s : State) :
    effect c s = s.asked h r := by
  cases c <;> simp only [Instr.request, Option.some.injEq, Prod.mk.injEq, reduceCtorEq] at hc <;>
    obtain ⟨rfl, rfl⟩ := hc <;> rfl

theorem eq_ended_of_exec {c : Instr} {s t : State} (h : exec c s = .next t) : t = (effect c s).ended s.pending := by
  rw [exec_eq_ended] at h
  exact (Host.Outcome.next.inj h).symm

/-- A step either idles or is the effect of the command at the front, with the event's end. -/
theorem step_cases {s t : State} (h : step s = .next t) :
    t = s ∨ ∃ c rest, s.pending = c :: rest ∧ t = (effect c { s with pending := rest }).ended rest := by
  unfold step at h
  split at h
  next => exact .inl (Host.Outcome.next.inj h).symm
  next c rest hpending => exact .inr ⟨c, rest, hpending, eq_ended_of_exec h⟩

/-- A step keeps a property that the effect of every command and the end of every event keep. -/
theorem step_keeps {P : State → Prop} (hpending : ∀ (u : State) q, P u → P { u with pending := q })
    (heffect : ∀ c u, P u → P (effect c u)) (hended : ∀ (u : State) q, P u → P (u.ended q))
    {s t : State} (hs : P s) (h : step s = .next t) : P t := by
  rcases step_cases h with rfl | ⟨c, rest, -, rfl⟩
  · exact hs
  · exact hended _ _ (heffect c _ (hpending s rest hs))

/-- A request keeps a property that its owner's rule keeps and that no reply list touches. -/
theorem State.request_keeps {P : State → Prop} (hctl : ∀ (u : State) x, P u → P { u with ctl := x }) {act : Owner}
    (hact : ∀ u, P u → P (act u).1) {s : State} (hs : P s) (h : ReqHead) (r : Request) : P (s.request h r act) := by
  have hanswer : ∀ (u : State) k x, P u → P (u.answer k x) := fun u k x hu => hctl u _ hu
  have hjoin : ∀ (u : State) k tag kind guard j, P u → P (u.joinArrival k tag kind guard j) := by
    intro u k tag kind guard j hu
    simp only [State.joinArrival]
    (repeat' split) <;> first | exact hu | exact hctl u _ hu
  have htake : ∀ (u : State) k guard, P u → P (u.takeRequest k guard act) := by
    intro u k guard hu
    unfold State.takeRequest
    split
    · exact hanswer u k _ hu
    · split
      · exact hanswer _ k _ (hact u hu)
      · exact hanswer u k _ hu
  unfold State.request
  split
  · exact htake s _ _ hs
  · split
    · exact htake _ _ _ (hjoin s _ _ _ _ _ hs)
    · exact hjoin s _ _ _ _ _ hs

/-! ### The end of an event -/

/-- The transmitters change the queues of the links and the notice queue alone. -/
theorem State.transmit_keeps {P : State → Prop} (hqueues : ∀ (u : State) x q, P u → P { u with ctl := x, notices := q })
    {s : State} (hs : P s) : P s.transmit := by
  have hask : ∀ (u : State) k, P u → P (u.ask k) := by
    intro u k hu
    unfold State.ask
    split
    · exact hu
    · simp only [State.sendNext, State.sendNotice]
      split
      · split
        · exact hqueues u _ _ hu
        · exact hu
      · split
        · exact hqueues u _ u.notices hu
        · exact hu
  exact hask _ _ (hask _ _ hs)

/-- The end of an event keeps what the flags, the queue of commands and the queues of the links do not touch. -/
theorem State.ended_keeps {P : State → Prop} (hqueues : ∀ (u : State) x q, P u → P { u with ctl := x, notices := q })
    (hflags : ∀ (u : State) f q, P u → P { u with line := { u.line with flags := f }, pending := q })
    {s : State} (hs : P s) (q : List Instr) : P (s.ended q) :=
  State.transmit_keeps hqueues (hflags s _ q hs)

/-- Settles O1: both clauses are the two branches of the step. -/
theorem stepRunsFrontCommandOrIdles : Obligations.StepRunsFrontCommandOrIdles := by
  refine ⟨fun c rest s hpending => ?_, fun s hpending => ?_⟩ <;> simp only [step, hpending]

end Machine
end Sys2Proof
end

section
/-! PROOFS. The notice that a free transmitter is handed (R209), and what the transmitters do at the end of an event (R204). -/

namespace Sys2Proof
namespace Machine

/-- The choice of R209 over the entries that pass a test. -/
def chooseBy (p : Notice → Bool) (es : List Notice) : Option Notice :=
  es.foldl (fun best n =>
    if p n then
      match best with
      | none => some n
      | some b => if b.priority < n.priority then some n else best
    else best) none

/-- A notice may be handed to a port: owed to it and above its threshold. -/
def NoticeQueue.qualifies (q : NoticeQueue) (k : Port) (n : Notice) : Bool :=
  n.owed k && decide (q.threshold.get k < n.priority)

theorem NoticeQueue.qualifies_iff (q : NoticeQueue) (k : Port) (n : Notice) :
    q.qualifies k n = true ↔ n.owed k = true ∧ q.threshold.get k < n.priority := by
  simp [NoticeQueue.qualifies]

theorem NoticeQueue.choose_eq_chooseBy (q : NoticeQueue) (k : Port) :
    q.choose k = chooseBy (q.qualifies k) q.entries := rfl

theorem chooseBy_concat (p : Notice → Bool) (es : List Notice) (n : Notice) :
    chooseBy p (es ++ [n]) =
      if p n then
        match chooseBy p es with
        | none => some n
        | some b => if b.priority < n.priority then some n else some b
      else chooseBy p es := by
  simp only [chooseBy, List.foldl_concat]
  split
  · split <;> simp_all
  · rfl

theorem chooseBy_eq_none_iff (p : Notice → Bool) (es : List Notice) :
    chooseBy p es = none ↔ ∀ m ∈ es, p m = false := by
  induction es using List.reverseRecOn with
  | nil => simp [chooseBy]
  | append_singleton es n ih =>
    rw [chooseBy_concat]
    cases hn : p n with
    | false => simp [ih, hn, or_imp, forall_and]
    | true =>
      have hne : ¬∀ m ∈ es ++ [n], p m = false := fun h => by simp [h n (by simp)] at hn
      simp only [hne, iff_false, if_true]
      split
      · simp
      · split <;> simp

/-- The entry chosen is the first of the highest priority among those that pass. -/
theorem chooseBy_spec {p : Notice → Bool} {es : List Notice} {n : Notice} (h : chooseBy p es = some n) :
    ∃ pre post, es = pre ++ n :: post ∧ p n = true ∧ (∀ m ∈ pre, p m = true → m.priority < n.priority) ∧
      ∀ m ∈ post, p m = true → m.priority ≤ n.priority := by
  induction es using List.reverseRecOn generalizing n with
  | nil => simp [chooseBy] at h
  | append_singleton es x ih =>
    rw [chooseBy_concat] at h
    split at h
    next hx =>
      split at h
      next hnone =>
        cases h
        have hpre := (chooseBy_eq_none_iff p es).mp hnone
        exact ⟨es, [], rfl, hx, fun m hm hp => by simp [hpre m hm] at hp, by simp⟩
      next b hb =>
        obtain ⟨pre, post, rfl, hpb, hpre, hpost⟩ := ih hb
        split at h
        next hlt =>
          cases h
          refine ⟨pre ++ b :: post, [], rfl, hx, fun m hm hp => ?_, by simp⟩
          rcases List.mem_append.mp hm with hm | hm
          · exact (hpre m hm hp).trans hlt
          · rcases List.mem_cons.mp hm with rfl | hm
            · exact hlt
            · exact (hpost m hm hp).trans_lt hlt
        next hge =>
          cases h
          refine ⟨pre, post ++ [x], by simp, hpb, hpre, fun m hm hp => ?_⟩
          rcases List.mem_append.mp hm with hm | hm
          · exact hpost m hm hp
          · rw [List.mem_singleton.mp hm]
            exact Nat.le_of_not_lt hge
    next hx =>
      obtain ⟨pre, post, rfl, hpb, hpre, hpost⟩ := ih h
      refine ⟨pre, post ++ [x], by simp, hpb, hpre, fun m hm hp => ?_⟩
      rcases List.mem_append.mp hm with hm | hm
      · exact hpost m hm hp
      · rw [List.mem_singleton.mp hm] at hp
        exact absurd hp hx

theorem NoticeQueue.choose_eq_none_iff (q : NoticeQueue) (k : Port) :
    q.choose k = none ↔ ∀ m ∈ q.entries, m.owed k = true → m.priority ≤ q.threshold.get k := by
  rw [q.choose_eq_chooseBy, chooseBy_eq_none_iff]
  refine forall₂_congr fun m _ => ?_
  rw [← Bool.not_eq_true, q.qualifies_iff]
  exact ⟨fun h ho => Nat.le_of_not_lt fun hlt => h ⟨ho, hlt⟩, fun h hq => (h hq.1).not_gt hq.2⟩

/-- Settles O8: the choice is a fold over the entries from the oldest on, by induction from the youngest. -/
theorem chosenNoticeIsOldestOfHighest : Obligations.ChosenNoticeIsOldestOfHighest := by
  refine fun q k => ⟨fun n hn => ?chosen, (q.choose_eq_none_iff k).mp⟩
  rw [q.choose_eq_chooseBy] at hn
  obtain ⟨pre, post, hes, hq, hpre, hpost⟩ := chooseBy_spec hn
  obtain ⟨howed, hpriority⟩ := (q.qualifies_iff k n).mp hq
  exact ⟨pre, post, hes, howed, hpriority, fun m hm ho hp => hpre m hm ((q.qualifies_iff k m).mpr ⟨ho, hp⟩),
    fun m hm ho hp => hpost m hm ((q.qualifies_iff k m).mpr ⟨ho, hp⟩)⟩

/-! ### A transmitter that is asked -/

section Ask

variable {s : State} {k : Port}

theorem State.ask_of_sending {x : Sending} (h : (s.ctl.get k).tx = some x) : s.ask k = s := by
  simp [State.ask, h]

theorem State.ask_of_ready {e : ReplyEntry} {es : List ReplyEntry} {r : Reply} (h : (s.ctl.get k).tx = none)
    (hr : (s.ctl.get k).replies = e :: es) (he : e.state = .ready r) :
    s.ask k = s.setPort k { s.ctl.get k with
      replies := es, tx := some ⟨replyFrame e.kind e.tag r, s.isRestartDone k e r⟩ } := by
  simp [State.ask, State.sendNext, h, hr, he]

theorem State.ask_of_waiting {e : ReplyEntry} {es : List ReplyEntry} (h : (s.ctl.get k).tx = none)
    (hr : (s.ctl.get k).replies = e :: es) (he : e.isWaiting = true) : s.ask k = s := by
  unfold ReplyEntry.isWaiting at he
  split at he
  next hs => simp [State.ask, State.sendNext, h, hr, hs]
  next => cases he

theorem State.ask_of_notice {n : Notice} (h : (s.ctl.get k).tx = none) (hr : (s.ctl.get k).replies = [])
    (hn : s.notices.choose k = some n) :
    s.ask k = ({ s with notices := s.notices.handed k n }).setPort k
      { s.ctl.get k with tx := some ⟨noticeFrame n (s.notices.lost.get k), false⟩ } := by
  simp [State.ask, State.sendNext, State.sendNotice, h, hr, hn]

theorem State.ask_of_none (h : (s.ctl.get k).tx = none) (hr : (s.ctl.get k).replies = [])
    (hn : s.notices.choose k = none) : s.ask k = s := by
  simp [State.ask, State.sendNext, State.sendNotice, h, hr, hn]

end Ask

/-- A port whose transmitter is free with nothing to send. -/
def State.PortIdle (s : State) (k : Port) : Prop :=
  (s.ctl.get k).tx = none → (∀ e es, (s.ctl.get k).replies = e :: es → e.isWaiting = true) ∧
    ((s.ctl.get k).replies = [] → s.notices.choose k = none)

/-- Whatever a port that is asked finds, it is then sending or has nothing to send. -/
theorem State.portIdle_ask (s : State) (k : Port) : (s.ask k).PortIdle k := by
  cases htx : (s.ctl.get k).tx with
  | some x =>
    rw [State.ask_of_sending htx]
    exact fun h => by simp [htx] at h
  | none =>
    cases hr : (s.ctl.get k).replies with
    | nil =>
      cases hn : s.notices.choose k with
      | none =>
        rw [State.ask_of_none htx hr hn]
        exact fun _ => ⟨fun e es h => by simp [hr] at h, fun _ => hn⟩
      | some n =>
        rw [State.ask_of_notice htx hr hn]
        exact fun h => by simp at h
    | cons e es =>
      cases hs : e.state with
      | ready r =>
        rw [State.ask_of_ready htx hr hs]
        exact fun h => by simp at h
      | waiting guard r =>
        have he : e.isWaiting = true := by simp [ReplyEntry.isWaiting, hs]
        rw [State.ask_of_waiting htx hr he]
        exact fun _ => ⟨fun e' es' h => by simp [hr] at h; exact h.1 ▸ he, fun h => by simp [hr] at h⟩

/-- A notice that is handed over leaves its place in the queue as it is, or without its mark for the port, or empty. -/
theorem NoticeQueue.handed_entries {q : NoticeQueue} {k : Port} {n : Notice} (hn : n ∈ q.entries) :
    ∃ pre post, q.entries = pre ++ n :: post ∧ n ∉ pre ∧
      (q.handed k n).entries = pre ++
        (if (n.clearOwed k).owedC || (n.clearOwed k).owedS then [n.clearOwed k] else []) ++ post := by
  obtain ⟨pre, post, hes, hpre⟩ := List.eq_append_cons_of_mem hn
  refine ⟨pre, post, hes, hpre, ?_⟩
  simp only [NoticeQueue.handed, hes]
  split
  · simp [List.replace_append_right hpre]
  · simp [List.erase_append_right _ hpre]

/-- A notice handed to one port leaves the other nothing new to choose: no entry becomes owed. -/
theorem NoticeQueue.choose_handed_eq_none {q : NoticeQueue} {k j : Port} {n : Notice} (hn : n ∈ q.entries)
    (h : q.choose j = none) : (q.handed k n).choose j = none := by
  rw [NoticeQueue.choose_eq_none_iff] at h ⊢
  have hmark : (n.clearOwed k).owed j = true → n.owed j = true := by
    cases k <;> cases j <;> simp [Notice.clearOwed, Notice.owed]
  have hpriority : (n.clearOwed k).priority = n.priority := by cases k <;> rfl
  obtain ⟨pre, post, hes, -, hhanded⟩ := NoticeQueue.handed_entries (k := k) hn
  intro m hm howed
  rw [hhanded] at hm
  simp only [List.mem_append] at hm
  rcases hm with (hm | hm) | hm
  · exact h m (by simp [hes, hm]) howed
  · split at hm
    · obtain rfl := List.mem_singleton.mp hm
      exact hpriority ▸ h n hn (hmark howed)
    · cases hm
  · exact h m (by simp [hes, hm]) howed

theorem NoticeQueue.mem_of_choose {q : NoticeQueue} {k : Port} {n : Notice} (h : q.choose k = some n) :
    n ∈ q.entries := by
  obtain ⟨pre, post, hes, -⟩ := chooseBy_spec h
  simp [hes]

/-- Asking one port leaves the other as it is. -/
theorem State.ctl_ask_of_ne (s : State) {j k : Port} (h : j ≠ k) : (s.ask k).ctl.get j = s.ctl.get j := by
  simp only [State.ask, State.sendNext, State.sendNotice]
  (repeat' split) <;> simp [h]

theorem State.portIdle_ask_of_ne {s : State} {j k : Port} (hjk : j ≠ k) (h : s.PortIdle j) : (s.ask k).PortIdle j := by
  have hchoose : s.notices.choose j = none → (s.ask k).notices.choose j = none := by
    intro hj
    simp only [State.ask, State.sendNext, State.sendNotice]
    (repeat' split) <;> try exact hj
    next hn => exact NoticeQueue.choose_handed_eq_none (NoticeQueue.mem_of_choose hn) hj
  unfold State.PortIdle
  rw [s.ctl_ask_of_ne hjk]
  exact fun htx => ⟨(h htx).1, fun hr => hchoose ((h htx).2 hr)⟩

/-- R204: once both transmitters have been asked, no free one has anything to send. -/
theorem State.transmittersOk_transmit (s : State) : s.transmit.TransmittersOk := by
  intro k
  cases k with
  | C => exact State.portIdle_ask_of_ne (by decide) (s.portIdle_ask .C)
  | S => exact (s.ask .C).portIdle_ask .S

theorem State.flagsOk_ended (u : State) (q : List Instr) : (u.ended q).FlagsOk :=
  State.transmit_keeps (P := State.FlagsOk) (fun _ _ _ h => h) rfl

/-- Settles O2: the end of an event hands the flags over and asks the transmitters. -/
theorem everyCommandCompletes : Obligations.EveryCommandCompletes := fun c s =>
  ⟨_, exec_eq_ended c s, by simp [State.ended], State.flagsOk_ended _ _, State.transmittersOk_transmit _⟩

/-- Settles O7: the arms of a transmitter that is asked, each by its own lemma. -/
theorem transmitterSendsReplyOrNotice : Obligations.TransmitterSendsReplyOrNotice := by
  refine ⟨fun dt k s hdone => ?free, fun s q => rfl, fun s => rfl, fun k s => ⟨fun x => State.ask_of_sending,
    fun e es r => State.ask_of_ready, fun e es => State.ask_of_waiting, fun n htx hr hn => ?notice, State.ask_of_none⟩⟩
  case free =>
    rw [exec_eq_ended]
    have hno : ((s.advance dt).ctl.get k).tx.any (fun x => x.restartDone) = false := by
      cases htx : (s.ctl.get k).tx with
      | none => simp [htx]
      | some x => simp [htx, hdone x htx]
    simp only [effect, State.transmitterFree, hno]
    rfl
  case notice =>
    obtain ⟨pre, post, hes, hpre, hhanded⟩ := NoticeQueue.handed_entries (k := k) (NoticeQueue.mem_of_choose hn)
    refine ⟨pre, post, hes, hpre, ?_⟩
    rw [State.ask_of_notice htx hr hn]
    have hqueue : s.notices.handed k n = { s.notices with
        entries := (s.notices.handed k n).entries, lost := s.notices.lost.set k 0 } := rfl
    rw [hqueue, hhanded]
    cases k <;> simp [State.setPort, Notice.clearOwed]

end Machine
end Sys2Proof
end

section
/-! PROOFS. The resets: the state after power-on, and what each kind of reset gives and keeps (R1, R41, R117, R161, R180, R183). -/

namespace Sys2Proof
namespace Machine

/-- Settles O3: each invariant by its own clause, on the one concrete state. -/
theorem resetMeetsInvariants : Obligations.ResetMeetsInvariants := by
  refine ⟨?sequence, ?doors, ?severity, ?queues, ?tickets, ?counts, ?expectations, ?reserved, ?flags, ?transmitters⟩
  case sequence => exact ⟨rfl, rfl, by decide, by decide⟩
  case doors => rintro ⟨c, i⟩ h; cases c <;> cases i <;> cases h
  case severity => rfl
  case queues => exact ⟨by decide, fun k => by cases k <;> decide⟩
  case tickets => exact ⟨by decide, by decide⟩
  case counts => exact ⟨by decide, by decide, by decide, fun c => by cases c <;> decide⟩
  case expectations => exact fun _ => ⟨rfl, rfl⟩
  case reserved =>
    have hnone : State.reset.gates.gates = [] := rfl
    refine ⟨by simp [hnone], by simp [hnone], by simp [hnone], fun _ => hnone, fun c => ?_⟩
    cases c <;> exact ⟨by rfl, by rfl⟩
  case flags => rfl
  case transmitters =>
    intro k hfree
    cases k with
    | C => cases hfree
    | S => exact ⟨(fun e es h => by cases h), fun _ => rfl⟩

/-! ### The notices of POWER_ON and RESET_LINE (R180, R183) -/

/-- The notice queue of a reset that gives the settings their defaults. -/
def NoticeQueue.afterReset (es : List Notice) : NoticeQueue := ⟨es, Settings.default, .const 0, .const 0⟩

/-- The entry of MODE STARTED at a reset. -/
def startedEntry (body : List Field) : Notice := ⟨.mode, 1, 0, body, 8, true, false, true, false⟩

/-- The entry of SEVERITY at a reset. -/
def severityEntry (body : List Field) : Notice := ⟨.severity, 0, 0, body, 12, true, false, true, false⟩

/-- The ports once port C has begun to send MODE STARTED. -/
def startedPorts (body : List Field) : PerPort PortState :=
  ⟨{ PortState.afterReset with tx := some ⟨noticeFrame (startedEntry body) 0, false⟩ }, PortState.afterReset⟩

/-- MODE STARTED, alone in the emptied queue, is what port C begins to send. -/
theorem State.transmit_started (b : State) (hnow : b.now = 0) (hctl : b.ctl = .const PortState.afterReset)
    (hnotices : b.notices = .afterReset []) (body : List Field) :
    (b.notice .mode 1 body).transmit = { b with ctl := startedPorts body, notices := .afterReset [] } := by
  have hqueue : (b.notice .mode 1 body).notices = .afterReset [startedEntry body] := by
    rw [State.notice_notices, hnow, hnotices]
    rfl
  have hhanded : (NoticeQueue.afterReset [startedEntry body]).handed .C (startedEntry body) = .afterReset [] := by
    simp only [NoticeQueue.handed, NoticeQueue.afterReset, List.erase_cons_head]
    rfl
  have hC : (b.notice .mode 1 body).ask .C = { b with ctl := startedPorts body, notices := .afterReset [] } := by
    rw [State.ask_of_notice (n := startedEntry body) (by simp [hctl]; rfl) (by simp [hctl]; rfl) (by rw [hqueue]; rfl),
      hqueue, hhanded, State.notice]
    simp only [hctl]
    rfl
  rw [State.transmit, hC]
  exact State.ask_of_none rfl rfl rfl

/-- With port C sending and SEVERITY owed to no other port, asking the transmitters changes nothing. -/
theorem State.transmit_of_started (b : State) {started sev : List Field} (hctl : b.ctl = startedPorts started)
    (hnotices : b.notices = .afterReset [severityEntry sev]) : b.transmit = b := by
  obtain ⟨⟩ := b
  subst hctl hnotices
  rfl

/-- The fields of MODE STARTED at a reset (R180). -/
def startedBody (k : ResetKind) (l : LineStatus) : List Field := [.code k.code, .code l.mode.code, .code l.reported.code]

/-- POWER_ON and RESET_LINE: every block at its value, STARTED on port C, SEVERITY in the queue. -/
theorem State.doReset_ended {k : ResetKind} (hk : k ≠ .restart) (s : State) (i : Inputs) (q : List Instr)
    (hsev : (s.resetBlocks k i).line.reported ≠ .clear) : ∃ sev,
    (s.doReset k i).ended q = { s.resetBlocks k i with
      line := { (s.resetBlocks k i).line with flags := (s.resetBlocks k i).flagsNow }
      ctl := startedPorts (startedBody k (s.resetBlocks k i).line)
      notices := .afterReset [severityEntry sev]
      pending := q } ∧
    sev = severityBody .clear (s.resetBlocks k i).line.reported (s.resetBlocks k i).line.conds.highest
      (s.resetBlocks k i).line.conds := by
  refine ⟨_, ?_, rfl⟩
  have hnotices : (s.resetBlocks k i).notices = .afterReset [] := by
    cases k with
    | restart => exact absurd rfl hk
    | _ => rfl
  have hkind : (k == .restart) = false := by simpa using hk
  have hreport : ((s.resetBlocks k i).line.reported != .clear) = true := by simpa using hsev
  have hreset : s.doReset k i = { s.resetBlocks k i with
      ctl := startedPorts (startedBody k (s.resetBlocks k i).line)
      notices := .afterReset [severityEntry (severityBody .clear (s.resetBlocks k i).line.reported
        (s.resetBlocks k i).line.conds.highest (s.resetBlocks k i).line.conds)] } := by
    simp only [State.doReset, State.resetReport, hkind, hreport, Bool.false_and]
    rw [State.transmit_started _ rfl rfl hnotices]
    rfl
  rw [hreset]
  exact State.transmit_of_started _ rfl rfl

/-- The conditions a reset without isolated doors leaves, by the trip record it keeps. -/
theorem reported_resetConditions (l : LineStatus) (tripValid : Bool) (hconds : l.conds = resetConditions tripValid false)
    (hmemory : l.memory = l.conds.level) : l.reported = if tripValid then .fatal else .degraded := by
  rw [LineStatus.reported, hmemory, hconds]
  cases tripValid <;> rfl

/-- After POWER_ON and RESET_LINE no door is isolated. -/
theorem State.anyIsolated_resetDoors {k : ResetKind} (hk : k ≠ .restart) (s : State) :
    (s.resetDoors k).anyIsolated = false := by
  cases k with
  | restart => exact absurd rfl hk
  | _ => rfl

theorem State.conds_resetBlocks {k : ResetKind} (hk : k ≠ .restart) (s : State) (i : Inputs) :
    (s.resetBlocks k i).line.conds = resetConditions (s.resetTrip k).isSome false :=
  congrArg (resetConditions _) (s.anyIsolated_resetDoors hk)

theorem State.reported_resetBlocks {k : ResetKind} (hk : k ≠ .restart) (s : State) (i : Inputs) :
    (s.resetBlocks k i).line.reported = if (s.resetTrip k).isSome then .fatal else .degraded :=
  reported_resetConditions _ _ (s.conds_resetBlocks hk i) rfl

/-- The frame of MODE STARTED at POWER_ON, with its check. -/
theorem startedPorts_powerOn : startedPorts [.code 0, .code 0, .code 1] = State.reset.ctl := by
  have hframe : noticeFrame (startedEntry [.code 0, .code 0, .code 1]) 0 =
      [0xA5#8, 0x0B#8, 0x00#8, 0xF0#8, 0x0D#8, 0x00#8, 0x01#8, 0x00#8, 0x00#8, 0x00#8, 0x00#8, 0x00#8, 0x00#8, 0x01#8,
        0x02#8, 0x01#8] := by decide +kernel
  rw [startedPorts, hframe]
  rfl

/-- Settles O4: the blocks hold their values after power-on by computation, and the two notices by the lemmas above. -/
theorem powerOnGivesResetState : Obligations.PowerOnGivesResetState := by
  intro pins s
  have hreported : (s.resetBlocks .powerOn pins).line.reported = .degraded :=
    State.reported_resetBlocks (by decide) s pins
  obtain ⟨sev, hended, rfl⟩ := State.doReset_ended (k := .powerOn) (by decide) s pins s.pending (by simp [hreported])
  have hbody : startedBody .powerOn (s.resetBlocks .powerOn pins).line = [.code 0, .code 0, .code 1] := by
    rw [startedBody, hreported]
    rfl
  rw [exec_eq_ended, effect, hended, hbody, startedPorts_powerOn]
  rfl

/-- Settles O5: as at power-on, but for the count, the trip record and the levels of the inputs. -/
theorem resetLineKeepsCountAndTrip : Obligations.ResetLineKeepsCountAndTrip := by
  intro s
  have hreported : (s.resetBlocks .resetLine s.levels).line.reported =
      if s.sup.trip.isSome then .fatal else .degraded := State.reported_resetBlocks (by decide) s s.levels
  obtain ⟨sev, hended, -⟩ := State.doReset_ended (k := .resetLine) (by decide) s s.levels s.pending (by
    rw [hreported]; split <;> simp)
  refine ⟨_, exec_eq_ended _ _, ?_⟩
  rw [effect, hended]
  refine ⟨rfl, rfl, rfl, rfl, rfl, rfl, rfl, rfl, rfl, rfl, ?ports, ⟨rfl, rfl, rfl, rfl⟩, rfl, rfl, rfl, rfl, rfl,
    ?memory, rfl, rfl, rfl, rfl, rfl, ⟨sev, rfl⟩, rfl, rfl⟩
  case ports =>
    simp only [startedPorts, startedBody, hreported]
    cases h : s.sup.trip <;> rfl
  case memory =>
    have hmemory : (s.resetBlocks .resetLine s.levels).line.memory =
        (resetConditions s.sup.trip.isSome false).level := rfl
    rw [hmemory]
    cases h : s.sup.trip <;> rfl

end Machine
end Sys2Proof
end

section
/-! PROOFS. The control of a device: the outputs and the sequence of the Brake Controller, the state of the run, the trip
record and the escalation watch, whether a door is commanded RELEASE, and STILL. The moves of it that one event can make, and the
invariants every move keeps. -/

namespace Sys2Proof
namespace Machine

structure Control where
  sbr : Bool
  ebr : Bool
  ten : Bool
  seq : SeqState
  abort : Bool
  torque : Bool
  run : Option RunState
  record : Option TripRec
  watch : Option EscWatch
  released : Bool
  still : Bool
  now : Time

/-- Some door is commanded RELEASE. -/
def Doors.anyReleased (d : Doors) : Bool := Door.all.any (fun x => (d.door x).release)

/-- The control of a state. -/
def State.control (s : State) : Control where
  sbr := s.brk.sbr
  ebr := s.brk.ebr
  ten := s.brk.ten
  seq := s.brk.seq
  abort := s.brk.abort.isSome
  torque := s.brk.torque.isSome
  run := s.plan.run.map (fun r => r.state)
  record := s.sup.trip
  watch := s.brk.watch
  released := s.doors.anyReleased
  still := s.trk.still
  now := s.now

/-- A trip record `y` that keeps what the record `x` says (R108, R109). -/
structure TripRec.Same (x y : TripRec) : Prop where
  cause : y.cause = x.cause
  track : y.track = x.track
  fig : y.fig = x.fig
  highest : x.highest.isSome = true → y.highest = x.highest

theorem TripRec.Same.refl (x : TripRec) : x.Same x := ⟨rfl, rfl, rfl, fun _ => rfl⟩

theorem TripRec.Same.trans {x y z : TripRec} (h : x.Same y) (h' : y.Same z) : x.Same z where
  cause := h'.cause.trans h.cause
  track := h'.track.trans h.track
  fig := h'.fig.trans h.fig
  highest := fun hx => (h'.highest (by rw [h.highest hx]; exact hx)).trans (h.highest hx)

theorem TripRec.same_escalate (x : TripRec) (e : EscCause) : x.Same (x.escalate e) where
  cause := rfl
  track := rfl
  fig := rfl
  highest := fun hx => by cases h : x.highest <;> simp_all [TripRec.escalate]

@[simp] theorem TripRec.escalate_highest_isSome (x : TripRec) (e : EscCause) : (x.escalate e).highest.isSome = true := by
  cases h : x.highest <;> simp [TripRec.escalate, h]

namespace Control

/-- TEN dropped and the sequence at rest, under a run that has become `run`. -/
def rested (c : Control) (run : Option RunState) : Control :=
  { c with ten := false, seq := .rest, abort := false, torque := false, run := run }

/-- An emergency: every output dropped, the run TRIPPED, the record valid. -/
def tripped (c : Control) (y : TripRec) (w : Option EscWatch) : Control :=
  { c.rested (c.run.map (fun _ => .tripped)) with sbr := false, ebr := false, record := some y, watch := w }

/-- A start sequence begun for a run that enters STARTING. -/
def started (c : Control) : Control :=
  { c with ten := true, seq := .torqueWait, torque := true, run := some .starting }

/-- The release outputs switched on. -/
def releasing (c : Control) : Control := { c with sbr := true, ebr := true, seq := .releaseWait, torque := false }

/-- The release outputs switched off, going to the sequence state `q`. -/
def applying (c : Control) (q : SeqState) : Control := { c with sbr := false, ebr := false, seq := q }

/-- `run` follows a run in state `x` whose sequence has ended: it is one of `ys`, and no other run changes. -/
def Follows (x : RunState) (ys : List (Option RunState)) (before after : Option RunState) : Prop :=
  (before = some x ∧ after ∈ ys) ∨ (before ≠ some x ∧ after = before)

/-- The moves of the control within an event, but for a departure, the release of the brakes and the clearing of a trip. -/
inductive Step : Control → Control → Prop
  | hold (c : Control) (x : RunState) : c.run = some x → x.moving = true → Step c { c with run := some .braking }
  | trip (c : Control) (y : TripRec) (w : Option EscWatch) : (∀ x, c.record = some x → x.Same y) →
      (w = none → y.highest.isSome = true) → (∀ v, w = some v → c.watch = some v ∨ v.start = c.now) →
      Step c (c.tripped y w)
  | escalate (c : Control) (e : EscCause) :
      Step c { c with record := c.record.map (fun x => x.escalate e), watch := none }
  | unwatch (c : Control) (v : EscWatch) : c.watch = some v → 1000 ≤ elapsed v.start c.now →
      Step c { c with watch := none }
  | close (c : Control) (x : RunState) : c.run = some x → x = .planned ∨ x = .holding ∨ x = .tripped →
      Step c { c with run := none }
  | plan (c : Control) : c.run = none → c.record = none → Step c { c with run := some .planned, released := false }
  | resume (c : Control) : c.run = some .holding → Step c c.started
  | go (c : Control) (run : Option RunState) : c.seq = .releaseWait →
      Follows .starting [some .accelerating, some .braking] c.run run → Step c { c with seq := .moving, run := run }
  | abort (c : Control) : c.seq = .releaseWait → Step c { c.applying .abortWait with abort := true }
  | fail (c : Control) (run : Option RunState) : c.seq = .torqueWait ∨ c.seq = .abortWait →
      Follows .starting [none, some .planned, some .holding] c.run run → Step c (c.rested run)
  | phase (c : Control) (x y : RunState) : c.run = some x → x.moving = true → y.moving = true → c.seq = .moving →
      Step c { c with run := some y }
  | stop (c : Control) : c.run = some .braking → c.seq = .moving → Step c (c.applying .stopWait)
  | stopped (c : Control) (run : Option RunState) : c.seq = .stopWait →
      Follows .braking [none, some .holding] c.run run → Step c (c.rested run)
  | grant (c : Control) : c.run = none → c.still = true → c.ten = false → Step c { c with released := true }
  | lock (c : Control) : Step c { c with released := false }

/-- Moves of one event. -/
abbrev Moves : Control → Control → Prop := Relation.ReflTransGen Step

/-- A property that every move keeps, moves keep. -/
theorem Moves.keeps {P : Control → Prop} (hstep : ∀ c d, Step c d → P c → P d) {c d : Control} (h : Moves c d)
    (hc : P c) : P d := by
  induction h with
  | refl => exact hc
  | tail _ hd ih => exact hstep _ _ hd ih

/-- The table of sequence states: the outputs of each, the runs that go with it, and what runs in it alone. -/
inductive Ok : Control → Prop
  | rest (run : Option RunState) (t : Option TripRec) (w : Option EscWatch) (d x : Bool) (n : Time) :
      run = none ∨ run = some .planned ∨ run = some .holding ∨ run = some .tripped →
      Ok ⟨false, false, false, .rest, false, false, run, t, w, d, x, n⟩
  | torqueWait (t : Option TripRec) (w : Option EscWatch) (d x : Bool) (n : Time) :
      Ok ⟨false, false, true, .torqueWait, false, true, some .starting, t, w, d, x, n⟩
  | releaseWait (t : Option TripRec) (w : Option EscWatch) (d x : Bool) (n : Time) :
      Ok ⟨true, true, true, .releaseWait, false, false, some .starting, t, w, d, x, n⟩
  | moving (run : RunState) (t : Option TripRec) (w : Option EscWatch) (d x : Bool) (n : Time) : run.moving = true →
      Ok ⟨true, true, true, .moving, false, false, some run, t, w, d, x, n⟩
  | stopWait (t : Option TripRec) (w : Option EscWatch) (d x : Bool) (n : Time) :
      Ok ⟨false, false, true, .stopWait, false, false, some .braking, t, w, d, x, n⟩
  | abortWait (t : Option TripRec) (w : Option EscWatch) (d x : Bool) (n : Time) :
      Ok ⟨false, false, true, .abortWait, true, false, some .starting, t, w, d, x, n⟩

theorem ok_iff (s : State) : s.SequenceOk ↔ s.control.Ok := by
  have hrun : ∀ p : RunState → Bool, s.plan.run.any (fun r => p r.state) = (s.plan.run.map (fun r => r.state)).any p :=
    fun p => by cases s.plan.run <;> rfl
  have hall : ∀ p : RunState → Bool, s.plan.run.all (fun r => p r.state) = (s.plan.run.map (fun r => r.state)).all p :=
    fun p => by cases s.plan.run <;> rfl
  unfold State.SequenceOk Brakes.outputsOk runFits
  rw [hrun (fun x => x == .starting), hrun (fun x => x == .braking), hrun (fun x => x.moving),
    hall (fun x => x == .planned || x == .holding || x == .tripped)]
  simp only [State.control]
  generalize s.plan.run.map (fun r => r.state) = run, s.brk.sbr = sbr, s.brk.ebr = ebr, s.brk.ten = ten,
    s.brk.abort.isSome = abort, s.brk.torque.isSome = torque, s.brk.seq = seq
  constructor
  · rintro ⟨hout, hfits, habort, htorque⟩
    cases seq <;> cases run <;> simp [and_assoc] at hout hfits habort htorque <;>
      obtain ⟨rfl, rfl, rfl⟩ := hout <;> subst habort htorque
    case rest.none => exact .rest _ _ _ _ _ _ (.inl rfl)
    case rest.some x => exact .rest _ _ _ _ _ _ (by simpa [or_assoc] using hfits)
    case moving.some x => exact .moving _ _ _ _ _ _ hfits
    all_goals subst hfits; constructor
  · generalize hc : Control.mk _ _ _ _ _ _ _ _ _ _ _ _ = c
    rintro (⟨_, _, _, _, _, _, h⟩ | _ | _ | ⟨_, _, _, _, _, _, h⟩ | _ | _) <;> cases hc
    case mpr.rest.refl => rcases h with rfl | rfl | rfl | rfl <;> decide
    case mpr.moving.refl => simp [h]
    all_goals decide

theorem Step.keeps_ok {c d : Control} (h : Step c d) (hc : c.Ok) : d.Ok := by
  cases h with
  | hold x hx hm =>
    cases hc with
    | rest _ _ _ _ _ _ hr => rcases hr with rfl | rfl | rfl | rfl <;> cases hx <;> cases hm
    | moving => exact .moving _ _ _ _ _ _ rfl
    | stopWait => exact .stopWait _ _ _ _ _
    | _ => cases hx; cases hm
  | trip =>
    cases hc with
    | rest _ _ _ _ _ _ hr => exact .rest _ _ _ _ _ _ (by rcases hr with rfl | rfl | rfl | rfl <;> simp [rested])
    | _ => exact .rest _ _ _ _ _ _ (.inr (.inr (.inr rfl)))
  | escalate => cases hc <;> constructor <;> assumption
  | unwatch => cases hc <;> constructor <;> assumption
  | lock => cases hc <;> constructor <;> assumption
  | close x hx hy =>
    cases hc with
    | rest => exact .rest _ _ _ _ _ _ (.inl rfl)
    | moving _ _ _ _ _ _ hm => cases hx; rcases hy with rfl | rfl | rfl <;> cases hm
    | _ => cases hx; simp at hy
  | plan hx _ =>
    cases hc with
    | rest => exact .rest _ _ _ _ _ _ (.inr (.inl rfl))
    | _ => cases hx
  | resume hx =>
    cases hc with
    | rest => exact .torqueWait _ _ _ _ _
    | moving _ _ _ _ _ _ hm => cases hx; cases hm
    | _ => cases hx
  | go run hseq hr =>
    cases hc <;> cases hseq
    rcases hr with ⟨-, hr⟩ | ⟨hne, -⟩
    · have : run = some .accelerating ∨ run = some .braking := by simpa using hr
      rcases this with rfl | rfl <;> exact .moving _ _ _ _ _ _ rfl
    · exact absurd rfl hne
  | abort hseq => cases hc <;> cases hseq; exact .abortWait _ _ _ _ _
  | fail run hseq hr =>
    cases hc <;> simp only [reduceCtorEq, or_self] at hseq
    all_goals
      rcases hr with ⟨-, hr⟩ | ⟨hne, -⟩
      · have : run = none ∨ run = some .planned ∨ run = some .holding := by simpa using hr
        exact .rest _ _ _ _ _ _ (by tauto)
      · exact absurd rfl hne
  | phase x y hx hm hy hseq => cases hc <;> cases hseq; exact .moving _ _ _ _ _ _ hy
  | stop hx hseq => cases hc <;> cases hseq; cases hx; exact .stopWait _ _ _ _ _
  | stopped run hseq hr =>
    cases hc <;> cases hseq
    rcases hr with ⟨-, hr⟩ | ⟨hne, -⟩
    · have : run = none ∨ run = some .holding := by simpa using hr
      exact .rest _ _ _ _ _ _ (by tauto)
    · exact absurd rfl hne
  | grant hx _ _ =>
    cases hc with
    | rest => exact .rest _ _ _ _ _ _ (.inl hx)
    | _ => cases hx

/-- A valid trip record finds the outputs dropped and the run IDLE or TRIPPED. -/
def TripOk (c : Control) : Prop :=
  c.record.isSome = true → c.sbr = false ∧ c.ebr = false ∧ c.ten = false ∧ c.seq = .rest ∧
    (c.run = none ∨ c.run = some .tripped)

theorem Step.keeps_tripOk {c d : Control} (h : Step c d) (hc : c.TripOk) : d.TripOk := by
  intro ht
  cases h with
  | trip => exact ⟨rfl, rfl, rfl, rfl, by cases hrun : c.run <;> simp [tripped, rested, hrun]⟩
  | escalate => exact hc (by simpa using ht)
  | unwatch => exact hc ht
  | plan _ hno => rw [hno] at ht; cases ht
  | lock => exact hc ht
  | grant => exact hc ht
  | _ =>
    obtain ⟨h1, h2, h3, hseq, hrun⟩ := hc ht
    simp_all [started, RunState.moving]

/-- A valid trip record keeps what it says. -/
theorem Step.keeps_record {c d : Control} (h : Step c d) {x : TripRec} (hx : c.record = some x) :
    ∃ y, d.record = some y ∧ x.Same y := by
  cases h with
  | trip y _ hy => exact ⟨y, rfl, hy x hx⟩
  | escalate e => exact ⟨x.escalate e, by simp [hx], x.same_escalate e⟩
  | plan _ hno => rw [hno] at hx; cases hx
  | _ => exact ⟨x, hx, .refl x⟩

/-- In the event that writes a trip record the watch starts, or an escalation stops it: it runs only under a record, and was
started in the event unless the record is escalated. -/
def WatchOk (c : Control) : Prop :=
  (c.record = none → c.watch = none) ∧
    ∀ y, c.record = some y → y.highest.isSome = true ∨ ∃ v, c.watch = some v ∧ v.start = c.now

theorem Step.keeps_watchOk {c d : Control} (h : Step c d) (hc : c.WatchOk) : d.WatchOk := by
  obtain ⟨hnone, hsome⟩ := hc
  cases h with
  | trip y w hsame hlevel hfresh =>
    refine ⟨fun hno => absurd hno (by simp [tripped]), fun z hz => ?_⟩
    obtain rfl : y = z := by simpa [tripped] using hz
    cases w with
    | none => exact .inl (hlevel rfl)
    | some v =>
      rcases hfresh v rfl with hold | hnow
      · cases hrec : c.record with
        | none => rw [hnone hrec] at hold; cases hold
        | some x =>
          rcases hsome x hrec with hesc | ⟨v', hv', hstart⟩
          · exact .inl (by rw [(hsame x hrec).highest hesc]; exact hesc)
          · exact .inr ⟨v, rfl, by rw [hold] at hv'; cases hv'; exact hstart⟩
      · exact .inr ⟨v, rfl, hnow⟩
  | escalate e =>
    refine ⟨fun _ => rfl, fun z hz => ?_⟩
    obtain ⟨x, -, rfl⟩ := Option.map_eq_some_iff.1 hz
    exact .inl (by simp)
  | unwatch v hv hold =>
    refine ⟨fun _ => rfl, fun z hz => ?_⟩
    rcases hsome z hz with hesc | ⟨v', hv', hstart⟩
    · exact .inl hesc
    · rw [hv] at hv'
      cases hv'
      rw [hstart] at hold
      simp [elapsed] at hold
  | _ => exact ⟨hnone, hsome⟩

/-- No door is commanded RELEASE with a run or under TEN. -/
def DoorsOk (c : Control) : Prop := c.released = true → c.run = none ∧ c.ten = false

theorem Step.keeps_doorsOk {c d : Control} (h : Step c d) (hc : c.DoorsOk) : d.DoorsOk := by
  intro hr
  cases h with
  | plan => cases hr
  | lock => cases hr
  | grant hrun _ hten => exact ⟨hrun, hten⟩
  | trip => obtain ⟨hrun, -⟩ := hc hr; simp [tripped, rested, hrun]
  | escalate => exact hc hr
  | unwatch => exact hc hr
  | close => exact ⟨rfl, (hc hr).2⟩
  | _ =>
    obtain ⟨hrun, hten⟩ := hc hr
    simp_all [applying, rested, Follows]

/-- A door commanded RELEASE finds STILL set. -/
def StillOk (c : Control) : Prop := c.released = true → c.still = true

theorem Step.keeps_stillOk {c d : Control} (h : Step c d) (hc : c.StillOk) : d.StillOk := by
  intro hr
  cases h with
  | plan => cases hr
  | lock => cases hr
  | grant hrun hstill => exact hstill
  | _ => exact hc hr

/-- No move switches a release output on. -/
theorem Step.outputs_fall {c d : Control} (h : Step c d) : (d.sbr = true → c.sbr = true) ∧ (d.ebr = true → c.ebr = true) := by
  cases h <;> simp [tripped, rested, started, applying]

/-- A run that is IDLE, PLANNED or TRIPPED enters no other state by these moves. -/
theorem Step.keeps_unstarted {c d : Control} (h : Step c d) (hc : c.run = none ∨ c.run = some .planned ∨ c.run = some .tripped) :
    d.run = none ∨ d.run = some .planned ∨ d.run = some .tripped := by
  cases h with
  | trip => rcases hc with h | h | h <;> simp [tripped, rested, h]
  | go run _ hr => rcases hr with ⟨h, -⟩ | ⟨-, rfl⟩ <;> simp_all
  | fail run _ hr => rcases hr with ⟨h, -⟩ | ⟨-, rfl⟩ <;> simp_all [rested]
  | stopped run _ hr => rcases hr with ⟨h, -⟩ | ⟨-, rfl⟩ <;> simp_all [rested]
  | hold x hx hm => rcases hc with h | h | h <;> rw [h] at hx <;> cases hx <;> cases hm
  | phase x y hx hm => rcases hc with h | h | h <;> rw [h] at hx <;> cases hx <;> cases hm
  | _ => simp_all [applying]

end Control
end Machine
end Sys2Proof
end

section
/-! PROOFS. The operations that leave the control of a device as it is, and the moves that the operations of the Run Planner
and the Brake Controller make of it. -/

namespace Sys2Proof
namespace Machine

/-! ### What leaves the control as it is -/

@[simp] theorem State.advance_control (s : State) (dt : Time) : (s.advance dt).control = { s.control with now := s.now + dt } := by
  simp [State.control]

@[simp] theorem State.notice_control (s : State) (c : NoticeClass) (k : Nat) (b : List Field) :
    (s.notice c k b).control = s.control := by simp [State.control]

@[simp] theorem State.noticeIf_control (s : State) (x : Bool) (c : NoticeClass) (k : Nat) (b : List Field) :
    (s.noticeIf x c k b).control = s.control := by simp [State.control]

@[simp] theorem State.handOver_control (s : State) (c : Condition) (b : Bool) :
    (s.handOver c b).control = s.control := by simp [State.control]

@[simp] theorem State.evalAtStop_control (s : State) : s.evalAtStop.control = s.control := by simp [State.control]

@[simp] theorem State.brakeCondition_control (s : State) : s.brakeCondition.control = s.control := by
  simp [State.control]

@[simp] theorem State.trackCondition_control (s : State) : s.trackCondition.control = s.control := by
  simp [State.control]

@[simp] theorem State.runChanged_control (s : State) : s.runChanged.control = s.control := by simp [State.control]

@[simp] theorem State.warningExit_control (s : State) : s.warningExit.control = s.control := by simp [State.control]

@[simp] theorem State.dropEnvelope_control (s : State) : s.dropEnvelope.control = s.control := by simp [State.control]

@[simp] theorem State.freeze_control (s : State) : s.freeze.control = s.control := by simp [State.control]

@[simp] theorem State.unfreeze_control (s : State) : s.unfreeze.control = s.control := by simp [State.control]

@[simp] theorem State.closeLead_control (s : State) (c : Car) : (s.closeLead c).control = s.control := by
  simp [State.control]

@[simp] theorem State.closeStation_control (s : State) (n : Nat) (e : GateEvent) :
    (s.closeStation n e).control = s.control := by simp [State.control]

@[simp] theorem State.closeAll_control (s : State) : s.closeAll.control = s.control := by simp [State.control]

@[simp] theorem State.holdSetNotice_control (s : State) (p : StopPoint) : (s.holdSetNotice p).control = s.control := by
  simp [State.control]

@[simp] theorem State.holdReachedBy_control (s : State) (c : HoldCause) : (s.holdReachedBy c).control = s.control := by
  simp [State.control]

@[simp] theorem State.setRef_control (s : State) (x : Int) : (s.setRef x).control = s.control := by simp [State.control]

@[simp] theorem State.setBand_control (s : State) (b : BandRec) : (s.setBand b).control = s.control := by
  simp [State.control]

@[simp] theorem State.setTrack_control (s : State) (c : Car) (t : TrackRec) : (s.setTrack c t).control = s.control := by
  simp [State.control]

@[simp] theorem State.setLink_control (s : State) (c : Car) (l : CarLink) : (s.setLink c l).control = s.control := by
  simp [State.control]

@[simp] theorem State.releaseEvent_control (s : State) (c : Car) : (s.releaseEvent c).control = s.control := by
  simp [State.control]

@[simp] theorem State.returnSide_control (s : State) (c : Car) : (s.returnSide c).control = s.control := by
  simp [State.control, Doors.anyReleased, Doors.door]

@[simp] theorem State.failedCondition_control (s : State) : s.failedCondition.control = s.control := by
  simp [State.control]

@[simp] theorem State.closeEnded_control (s : State) (x : Door) : (s.closeEnded x).control = s.control := by
  simp [State.closeEnded]

@[simp] theorem State.closeFailed_control (s : State) (x : Door) : (s.closeFailed x).control = s.control := by
  simp [State.closeFailed]

theorem Option.map_state_map (o : Option Run) (f : Run → Run) (hf : ∀ r, (f r).state = r.state) :
    (o.map f).map (fun r => r.state) = o.map (fun r => r.state) := by
  cases o <;> simp [hf]

@[simp] theorem State.lowerCruise_control (s : State) : s.lowerCruise.control = s.control := by
  have hrun : s.lowerCruise.plan.run.map (fun r => r.state) = s.plan.run.map (fun r => r.state) :=
    Option.map_state_map _ _ (fun r => by split <;> rfl)
  simp [State.control, hrun]

@[simp] theorem State.raiseHighest_control (s : State) (b : Band) : (s.raiseHighest b).control = s.control := by
  unfold State.raiseHighest
  split
  · have hrun := Option.map_state_map s.plan.run (fun r => { r with highest := b }) (fun _ => rfl)
    simp only [State.control]
    rw [hrun]
    rfl
  · rfl

theorem State.escalate_trip (s : State) (e : EscCause) (y : EscSource) :
    (s.escalate e y).sup.trip = s.sup.trip.map (fun t => t.escalate e) := by
  simp only [State.escalate]
  split <;> simp

theorem State.escalate_watch (s : State) (e : EscCause) (y : EscSource) : (s.escalate e y).brk.watch = none := by
  simp [State.escalate]

theorem State.escalate_control (s : State) (e : EscCause) (y : EscSource) :
    (s.escalate e y).control = { s.control with record := s.control.record.map (fun x => x.escalate e), watch := none } := by
  simp [State.control, State.escalate_trip, State.escalate_watch]

@[simp] theorem State.tripNotice_control (s : State) (b : Bool) (c : Cause) (f : Figures) :
    (s.tripNotice b c f).control = s.control := by simp [State.control]

/-- Brakes that keep the outputs, the sequence and what runs in it keep the control. -/
theorem State.setBrakes_control {s : State} {b : Brakes}
    (h : b.sbr = s.brk.sbr ∧ b.ebr = s.brk.ebr ∧ b.ten = s.brk.ten ∧ b.seq = s.brk.seq ∧ b.abort = s.brk.abort ∧
      b.torque = s.brk.torque ∧ b.watch = s.brk.watch) : (s.setBrakes b).control = s.control := by
  obtain ⟨h1, h2, h3, h4, h5, h6, h7⟩ := h
  simp [State.control, h1, h2, h3, h4, h5, h6, h7]

/-- A run that stays in its state leaves the control as it is. -/
theorem State.setRun_control {s : State} {r r' : Run} (h : s.plan.run = some r) (hst : r'.state = r.state) :
    (s.setRun (some r')).control = s.control := by simp [State.control, h, hst]

@[simp] theorem State.enterRun_run (s : State) (b : Nat) (r : Run) (w : RunWhy) :
    (s.enterRun b r w).plan.run = some r := by simp [State.enterRun]

@[simp] theorem State.enterRun_control (s : State) (b : Nat) (r : Run) (w : RunWhy) :
    (s.enterRun b r w).control = { s.control with run := some r.state } := by simp [State.control]

@[simp] theorem State.closeRun_run (s : State) (r : Run) (o : RunOutcome) (y : CloseReason) (e : Option Int) :
    (s.closeRun r o y e).plan.run = none := by simp [State.closeRun]

@[simp] theorem State.closeRun_control (s : State) (r : Run) (o : RunOutcome) (y : CloseReason) (e : Option Int) :
    (s.closeRun r o y e).control = { s.control with run := none } := by simp [State.control]

theorem State.control_run {s : State} {r : Run} (h : s.plan.run = some r) : s.control.run = some r.state := by
  simp [State.control, h]

theorem State.tripRun_control (s : State) (c : Cause) :
    (s.tripRun c).control = { s.control with run := s.control.run.map (fun _ => .tripped) } := by
  unfold State.tripRun
  split
  next r hr =>
    split
    next hst => simp [State.control, hr, hst]
    next => simp [State.control, hr]
  next hr => simp [State.control, hr]

/-- The trip record after escalations found in turn. -/
def TripRec.escalateAll (x : TripRec) (es : List EscCause) : TripRec := es.foldl (fun x e => x.escalate e) x

theorem TripRec.same_escalateAll (x : TripRec) (es : List EscCause) : x.Same (x.escalateAll es) := by
  induction es generalizing x with
  | nil => exact .refl x
  | cons e es ih => exact (x.same_escalate e).trans (ih _)

theorem TripRec.escalateAll_highest {x : TripRec} {es : List EscCause} (h : es ≠ []) :
    (x.escalateAll es).highest.isSome = true := by
  cases es with
  | nil => exact absurd rfl h
  | cons e es =>
    have hfirst : (x.escalate e).highest.isSome = true := by simp
    rw [show x.escalateAll (e :: es) = (x.escalate e).escalateAll es from rfl,
      ((x.escalate e).same_escalateAll es).highest hfirst]
    exact hfirst

theorem TripRec.same_log (x : TripRec) (c : Cause) (f : Figures) (b : Bool) : x.Same (TripRec.log (some x) c f b) :=
  ⟨rfl, rfl, rfl, fun _ => rfl⟩

theorem State.escalateAll_control (es : List EscCause) (y : EscSource) (s : State) :
    (es.foldl (fun s e => s.escalate e y) s).control =
      { s.control with
        record := s.control.record.map (fun x => x.escalateAll es)
        watch := if es = [] then s.control.watch else none } := by
  induction es generalizing s with
  | nil => simp [TripRec.escalateAll]
  | cons e es ih =>
    rw [List.foldl_cons, ih, State.escalate_control]
    simp [TripRec.escalateAll, Function.comp_def]

theorem State.startWatch_control (s : State) (v : Int) :
    ∃ a, (s.startWatch v).control = { s.control with watch := s.control.watch.or (some ⟨s.now, mag v, a⟩) } := ⟨_, rfl⟩

/-- An emergency drops the outputs, trips the run, makes the trip record valid and sees to the escalation watch. -/
theorem State.emergency_step (s : State) (c : Cause) (f : Figures) : Control.Step s.control (s.emergency c f).control := by
  simp only [State.emergency, State.tripNotice_control, State.escalateAll_control, State.handOver_control]
  obtain ⟨a, hstarted⟩ := State.startWatch_control ((State.brakeCondition
    { s.setBrakes (s.brk.dropAll s.now) with drive := s.drive.stop }).tripRun c) f.v
  have hdropped : (State.control { s.setBrakes (s.brk.dropAll s.now) with drive := s.drive.stop }) =
      { s.control with sbr := false, ebr := false, ten := false, seq := .rest, abort := false, torque := false } := by
    simp [State.control, Brakes.dropAll]
  rw [State.tripRun_control, State.brakeCondition_control, hdropped] at hstarted
  generalize State.startWatch _ _ = u at hstarted ⊢
  have hcontrol : u.control =
      { s.control with
        sbr := false, ebr := false, ten := false, seq := .rest, abort := false, torque := false
        run := s.control.run.map (fun _ => .tripped), watch := s.control.watch.or (some ⟨s.now, mag f.v, a⟩) } := by
    rw [hstarted]
    simp
  generalize hes : u.escalations c = es
  have hrec : u.sup.trip = s.control.record := congrArg Control.record hcontrol
  generalize hz : TripRec.log u.sup.trip c f (!es.isEmpty) = z
  have hfinal : Control.Step s.control
      (s.control.tripped (z.escalateAll es)
        (if es = [] then s.control.watch.or (some ⟨s.now, mag f.v, a⟩) else none)) := by
    refine .trip _ _ _ (fun x hx => ?_) (fun hno => ?_) (fun v hv => ?_)
    · rw [hrec, hx] at hz
      exact (hz ▸ TripRec.same_log x c f _).trans (TripRec.same_escalateAll _ _)
    · refine TripRec.escalateAll_highest (fun hnil => ?_)
      rw [if_pos hnil] at hno
      cases hw : s.control.watch <;> simp [hw] at hno
    · split at hv
      · cases hw : s.control.watch with
        | none =>
          rw [hw] at hv
          obtain rfl : (⟨s.now, mag f.v, a⟩ : EscWatch) = v := by simpa using hv
          exact .inr rfl
        | some w => rw [hw] at hv; exact .inl hv
      · cases hv
  have hwatch : u.control.watch = s.control.watch.or (some ⟨s.now, mag f.v, a⟩) := congrArg Control.watch hcontrol
  refine (congrArg (Control.Step s.control) ?_).mp hfinal
  calc s.control.tripped (z.escalateAll es) (if es = [] then s.control.watch.or (some ⟨s.now, mag f.v, a⟩) else none)
      = { u.control with
          record := some (z.escalateAll es)
          watch := if es = [] then s.control.watch.or (some ⟨s.now, mag f.v, a⟩) else none } := by rw [hcontrol]; rfl
    _ = _ := by rw [← hwatch]; rfl

theorem State.raise_step (s : State) (c : Cause) : Control.Step s.control (s.raise c).control :=
  State.emergency_step { s with freeSeq := if s.sup.band.last.isSome then s.freeSeq else s.freeSeq + 1 } c s.lastFigures

/-- An event's operations move the control of `s` to that of `t`. -/
def State.Moves (s t : State) : Prop := Control.Moves s.control t.control

theorem State.Moves.refl (s : State) : s.Moves s := Relation.ReflTransGen.refl

theorem State.Moves.trans {s t u : State} (h : s.Moves t) (h' : t.Moves u) : s.Moves u := Relation.ReflTransGen.trans h h'

/-- What leaves the control as it is makes no move. -/
theorem State.Moves.quiet {s t u : State} (h : s.Moves t) (hu : u.control = t.control) : s.Moves u := by
  rw [State.Moves, hu]; exact h

theorem State.Moves.of_control {s t : State} (h : t.control = s.control) : s.Moves t := (State.Moves.refl s).quiet h

theorem State.Moves.step {s t u : State} (h : s.Moves t) (hu : Control.Step t.control u.control) : s.Moves u :=
  h.tail hu

theorem State.Moves.emergency {s t : State} (h : s.Moves t) (c : Cause) (f : Figures) : s.Moves (t.emergency c f) :=
  h.step (t.emergency_step c f)

theorem State.Moves.raise {s t : State} (h : s.Moves t) (c : Cause) : s.Moves (t.raise c) :=
  h.step (t.raise_step c)

theorem State.Moves.escalate {s t : State} (h : s.Moves t) (e : EscCause) (y : EscSource) : s.Moves (t.escalate e y) :=
  h.step (by rw [State.escalate_control]; exact .escalate _ e)

theorem State.Moves.sheaveTest {s t : State} (h : s.Moves t) : s.Moves t.sheaveTest := by
  unfold State.sheaveTest
  split
  · exact h.escalate _ _
  · exact h

/-- The escalation watch is tested once it is 1,000 ms old, and stops. -/
theorem State.Moves.decelTest {s t : State} (h : s.Moves t) : s.Moves t.decelTest := by
  simp only [State.decelTest]
  split
  · exact h
  next w hw =>
    split
    next hold =>
      split
      · exact h.escalate _ _
      · exact h.step (by exact .unwatch _ w hw hold)
    next => exact h

/-- A hold of a moving run makes it BRAKING, or only renames the cause of the stop it makes already. -/
theorem State.Moves.takeHold {s t : State} (h : s.Moves t) {r : Run} (hr : t.plan.run = some r)
    (hm : r.state.moving = true) (c : HoldCause) (v : Nat) : s.Moves (t.takeHold r c v) := by
  unfold State.takeHold
  split
  · exact h.quiet (State.setRun_control hr rfl)
  · exact h.step (by rw [State.enterRun_control]; exact .hold _ _ (State.control_run hr) hm)

theorem State.Moves.hold {s t : State} (h : s.Moves t) (c : HoldCause) : s.Moves (t.hold c) := by
  unfold State.hold
  split
  next r hr =>
    split
    next => exact h.quiet (State.setRun_control hr rfl)
    next hst => exact h.takeHold hr (by rw [hst]; rfl) _ _
    next hst => exact h.takeHold hr (by rw [hst]; rfl) _ _
    next hst => exact h.takeHold hr (by rw [hst]; rfl) _ _
    all_goals exact h
  next => exact h

/-- A PLANNED, HOLDING or TRIPPED run closes. -/
theorem State.Moves.closeRun {s t : State} (h : s.Moves t) {r : Run} (hr : t.plan.run = some r)
    (hst : r.state = .planned ∨ r.state = .holding ∨ r.state = .tripped) (o : RunOutcome) (y : CloseReason) (e : Option Int) :
    s.Moves (t.closeRun r o y e) :=
  h.step (by rw [State.closeRun_control]; exact .close _ _ (State.control_run hr) hst)

theorem State.Moves.closePlanned {s t : State} (h : s.Moves t) (y : CloseReason) : s.Moves (t.closePlanned y) := by
  unfold State.closePlanned
  split
  next r hr =>
    split
    next hst => exact h.closeRun hr (.inl hst) _ _ _
    next => exact h
  next => exact h

/-! ### The doors -/

theorem Doors.anyReleased_iff (d : Doors) : d.anyReleased = true ↔ ∃ x, (d.door x).release = true := by
  have hall : ∀ x : Door, x ∈ Door.all := by rintro ⟨c, i⟩; cases c <;> cases i <;> decide
  simp only [Doors.anyReleased, List.any_eq_true]
  exact ⟨fun ⟨x, _, h⟩ => ⟨x, h⟩, fun ⟨x, h⟩ => ⟨x, hall x, h⟩⟩

/-- Doors of which none comes to be commanded RELEASE. -/
theorem State.Moves.doors {s t u : State} (h : s.Moves t) (hu : u.control = { t.control with released := u.doors.anyReleased })
    (hd : ∀ x, (u.doors.door x).release = true → ∃ y, (t.doors.door y).release = true) : s.Moves u := by
  cases hrel : u.doors.anyReleased with
  | false => exact h.step (by rw [hu, hrel]; exact .lock _)
  | true =>
    have : t.control.released = true := by
      obtain ⟨x, hx⟩ := (Doors.anyReleased_iff _).1 hrel
      exact (Doors.anyReleased_iff _).2 (hd x hx)
    exact h.quiet (by rw [hu, hrel, ← this])

end Machine
end Sys2Proof
end

section
/-! PROOFS. The moves of the control that the operations on the doors make. -/

namespace Sys2Proof
namespace Machine

@[simp] theorem Doors.mapAll_door (d : Doors) (f : DoorRec → DoorRec) (x : Door) : (d.mapAll f).door x = f (d.door x) := by
  obtain ⟨c, i⟩ := x
  cases c <;> simp [Doors.mapAll, Doors.door, PerCar.get]

@[simp] theorem Doors.mapCar_door (d : Doors) (c : Car) (f : DoorRec → DoorRec) (x : Door) :
    (d.mapCar c f).door x = if x.car = c then f (d.door x) else d.door x := by
  simp only [Doors.mapCar, Doors.door, PerCar.get_set]
  split
  next h => rw [h, Quad.get_map]
  next => rfl

@[simp] theorem Doors.returnSide_door (d : Doors) (c : Car) (x : Door) : (d.returnSide c).door x = d.door x := rfl

theorem DoorRec.lock_release {d : DoorRec} {t : Time} (h : (d.lock t).release = true) : d.release = true := by
  unfold DoorRec.lock at h
  (repeat' split at h) <;> simp_all

@[simp] theorem DoorRec.lock_release_of_not {d : DoorRec} (t : Time) (h : d.release = false) : (d.lock t).release = false := by
  cases hl : (d.lock t).release with
  | false => rfl
  | true => exact absurd (DoorRec.lock_release hl) (by simp [h])

@[simp] theorem DoorRec.withdraw_release (d : DoorRec) : d.withdraw.release = false := rfl

@[simp] theorem DoorRec.leaveIdle_release (d : DoorRec) (t : Time) : (d.leaveIdle t).release = false := by
  unfold DoorRec.leaveIdle
  split
  · exact DoorRec.lock_release_of_not t rfl
  next h => exact DoorRec.lock_release_of_not t (by simpa using h)

@[simp] theorem DoorRec.withdrawClose_release (d : DoorRec) (t : Time) : (d.withdrawClose t).release = false := by
  unfold DoorRec.withdrawClose
  split
  · exact DoorRec.lock_release_of_not t rfl
  next h => simpa using h

/-- What a granted door finds (R121, R122). -/
theorem State.mayRelease_of_granted {s : State} {x : Door} {n : Nat} {side : Side} (h : s.decideDoor x = .granted n side) :
    s.mayRelease x ∧ (s.doors.door x).release = false ∧ n = (s.geo.zone (s.doorPos x)).station ∧
      (s.geo.zone (s.doorPos x)).side = some side ∧ (s.doors.side.get x.car = none ∨ s.doors.side.get x.car = some side) := by
  simp only [State.decideDoor] at h
  (repeat' split at h) <;> simp_all [State.mayRelease, Option.isSome_iff_ne_none]

theorem State.setDoor_control (s : State) (x : Door) (r : DoorRec) :
    (s.setDoor x r).control = { s.control with released := (s.setDoor x r).doors.anyReleased } := by simp [State.control]

/-- A door that does not come to be commanded RELEASE. -/
theorem State.Moves.setDoor {s t : State} (h : s.Moves t) {x : Door} {r : DoorRec}
    (hr : r.release = true → (t.doors.door x).release = true) : s.Moves (t.setDoor x r) := by
  refine h.doors (t.setDoor_control x r) (fun y hy => ?_)
  rw [State.setDoor_doors, Doors.door_put] at hy
  split at hy
  · exact ⟨x, hr hy⟩
  · exact ⟨y, hy⟩

/-- A door that may be commanded RELEASE: the run is IDLE, STILL set and TEN off. -/
theorem State.Moves.release {s t u : State} (h : s.Moves t) (hu : u.control = { t.control with released := u.doors.anyReleased })
    (hd : ∀ x, (u.doors.door x).release = true → (∃ y, (t.doors.door y).release = true) ∨
      t.plan.run = none ∧ t.trk.still = true ∧ t.brk.ten = false) : s.Moves u := by
  by_cases hmay : t.plan.run = none ∧ t.trk.still = true ∧ t.brk.ten = false
  · obtain ⟨hrun, hstill, hten⟩ := hmay
    cases hrel : u.doors.anyReleased with
    | false => exact h.step (by rw [hu, hrel]; exact .lock _)
    | true => exact h.step (by rw [hu, hrel]; exact .grant _ (by simp [State.control, hrun]) hstill hten)
  · exact h.doors hu (fun x hx => (hd x hx).resolve_right hmay)

theorem State.Moves.applyDecision {s t : State} (h : s.Moves t) (x : Door) : s.Moves (t.applyDecision x (t.decideDoor x)) := by
  generalize hd : t.decideDoor x = d
  cases d with
  | already => exact h
  | refused => exact h
  | granted n side =>
    obtain ⟨⟨hrun, hstill, hten, -⟩, -⟩ := State.mayRelease_of_granted hd
    refine (h.release (u := _) ?_ (fun _ _ => .inr ⟨hrun, hstill, hten⟩)).quiet (State.releaseEvent_control _ _)
    simp [State.control]

theorem State.Moves.decideDoors {s t : State} (h : s.Moves t) (xs : List Door) : s.Moves (t.decideDoors xs).1 := by
  induction xs generalizing t with
  | nil => exact h
  | cons x xs ih => exact ih (h.applyDecision x)

theorem State.Moves.autoRelease {s t : State} (h : s.Moves t) (c : Car) (i : Nat) : s.Moves (t.autoRelease c i) :=
  (h.decideDoors _).quiet (State.notice_control _ _ _ _)

theorem State.Moves.autoReleaseAt {s t : State} (h : s.Moves t) (c : Car) (p : Station) (i : Nat) :
    s.Moves (t.autoReleaseAt c p i) := by
  unfold State.autoReleaseAt
  split
  · exact h.autoRelease c i
  · exact h

theorem State.Moves.withdrawDoors {s t : State} (h : s.Moves t) : s.Moves t.withdrawDoors :=
  h.doors (by simp [State.control]) (fun x hx => by simp [State.withdrawDoors] at hx)

theorem State.withdrawDoors_unreleased (s : State) : s.withdrawDoors.doors.anyReleased = false := by
  rw [Bool.eq_false_iff, ne_eq, Doors.anyReleased_iff]
  simp [State.withdrawDoors]

theorem State.Moves.lockCar {s t : State} (h : s.Moves t) (c : Car) : s.Moves (t.lockCar c) := by
  refine h.doors ?_ (fun x hx => ⟨x, ?_⟩)
  · simp [State.control]
  · have hrecs : (t.lockCar c).doors = (t.doors.mapCar c (fun r => r.lock t.now)).returnSide c := by
      simp [State.lockCar]
    rw [hrecs, Doors.returnSide_door, Doors.mapCar_door] at hx
    split at hx
    · exact DoorRec.lock_release hx
    · exact hx

theorem State.Moves.closeExpiry {s t : State} (h : s.Moves t) (x : Door) : s.Moves (t.closeExpiry x) := by
  simp only [State.closeExpiry]
  split
  · split
    · exact (h.setDoor (by simp)).quiet (State.closeEnded_control _ _)
    · exact (h.setDoor (by simp)).quiet (State.closeFailed_control _ _)
  · exact h

theorem State.Moves.reopenExpiry {s t : State} (h : s.Moves t) (x : Door) : s.Moves (t.reopenExpiry x) := by
  simp only [State.reopenExpiry]
  split
  · exact (h.setDoor (by simp)).quiet (State.returnSide_control _ _)
  · exact h

theorem State.Moves.isolate {s t : State} (h : s.Moves t) (x : Door) : s.Moves (t.isolate x) := by
  simp only [State.isolate]
  split
  · exact h
  · exact (h.setDoor (x := x) (r := (t.doors.door x).isolate) (by simp [DoorRec.isolate])).quiet
      (by simp [State.isolatedCondition])

theorem State.Moves.restore {s t : State} (h : s.Moves t) (x : Door) : s.Moves (t.restore x) := by
  simp only [State.restore]
  split
  · exact (h.setDoor (x := x) (r := (t.doors.door x).restore t.now) (by simp [DoorRec.restore])).quiet
      (by simp [State.isolatedCondition])
  · exact h

/-! ### The reports of the doors -/

theorem State.Moves.motionTest {s t : State} (h : s.Moves t) (x : Door) : s.Moves (t.motionTest x) := by
  simp only [State.motionTest]
  split
  · exact h
  · split
    · exact h
    · exact (h.quiet (State.notice_control _ _ _ _)).hold _
    · exact (h.quiet (State.notice_control _ _ _ _)).raise _

/-- A list of operations each of which moves. -/
theorem State.Moves.foldl {α : Type} {f : State → α → State} (hf : ∀ {s t : State} (a : α), s.Moves t → s.Moves (f t a))
    (as : List α) {s t : State} (h : s.Moves t) : s.Moves (as.foldl f t) := by
  induction as generalizing t with
  | nil => exact h
  | cons a as ih => exact ih (hf a h)

theorem State.Moves.motionTests {s t : State} (h : s.Moves t) : s.Moves t.motionTests :=
  h.foldl (fun a h => h.motionTest a) _

theorem State.Moves.reportLocked {s t : State} (h : s.Moves t) (x : Door) : s.Moves (t.reportLocked x) := by
  simp only [State.reportLocked]
  split
  · exact (h.setDoor (by simp [DoorRec.lockedReport, apply_ite DoorRec.release])).quiet (State.closeEnded_control _ _)
  · exact h.quiet (State.returnSide_control _ _)

theorem State.Moves.reportObstructed {s t : State} (h : s.Moves t) (x : Door) : s.Moves (t.reportObstructed x) := by
  simp only [State.reportObstructed]
  split
  next =>
    generalize hb : (decide ((t.doors.door x).attempts < 2) && t.mayReopen x.car) = b
    have hset : s.Moves (t.setDoor x ((t.doors.door x).attempt b t.now)) := by
      refine h.release (t.setDoor_control _ _) (fun y hy => ?_)
      rw [State.setDoor_doors, Doors.door_put] at hy
      split at hy
      · unfold DoorRec.attempt at hy
        split at hy
        · subst hb
          simp only [State.mayReopen, Bool.and_eq_true, Bool.not_eq_true', Option.isNone_iff_eq_none] at hy
          exact .inr ⟨hy.2.1.1.1, hy.2.1.1.2, hy.2.1.2⟩
        · exact .inl ⟨x, hy⟩
      · exact .inl ⟨y, hy⟩
    split
    · exact hset.quiet (by simp)
    · exact hset.quiet (State.notice_control _ _ _ _)
  next => exact h

theorem State.Moves.doorReport {s t : State} (h : s.Moves t) (x : Door) (r : DoorState) : s.Moves (t.doorReport x r) := by
  have hacts : ∀ {u : State}, s.Moves u → s.Moves (u.reportActs x r) := by
    intro u hu
    cases r with
    | locked => exact hu.reportLocked x
    | obstructed => exact hu.reportObstructed x
    | fault => exact hu.quiet (State.notice_control _ _ _ _)
    | _ => exact hu
  simp only [State.doorReport]
  split
  · exact h
  · have hset : s.Moves (t.setDoor x { t.doors.door x with reported := r }) := h.setDoor (fun hr => hr)
    split
    · exact hset
    · exact (hacts hset).motionTest x

theorem State.Moves.doorReports {s t : State} (h : s.Moves t) (c : Car) (q : Quad DoorState) :
    s.Moves (t.doorReports c q) :=
  h.foldl (fun i h => h.doorReport ⟨c, i⟩ (q.get i)) _

end Machine
end Sys2Proof
end

section
/-! PROOFS. The moves of the control that the sequences of the Brake Controller make. -/

namespace Sys2Proof
namespace Machine

theorem Control.with_run (c : Control) : { c with run := c.run } = c := rfl

theorem State.tenOff_control (s : State) : s.tenOff.control = s.control.rested s.control.run := by
  simp [State.control, Control.rested]

theorem State.control_run_ne {s : State} {x : RunState} (h : ∀ r, s.plan.run = some r → r.state ≠ x) :
    s.control.run ≠ some x := by
  cases hrun : s.plan.run with
  | none => simp [State.control, hrun]
  | some r => simpa [State.control, hrun] using h r hrun

/-! ### The ends of the sequences -/

/-- A start that fails returns the run to PLANNED or HOLDING, or closes it, and touches no other run. -/
theorem State.startFailed_control (s : State) (f : StartFail) :
    ∃ run, Control.Follows .starting [none, some .planned, some .holding] s.control.run run ∧
      (s.startFailed f).control = { s.control with run := run } := by
  simp only [State.startFailed]
  split
  next r hr =>
    split
    next hst =>
      have hrun : s.control.run = some .starting := by rw [State.control_run hr, hst]
      generalize hu : (if f = .drive then s.handOver .driveStart true else s) = u
      have hcontrol : u.control = s.control := by subst hu; split <;> simp
      split
      · exact ⟨none, .inl ⟨hrun, by simp⟩, by simp [hcontrol]⟩
      · split
        · exact ⟨some .holding, .inl ⟨hrun, by simp⟩, by simp [State.backToHolding, hcontrol]⟩
        · exact ⟨some .planned, .inl ⟨hrun, by simp⟩, by simp [State.backToPlanned, hcontrol]⟩
    next hst => exact ⟨_, .inr ⟨by simpa [State.control, hr] using hst, rfl⟩, rfl⟩
  next hr => exact ⟨_, .inr ⟨by simp [State.control, hr], rfl⟩, rfl⟩

/-- The last release makes a STARTING run accelerate, or brake where a stop is pending. -/
theorem State.releasesConfirmed_control (s : State) :
    ∃ run, Control.Follows .starting [some .accelerating, some .braking] s.control.run run ∧
      s.releasesConfirmed.control = { s.control with run := run } := by
  simp only [State.releasesConfirmed]
  split
  next r hr =>
    split
    next hst =>
      have hrun : s.control.run = some .starting := by rw [State.control_run hr, hst]
      split
      next c hc =>
        unfold State.takeHold
        split
        · exact ⟨some .accelerating, .inl ⟨hrun, by simp⟩, by simp [State.control]⟩
        · exact ⟨some .braking, .inl ⟨hrun, by simp⟩, by simp⟩
      next => exact ⟨some .accelerating, .inl ⟨hrun, by simp⟩, by simp⟩
    next hst => exact ⟨_, .inr ⟨by simpa [State.control, hr] using hst, rfl⟩, rfl⟩
  next hr => exact ⟨_, .inr ⟨by simp [State.control, hr], rfl⟩, rfl⟩

/-- The end of a stop: the control as the run closes or enters HOLDING, from which an arrival may release doors. -/
theorem State.stopComplete_control (s : State) :
    ∃ u run, Control.Follows .braking [none, some .holding] s.control.run run ∧
      State.control u = { s.control with run := run } ∧ State.Moves u s.stopComplete := by
  unfold State.stopComplete
  split
  next r hr =>
    split
    next hst =>
      have hrun : s.control.run = some .braking := by rw [State.control_run hr, hst]
      have hclosed : Control.Follows .braking [none, some .holding] s.control.run none := .inl ⟨hrun, by simp⟩
      have hholding : Control.Follows .braking [none, some .holding] s.control.run (some .holding) :=
        .inl ⟨hrun, by simp⟩
      have henter : ∀ (s : State) c, (s.enterHolding r c).control = { s.control with run := some .holding } := by
        intro s c
        simp only [State.enterHolding]
        split <;> simp
      split
      · simp only [State.arrive]
        split
        next h _ =>
          refine ⟨_, none, hclosed, ?_, ((State.Moves.refl _).autoReleaseAt .A h.stationA r.id).autoReleaseAt .B h.stationB r.id⟩
          simp
        next => exact ⟨_, none, hclosed, by simp, State.Moves.refl _⟩
      · exact ⟨_, _, hholding, henter _ _, State.Moves.refl _⟩
      · split
        · exact ⟨_, none, hclosed, by simp, State.Moves.refl _⟩
        · exact ⟨_, _, hholding, henter _ _, State.Moves.refl _⟩
    next hst => exact ⟨_, _, .inr ⟨by simpa [State.control, hr] using hst, rfl⟩, rfl, State.Moves.refl _⟩
  next hr => exact ⟨_, _, .inr ⟨by simp [State.control, hr], rfl⟩, rfl, State.Moves.refl _⟩

theorem State.Moves.failStart {s t : State} (h : s.Moves t) (hseq : t.brk.seq = .torqueWait ∨ t.brk.seq = .abortWait)
    (f : StartFail) : s.Moves (t.tenOff.startFailed f) := by
  obtain ⟨run, hrun, hcontrol⟩ := t.tenOff.startFailed_control f
  rw [State.tenOff_control] at hrun hcontrol
  exact h.step (by rw [hcontrol]; exact .fail _ run hseq hrun)

theorem State.Moves.settleApply {s t : State} (h : s.Moves t) : s.Moves t.settleApply := by
  unfold State.settleApply
  split
  · exact h.raise _
  · split
    · split
      next hseq =>
        obtain ⟨u, run, hrun, hu, hmoves⟩ := t.tenOff.stopComplete_control
        rw [State.tenOff_control] at hrun hu
        exact (h.step (u := u) (by rw [hu]; exact .stopped _ run hseq hrun)).trans hmoves
      next f hseq _ => exact h.failStart (.inr hseq) _
      next => exact h
    · exact h

theorem State.Moves.enterAbort {s t : State} (h : s.Moves t) (hseq : t.brk.seq = .releaseWait) (f : StartFail) :
    s.Moves (t.enterAbort f) := by
  have hstep : s.Moves (t.setBrakes { t.brk.releaseOff t.now with seq := .abortWait, abort := some f }) :=
    h.step (by
      have hset : (t.setBrakes { t.brk.releaseOff t.now with seq := .abortWait, abort := some f }).control =
          { t.control.applying .abortWait with abort := true } := by simp [State.control, Control.applying]
      rw [hset]
      exact .abort _ hseq)
  exact (hstep.quiet (State.brakeCondition_control _)).settleApply

theorem State.Moves.settleRelease {s t : State} (h : s.Moves t) (hseq : t.brk.seq = .releaseWait) :
    s.Moves t.settleRelease := by
  unfold State.settleRelease
  split
  · exact h.enterAbort hseq _
  · split
    · obtain ⟨run, hrun, hcontrol⟩ := State.releasesConfirmed_control { t with brk := { t.brk with seq := .moving } }
      exact h.step (by rw [hcontrol]; exact .go _ run hseq hrun)
    · exact h

theorem State.Moves.settle {s t : State} (h : s.Moves t) : s.Moves t.settle := by
  unfold State.settle
  split
  next hseq => exact h.settleRelease hseq
  · exact h.settleApply
  · exact h.settleApply
  all_goals exact h

theorem State.Moves.brakeMoved {s t : State} (h : s.Moves t) : s.Moves t.brakeMoved :=
  ((h.quiet (State.brakeCondition_control _)).sheaveTest).settle

theorem State.Moves.contactChange {s t : State} (h : s.Moves t) (k : Contact) (closed : Bool) :
    s.Moves (t.contactChange k closed) :=
  (h.quiet (State.setBrakes_control (by simp [Brakes.reread]))).brakeMoved

theorem State.Moves.brakeExpiry {s t : State} (h : s.Moves t) (i : BrakeId) : s.Moves (t.brakeExpiry i) :=
  (h.quiet (State.setBrakes_control (by simp))).brakeMoved

theorem State.Moves.stopSequence {s t : State} (h : s.Moves t) (hseq : t.brk.seq = .moving)
    (hrun : t.control.run = some .braking) : s.Moves t.stopSequence := by
  have hstep : s.Moves (t.setBrakes { t.brk.releaseOff t.now with seq := .stopWait }) :=
    h.step (by
      have hset : (t.setBrakes { t.brk.releaseOff t.now with seq := .stopWait }).control = t.control.applying .stopWait := by
        simp [State.control, Control.applying]
      rw [hset]
      exact .stop _ hrun hseq)
  exact (hstep.quiet (State.brakeCondition_control _)).settleApply

theorem State.Moves.torqueExpiry {s t : State} (h : s.Moves t) : s.Moves t.torqueExpiry := by
  unfold State.torqueExpiry
  split
  next hdue => exact h.failStart (.inl hdue.1) _
  next => exact h

theorem State.Moves.trackExpiry {s t : State} (h : s.Moves t) (c : Car) : s.Moves (t.trackExpiry c) :=
  h.quiet (by simp [State.trackExpiry])

theorem State.Moves.trackReport {s t : State} (h : s.Moves t) (c : Car) (b : Bool) : s.Moves (t.trackReport c b) := by
  simp only [State.trackReport]
  split
  · exact (h.quiet (by simp)).raise _
  · exact h.quiet (by simp)

/-- A start sequence of a run in STARTING: TEN and the torque timer, and an EMERGENCY at once where the drive is faulted. -/
theorem State.startSequence_control {s : State} (hrun : s.control.run = some .starting) :
    Control.Moves { s.control with ten := true, seq := .torqueWait, torque := true } s.startSequence.control ∧
      { s.control with ten := true, seq := .torqueWait, torque := true } = s.control.started := by
  refine ⟨?_, by rw [Control.started, ← hrun]⟩
  have hu : { s.control with ten := true, seq := .torqueWait, torque := true } = State.control
      { s with
        brk := { s.brk with ten := true, seq := .torqueWait, torque := some s.now }
        drive := { s.drive with timer := some s.now } } := rfl
  rw [hu]
  simp only [State.startSequence]
  split
  · exact .single (State.raise_step _ _)
  · exact .refl

/-- Torque on in TORQUE_WAIT releases the brakes behind locked doors, and fails the start otherwise. -/
theorem State.torqueOn_control {s : State} (hseq : s.brk.seq = .torqueWait) :
    (s.doors.allLocked = true ∧ Control.Moves s.control.releasing s.torqueOn.control) ∨
      (s.doors.allLocked = false ∧ s.Moves s.torqueOn) := by
  unfold State.torqueOn
  split
  next hlocked =>
    refine .inl ⟨hlocked, ?_⟩
    have hon : (s.setBrakes (s.brk.releaseOn s.now)).control = s.control.releasing := by
      simp [State.control, Control.releasing]
    have hmoves := ((State.Moves.refl (s.setBrakes (s.brk.releaseOn s.now))).quiet
      (State.brakeCondition_control _)).settleRelease (by simp)
    rwa [State.Moves, hon] at hmoves
  next hlocked => exact .inr ⟨by simpa using hlocked, (State.Moves.refl s).failStart (.inl hseq) _⟩

end Machine
end Sys2Proof
end

section
/-! PROOFS. The moves of the control that the reports of the cars and the drive, the position and the requests make. -/

namespace Sys2Proof
namespace Machine

/-! ### Links and drive -/

theorem State.Moves.linkTest {s t : State} (h : s.Moves t) (c : Car) : s.Moves (t.linkTest c) := by
  unfold State.linkTest
  split
  · exact h
  · split
    · exact h.hold _
    · exact h
  · split
    · exact h
    · exact h.raise _

theorem State.Moves.linkTests {s t : State} (h : s.Moves t) : s.Moves t.linkTests := (h.linkTest .A).linkTest .B

theorem State.Moves.moveLink {s t : State} (h : s.Moves t) (c : Car) (l : CarLink) : s.Moves (t.moveLink c l) := by
  have hchanged : ∀ {u : State} (b : LinkState), s.Moves u → s.Moves (u.linkChanged c b) := by
    intro u b hu
    simp only [State.linkChanged]
    split
    · exact hu.quiet (by simp)
    · exact ((hu.quiet (by simp)).linkTest c).doorReports c _
  simp only [State.moveLink]
  split
  · exact h.quiet (State.setLink_control _ _ _)
  · exact hchanged _ (h.quiet (State.setLink_control _ _ _))

theorem State.Moves.staleExpiry {s t : State} (h : s.Moves t) (c : Car) : s.Moves (t.staleExpiry c) := by
  simp only [State.staleExpiry]
  split
  · exact h.moveLink c _
  · exact h

theorem State.Moves.lostExpiry {s t : State} (h : s.Moves t) (c : Car) : s.Moves (t.lostExpiry c) := by
  simp only [State.lostExpiry]
  split
  · exact h.moveLink c _
  · exact h

@[simp] theorem State.reading_control (s : State) (c : Car) (kg : Nat) (b : Bool) :
    (s.reading c kg b).control = s.control := by simp [State.control]

@[simp] theorem State.carFault_control (s : State) (c : Car) (n : Nat) : (s.carFault c n).control = s.control := by
  simp [State.control]

@[simp] theorem State.queueMarkers_control (s : State) (c : Car) (ids : List Nat) :
    (s.queueMarkers c ids).control = s.control := by simp [State.control]

theorem State.Moves.carFrameArrives {s t : State} (h : s.Moves t) (c : Car) (bytes : List Byte) :
    s.Moves (t.carFrameArrives c bytes) := by
  have hbrake : ∀ {u : State} (o : Option Bool), s.Moves u → s.Moves (u.trackBrakeReport c o) := by
    intro u o hu
    cases o with
    | none => exact hu
    | some b => exact hu.trackReport c b
  unfold State.carFrameArrives
  split
  next r _ =>
    have hmoves := hbrake r.track ((h.moveLink c ((t.links.get c).valid t.now)).doorReports c r.doors)
    exact hmoves.quiet (by simp [State.takeReports])
  next => exact h.quiet (State.setLink_control _ _ _)

/-- A drive status moves the control but where torque on releases the brakes, in TORQUE_WAIT and behind locked doors. -/
theorem State.driveStatus_control (s : State) (x : DriveStatus) :
    s.Moves (s.driveStatus x) ∨
      (s.doors.allLocked = true ∧ s.brk.seq = .torqueWait ∧ Control.Moves s.control.releasing (s.driveStatus x).control) := by
  simp only [State.driveStatus]
  generalize hu : State.noticeIf (State.noticeIf _ _ _ _ _) _ _ _ _ = u
  have hcontrol : u.control = s.control := by subst hu; simp [State.control]
  have hseq : u.brk.seq = s.brk.seq := by subst hu; simp
  have hdoors : u.doors = s.doors := by subst hu; simp
  have hmoves : s.Moves u := .of_control hcontrol
  split
  · exact .inl (hmoves.raise _)
  · unfold State.sequenceStatus
    split
    next hw =>
      split
      · rcases State.torqueOn_control hw with ⟨hlocked, hon⟩ | ⟨-, hoff⟩
        · exact .inr ⟨by rw [← hdoors]; exact hlocked, by rw [← hseq]; exact hw, by rw [← hcontrol]; exact hon⟩
        · exact .inl (hmoves.trans hoff)
      · exact .inl hmoves
    next hw =>
      split
      · exact .inl hmoves
      · exact .inl (hmoves.enterAbort hw _)
    all_goals exact .inl hmoves

theorem State.Moves.driveSilence {s t : State} (h : s.Moves t) : s.Moves t.driveSilence := by
  simp only [State.driveSilence]
  split
  · split
    · exact (h.quiet (by simp [State.control])).raise _
    · exact h.quiet (by simp [State.control])
  · exact h

/-! ### Position -/

@[simp] theorem State.setConf_control (s : State) (c : Confidence) : (s.setConf c).control = s.control := by
  have henter : (s.trk.enter c).still = s.trk.still := by cases c <;> rfl
  simp only [State.setConf]
  split
  · rfl
  · rw [State.lowerCruise_control, State.handOver_control, State.handOver_control]
    simp [State.control, henter]

theorem State.Moves.confEvent {s t : State} (h : s.Moves t) (c : Confidence) (k : PosCause) (car : Option Car)
    (id : Option Nat) (value : Option Int) : s.Moves (t.confEvent c k car id value) := by
  have hu : s.Moves ((t.setConf c).posNotice k car id value t.trk.conf) := h.quiet (by simp [State.posNotice])
  simp only [State.confEvent, State.lostEffects]
  split
  · split
    · exact hu.raise _
    · exact hu.closePlanned _
  · exact hu

theorem State.Moves.confQuiet {s t : State} (h : s.Moves t) (c : Confidence) (k : PosCause) (car : Option Car)
    (id : Option Nat) (value : Option Int) : s.Moves (t.confQuiet c k car id value) := by
  unfold State.confQuiet
  split
  · exact h
  · exact h.confEvent c k car id value

/-- A tracker with the same STILL keeps the control. -/
theorem State.Moves.tracker_of_still {s t : State} (h : s.Moves t) {x : Tracker} (hx : x.still = t.trk.still) :
    s.Moves { t with trk := x } := h.quiet (by simp [State.control, hx])

theorem State.Moves.evalAtStop {s t : State} (h : s.Moves t) : s.Moves t.evalAtStop := h.quiet t.evalAtStop_control

theorem State.Moves.markerReport {s t : State} (h : s.Moves t) (c : Car) (id : Nat) : s.Moves (t.markerReport c id) := by
  have hA : ∀ {u : State} (m : Marker), s.Moves u → s.Moves (u.reportA m) := by
    intro u m hu
    simp only [State.reportA]
    split
    · exact ((hu.tracker_of_still (by rfl)).confQuiet _ _ _ _ _).evalAtStop
    · split
      · exact ((hu.tracker_of_still (by rfl)).confEvent _ _ _ _ _).evalAtStop
      · exact hu.confEvent _ _ _ _ _
  have hB : ∀ {u : State} (m : Marker), s.Moves u → s.Moves (u.reportB m) := by
    intro u m hu
    simp only [State.reportB]
    split
    · exact (hu.tracker_of_still (by rfl)).confEvent _ _ _ _ _
    · split
      · exact (hu.tracker_of_still (by rfl)).evalAtStop
      · split
        · exact ((hu.tracker_of_still (by rfl)).confEvent _ _ _ _ _).evalAtStop
        · exact hu.confEvent _ _ _ _ _
  simp only [State.markerReport]
  split
  · exact h.quiet (State.notice_control _ _ _ _)
  · split
    · cases c with
      | A => exact hA _ (h.tracker_of_still (by rfl))
      | B => exact hB _ (h.tracker_of_still (by rfl))
    · exact h

theorem State.Moves.missTest {s t : State} (h : s.Moves t) (c : Car) : s.Moves (t.missTest c) := by
  simp only [State.missTest]
  split
  · exact h
  · split
    · exact (h.tracker_of_still (by rfl)).confEvent _ _ _ _ _
    · exact h

/-- A sample changes STILL alone before its misses and its tests. -/
theorem State.trackSample_control (s : State) :
    s.trackSample.control = { s.control with still := s.trackSample.trk.still } := by
  simp [State.control]

@[simp] theorem State.reference_control (s : State) (p : Int) : (s.reference p).control = s.control := by
  have hset : ∀ u : State, (u.setConf .referenced).control = u.control := fun u => u.setConf_control _
  simp only [State.reference, State.evalAtStop_control, State.posNotice, State.notice_control]
  exact (State.setConf_control _ _)

theorem State.Moves.commitPosition {s t : State} (h : s.Moves t) : s.Moves t.commitPosition :=
  ((h.tracker_of_still (by rfl)).confQuiet _ _ _ _ _).evalAtStop

end Machine
end Sys2Proof
end

section
/-! PROOFS. The position sample by its parts, the moves of the control that it makes, and those of the requests. -/

namespace Sys2Proof
namespace Machine

/-! ### The parts of a sample -/

/-- The state once a sample has taken the position, the halt the cars stand at and the brake condition. -/
def State.measured (s : State) : State := s.tracker.evalAtStop.brakeCondition

/-- The state once it has made the tests of STILL becoming clear. -/
def State.motionSeen (s : State) : State :=
  if s.trk.still && !s.measured.trk.still then s.measured.stillTests else s.measured

/-- The state once it has made the tests of the Supervisor and of the escalation watch. -/
def State.supervised (s : State) : State := s.motionSeen.bands.motionCheck.decelTest

/-- The state the Run Planner finds in a sample. -/
def State.watched (s : State) : State := s.supervised.notifyWatches

/-- A sample is its parts, the planner's, and what it sends and looks at last. -/
theorem State.sample_eq (s : State) :
    s.sample = (s.watched.planRun s.stopPoint).sendReference.tallyWindows.servingUpdate := rfl

/-! ### Supervision -/

theorem State.Moves.bandEmergency {s t : State} (h : s.Moves t) (c : Cause) : s.Moves (t.bandEmergency c) := by
  simp only [State.bandEmergency]
  exact (h.quiet (by simp [State.interventionNotice])).emergency _ _

theorem State.Moves.combineBands {s t : State} (h : s.Moves t) (r : Run) : s.Moves (t.combineBands r) := by
  have hwarn : ∀ {u : State} (w : Option Source), s.Moves u → s.Moves (u.updateWarning w) := by
    intro u w hu
    simp only [State.updateWarning]
    split <;> exact hu.quiet (by simp [State.interventionNotice])
  simp only [State.combineBands]
  generalize State.findBands _ _ = f
  have hbase := hwarn f.warning ((h.quiet (t.setBand_control { t.sup.band with last := some (t.evalValues r) })).quiet
    (State.raiseHighest_control _ f.level))
  generalize State.updateWarning _ _ = u at hbase ⊢
  generalize hv : (if (f.level.atLeast .service && t.sup.band.latch.isNone) = true then u.setLatch f.latchSource else u) = v
  have hlatched : s.Moves v := by
    subst hv
    split
    · exact hbase.quiet (by simp [State.setLatch, State.interventionNotice])
    · exact hbase
  generalize hw : (if f.level = .emergency then v.bandEmergency f.cause else v) = w
  have hjudged : s.Moves w := by
    subst hw
    split
    · exact hlatched.bandEmergency _
    · exact hlatched
  split
  · exact hjudged.hold _
  · exact hjudged

theorem State.Moves.bands {s t : State} (h : s.Moves t) : s.Moves t.bands := by
  unfold State.bands
  split
  · split
    · exact h.combineBands _
    · exact h.quiet (State.setBand_control _ _)
  · exact h.quiet (State.setBand_control _ _)

theorem State.Moves.motionCheck {s t : State} (h : s.Moves t) : s.Moves t.motionCheck := by
  simp only [State.motionCheck]
  generalize (if ((t.sup.band.umArmed || t.trk.still) && t.uncommanded) = true then t.sup.band.umCount + 1 else 0) = n
  split
  · exact h.quiet (State.setBand_control _ _)
  · exact (h.quiet (by simp)).emergency _ _

theorem State.Moves.notifyWatches {s t : State} (h : s.Moves t) : s.Moves t.notifyWatches :=
  h.quiet (by simp [State.control])

theorem State.Moves.stillTests {s t : State} (h : s.Moves t) : s.Moves t.stillTests := by
  simp only [State.stillTests]
  split
  · exact h.withdrawDoors.motionTests.linkTests
  · exact h.motionTests.linkTests

/-! ### The planner's part of a sample -/

theorem nextPhase_moving {x : RunState} (h : x.moving = true) (y : RefTerms) : (nextPhase x y).moving = true := by
  cases x <;> cases h <;> simp only [nextPhase] <;> (repeat' split) <;> rfl

theorem State.Moves.drivePhase {s t : State} (h : s.Moves t) {r : Run} (hr : t.plan.run = some r)
    (hm : r.state.moving = true) (tb : Tables) (p : StopPoint) (d : RunDyn) : s.Moves (t.drivePhase tb r p d) := by
  simp only [State.drivePhase]
  split
  next hseq =>
    generalize State.refTerms _ _ _ _ _ = x
    have hphase : s.Moves ((t.setRef (x.vRef * r.dir.sign)).phase
        { r with cruise := stepCruise r.cruise d.aSvc t.trk.conf.cruiseCap } x) := by
      simp only [State.phase]
      split
      · exact h.quiet ((State.setRun_control (r := r) (by simpa using hr) rfl).trans (State.setRef_control _ _))
      · refine h.step ?_
        rw [State.enterRun_control, State.setRef_control]
        exact .phase _ _ _ (State.control_run hr) hm (nextPhase_moving hm x) hseq
    split
    next hstop =>
      refine hphase.stopSequence (by simpa using hseq) ?_
      simp [State.phase, nextPhase, hstop.1, State.control]
    next => exact hphase
  next => exact h.quiet ((State.setRun_control (r := r) (by simpa using hr) rfl).trans (State.setRef_control _ _))

/-- The planner's part of a sample moves the control as other events do, or starts a PLANNED run. -/
theorem State.planRun_control (t : State) (found : Option StopPoint) :
    t.Moves (t.planRun found) ∨
      (t.control.run = some .planned ∧ Control.Moves t.control.started (t.planRun found).control) := by
  have hquiet : t.Moves (t.setRef 0) := .of_control (State.setRef_control _ _)
  unfold State.planRun
  split
  next r tb hr htb =>
    split
    next hplanned =>
      simp only
      split
      · simp only [State.leavePlanned]
        generalize hs : State.setRun _ _ = u
        have hu : u.control = t.control := by
          subst hs
          simp [State.control, Supervisor.forRun, hr]
        split
        · refine .inl ((State.Moves.of_control hu).step ?_)
          rw [State.closeRun_control, hu]
          exact .close _ _ (State.control_run hr) (.inl hplanned)
        · refine .inr ⟨by rw [State.control_run hr, hplanned], ?_⟩
          simp only [State.depart]
          generalize hv : State.enterRun _ _ _ _ = v
          have hstarting : v.control = { t.control with run := some .starting } := by
            subst hv
            rw [State.enterRun_control, ← hu]
            simp [State.control]
          obtain ⟨hmoves, hstarted⟩ := State.startSequence_control (s := v) (by rw [hstarting])
          rw [hstarted, hstarting] at hmoves
          exact hmoves
      · exact .inl hquiet
    next =>
      split
      next hm =>
        split
        · exact .inl ((State.Moves.refl t).drivePhase hr hm _ _ _)
        · exact .inl hquiet
      next => exact .inl hquiet
  next => exact .inl hquiet

end Machine
end Sys2Proof
end

section
/-! PROOFS. The moves of the control that each request makes, and every command's, but for a reset, a sample and torque on. -/

namespace Sys2Proof
namespace Machine

theorem State.Moves.arriveHolding {s t : State} (h : s.Moves t) {r : Run} (hr : t.plan.run = some r)
    (hst : r.state = .holding) : s.Moves (t.arrive r) := by
  simp only [State.arrive]
  split
  · exact (((h.quiet (State.notice_control _ _ _ _)).closeRun (by simpa using hr) (.inr (.inl hst)) _ _ _).autoReleaseAt
      .A _ _).autoReleaseAt .B _ _
  · exact h.closeRun hr (.inr (.inl hst)) _ _ _

theorem State.Moves.resume {s t : State} (h : s.Moves t) {r : Run} (hr : t.plan.run = some r) (hst : r.state = .holding)
    (tb : Tables) (e : Envelope) : s.Moves (t.resume tb r e) := by
  simp only [State.resume]
  generalize hv : State.holdSetNotice _ _ = v
  have hstarting : v.control = { t.control with run := some .starting } := by
    subst hv
    rw [State.holdSetNotice_control, State.enterRun_control]
    simp [State.control, State.resumedRun, Supervisor.resume]
  obtain ⟨hmoves, hstarted⟩ := State.startSequence_control (s := v) (by rw [hstarting])
  rw [hstarted, hstarting] at hmoves
  exact Relation.ReflTransGen.trans (h.tail (.resume _ (by rw [State.control_run hr, hst]))) hmoves

theorem State.Moves.resumeRun {s t : State} (h : s.Moves t) : s.Moves t.resumeRun.1 := by
  unfold State.resumeRun
  split
  · exact h
  next r hr =>
    split
    next hst =>
      unfold State.resumeHolding
      split
      · exact h
      · split
        · exact h.arriveHolding hr hst
        · split
          · simp only [State.tryResume]
            split
            · exact h
            · split
              · exact h
              · exact h.resume hr hst _ _
          · exact h
    next => exact h

theorem State.Moves.cancelRun {s t : State} (h : s.Moves t) : s.Moves t.cancelRun.1 := by
  unfold State.cancelRun
  split
  · exact h
  next r hr =>
    split
    next => exact h
    next hst => exact h.closeRun hr (.inl hst) _ _ _
    next hst => exact h.hold _
    next hst => exact h.hold _
    next hst => exact h.hold _
    next hst => exact h.hold _
    next hst => exact h.closeRun hr (.inr (.inl hst)) _ _ _

theorem State.Moves.holdRun {s t : State} (h : s.Moves t) : s.Moves t.holdRun.1 := by
  unfold State.holdRun
  split
  · exact h
  · split <;> first | exact h | exact h.hold _

theorem State.acceptRun_control (s : State) (r : Run) :
    (s.acceptRun r).control = { s.control with run := some r.state, released := false } := by
  have hunreleased : (s.acceptRun r).doors.anyReleased = false := by
    rw [Bool.eq_false_iff, ne_eq, Doors.anyReleased_iff]
    simp [State.acceptRun, State.lockForRun]
  have hrun : (s.acceptRun r).plan.run = some r := by simp [State.acceptRun]
  simp [State.control, hunreleased, hrun]

/-- START_RUN plans a run where there is none and no trip record is valid, and commands every door LOCK. -/
theorem State.Moves.startRun {s t : State} (h : s.Moves t) (target cruise : Nat) : s.Moves (t.startRun target cruise).1 := by
  unfold State.startRun
  split
  · exact h
  · split
    · exact h
    next hidle =>
      split
      next tb x _ _ =>
        split
        · exact h
        next hno =>
          have hrun : t.control.run = none := by
            have : t.plan.run = none := by simpa using hidle
            simp [State.control, this]
          have htrip : t.control.record = none := by
            unfold State.startRefusal at hno
            (repeat' split at hno) <;> simp_all [State.control]
          refine h.step (u := t.acceptRun _) ?_
          rw [State.acceptRun_control]
          exact .plan _ hrun htrip
      next => exact h

/-! ### Watches -/

theorem State.Moves.replaceWatch {s t : State} (h : s.Moves t) (n : Ix4) (w : Watch) : s.Moves (t.replaceWatch n w) := by
  have hset : s.Moves (t.setWatchRec n w) := h.quiet (by simp [State.control, State.setWatchRec])
  unfold State.replaceWatch State.watchChanged
  split
  · exact hset
  next r hr =>
    split
    next hm =>
      split
      · exact hset
      · have hcancel : ∀ old, s.Moves ((t.setWatchRec n w).cancelWatch r n old).1 ∧
            ((t.setWatchRec n w).cancelWatch r n old).1.plan.run = some ((t.setWatchRec n w).cancelWatch r n old).2 ∧
            ((t.setWatchRec n w).cancelWatch r n old).2.state = r.state := by
          intro old
          simp only [State.cancelWatch]
          split
          · exact ⟨(hset.quiet (State.setRun_control hr rfl)).quiet (State.notice_control _ _ _ _), rfl, rfl⟩
          · exact ⟨hset, hr, rfl⟩
        obtain ⟨hmoves, hrun, hstate⟩ := hcancel (t.plan.watches.get n)
        simp only [State.newWatch]
        split
        · exact hmoves
        · split
          · split
            · exact (hmoves.quiet (State.setRun_control hrun rfl)).quiet (State.notice_control _ _ _ _)
            · exact hmoves
          · exact (hmoves.takeHold hrun (by rw [hstate]; exact hm) _ _).quiet (State.notice_control _ _ _ _)
    next =>
      split
      · exact (hset.quiet (State.setRun_control hr rfl)).quiet (State.holdSetNotice_control _ _)
      · exact hset

theorem State.Moves.setWatch {s t : State} (h : s.Moves t) (i : Nat) (w : WatchBytes) : s.Moves (t.setWatch i w).1 := by
  unfold State.setWatch
  split
  · exact h
  · split
    · exact h.replaceWatch _ _
    · exact h

theorem State.Moves.clearWatch {s t : State} (h : s.Moves t) (i : Nat) : s.Moves (t.clearWatch i).1 := by
  unfold State.clearWatch
  split
  · exact h.replaceWatch _ _
  · exact h

/-! ### Trips, doors and tables -/

theorem State.Moves.closeTripped {s t : State} (h : s.Moves t) (c : Cause) : s.Moves (t.closeTripped c) := by
  unfold State.closeTripped
  split
  next r hr =>
    split
    next hst => exact h.closeRun hr (.inr (.inr hst)) _ _ _
    next => exact h
  next => exact h

/-- CLEAR_TRIP is refused, or invalidates the record and stops the watch before it closes a TRIPPED run. -/
theorem State.clearTrip_control (t : State) :
    t.clearTrip.1 = t ∨ (Control.Moves { t.control with record := none, watch := none } t.clearTrip.1.control ∧
      t.clearTrip.1.control.record = none) := by
  unfold State.clearTrip
  split
  · exact .inl rfl
  next x _ _ =>
    have hclosed := (State.Moves.refl
      { t with sup := { t.sup with trip := none }, brk := { t.brk with watch := none } }).closeTripped x.cause
    exact .inr ⟨hclosed.quiet (by simp [State.tripCleared]), by simp [State.control, State.tripCleared]⟩
  · exact .inl rfl

theorem State.Moves.releaseDoors {s t : State} (h : s.Moves t) (cars comps : Nat) :
    s.Moves (t.releaseDoors cars comps).1 := by
  simp only [State.releaseDoors]
  split
  · exact h
  · exact (h.decideDoors _).quiet (State.noticeIf_control _ _ _ _ _)

theorem State.Moves.lockDoors {s t : State} (h : s.Moves t) (cars : Nat) : s.Moves (t.lockDoors cars).1 := by
  have hone : ∀ {u : State} (c : Car), s.Moves u → s.Moves (u.lockNamed cars c) := by
    intro u c hu
    unfold State.lockNamed
    split
    · exact hu.lockCar c
    · exact hu
  exact hone .B (hone .A h)

theorem State.Moves.isolateDoor {s t : State} (h : s.Moves t) (d : Nat) : s.Moves (t.isolateDoor d).1 := by
  unfold State.isolateDoor
  split
  · exact h
  · split
    · exact h
    · exact h.isolate _

theorem State.Moves.restoreDoor {s t : State} (h : s.Moves t) (d : Nat) : s.Moves (t.restoreDoor d).1 := by
  unfold State.restoreDoor
  split
  · exact h
  · split
    · exact h
    · exact h.restore _

theorem State.Moves.commitGeometry {s t : State} (h : s.Moves t) : s.Moves t.commitGeometry.1 := by
  unfold State.commitGeometry
  split
  · split
    · exact h
    · split
      · exact h
      · simp only [State.commit]
        generalize hu : State.changeMode _ _ _ = u
        have hmode : s.Moves u := h.quiet (by subst hu; simp [State.control])
        exact hmode.commitPosition.quiet (by simp [State.control, Planner.commit])
  · exact h

theorem State.Moves.setReference {s t : State} (h : s.Moves t) (halt : Nat) : s.Moves (t.setReference halt).1 := by
  unfold State.setReference
  split
  · exact h
  · split
    · exact h
    · split
      · exact h
      · exact h.quiet (State.reference_control _ _)

/-- What each request's owner makes of the control, but for CLEAR_TRIP. -/
theorem State.Moves.owner {s t : State} (h : s.Moves t) {r : Request} (hr : r ≠ .clearTrip) : s.Moves (r.owner t).1 := by
  cases r with
  | clearTrip => exact absurd rfl hr
  | commitGeometry => exact h.commitGeometry
  | setReference x => exact h.setReference x
  | startRun x c => exact h.startRun x c
  | holdRun => exact h.holdRun
  | resumeRun => exact h.resumeRun
  | cancelRun => exact h.cancelRun
  | setWatch i w => exact h.setWatch i w
  | clearWatch i => exact h.clearWatch i
  | releaseDoors a b => exact h.releaseDoors a b
  | lockDoors a => exact h.lockDoors a
  | isolateDoor d => exact h.isolateDoor d
  | restoreDoor d => exact h.restoreDoor d
  | _ => exact h.quiet (by simp [Request.owner, State.control])

/-- What a request's event makes of a state: a change of the reply lists alone, or its owner's rule between two of them. -/
theorem State.request_cases (s : State) (h : ReqHead) (r : Request) (act : Owner) :
    (∃ x, s.request h r act = { s with ctl := x }) ∨
      ∃ x y, s.request h r act = { (act { s with ctl := x }).1 with ctl := y } := by
  have hjoin : ∃ x, s.joinArrival h.port h.tag r.kind h.guard (s.judgeRequest h.port h.guard r) = { s with ctl := x } := by
    simp only [State.joinArrival]
    split
    · exact ⟨s.ctl, rfl⟩
    · split
      · exact ⟨_, rfl⟩
      · split <;> exact ⟨_, rfl⟩
  have htake : ∀ x, (∃ y, State.takeRequest { s with ctl := x } h.port h.guard act = { s with ctl := y }) ∨
      ∃ y, State.takeRequest { s with ctl := x } h.port h.guard act = { (act { s with ctl := x }).1 with ctl := y } := by
    intro x
    unfold State.takeRequest
    split
    · exact .inl ⟨_, rfl⟩
    · split
      · exact .inr ⟨_, rfl⟩
      · exact .inl ⟨_, rfl⟩
  unfold State.request
  split
  · exact (htake s.ctl).imp id (fun ⟨y, hy⟩ => ⟨s.ctl, y, hy⟩)
  · obtain ⟨x, hx⟩ := hjoin
    simp only [hx]
    split
    · exact (htake x).imp id (fun ⟨y, hy⟩ => ⟨x, y, hy⟩)
    · exact .inl ⟨x, rfl⟩

/-- A request's event makes moves of the control, but for CLEAR_TRIP. -/
theorem State.asked_moves (s : State) (h : ReqHead) {r : Request} (hr : r ≠ .clearTrip) :
    (s.advance h.dt).Moves (s.asked h r) := by
  rcases (s.advance h.dt).request_cases h r r.owner with ⟨x, hx⟩ | ⟨x, y, hx⟩
  · exact .of_control (by rw [State.asked, hx]; rfl)
  · refine State.Moves.quiet ((State.Moves.of_control (t := { s.advance h.dt with ctl := x }) rfl).owner hr) ?_
    rw [State.asked, hx]
    rfl

theorem State.askedClearTrip_control (s : State) (h : ReqHead) :
    (s.advance h.dt).Moves (s.asked h .clearTrip) ∨
      (Control.Moves { (s.advance h.dt).control with record := none, watch := none } (s.asked h .clearTrip).control ∧
        (s.asked h .clearTrip).control.record = none) := by
  rcases (s.advance h.dt).request_cases h .clearTrip (Request.owner .clearTrip) with ⟨x, hx⟩ | ⟨x, y, hx⟩
  · exact .inl (.of_control (by rw [State.asked, hx]; rfl))
  · rw [State.Moves, State.asked, hx]
    rcases State.clearTrip_control { s.advance h.dt with ctl := x } with heq | hmoves
    · exact .inl (State.Moves.of_control (by simp only [Request.owner, heq]; rfl))
    · exact .inr hmoves

end Machine
end Sys2Proof
end

section
/-! PROOFS. What each command makes of the control, and the invariants of it: the sequence with its outputs and its run, and
the doors commanded RELEASE. -/

namespace Sys2Proof
namespace Machine

/-! ### A sample -/

theorem State.watched_moves (s : State) : s.motionSeen.Moves s.watched :=
  (State.Moves.refl _).bands.motionCheck.decelTest.notifyWatches

theorem State.measured_moves (s : State) : s.trackSample.Moves s.measured :=
  (((State.Moves.refl s.trackSample).missTest .A).missTest .B).quiet (by simp [State.measured, State.tracker])

theorem State.motionSeen_moves (s : State) : s.trackSample.Moves s.motionSeen := by
  unfold State.motionSeen
  split
  · exact s.measured_moves.stillTests
  · exact s.measured_moves

theorem State.sample_control (s : State) : s.sample.control = (s.watched.planRun s.stopPoint).control := by
  rw [State.sample_eq]
  simp [State.control]

/-- STILL keeps through the moves of an event. -/
theorem Control.Moves.still {c d : Control} (h : Control.Moves c d) : d.still = c.still :=
  h.keeps (P := fun x => x.still = c.still) (fun _ _ hx hc => by cases hx <;> exact hc) rfl

/-! ### A reset -/

theorem State.doReset_control (s : State) (k : ResetKind) (i : Inputs) :
    (s.doReset k i).control =
      ⟨false, false, false, .rest, false, false, none, s.resetTrip k, none, false, false, 0⟩ := by
  have hreport : ∀ (u : State) m, (u.resetReport k m).control = u.control := by
    intro u m
    simp [State.resetReport, State.control]
  have hdoors : ∀ x, ((s.resetDoors k).door x).release = false := by
    rintro ⟨c, d⟩
    cases c <;> cases d <;> rfl
  have hunreleased : (s.resetDoors k).anyReleased = false := by
    rw [Bool.eq_false_iff, ne_eq, Doors.anyReleased_iff]
    simp [hdoors]
  rw [State.doReset, hreport]
  simp only [State.control, State.resetBlocks, hunreleased]
  rfl

/-! ### Every command -/

/-- What a command makes of the control: the moves of an event, a reset, the clearing of a trip, a sample, or torque on. -/
theorem effect_control (c : Instr) (s : State) :
    (∃ dt, (s.advance dt).Moves (effect c s)) ∨
      (∃ record, (effect c s).control = ⟨false, false, false, .rest, false, false, none, record, none, false, false, 0⟩ ∧
        (record = s.sup.trip ∨ record = none ∧ ∃ pins, c = .powerOn pins)) ∨
      (∃ h, c = .clearTrip h ∧
        Control.Moves { (s.advance h.dt).control with record := none, watch := none } (effect c s).control ∧
        (effect c s).control.record = none) ∨
      (∃ dt, c = .positionSample dt ∧ effect c s = (s.advance dt).sample) ∨
      (∃ dt bytes, c = .driveStatusFrame dt bytes ∧ s.doors.allLocked = true ∧ s.brk.seq = .torqueWait ∧
        Control.Moves (s.advance dt).control.releasing (effect c s).control) := by
  have hrefl : ∀ dt, (s.advance dt).Moves (s.advance dt) := fun dt => .refl _
  cases c with
  | powerOn pins => exact .inr (.inl ⟨_, s.doReset_control _ _, .inr ⟨rfl, pins, rfl⟩⟩)
  | resetLine => exact .inr (.inl ⟨_, s.doReset_control _ _, .inl rfl⟩)
  | positionSample dt => exact .inr (.inr (.inr (.inl ⟨dt, rfl, rfl⟩)))
  | driveStatusFrame dt bytes =>
    simp only [effect, State.driveFrameArrives]
    split
    next x _ =>
      rcases State.driveStatus_control (s.advance dt) x with hmoves | hrelease
      · exact .inl ⟨dt, hmoves⟩
      · exact .inr (.inr (.inr (.inr ⟨dt, bytes, rfl, hrelease⟩)))
    next => exact .inl ⟨dt, hrefl dt⟩
  | transmitterFree dt port =>
    simp only [effect, State.transmitterFree]
    split
    · exact .inr (.inl ⟨_, State.doReset_control _ _ _, .inl rfl⟩)
    · exact .inl ⟨dt, (hrefl dt).quiet (by simp [State.control])⟩
  | clearTrip h =>
    rcases s.askedClearTrip_control h with hmoves | hcleared
    · exact .inl ⟨h.dt, hmoves⟩
    · exact .inr (.inr (.inl ⟨h, rfl, hcleared⟩))
  | encoderFault dt => exact .inl ⟨dt, (hrefl dt).confQuiet _ _ _ _ _⟩
  | markerReport dt car id => exact .inl ⟨dt, ((hrefl dt).quiet (State.setLink_control _ _ _)).markerReport car id⟩
  | plannedWaitExpiry dt =>
    refine .inl ⟨dt, ?_⟩
    simp only [effect, State.waitExpiry]
    split
    · split
      · exact (hrefl dt).closePlanned _
      · exact hrefl dt
    · exact hrefl dt
  | torqueTimeout dt => exact .inl ⟨dt, (hrefl dt).torqueExpiry⟩
  | contactChange dt k x => exact .inl ⟨dt, (hrefl dt).contactChange k x⟩
  | brakeTimerExpiry dt i => exact .inl ⟨dt, (hrefl dt).brakeExpiry i⟩
  | trackBrakeTimerExpiry dt car => exact .inl ⟨dt, (hrefl dt).trackExpiry car⟩
  | estopChange dt n closed =>
    refine .inl ⟨dt, ?_⟩
    simp only [effect, State.estopChange]
    have hloops : ∀ x, (s.advance dt).Moves { s.advance dt with line := x } := fun x =>
      (hrefl dt).quiet (by simp [State.control])
    split
    · exact hrefl dt
    · split
      · exact hloops _
      · unfold State.loopOpens
        split
        · exact (hloops _).raise _
        · exact (hloops _).closePlanned _
  | carFrameReceived dt car bytes => exact .inl ⟨dt, (hrefl dt).carFrameArrives car bytes⟩
  | linkStaleExpiry dt car => exact .inl ⟨dt, (hrefl dt).staleExpiry car⟩
  | linkLostExpiry dt car => exact .inl ⟨dt, (hrefl dt).lostExpiry car⟩
  | driveSilenceExpiry dt => exact .inl ⟨dt, (hrefl dt).driveSilence⟩
  | reopenTimerExpiry dt door => exact .inl ⟨dt, (hrefl dt).reopenExpiry door⟩
  | closeTimerExpiry dt door => exact .inl ⟨dt, (hrefl dt).closeExpiry door⟩
  | keyChange dt on => exact .inl ⟨dt, (hrefl dt).quiet (by simp [effect, State.control])⟩
  | carFrameSend dt => exact .inl ⟨dt, (hrefl dt).quiet (by simp [effect, State.control])⟩
  | gateAnswer dt bytes => exact .inl ⟨dt, (hrefl dt).quiet (by simp [effect, State.control])⟩
  | gateResponseTimeout dt => exact .inl ⟨dt, (hrefl dt).quiet (by simp [effect, State.control])⟩
  | passageTimeout dt gate => exact .inl ⟨dt, (hrefl dt).quiet (by simp [effect, State.control])⟩
  | passbackExpiry dt ticket => exact .inl ⟨dt, (hrefl dt).quiet (by simp [effect, State.control])⟩
  | controlFrameReceived dt port bytes => exact .inl ⟨dt, (hrefl dt).quiet (by simp [effect, State.control])⟩
  | receiveTimeout dt port => exact .inl ⟨dt, (hrefl dt).quiet (by simp [effect, State.control])⟩
  | quadratureStep dt up => exact .inl ⟨dt, (hrefl dt).quiet (by simp [effect, State.control, Tracker.count_])⟩
  | controlByteReceived dt port byte => exact .inl ⟨dt, (hrefl dt).quiet (by simp [effect, State.control])⟩
  | _ => exact .inl ⟨_, s.asked_moves _ (by simp)⟩

theorem State.ended_control (s : State) (q : List Instr) : (s.ended q).control = s.control :=
  State.ended_keeps (P := fun u => u.control = s.control) (fun _ _ _ h => h) (fun _ _ _ h => h) rfl q

/-- The moves of a sample: those of its tests, and those of the planner, which may start a PLANNED run. -/
theorem State.sample_moves (s : State) :
    s.trackSample.Moves s.motionSeen ∧ s.motionSeen.Moves s.watched ∧
      (s.watched.Moves s.sample ∨ (s.watched.control.run = some .planned ∧
        Control.Moves s.watched.control.started s.sample.control)) := by
  refine ⟨s.motionSeen_moves, s.watched_moves, ?_⟩
  rw [State.Moves, State.sample_control]
  exact s.watched.planRun_control s.stopPoint

/-! ### The sequence -/

theorem Control.Ok.started {c : Control} (h : c.Ok) (hrun : c.run = some .planned) : c.started.Ok := by
  cases h with
  | rest => exact .torqueWait _ _ _ _ _
  | moving _ _ _ _ _ _ hm => cases hrun; cases hm
  | _ => cases hrun

theorem Control.Ok.releasing {c : Control} (h : c.Ok) (hseq : c.seq = .torqueWait) : c.releasing.Ok := by
  cases h <;> cases hseq
  exact .releaseWait _ _ _ _ _

theorem Control.Moves.ok {c d : Control} (h : Control.Moves c d) (hc : c.Ok) : d.Ok :=
  h.keeps (fun _ _ hx => hx.keeps_ok) hc

/-- The table of sequence states says nothing of STILL, the time and the trip record. -/
theorem Control.Ok.apart {c : Control} (h : c.Ok) (x : Bool) (n : Time) (y : Option TripRec) (w : Option EscWatch) :
    Control.Ok { c with still := x, now := n, record := y, watch := w } := by
  cases h <;> constructor <;> assumption

theorem State.sample_ok {s : State} (h : s.control.Ok) : s.sample.control.Ok := by
  obtain ⟨hseen, hwatched, hplan⟩ := s.sample_moves
  have hok : s.watched.control.Ok :=
    Control.Moves.ok hwatched (Control.Moves.ok hseen (by rw [s.trackSample_control]; exact h.apart _ _ _ _))
  rcases hplan with hmoves | ⟨hrun, hmoves⟩
  · exact Control.Moves.ok hmoves hok
  · exact Control.Moves.ok hmoves (hok.started hrun)

theorem effect_ok {c : Instr} {s : State} (h : s.control.Ok) : (effect c s).control.Ok := by
  have hadvance : ∀ dt, (s.advance dt).control.Ok := fun dt => h.apart _ _ _ _
  rcases effect_control c s with
    ⟨dt, hmoves⟩ | ⟨record, hreset, -⟩ | ⟨x, -, hmoves, -⟩ | ⟨dt, -, hsample⟩ | ⟨dt, bytes, -, -, hseq, hmoves⟩
  · exact Control.Moves.ok hmoves (hadvance dt)
  · rw [hreset]; exact .rest _ _ _ _ _ _ (.inl rfl)
  · exact Control.Moves.ok hmoves ((hadvance x.dt).apart _ _ _ _)
  · rw [hsample]; exact State.sample_ok (hadvance dt)
  · exact Control.Moves.ok hmoves ((hadvance dt).releasing hseq)

/-- Settles O46: every move of the control keeps the table of sequence states, and so do a departure, torque on and a reset. -/
theorem sequenceIsKept : Obligations.SequenceIsKept := by
  intro s t hs hstep
  rw [Control.ok_iff] at hs ⊢
  refine step_keeps (P := fun u => u.control.Ok) (fun _ _ h => h) (fun c u h => effect_ok h) ?_ hs hstep
  intro u q h
  rwa [State.ended_control]

/-! ### The release outputs -/

theorem Control.Moves.outputs_fall {c d : Control} (h : Control.Moves c d) :
    (d.sbr = true → c.sbr = true) ∧ (d.ebr = true → c.ebr = true) :=
  h.keeps (P := fun x => (x.sbr = true → c.sbr = true) ∧ (x.ebr = true → c.ebr = true))
    (fun _ _ hx hc => ⟨fun hd => hc.1 (hx.outputs_fall.1 hd), fun hd => hc.2 (hx.outputs_fall.2 hd)⟩) ⟨id, id⟩

theorem State.sample_outputs_fall (s : State) :
    (s.sample.brk.sbr = true → s.brk.sbr = true) ∧ (s.sample.brk.ebr = true → s.brk.ebr = true) := by
  obtain ⟨hseen, hwatched, hplan⟩ := s.sample_moves
  have hfall := Control.Moves.outputs_fall (Relation.ReflTransGen.trans hseen hwatched)
  rw [s.trackSample_control] at hfall
  have hsample : (s.sample.control.sbr = true → s.watched.control.sbr = true) ∧
      (s.sample.control.ebr = true → s.watched.control.ebr = true) := by
    rcases hplan with hmoves | ⟨-, hmoves⟩
    · exact Control.Moves.outputs_fall hmoves
    · exact (Control.Moves.outputs_fall hmoves : _ ∧ _)
  exact ⟨fun h => hfall.1 (hsample.1 h), fun h => hfall.2 (hsample.2 h)⟩

/-- Under the table of sequence states a release output is energised with the other, and under TEN. -/
theorem Control.Ok.outputs {c : Control} (h : c.Ok) (hout : c.sbr = true ∨ c.ebr = true) :
    c.sbr = true ∧ c.ebr = true ∧ c.ten = true := by
  cases h <;> simp_all

/-- Settles O47: only torque on switches a release output on, and it finds every door locked; the table of sequence states
says the rest. -/
theorem brakesReleaseBehindLockedDoors : Obligations.BrakesReleaseBehindLockedDoors := by
  intro c s t hexec hs hrise
  rw [Control.ok_iff] at hs
  have hend := eq_ended_of_exec hexec
  have hcontrol : t.control = (effect c s).control := by rw [hend, State.ended_control]
  have hrose : s.control.sbr = false ∧ t.control.sbr = true ∨ s.control.ebr = false ∧ t.control.ebr = true := hrise
  have hok : t.control.Ok := by rw [hcontrol]; exact effect_ok hs
  have hout : t.control.sbr = true ∧ t.control.ebr = true ∧ t.control.ten = true :=
    hok.outputs (by rcases hrose with ⟨-, h⟩ | ⟨-, h⟩ <;> simp [h])
  have hnofall : ¬((t.control.sbr = true → s.control.sbr = true) ∧ (t.control.ebr = true → s.control.ebr = true)) := by
    rintro ⟨h1, h2⟩
    rcases hrose with ⟨h, h'⟩ | ⟨h, h'⟩
    · simp [h1 h'] at h
    · simp [h2 h'] at h
  rw [hcontrol] at hnofall
  rcases effect_control c s with
    ⟨dt, hmoves⟩ | ⟨record, hreset, -⟩ | ⟨x, -, hmoves, -⟩ | ⟨dt, -, hsample⟩ | ⟨dt, bytes, hc, hlocked, -, -⟩
  · exact absurd (Control.Moves.outputs_fall hmoves) hnofall
  · rw [hreset] at hnofall
    simp at hnofall
  · exact absurd (Control.Moves.outputs_fall hmoves) hnofall
  · rw [hsample] at hnofall
    exact absurd ((s.advance dt).sample_outputs_fall) hnofall
  · exact ⟨hout.1, hout.2.1, hout.2.2, hlocked, dt, bytes, hc⟩

/-! ### The doors -/

theorem State.doorsOk_iff (s : State) : s.DoorsOk ↔ s.control.DoorsOk ∧ s.control.StillOk := by
  simp only [State.DoorsOk, Control.DoorsOk, Control.StillOk, State.control, Option.map_eq_none_iff, Doors.anyReleased_iff]
  constructor
  · intro h
    exact ⟨fun ⟨x, hx⟩ => ⟨(h x hx).1, (h x hx).2.2⟩, fun ⟨x, hx⟩ => (h x hx).2.1⟩
  · rintro ⟨hrun, hstill⟩ x hx
    exact ⟨(hrun ⟨x, hx⟩).1, hstill ⟨x, hx⟩, (hrun ⟨x, hx⟩).2⟩

theorem Control.Moves.doorsOk {c d : Control} (h : Control.Moves c d) (hc : c.DoorsOk) : d.DoorsOk :=
  h.keeps (fun _ _ hx => hx.keeps_doorsOk) hc

theorem Control.Moves.stillOk {c d : Control} (h : Control.Moves c d) (hc : c.StillOk) : d.StillOk :=
  h.keeps (fun _ _ hx => hx.keeps_stillOk) hc

/-- The tests of STILL becoming clear leave no door commanded RELEASE: with the run IDLE they withdraw them all, and with a
run there is none. -/
theorem State.stillTests_stillOk {s : State} (h : s.control.DoorsOk) : s.stillTests.control.StillOk := by
  simp only [State.stillTests]
  split
  · exact Control.Moves.stillOk (State.Moves.refl s.withdrawDoors).motionTests.linkTests
      (fun hr => absurd hr (by simp [State.control, State.withdrawDoors_unreleased]))
  next hrun =>
    exact Control.Moves.stillOk (State.Moves.refl s).motionTests.linkTests
      (fun hr => absurd (h hr).1 (by simpa [State.control] using hrun))

theorem State.sample_doorsOk {s : State} (hdoors : s.control.DoorsOk) (hstill : s.control.StillOk) :
    s.sample.control.DoorsOk ∧ s.sample.control.StillOk := by
  obtain ⟨hseen, hwatched, hplan⟩ := s.sample_moves
  have hdoors0 : s.trackSample.control.DoorsOk := by rw [s.trackSample_control]; exact hdoors
  have hmeasured : s.measured.control.DoorsOk := Control.Moves.doorsOk s.measured_moves hdoors0
  have hdoors1 : s.watched.control.DoorsOk := Control.Moves.doorsOk hwatched (Control.Moves.doorsOk hseen hdoors0)
  have hstill0 : s.motionSeen.control.StillOk := by
    unfold State.motionSeen
    split
    · exact State.stillTests_stillOk hmeasured
    next hnot =>
      have hkept : s.measured.trk.still = s.trackSample.trk.still := Control.Moves.still s.measured_moves
      refine Control.Moves.stillOk s.measured_moves (fun hr => ?_)
      rw [s.trackSample_control] at hr ⊢
      have : s.trk.still = true := hstill hr
      simpa [this, hkept] using hnot
  have hstill1 : s.watched.control.StillOk := Control.Moves.stillOk hwatched hstill0
  rcases hplan with hmoves | ⟨hrun, hmoves⟩
  · exact ⟨Control.Moves.doorsOk hmoves hdoors1, Control.Moves.stillOk hmoves hstill1⟩
  · have hnone : s.watched.control.started.released = false := by
      rw [Bool.eq_false_iff]
      intro hr
      rw [(hdoors1 hr).1] at hrun
      cases hrun
    exact ⟨Control.Moves.doorsOk hmoves (fun h => absurd h (by simp [hnone])),
      Control.Moves.stillOk hmoves (fun h => absurd h (by simp [hnone]))⟩

theorem effect_doorsOk {c : Instr} {s : State} (hdoors : s.control.DoorsOk) (hstill : s.control.StillOk) :
    (effect c s).control.DoorsOk ∧ (effect c s).control.StillOk := by
  rcases effect_control c s with
    ⟨dt, hmoves⟩ | ⟨record, hreset, -⟩ | ⟨x, -, hmoves, -⟩ | ⟨dt, -, hsample⟩ | ⟨dt, bytes, -, -, -, hmoves⟩
  · exact ⟨Control.Moves.doorsOk hmoves hdoors, Control.Moves.stillOk hmoves hstill⟩
  · rw [hreset]; exact ⟨fun h => (by cases h), fun h => (by cases h)⟩
  · exact ⟨Control.Moves.doorsOk hmoves hdoors, Control.Moves.stillOk hmoves hstill⟩
  · rw [hsample]
    exact State.sample_doorsOk (s := s.advance dt) hdoors hstill
  · exact ⟨Control.Moves.doorsOk hmoves hdoors, Control.Moves.stillOk hmoves hstill⟩

/-- Settles O48: a door comes to be commanded RELEASE only with the run IDLE, STILL set and TEN off, and is commanded LOCK
before any of them changes. -/
theorem noDoorReleasedInMotion : Obligations.NoDoorReleasedInMotion := by
  intro s t hs hstep
  rw [State.doorsOk_iff] at hs ⊢
  refine step_keeps (P := fun u => u.control.DoorsOk ∧ u.control.StillOk) (fun _ _ h => h)
    (fun c u h => effect_doorsOk h.1 h.2) ?_ hs hstep
  intro u q h
  rwa [State.ended_control]

/-! ### The trip record -/

theorem Control.Moves.record {c d : Control} (h : Control.Moves c d) {x : TripRec} (hx : c.record = some x) :
    ∃ y, d.record = some y ∧ x.Same y :=
  h.keeps (P := fun e => ∃ y, e.record = some y ∧ x.Same y)
    (fun _ _ he ⟨_, hy, hsame⟩ => (he.keeps_record hy).imp (fun _ hz => ⟨hz.1, hsame.trans hz.2⟩)) ⟨x, hx, .refl x⟩

theorem State.sample_record {s : State} {x : TripRec} (hx : s.control.record = some x) :
    ∃ y, s.sample.control.record = some y ∧ x.Same y := by
  obtain ⟨hseen, hwatched, hplan⟩ := s.sample_moves
  obtain ⟨y, hy, hxy⟩ := Control.Moves.record (Relation.ReflTransGen.trans hseen hwatched) (x := x)
    (by rw [s.trackSample_control]; exact hx)
  have hz : ∃ z, s.sample.control.record = some z ∧ y.Same z := by
    rcases hplan with hmoves | ⟨-, hmoves⟩ <;> exact Control.Moves.record hmoves hy
  exact hz.imp (fun _ hz => ⟨hz.1, hxy.trans hz.2⟩)

/-- What a command makes of a valid trip record. -/
theorem effect_record {c : Instr} {s : State} {x : TripRec} (hx : s.control.record = some x) :
    ((effect c s).control.record = none ∧ ((∃ h, c = .clearTrip h) ∨ ∃ pins, c = .powerOn pins)) ∨
      ∃ y, (effect c s).control.record = some y ∧ x.Same y := by
  rcases effect_control c s with
    ⟨dt, hmoves⟩ | ⟨record, hreset, hkept | ⟨hnone, hpins⟩⟩ | ⟨h, hc, -, hnone⟩ | ⟨dt, -, hsample⟩ | ⟨dt, bytes, -, -, -, hmoves⟩
  · exact .inr (Control.Moves.record hmoves hx)
  · exact .inr ⟨x, by rw [hreset, hkept]; exact hx, .refl x⟩
  · exact .inl ⟨by rw [hreset, hnone], .inr hpins⟩
  · exact .inl ⟨hnone, .inl ⟨h, hc⟩⟩
  · exact .inr (hsample ▸ State.sample_record (s := s.advance dt) hx)
  · exact .inr (Control.Moves.record hmoves hx)

/-- Settles O44: every move keeps what a valid record says; CLEAR_TRIP and power-on alone are no such moves. -/
theorem tripRecordIsKept : Obligations.TripRecordIsKept := by
  intro c x s t hexec hx
  have hrecord : t.sup.trip = (effect c s).control.record := by
    rw [← State.ended_control (effect c s) s.pending, ← eq_ended_of_exec hexec]
    rfl
  rw [hrecord]
  exact (effect_record hx).imp id (fun ⟨y, hy, hsame⟩ => ⟨y, hy, hsame.cause, hsame.track, hsame.fig, hsame.highest⟩)

theorem Control.Moves.tripOk {c d : Control} (h : Control.Moves c d) (hc : c.TripOk) : d.TripOk :=
  h.keeps (fun _ _ hx => hx.keeps_tripOk) hc

theorem Control.Moves.watchOk {c d : Control} (h : Control.Moves c d) (hc : c.WatchOk) : d.WatchOk :=
  h.keeps (fun _ _ hx => hx.keeps_watchOk) hc

/-- A sample keeps what a move keeps, where STILL and a departure keep it too. -/
theorem State.sample_keeps {P : Control → Prop} (hstep : ∀ c d, Control.Step c d → P c → P d)
    (hstill : ∀ c x, P c → P { c with still := x }) (hstart : ∀ c, P c → c.run = some .planned → P c.started) {s : State}
    (h : P s.control) : P s.sample.control := by
  obtain ⟨hseen, hwatched, hplan⟩ := s.sample_moves
  have hp : P s.watched.control :=
    Control.Moves.keeps hstep hwatched (Control.Moves.keeps hstep hseen (by rw [s.trackSample_control]; exact hstill _ _ h))
  rcases hplan with hmoves | ⟨hrun, hmoves⟩
  · exact Control.Moves.keeps hstep hmoves hp
  · exact Control.Moves.keeps hstep hmoves (hstart _ hp hrun)

/-- Settles O45: the move that writes a record drops the outputs and trips the run, and no later move of the event undoes it. -/
theorem newTripDropsOutputs : Obligations.NewTripDropsOutputs := by
  intro c x s t hexec hnone hx
  have hcontrol : t.control = (effect c s).control := by rw [eq_ended_of_exec hexec, State.ended_control]
  have hrecord : (effect c s).control.record = some x := by rw [← hcontrol]; exact hx
  have hstart : ∀ n, Control.TripOk { s.control with now := n } := fun n h => by
    rw [show ({ s.control with now := n } : Control).record = none from hnone] at h
    cases h
  have hfresh : ∀ n, s.brk.watch = none → Control.WatchOk { s.control with now := n } := fun n hw =>
    ⟨fun _ => hw, fun y hy => by
      rw [show ({ s.control with now := n } : Control).record = none from hnone] at hy
      cases hy⟩
  have hkept : (effect c s).control.TripOk ∧ (s.brk.watch = none → (effect c s).control.WatchOk) := by
    rcases effect_control c s with
      ⟨dt, hmoves⟩ | ⟨record, hreset, hold⟩ | ⟨h, -, -, hgone⟩ | ⟨dt, -, hsample⟩ | ⟨dt, bytes, -, -, -, hmoves⟩
    · exact ⟨Control.Moves.tripOk hmoves (hstart _), fun hw => Control.Moves.watchOk hmoves (hfresh _ hw)⟩
    · rcases hold with hold | ⟨hold, -⟩ <;> rw [hreset, hold] at hrecord <;> simp [hnone] at hrecord
    · rw [hgone] at hrecord; cases hrecord
    · rw [hsample]
      refine ⟨State.sample_keeps (fun _ _ hx => hx.keeps_tripOk) (fun _ _ h => h) ?_ (s := s.advance dt) (hstart _),
        fun hw => State.sample_keeps (fun _ _ hx => hx.keeps_watchOk) (fun _ _ h => h) (fun _ h _ => h)
          (s := s.advance dt) (hfresh _ hw)⟩
      intro c hc hrun hrec
      obtain ⟨-, -, -, -, hrun'⟩ := hc hrec
      rw [hrun] at hrun'
      simp at hrun'
    · refine ⟨Control.Moves.tripOk hmoves (fun h => ?_), fun hw => Control.Moves.watchOk hmoves (hfresh _ hw)⟩
      exact absurd h (by simp [Control.releasing, State.control, hnone])
  obtain ⟨htrip, hwatch⟩ := hkept
  rw [← hcontrol] at htrip hwatch
  obtain ⟨hsbr, hebr, hten, hseq, hrun⟩ := htrip (by simp [State.control, hx])
  refine ⟨⟨hsbr, hebr, hten, hseq⟩, fun r hr => ?_, fun hw => ?_⟩
  · rw [State.control_run hr] at hrun
    simpa using hrun
  · rcases (hwatch hw).2 x hx with hesc | ⟨v, hv, -⟩
    · exact .inr hesc
    · exact .inl (by rw [show t.brk.watch = some v from hv]; rfl)

end Machine
end Sys2Proof
end

section
/-! PROOFS. The stop point a run takes from its watches: the nearest candidate that a test admits (R92, R93). -/

namespace Sys2Proof
namespace Machine

theorem Watch.suits_iff (w : Watch) (d : Dir) :
    w.suits d = true ↔ w.sense = .either ∨ w.sense = (if (w.car = .A ↔ d = .up) then .up else .down) := by
  unfold Watch.suits Dir.increases
  cases w.sense <;> cases w.car <;> cases d <;> decide

/-- The candidates of R92 are the watches that may stop the run. -/
theorem State.candidate_iff (s : State) (r : Run) (w : Watch) (x : Int) :
    s.candidate r w = some x ↔ s.WatchAt r w x := by
  simp only [State.candidate, State.WatchAt, Option.ite_none_right_eq_some, Bool.and_eq_true, Watch.suits_iff,
    Option.some.injEq, State.watchX]
  constructor
  · rintro ⟨⟨⟨⟨⟨he, hh⟩, hs⟩, ha⟩, hb⟩, rfl⟩
    exact ⟨he, hh, hs, rfl, of_decide_eq_true ha, of_decide_eq_true hb⟩
  · rintro ⟨he, hh, hs, rfl, ha, hb⟩
    exact ⟨⟨⟨⟨⟨he, hh⟩, hs⟩, decide_eq_true ha⟩, decide_eq_true hb⟩, rfl⟩

/-- `o` is the nearest, by the distance `d`, of the positions that `at_` gives for the indices in `S`, and the lowest index
between equal distances. -/
def NearestOf (d : Int → Int) (at_ : Ix4 → Option Int) (S : Ix4 → Prop) : Option (Ix4 × Int) → Prop
  | none => ∀ m, S m → at_ m = none
  | some (n, x) => at_ n = some x ∧
      ∀ m y, S m → at_ m = some y → d x < d y ∨ (d x = d y ∧ n.index ≤ m.index)

/-- One index more, above those looked at. -/
def nearer (d : Int → Int) (at_ : Ix4 → Option Int) (best : Option (Ix4 × Int)) (n : Ix4) : Option (Ix4 × Int) :=
  match at_ n with
  | some x =>
    match best with
    | none => some (n, x)
    | some b => if d x < d b.2 then some (n, x) else best
  | none => best

theorem nearestOf_nearer {d : Int → Int} {at_ : Ix4 → Option Int} {S : Ix4 → Prop} {best : Option (Ix4 × Int)}
    (hb : NearestOf d at_ S best) (hS : ∀ b, best = some b → S b.1) {n : Ix4} (hn : ∀ m, S m → m.index ≤ n.index) :
    NearestOf d at_ (fun m => S m ∨ m = n) (nearer d at_ best n) ∧
      ∀ b, nearer d at_ best n = some b → S b.1 ∨ b.1 = n := by
  unfold nearer
  cases hx : at_ n with
  | none =>
    refine ⟨?_, fun b hbest => .inl (hS b hbest)⟩
    cases best with
    | none => exact fun m hm => hm.elim (hb m) (fun h => h ▸ hx)
    | some b => exact ⟨hb.1, fun m y hm hy => hm.elim (fun h => hb.2 m y h hy) (fun h => by rw [h, hx] at hy; cases hy)⟩
  | some x =>
    have hself : ∀ m y, m = n → at_ m = some y → d x < d y ∨ (d x = d y ∧ n.index ≤ m.index) := by
      rintro m y rfl hy
      rw [hx] at hy
      cases hy
      exact .inr ⟨rfl, le_rfl⟩
    cases best with
    | none =>
      refine ⟨⟨hx, fun m y hm hy => hm.elim (fun h => ?_) (fun h => hself m y h hy)⟩, fun b hbest => ?_⟩
      · rw [hb m h] at hy; cases hy
      · cases hbest; exact .inr rfl
    | some b =>
      obtain ⟨hat, hleast⟩ := hb
      dsimp only
      split
      next hlt =>
        refine ⟨⟨hx, fun m y hm hy => hm.elim (fun h => ?_) (fun h => hself m y h hy)⟩, fun c hc => ?_⟩
        · rcases hleast m y h hy with h' | ⟨h', -⟩
          · exact .inl (hlt.trans h')
          · exact .inl (h' ▸ hlt)
        · cases hc; exact .inr rfl
      next hge =>
        refine ⟨⟨hat, fun m y hm hy => hm.elim (fun h => hleast m y h hy) ?_⟩, fun c hc => .inl (hS c hc)⟩
        rintro rfl
        rw [hx] at hy
        cases hy
        have := hn b.1 (hS b rfl)
        omega

theorem nearestOf_all (d : Int → Int) (at_ : Ix4 → Option Int) :
    NearestOf d at_ (fun _ => True) (Ix4.all.foldl (nearer d at_) none) := by
  have h0 : NearestOf d at_ (fun _ => False) none := fun _ h => h.elim
  have h1 := nearestOf_nearer h0 (fun b hb => by cases hb) (n := .i1) (fun _ h => h.elim)
  have h2 := nearestOf_nearer h1.1 h1.2 (n := .i2) (by rintro m (h | rfl); exacts [h.elim, by decide])
  have h3 := nearestOf_nearer h2.1 h2.2 (n := .i3) (by rintro m ((h | rfl) | rfl); exacts [h.elim, by decide, by decide])
  have h4 := nearestOf_nearer h3.1 h3.2 (n := .i4)
    (by rintro m (((h | rfl) | rfl) | rfl); exacts [h.elim, by decide, by decide, by decide])
  have hall : (fun m : Ix4 => (((False ∨ m = .i1) ∨ m = .i2) ∨ m = .i3) ∨ m = .i4) = fun _ => True := by
    funext m
    cases m <;> simp
  rw [hall] at h4
  exact h4.1

/-- The position of a candidate that a test admits. -/
def State.admittedAt (s : State) (r : Run) (takes : Ix4 → Int → Bool) (n : Ix4) : Option Int :=
  (s.candidate r (s.plan.watches.get n)).filter (fun x => takes n x)

theorem State.admittedAt_iff (s : State) (r : Run) (takes : Ix4 → Int → Bool) (n : Ix4) (x : Int) :
    s.admittedAt r takes n = some x ↔ s.WatchAt r (s.plan.watches.get n) x ∧ takes n x = true := by
  simp only [State.admittedAt, Option.filter_eq_some_iff, State.candidate_iff]

theorem State.nearestWatch_eq (s : State) (r : Run) (takes : Ix4 → Int → Bool) :
    s.nearestWatch r takes =
      Ix4.all.foldl (nearer (fun x => (x - s.trk.xA) * r.dir.sign) (s.admittedAt r takes)) none := by
  unfold State.nearestWatch
  congr 1
  funext best n
  simp only [nearer, State.admittedAt]
  cases s.candidate r (s.plan.watches.get n) with
  | none => rfl
  | some x =>
    cases h : takes n x with
    | false => simp [Option.filter, h]
    | true => simp only [Option.filter, h]; cases best <;> rfl

/-- The stop point formed of the nearest candidate that a test admits. -/
theorem State.nearestStop_stopOf (s : State) (r : Run) (takes : Ix4 → Int → Bool) :
    s.NearestStop r (fun n x => takes n x = true) (stopOf (s.nearestWatch r takes)) := by
  have hspec := nearestOf_all (fun x => (x - s.trk.xA) * r.dir.sign) (s.admittedAt r takes)
  rw [← s.nearestWatch_eq] at hspec
  cases hn : s.nearestWatch r takes with
  | none =>
    rw [hn] at hspec
    intro m y hy htakes
    have hnone := hspec m trivial
    rw [(s.admittedAt_iff r takes m y).2 ⟨hy, htakes⟩] at hnone
    cases hnone
  | some b =>
    obtain ⟨n, x⟩ := b
    rw [hn] at hspec
    obtain ⟨hx, hleast⟩ := hspec
    obtain ⟨hwatch, hadmitted⟩ := (s.admittedAt_iff r takes n x).1 hx
    refine ⟨hwatch, hadmitted, fun m y hy htakes => ?_⟩
    refine (hleast m y trivial ((s.admittedAt_iff r takes m y).2 ⟨hy, htakes⟩)).imp id (fun ⟨heq, hle⟩ => ⟨?_, hle⟩)
    cases hd : r.dir <;> rw [hd] at heq <;> simp only [Dir.sign] at heq <;> omega

end Machine
end Sys2Proof
end

section
/-! PROOFS. What the operations on the run and the tally write: the run after a trip, a hold and a close, the loads after a freeze
and as stop windows open. -/

namespace Sys2Proof
namespace Machine

/-! ### The end of an event before the transmitters are asked -/

/-- The state once the flags are handed over. -/
def State.flagged (u : State) (q : List Instr) : State :=
  { u with line := { u.line with flags := u.flagsNow }, pending := q }

@[simp] theorem State.flagged_frame (u : State) (q : List Instr) :
    (u.flagged q).now = u.now ∧ (u.flagged q).geo = u.geo ∧ (u.flagged q).trk = u.trk ∧ (u.flagged q).sup = u.sup ∧
      (u.flagged q).plan = u.plan ∧ (u.flagged q).brk = u.brk ∧ (u.flagged q).doors = u.doors ∧
      (u.flagged q).gates = u.gates ∧ (u.flagged q).tally = u.tally ∧ (u.flagged q).links = u.links ∧
      (u.flagged q).drive = u.drive ∧ (u.flagged q).ctl = u.ctl ∧ (u.flagged q).notices = u.notices ∧
      (u.flagged q).freeSeq = u.freeSeq ∧ (u.flagged q).line.mode = u.line.mode ∧ (u.flagged q).line.key = u.line.key ∧
      (u.flagged q).line.loops = u.line.loops ∧ (u.flagged q).line.restartPending = u.line.restartPending ∧
      (u.flagged q).line.atStop = u.line.atStop ∧ (u.flagged q).line.conds = u.line.conds ∧
      (u.flagged q).line.memory = u.line.memory :=
  ⟨rfl, rfl, rfl, rfl, rfl, rfl, rfl, rfl, rfl, rfl, rfl, rfl, rfl, rfl, rfl, rfl, rfl, rfl, rfl, rfl, rfl⟩

theorem State.ended_eq (u : State) (q : List Instr) : u.ended q = (u.flagged q).transmit := rfl

theorem exec_eq_transmit (c : Instr) (s : State) :
    exec c s = .next ((effect c s).flagged s.pending).transmit := exec_eq_ended c s

theorem eq_transmit_of_exec {c : Instr} {s t : State} (h : exec c s = .next t) :
    t = ((effect c s).flagged s.pending).transmit := eq_ended_of_exec h

/-! ### Stop windows, freezes and holds of the tally -/

theorem State.tallyWindows_of_run {s : State} (h : s.plan.run.isSome = true) : s.tallyWindows = s := by
  have hnone : ∀ c, s.tryWindow c = s := fun c => by
    have : s.windowStation c = none := if_neg (by cases hr : s.plan.run <;> simp_all)
    simp only [State.tryWindow, this]
  rw [State.tallyWindows, hnone, hnone]

theorem State.runChanged_of_run {s : State} (h : s.plan.run.isSome = true) : s.runChanged = s.servingUpdate := by
  rw [State.runChanged, State.tallyWindows_of_run h]

@[simp] theorem State.enterRun_tally (s : State) (b : Nat) (r : Run) (w : RunWhy) : (s.enterRun b r w).tally = s.tally := by
  rw [State.enterRun, State.runChanged_of_run (by simp)]
  simp

/-- A stop window that opens touches the load of its car alone, and no freeze. -/
theorem State.tryWindow_tally (s : State) (c d : Car) :
    (s.tryWindow c).tally.get d =
      (match s.windowStation c with
        | some st => if d = c then (s.tally.get c).openWindow st (s.geo.capacity c) else s.tally.get d
        | none => s.tally.get d) := by
  simp only [State.tryWindow]
  split
  next h => rw [h]
  next st h => simp [h]

@[simp] theorem State.tryWindow_frozen (s : State) (c d : Car) :
    ((s.tryWindow c).tally.get d).frozen = (s.tally.get d).frozen := by
  rw [s.tryWindow_tally]
  split
  · split
    next h => subst h; rfl
    next => rfl
  · rfl

@[simp] theorem State.tallyWindows_frozen (s : State) (d : Car) :
    (s.tallyWindows.tally.get d).frozen = (s.tally.get d).frozen := by simp [State.tallyWindows]

@[simp] theorem State.servingUpdate_tally (s : State) : s.servingUpdate.tally = s.tally := by simp

@[simp] theorem State.freezeCar_tally (s : State) (c d : Car) :
    (s.freezeCar c).tally.get d = if d = c then (s.tally.get c).freeze s.geo.tolerance else s.tally.get d := by
  simp [State.freezeCar]

theorem State.freeze_tally (s : State) (d : Car) : s.freeze.tally.get d = (s.tally.get d).freeze s.geo.tolerance := by
  cases d <;> simp [State.freeze]

theorem Load.freeze_frozen (l : Load) (tol : Nat) : (l.freeze tol).frozen = some (l.upper tol, l.lower tol) := rfl

@[simp] theorem Load.freeze_upper (l : Load) (tol tol' : Nat) : (l.freeze tol).upper tol' = l.upper tol := rfl

@[simp] theorem Load.freeze_lower (l : Load) (tol tol' : Nat) : (l.freeze tol).lower tol' = l.lower tol := rfl

theorem State.unfreezeCar_frozen (s : State) (c d : Car) :
    ((s.unfreezeCar c).tally.get d).frozen = if d = c then none else (s.tally.get d).frozen := by
  simp only [State.unfreezeCar]
  split
  · simp only [State.notice_frame, State.handOver_frame, State.setLoad_tally, PerCar.get_set]
    split <;> rfl
  next h =>
    split
    next heq => subst heq; simpa using h
    next => rfl

@[simp] theorem State.unfreeze_frozen (s : State) (d : Car) : (s.unfreeze.tally.get d).frozen = none := by
  cases d <;> simp [State.unfreeze, State.unfreezeCar_frozen]

@[simp] theorem State.closeRun_frozen (s : State) (r : Run) (o : RunOutcome) (y : CloseReason) (e : Option Int) (d : Car) :
    ((s.closeRun r o y e).tally.get d).frozen = none := by
  simp [State.closeRun, State.runChanged]

@[simp] theorem State.closeRun_env (s : State) (r : Run) (o : RunOutcome) (y : CloseReason) (e : Option Int) :
    (s.closeRun r o y e).sup.env = none := by simp [State.closeRun]

@[simp] theorem State.closeRun_lastRun (s : State) (r : Run) (o : RunOutcome) (y : CloseReason) (e : Option Int) :
    (s.closeRun r o y e).plan.lastRun = some ⟨r.id, r.target, o, y, e⟩ := by simp [State.closeRun]

/-! ### The run -/

/-- A run as a trip leaves it (R89). -/
def Run.trip (r : Run) : Run :=
  if r.state = .tripped then r else { r with state := .tripped, pendingStop := none, leaving := none }

theorem Run.trip_state (r : Run) : r.trip.state = .tripped := by
  unfold Run.trip
  split
  next h => exact h
  next => rfl

theorem State.tripRun_run (s : State) (c : Cause) : (s.tripRun c).plan.run = s.plan.run.map Run.trip := by
  unfold State.tripRun
  split
  next r hr =>
    rw [hr, Option.map_some, Run.trip]
    split
    next => exact hr
    next => simp
  next hr => rw [hr, Option.map_none]

@[simp] theorem State.emergency_run (s : State) (c : Cause) (f : Figures) :
    (s.emergency c f).plan.run = s.plan.run.map Run.trip := by
  simp [State.emergency, State.tripRun_run, State.startWatch]

@[simp] theorem State.raise_run (s : State) (c : Cause) : (s.raise c).plan.run = s.plan.run.map Run.trip := by
  simp [State.raise]

/-- A hold leaves a run that is not under way as it is. -/
theorem State.hold_of_not_inMotion {s : State} (h : s.runInMotion = false) (c : HoldCause) : s.hold c = s := by
  unfold State.hold
  split
  next r hr =>
    have hst : r.state.inMotion = false := by simpa [State.runInMotion, hr] using h
    split <;> first | rfl | simp_all [RunState.inMotion]
  next => rfl

end Machine
end Sys2Proof
end

section
/-! PROOFS. The sample of a PLANNED run (R70, R72): its tests leave the run as it is, trip it or close it, and the planner
starts it, closes it for want of deceleration, or leaves it. -/

namespace Sys2Proof
namespace Machine

/-- The PLANNED run `r` is still the run, or there is none, or one in TRIPPED. -/
def State.Waits (u : State) (r : Run) : Prop := ∀ x, u.plan.run = some x → x = r ∨ x.state = .tripped

section
variable {r : Run} {u v : State}

theorem State.Waits.of_run (h : u.Waits r) (hv : v.plan.run = u.plan.run) : v.Waits r := by
  rwa [State.Waits, hv]

theorem State.Waits.of_trip (hv : v.plan.run = u.plan.run.map Run.trip) : v.Waits r := by
  intro x hx
  rw [hv] at hx
  obtain ⟨y, -, rfl⟩ := Option.map_eq_some_iff.1 hx
  exact .inr y.trip_state

theorem State.Waits.emergency (c : Cause) (f : Figures) : (u.emergency c f).Waits r := .of_trip (u := u) (by simp)

theorem State.Waits.raise (c : Cause) : (u.raise c).Waits r := .of_trip (u := u) (by simp)

theorem State.Waits.not_inMotion (h : u.Waits r) (hr : r.state = .planned) : u.runInMotion = false := by
  unfold State.runInMotion
  cases hrun : u.plan.run with
  | none => rfl
  | some x =>
    rcases h x hrun with rfl | hx
    · simp [hr, RunState.inMotion]
    · simp [hx, RunState.inMotion]

theorem State.Waits.hold (h : u.Waits r) (hr : r.state = .planned) (c : HoldCause) : (u.hold c).Waits r := by
  rwa [State.hold_of_not_inMotion (h.not_inMotion hr)]

theorem State.Waits.closePlanned (h : u.Waits r) (y : CloseReason) : (u.closePlanned y).Waits r := by
  unfold State.closePlanned
  split
  · split
    · exact fun x hx => by simp at hx
    · exact h
  · exact h

theorem State.lowerCruise_run_of_waits (h : u.Waits r) (hr : r.state = .planned) : u.lowerCruise.plan.run = u.plan.run := by
  cases hrun : u.plan.run with
  | none => simp [State.lowerCruise, hrun]
  | some x =>
    have hx : x.state = .planned ∨ x.state = .tripped := (h x hrun).imp (fun e => by rw [e, hr]) id
    rcases hx with hx | hx <;> simp [State.lowerCruise, hrun, hx]

theorem State.Waits.setConf (h : u.Waits r) (hr : r.state = .planned) (c : Confidence) : (u.setConf c).Waits r := by
  simp only [State.setConf]
  split
  · exact h
  · have hbase : ((({ u with trk := u.trk.enter c } : State).handOver .confDegraded c.isDegraded).handOver .confLost
        (c == .lost)).Waits r := h.of_run (by simp)
    exact hbase.of_run (State.lowerCruise_run_of_waits hbase hr)

theorem State.Waits.confEvent (h : u.Waits r) (hr : r.state = .planned) (c : Confidence) (k : PosCause) (car : Option Car)
    (id : Option Nat) (value : Option Int) : (u.confEvent c k car id value).Waits r := by
  have hset : ((u.setConf c).posNotice k car id value u.trk.conf).Waits r := (h.setConf hr c).of_run (by simp)
  simp only [State.confEvent, State.lostEffects]
  split
  · split
    · exact .raise _
    · exact hset.closePlanned _
  · exact hset

theorem State.Waits.missTest (h : u.Waits r) (hr : r.state = .planned) (c : Car) : (u.missTest c).Waits r := by
  simp only [State.missTest]
  split
  · exact h
  · split
    · exact State.Waits.confEvent (h.of_run (by rfl)) hr _ _ _ _ _
    · exact h

theorem State.Waits.measured (h : u.Waits r) (hr : r.state = .planned) : u.measured.Waits r := by
  have hsample : u.trackSample.Waits r := h.of_run (by simp)
  exact ((hsample.missTest hr .A).missTest hr .B).of_run (by simp [State.measured, State.tracker])

theorem State.Waits.motionTest (h : u.Waits r) (hr : r.state = .planned) (x : Door) : (u.motionTest x).Waits r := by
  simp only [State.motionTest]
  split
  · exact h
  · split
    · exact h
    · exact State.Waits.hold (h.of_run (by simp [State.inMotionNotice])) hr _
    · exact .raise _

theorem State.Waits.linkTest (h : u.Waits r) (hr : r.state = .planned) (c : Car) : (u.linkTest c).Waits r := by
  unfold State.linkTest
  split
  · exact h
  · split
    · exact h.hold hr _
    · exact h
  · split
    · exact h
    · exact .raise _

theorem State.Waits.stillTests (h : u.Waits r) (hr : r.state = .planned) : u.stillTests.Waits r := by
  have htests : ∀ (ds : List Door) (w : State), w.Waits r → (ds.foldl (fun w x => w.motionTest x) w).Waits r := by
    intro ds
    induction ds with
    | nil => exact fun _ hw => hw
    | cons d ds ih => exact fun w hw => ih _ (hw.motionTest hr d)
  simp only [State.stillTests, State.linkTests, State.motionTests]
  split
  · exact ((htests _ _ (h.of_run (by simp))).linkTest hr .A).linkTest hr .B
  · exact ((htests _ _ h).linkTest hr .A).linkTest hr .B

theorem State.bands_of_waits (h : u.Waits r) (hr : r.state = .planned) :
    u.bands = u.setBand { u.sup.band with last := some u.idleValues } := by
  unfold State.bands
  split
  next x hx =>
    have hst : x.state.evaluated = false := by
      rcases h x hx with rfl | ht
      · rw [hr]; rfl
      · rw [ht]; rfl
    rw [if_neg (by simp [hst])]
  next => rfl

theorem State.Waits.watched (h : u.Waits r) (hr : r.state = .planned) : u.watched.Waits r := by
  have hmeasured : u.measured.Waits r := h.measured hr
  have hseen : u.motionSeen.Waits r := by
    unfold State.motionSeen
    split
    · exact hmeasured.stillTests hr
    · exact hmeasured
  have hbands : u.motionSeen.bands.Waits r := by
    rw [State.bands_of_waits hseen hr]
    exact hseen.of_run (by simp)
  have hcheck : u.motionSeen.bands.motionCheck.Waits r := by
    simp only [State.motionCheck]
    split
    · split
      · exact hbands.of_run (by simp)
      · exact .emergency _ _
    · exact hbands.of_run (by simp)
  exact hcheck.of_run (by simp [State.watched, State.supervised])

end

/-! ### The planner's part -/

section
variable {w : State} {r : Run} {tb : Tables}

/-- Freezing the bounds of both cars keeps the masses of a run. -/
theorem State.freeze_runMasses (s : State) (tb : Tables) (hs : s.geo.committed = some tb) (d : Dir) :
    runMasses tb s.freeze.tally d = runMasses tb s.tally d := by
  have htol : s.geo.tolerance = tb.braking.tolerance := by simp [Geometry.tolerance, hs]
  simp [runMasses, State.freeze_tally, htol]

/-- The envelope a PLANNED run leaves with. -/
theorem State.freeze_envelopeFor (s : State) (hs : s.geo.committed = some tb) (r : Run) :
    (s.setRef 0).freeze.envelopeFor tb r = s.envelopeFor tb r := by
  have hmasses := State.freeze_runMasses (s.setRef 0) tb hs r.dir
  simp only [State.setRef_frame] at hmasses
  simp [State.envelopeFor, hmasses]

/-- The run that leaves PLANNED, with its cruise and figures. -/
def State.readyRun (s : State) (tb : Tables) (r : Run) : Run :=
  { r with cruise := s.cruiseFor r.requested, dyn := some ((s.envelopeFor tb r).dyn tb.braking.aAcc) }

/-- The state in which a run leaves PLANNED: both cars' bounds frozen, the envelope and the run's figures formed. -/
def State.leaving (s : State) (tb : Tables) (r : Run) : State :=
  ({ (s.setRef 0).freeze with sup := (s.setRef 0).freeze.sup.forRun (s.envelopeFor tb r) }).setRun (some (s.readyRun tb r))

@[simp] theorem State.leaving_frame (s : State) (tb : Tables) (r : Run) :
    (s.leaving tb r).now = s.now ∧ (s.leaving tb r).geo = s.geo ∧ (s.leaving tb r).trk = s.trk ∧
      (s.leaving tb r).brk = s.brk ∧ (s.leaving tb r).doors = s.doors ∧ (s.leaving tb r).gates = s.gates ∧
      (s.leaving tb r).links = s.links ∧ (s.leaving tb r).drive = s.drive ∧ (s.leaving tb r).sup.trip = s.sup.trip ∧
      (s.leaving tb r).sup.env = some (s.envelopeFor tb r) ∧ (s.leaving tb r).plan.run = some (s.readyRun tb r) ∧
      (s.leaving tb r).plan.watches = s.plan.watches ∧ (s.leaving tb r).plan.pendingRun = s.plan.pendingRun := by
  simp [State.leaving, Supervisor.forRun]

theorem State.leaving_tally (s : State) (tb : Tables) (r : Run) (c : Car) :
    (s.leaving tb r).tally.get c = (s.tally.get c).freeze s.geo.tolerance := by
  simp [State.leaving, State.freeze_tally]

/-- A PLANNED run at a sample whose start conditions hold: the close for want of deceleration, or the departure. -/
theorem State.planRun_of_conditions (hr : w.plan.run = some r) (hst : r.state = .planned)
    (htb : w.geo.committed = some tb) (hcond : w.startConditions = true) (found : Option StopPoint) :
    w.planRun found =
      if (w.envelopeFor tb r).aGuar < tb.braking.aMin then
        (w.leaving tb r).closeRun (w.readyRun tb r) .cancelled .brakeMargin none
      else (w.leaving tb r).depart (w.readyRun tb r) := by
  have hcond' : (w.setRef 0).startConditions = true := hcond
  have hcruise : (w.setRef 0).freeze.cruiseFor r.requested = w.cruiseFor r.requested := by simp [State.cruiseFor]
  simp only [State.planRun, hr, htb, if_pos hst, if_pos hcond', State.leavePlanned, State.freeze_envelopeFor w htb r, hcruise]
  rfl

theorem State.planRun_of_no_conditions (hr : w.plan.run = some r) (hst : r.state = .planned)
    (htb : w.geo.committed = some tb) (hcond : w.startConditions = false) (found : Option StopPoint) :
    w.planRun found = w.setRef 0 := by
  have hcond' : (w.setRef 0).startConditions = false := hcond
  simp only [State.planRun, hr, htb, if_pos hst, hcond', Bool.false_eq_true, ite_false]

/-- A run in no state of its own at a sample: the reference alone is put to 0. -/
theorem State.planRun_of_tripped {found : Option StopPoint} (h : ∀ x, w.plan.run = some x → x.state = .tripped) :
    w.planRun found = w.setRef 0 := by
  unfold State.planRun
  split
  next x _ hx _ => simp [h x hx, RunState.moving]
  next => rfl

/-- The planner starts no sequence with a faulted drive. -/
theorem State.startSequence_of_sound {s : State} (h : s.drive.faulted = false) :
    s.startSequence =
      { s with
        brk := { s.brk with ten := true, seq := .torqueWait, torque := some s.now }
        drive := { s.drive with timer := some s.now } } := by
  have hfaulted : ({ s.drive with timer := some s.now } : Drive).faulted = false := h
  simp only [State.startSequence, hfaulted, Bool.false_eq_true, ite_false]

theorem State.drive_sound_of_conditions (hcond : w.startConditions = true) : w.drive.faulted = false := by
  simp only [State.startConditions, Drive.ok, Bool.and_eq_true, Bool.not_eq_true'] at hcond
  exact hcond.1.1.2.2

end

end Machine
end Sys2Proof
end

section
/-! PROOFS. A departure needs its brake margin (R70, R72): what a sample at standstill leaves as it was before the planner
looks at a PLANNED run, and what the planner makes of the run. -/

namespace Sys2Proof
namespace Machine

/-- What the planner reads for a start is as it was. -/
structure State.Undisturbed (s t : State) : Prop where
  geo : t.geo = s.geo
  env : t.sup.env = s.sup.env
  trip : t.sup.trip = s.sup.trip
  run : t.plan.run = s.plan.run
  pendingRun : t.plan.pendingRun = s.plan.pendingRun
  brk : t.brk = s.brk
  doors : t.doors = s.doors
  gates : t.gates = s.gates
  tally : t.tally = s.tally
  links : t.links = s.links
  drive : t.drive = s.drive

theorem State.Undisturbed.trans {s t u : State} (h : s.Undisturbed t) (h' : t.Undisturbed u) : s.Undisturbed u where
  geo := h'.geo.trans h.geo
  env := h'.env.trans h.env
  trip := h'.trip.trans h.trip
  run := h'.run.trans h.run
  pendingRun := h'.pendingRun.trans h.pendingRun
  brk := h'.brk.trans h.brk
  doors := h'.doors.trans h.doors
  gates := h'.gates.trans h.gates
  tally := h'.tally.trans h.tally
  links := h'.links.trans h.links
  drive := h'.drive.trans h.drive

theorem State.Undisturbed.refl (s : State) : s.Undisturbed s := ⟨rfl, rfl, rfl, rfl, rfl, rfl, rfl, rfl, rfl, rfl, rfl⟩

/-! ### Confidence -/

@[simp] theorem Tracker.enter_conf (t : Tracker) (c : Confidence) : (t.enter c).conf = c := by cases c <;> rfl

@[simp] theorem State.setConf_conf (s : State) (c : Confidence) : (s.setConf c).trk.conf = c := by
  simp only [State.setConf]
  split
  next h => exact h
  next => simp

theorem State.setConf_trk (s : State) (c : Confidence) :
    (s.setConf c).trk = if s.trk.conf = c then s.trk else s.trk.enter c := by
  simp only [State.setConf]
  split <;> simp

@[simp] theorem State.confEvent_trk (s : State) (c : Confidence) (k : PosCause) (car : Option Car) (id : Option Nat)
    (value : Option Int) : (s.confEvent c k car id value).trk = (s.setConf c).trk := by simp [State.confEvent]

/-- A change of confidence that does not lose the position only says so. -/
theorem State.confEvent_of_not_lost {s : State} {c : Confidence} (h : s.trk.conf = .lost ∨ c ≠ .lost) (k : PosCause)
    (car : Option Car) (id : Option Nat) (value : Option Int) :
    s.confEvent c k car id value = (s.setConf c).posNotice k car id value s.trk.conf := by
  have hconf : ((s.setConf c).posNotice k car id value s.trk.conf).trk.conf = c := by simp
  simp only [State.confEvent, State.lostEffects, hconf]
  rw [if_neg]
  rintro ⟨hbefore, hc⟩
  exact h.elim hbefore (fun hne => hne hc)

/-- One that loses the position leaves no expectation. -/
theorem State.confEvent_of_lost {s : State} (h : s.trk.conf ≠ .lost) (k : PosCause)
    (car : Option Car) (id : Option Nat) (value : Option Int) :
    (s.confEvent .lost k car id value).trk.conf = .lost ∧ (s.confEvent .lost k car id value).trk.expected = .const none := by
  rw [State.confEvent_trk, State.setConf_trk, if_neg h]
  exact ⟨rfl, rfl⟩

section
variable {u : State} {r : Run}

theorem State.Undisturbed.missTest (h : u.Waits r) (hr : r.state = .planned) (c : Car) :
    u.Undisturbed (u.missTest c) ∨
      ((u.missTest c).trk.conf = .lost ∧ (u.missTest c).trk.expected = .const none) := by
  simp only [State.missTest]
  split
  · exact .inl (.refl u)
  · split
    · generalize hv : ({ u with trk := _ } : State) = v
      have hbase : u.Undisturbed v := by subst hv; exact ⟨rfl, rfl, rfl, rfl, rfl, rfl, rfl, rfl, rfl, rfl, rfl⟩
      have hwaits : v.Waits r := h.of_run hbase.run
      generalize missOutcome _ _ = c'
      by_cases hlost : v.trk.conf = .lost ∨ c' ≠ .lost
      · refine .inl (hbase.trans ?_)
        rw [State.confEvent_of_not_lost hlost]
        have hrun : (v.setConf c').plan.run = v.plan.run := by
          simp only [State.setConf]
          split
          · rfl
          · rw [State.lowerCruise_run_of_waits (r := r) (hwaits.of_run (by simp)) hr]
            simp
        exact ⟨by simp, by simp, by simp, by simpa using hrun, by simp, by simp, by simp, by simp, by simp, by simp, by simp⟩
      · have hc : c' = .lost := by simpa using (not_or.1 hlost).2
        subst hc
        exact .inr (State.confEvent_of_lost (fun h => hlost (.inl h)) _ _ _ _)
    · exact .inl (.refl u)

theorem State.missTest_of_no_expectation (h : u.trk.expected = .const none) (c : Car) : u.missTest c = u := by
  simp only [State.missTest, h, PerCar.get_const]

/-- At standstill the sample measures less than 20 mm/s. -/
theorem State.trackSample_slow (h : u.trackSample.trk.still = true) : mag u.trackSample.trk.v < 20 := by
  have hmeasure : ∀ t : Tracker, (t.measure u.now).still = true → mag (t.measure u.now).v < 20 := by
    intro t ht
    simp only [Tracker.measure, stillCountAfter] at ht ⊢
    split at ht
    next hslow => exact hslow
    next => simp at ht
  obtain ⟨hstill, hv⟩ : u.trackSample.trk.still = (((u.trk.moveBase u.geo.scale).place u.geo.length
        ((u.trk.moveBase u.geo.scale).freshX u.geo.scale)).measure u.now).still ∧
      u.trackSample.trk.v = (((u.trk.moveBase u.geo.scale).place u.geo.length
        ((u.trk.moveBase u.geo.scale).freshX u.geo.scale)).measure u.now).v := by
    simp only [State.trackSample]
    split <;> exact ⟨rfl, rfl⟩
  rw [hv]
  exact hmeasure _ (hstill ▸ h)

/-- What a sample that ends at standstill, with the position not lost, leaves a PLANNED run's planner to find: all as it
was, but for the position, the watches and the supervisor's last values. -/
theorem State.Undisturbed.watched {s : State} (hr : s.plan.run = some r) (hst : r.state = .planned)
    (hwatch : s.brk.watch = none) (hstill : s.watched.trk.still = true) (hconf : s.watched.trk.conf ≠ .lost) :
    s.Undisturbed s.watched := by
  have hwaits : s.Waits r := fun x hx => .inl (by rw [hr] at hx; exact (Option.some.inj hx).symm)
  have htrk : s.watched.trk = s.measured.trk := by
    simp only [State.watched, State.supervised, State.motionSeen]
    split <;> simp
  have hsampled : s.Undisturbed s.trackSample := ⟨rfl, rfl, rfl, rfl, rfl, rfl, rfl, rfl, rfl, rfl, rfl⟩
  have hmisses : s.Undisturbed s.tracker := by
    have hw : s.trackSample.Waits r := hwaits.of_run (by simp)
    rcases State.Undisturbed.missTest hw hst .A with hA | ⟨hlost, hnone⟩
    · rcases State.Undisturbed.missTest (hw.missTest hst .A) hst .B with hB | ⟨hlost, -⟩
      · exact hsampled.trans (hA.trans hB)
      · exact absurd hlost (by simpa [htrk, State.measured, State.tracker] using hconf)
    · have hB := State.missTest_of_no_expectation hnone .B
      refine absurd hlost ?_
      rw [← hB]
      simpa [htrk, State.measured, State.tracker] using hconf
  have hmeasured : s.Undisturbed s.measured := hmisses.trans
    ⟨by simp [State.measured], by simp [State.measured], by simp [State.measured], by simp [State.measured],
      by simp [State.measured], by simp [State.measured], by simp [State.measured], by simp [State.measured],
      by simp [State.measured], by simp [State.measured], by simp [State.measured]⟩
  have hseen : s.motionSeen = s.measured := by
    rw [State.motionSeen, if_neg]
    rw [← htrk, hstill]
    simp
  have hslow : mag s.measured.trk.v < 20 := by
    have hkept : s.measured.trk.still = s.trackSample.trk.still ∧ s.measured.trk.v = s.trackSample.trk.v := by
      simp [State.measured, State.tracker]
    rw [hkept.2]
    exact State.trackSample_slow (by rw [← hkept.1, ← htrk]; exact hstill)
  have hbands := State.bands_of_waits (hwaits.measured hst) hst
  have hcheck : s.motionSeen.bands.motionCheck = (s.measured.bands).setBand
      { s.measured.bands.sup.band with
        umArmed := s.measured.bands.sup.band.umArmed || s.measured.bands.trk.still, umCount := 0 } := by
    have hnot : s.measured.bands.uncommanded = false := by
      have : ¬20 ≤ mag s.measured.trk.v := by omega
      simp [State.uncommanded, this]
    rw [hseen]
    simp [State.motionCheck, hnot]
  have hsupervised : s.supervised = s.motionSeen.bands.motionCheck := by
    have hnone : s.motionSeen.bands.motionCheck.brk.watch = none := by
      rw [hcheck, hbands]
      simp [hmeasured.brk, hwatch]
    simp only [State.supervised, State.decelTest, hnone]
  refine hmeasured.trans ?_
  rw [State.watched, hsupervised, hcheck, hbands]
  exact ⟨by simp, by simp, by simp, by simp, by simp, by simp, by simp, by simp, by simp, by simp, by simp⟩

end

end Machine
end Sys2Proof
end

section
/-! PROOFS. A departure (R70, R72): the start conditions as R70 gives them, what the departing run and its envelope are, and that
no other event takes a run out of PLANNED to STARTING. -/

namespace Sys2Proof
namespace Machine

/-! ### The start conditions -/

theorem State.gateAtCar_eq_false (s : State) (c : Car) :
    s.gateAtCar c = false ↔ ∀ g ∈ s.gates.gates, ∀ st, s.geo.stationAt? (s.trk.pos c) = some st → g.station = st.number →
      g.state ≠ .opened ∧ g.state ≠ .passing := by
  have hopen : ∀ g : Gate, g.openOrPassing = false ↔ g.state ≠ .opened ∧ g.state ≠ .passing := by
    intro g
    cases h : g.state <;> simp [Gate.openOrPassing, h]
  unfold State.gateAtCar
  split
  next st hst =>
    rw [List.any_eq_false]
    simp [hst, hopen]
  next hst => simp [hst]

theorem State.startConditions_iff (s : State) :
    s.startConditions = true ↔ s.doors.allLocked = true ∧ (∀ c : Car, (s.tally.get c).departure.isSome = true) ∧
      (∀ g ∈ s.gates.gates, g.admission = none ∧ ∀ c st, s.geo.stationAt? (s.trk.pos c) = some st →
        g.station = st.number → g.state ≠ .opened ∧ g.state ≠ .passing) ∧
      s.drive.ok = true ∧ s.linksLive = true ∧ s.brk.trackClear = true := by
  have hcars : (∀ c : Car, (s.tally.get c).departure.isSome = true) ↔
      s.tally.a.departure.isSome = true ∧ s.tally.b.departure.isSome = true :=
    ⟨fun h => ⟨h .A, h .B⟩, fun h c => by cases c; exacts [h.1, h.2]⟩
  have hgates : s.gatesClear = true ↔ ∀ g ∈ s.gates.gates, g.admission = none ∧ ∀ c st,
      s.geo.stationAt? (s.trk.pos c) = some st → g.station = st.number → g.state ≠ .opened ∧ g.state ≠ .passing := by
    simp only [State.gatesClear, Bool.and_eq_true, Bool.not_eq_true', State.gateAtCar_eq_false, List.all_eq_true,
      Option.isNone_iff_eq_none]
    constructor
    · rintro ⟨⟨hA, hB⟩, hnone⟩ g hg
      refine ⟨hnone g hg, fun c => ?_⟩
      cases c
      exacts [hA g hg, hB g hg]
    · exact fun h => ⟨⟨fun g hg => (h g hg).2 .A, fun g hg => (h g hg).2 .B⟩, fun g hg => (h g hg).1⟩
  simp only [State.startConditions, Bool.and_eq_true, hcars, hgates, and_assoc]

/-! ### The departure -/

/-- A stop point that is the nearest stays so where the position, the watches and the run's way are the same. -/
theorem State.NearestStop.of_eq {s t : State} {r r' : Run} {takes : Ix4 → Int → Prop} {p : StopPoint}
    (h : s.NearestStop r takes p) (hgeo : t.geo = s.geo) (htrk : t.trk = s.trk) (hwatches : t.plan.watches = s.plan.watches)
    (hdir : r'.dir = r.dir) (hpA : r'.pA = r.pA) : t.NearestStop r' takes p := by
  have hat : ∀ w x, t.WatchAt r' w x ↔ s.WatchAt r w x := fun w x => by
    simp only [State.WatchAt, hgeo, htrk, hdir, hpA]
  cases p with
  | target => exact fun m y hy => h m y (by rw [← hwatches]; exact (hat _ _).1 hy)
  | watch n x =>
    obtain ⟨hwatch, hadmitted, hleast⟩ := h
    refine ⟨(hat _ _).2 (hwatches ▸ hwatch), hadmitted, fun m y hy => ?_⟩
    rw [htrk, hdir]
    exact hleast m y (by rw [← hwatches]; exact (hat _ _).1 hy)
  | asap vh since => exact h.elim

/-- With no watch excluded, the stop point of R93 is the nearest candidate of all. -/
theorem State.formStop_none_nearest (s : State) (r : Run) : s.NearestStop r (fun _ _ => True) (s.formStop r none) := by
  have h := s.nearestStop_stopOf r (fun n _ => some n != none)
  simpa [State.formStop] using h

section
variable {s : State} {r : Run} {tb : Tables}

/-- What a departure with a sound drive makes of the state. -/
theorem State.depart_of_sound (hsound : s.drive.faulted = false) :
    (s.depart r).plan.run = some { r with stop := s.formStop r none, state := .starting } ∧
      (s.depart r).plan.pendingRun = clearPending s.plan.pendingRun r.target ∧
      (s.depart r).plan.watches = s.plan.watches ∧ (s.depart r).geo = s.geo ∧ (s.depart r).trk = s.trk ∧
      (s.depart r).sup = s.sup ∧ (s.depart r).doors = s.doors ∧ (s.depart r).tally = s.tally ∧
      (s.depart r).brk = { s.brk with ten := true, seq := .torqueWait, torque := some s.now } := by
  simp only [State.depart]
  generalize hu : State.enterRun _ _ _ _ = u
  have hdrive : u.drive.faulted = false := by subst hu; simpa using hsound
  rw [State.startSequence_of_sound hdrive]
  subst hu
  simp

theorem clearPending_of_some (p : Option Nat) (n : Nat) : clearPending p n = if p = some n then none else p := rfl

theorem State.envelopeFor_aGuar (tb : Tables) (r : Run) :
    (s.envelopeFor tb r).aGuar = (span tb s.trk.xA r.pA r.dir (runMasses tb s.tally r.dir)).aGuar := rfl

theorem State.envelopeFor_limit (tb : Tables) (r : Run) :
    (s.envelopeFor tb r).limit = r.pA + r.dir.sign * tb.braking.overrun := rfl

theorem State.envelopeFor_runId (tb : Tables) (r : Run) : (s.envelopeFor tb r).runId = r.id := rfl

/-- The planner's part of a sample and what follows it leave all but the run, the reference and the tally's windows as the
planner had it. -/
theorem State.flagged_sample_frame (s : State) (q : List Instr) :
    (s.sample.flagged q).plan.run = (s.watched.planRun s.stopPoint).plan.run ∧
      (s.sample.flagged q).plan.lastRun = (s.watched.planRun s.stopPoint).plan.lastRun ∧
      (s.sample.flagged q).plan.pendingRun = (s.watched.planRun s.stopPoint).plan.pendingRun ∧
      (s.sample.flagged q).plan.watches = (s.watched.planRun s.stopPoint).plan.watches ∧
      (s.sample.flagged q).geo = (s.watched.planRun s.stopPoint).geo ∧
      (s.sample.flagged q).brk = (s.watched.planRun s.stopPoint).brk ∧
      (s.sample.flagged q).sup = (s.watched.planRun s.stopPoint).sup ∧
      (s.sample.flagged q).trk = s.watched.trk ∧
      (s.sample.flagged q).doors = (s.watched.planRun s.stopPoint).doors ∧
      ∀ c : Car, ((s.sample.flagged q).tally.get c).frozen = ((s.watched.planRun s.stopPoint).tally.get c).frozen := by
  rw [State.sample_eq]
  simp

/-- What the start conditions of a sample's planner are, said of the state the sample found. -/
theorem State.Undisturbed.startConditions_iff {t : State} (h : s.Undisturbed t) :
    t.startConditions = true ↔ s.doors.allLocked = true ∧ (∀ c : Car, (s.tally.get c).departure.isSome = true) ∧
      (∀ g ∈ s.gates.gates, g.admission = none ∧ ∀ c st, s.geo.stationAt? (t.trk.pos c) = some st →
        g.station = st.number → g.state ≠ .opened ∧ g.state ≠ .passing) ∧
      s.drive.ok = true ∧ s.linksLive = true ∧ s.brk.trackClear = true := by
  have hlinks : t.linksLive = s.linksLive := by simp only [State.linksLive, h.links]
  rw [State.startConditions_iff, h.doors, h.tally, h.gates, h.geo, h.drive, h.brk, hlinks]

/-- The run leaves PLANNED for STARTING at a sample: what it leaves with. -/
theorem State.sample_departs {r' : Run} {q : List Instr} (hr : s.plan.run = some r) (hst : r.state = .planned)
    (hr' : (s.sample.flagged q).plan.run = some r') (hst' : r'.state = .starting) :
    r'.id = r.id ∧
      (∃ e tb, (s.sample.flagged q).sup.env = some e ∧ s.geo.committed = some tb ∧ tb.braking.aMin ≤ e.aGuar ∧
        e.runId = r.id) ∧
      (s.sample.flagged q).doors.allLocked = true ∧
      (∀ k : Car, ((s.sample.flagged q).tally.get k).frozen.isSome = true) ∧
      (s.sample.flagged q).brk.ten = true ∧ (s.sample.flagged q).brk.seq = .torqueWait := by
  have hwaits : s.watched.Waits r := State.Waits.watched (fun x hx => .inl (Option.some.inj (hx.symm.trans hr))) hst
  obtain ⟨hrun, -, -, -, -, hbrk, hsup, -, hdoors, hfrozen⟩ := s.flagged_sample_frame q
  have hgeo : s.watched.geo = s.geo := by simp [State.watched, State.supervised, State.motionSeen, State.measured, apply_ite]
  rw [hrun] at hr'
  have hquiet : s.watched.plan.run ≠ some r' := fun h => by
    rcases hwaits r' h with rfl | ht <;> simp_all
  by_cases hkept : s.watched.plan.run = some r
  · cases htb : s.watched.geo.committed with
    | none =>
      rw [show s.watched.planRun s.stopPoint = s.watched.setRef 0 by simp only [State.planRun, hkept, htb]] at hr'
      exact absurd (by simpa using hr') hquiet
    | some tb =>
      cases hcond : s.watched.startConditions with
      | false =>
        rw [State.planRun_of_no_conditions hkept hst htb hcond] at hr'
        exact absurd (by simpa using hr') hquiet
      | true =>
        have hplan := State.planRun_of_conditions hkept hst htb hcond s.stopPoint
        split at hplan
        · rw [hplan, State.closeRun_run] at hr'
          cases hr'
        next hmargin =>
          have hsound : (s.watched.leaving tb r).drive.faulted = false := by
            simpa using State.drive_sound_of_conditions hcond
          obtain ⟨hdrun, -, -, -, -, hdsup, hddoors, hdtally, hdbrk⟩ :=
            State.depart_of_sound (r := s.watched.readyRun tb r) hsound
          rw [hplan, hdrun] at hr'
          cases hr'
          rw [hsup, hdoors, hbrk, hplan, hdsup, hddoors, hdbrk]
          refine ⟨rfl, ⟨_, tb, (State.leaving_frame _ _ _).2.2.2.2.2.2.2.2.2.1, by rw [← hgeo, htb], Nat.le_of_not_lt hmargin,
            State.envelopeFor_runId _ _⟩, ?_, fun k => ?_, rfl, rfl⟩
          · simpa using ((State.startConditions_iff _).1 hcond).1
          · rw [hfrozen, hplan, hdtally, State.leaving_tally, Load.freeze_frozen]
            rfl
  · have htripped : ∀ x, s.watched.plan.run = some x → x.state = .tripped := fun x hx =>
      (hwaits x hx).resolve_left (fun h => hkept (h ▸ hx))
    rw [State.planRun_of_tripped htripped] at hr'
    exact absurd (by simpa using hr') hquiet

/-- A run that is IDLE, PLANNED or TRIPPED is not STARTING after an event other than a sample. -/
theorem effect_keeps_unstarted {c : Instr} (hr : s.plan.run = some r) (hst : r.state = .planned) :
    (∃ dt, c = .positionSample dt) ∨ ∀ r', (effect c s).plan.run = some r' → r'.state ≠ .starting := by
  have hrun : ∀ {u : State}, (u.control.run = none ∨ u.control.run = some .planned ∨ u.control.run = some .tripped) →
      ∀ r', u.plan.run = some r' → r'.state ≠ .starting := by
    intro u hu r' hr' hst'
    rw [State.control_run hr', hst'] at hu
    simp at hu
  have hfound : ∀ dt, (s.advance dt).control.run = some .planned := fun dt => by
    rw [State.control_run (s := s.advance dt) (r := r) hr, hst]
  have hkept : ∀ {d d' : Control}, Control.Moves d d' → d.run = some .planned →
      d'.run = none ∨ d'.run = some .planned ∨ d'.run = some .tripped := fun hmoves hd =>
    hmoves.keeps (fun _ _ hx => hx.keeps_unstarted) (.inr (.inl hd))
  rcases effect_control c s with
    ⟨dt, hmoves⟩ | ⟨_, hreset, -⟩ | ⟨h, -, hmoves, -⟩ | ⟨dt, hc, -⟩ | ⟨dt, _, -, -, hseq, hmoves⟩
  · exact .inr (hrun (hkept hmoves (hfound dt)))
  · exact .inr (hrun (.inl (by rw [hreset])))
  · exact .inr (hrun (hkept hmoves (hfound h.dt)))
  · exact .inl ⟨dt, hc⟩
  · exact .inr (hrun (hkept hmoves (hfound dt)))

/-- A sample at standstill with a PLANNED run whose start conditions do not hold. -/
theorem State.sample_waits {q : List Instr} (hu : s.Undisturbed s.watched) (hr : s.plan.run = some r)
    (hst : r.state = .planned) (htb : s.geo.committed = some tb) (hcond : s.watched.startConditions = false) :
    (s.sample.flagged q).plan.run = some r ∧ (s.sample.flagged q).brk = s.brk ∧
      (s.sample.flagged q).sup.env = s.sup.env ∧ (s.sample.flagged q).plan.pendingRun = s.plan.pendingRun := by
  obtain ⟨hrun, -, hpending, -, -, hbrk, hsup, -⟩ := s.flagged_sample_frame q
  rw [hrun, hpending, hbrk, hsup,
    State.planRun_of_no_conditions (hu.run.trans hr) hst ((congrArg _ hu.geo).trans htb) hcond]
  simp [hu.run, hr, hu.brk, hu.env, hu.pendingRun]

/-- One whose start conditions hold, without the margin: the close. -/
theorem State.sample_closes {q : List Instr} (hu : s.Undisturbed s.watched) (hr : s.plan.run = some r)
    (hst : r.state = .planned) (htb : s.geo.committed = some tb) (hcond : s.watched.startConditions = true)
    (hmargin : (s.watched.envelopeFor tb r).aGuar < tb.braking.aMin) :
    (s.sample.flagged q).plan.run = none ∧
      (s.sample.flagged q).plan.lastRun = some ⟨r.id, r.target, .cancelled, .brakeMargin, none⟩ ∧
      (s.sample.flagged q).sup.env = none ∧ (∀ c : Car, ((s.sample.flagged q).tally.get c).frozen = none) ∧
      (s.sample.flagged q).brk = s.brk ∧ (s.sample.flagged q).sup.trip = s.sup.trip ∧
      (s.sample.flagged q).plan.pendingRun = s.plan.pendingRun := by
  obtain ⟨hrun, hlast, hpending, -, -, hbrk, hsup, -, -, hfrozen⟩ := s.flagged_sample_frame q
  simp only [hrun, hlast, hpending, hbrk, hsup, hfrozen,
    State.planRun_of_conditions (hu.run.trans hr) hst ((congrArg _ hu.geo).trans htb) hcond, if_pos hmargin]
  simp [hu.brk, hu.trip, hu.pendingRun, State.readyRun]

/-- One whose start conditions hold, with the margin: the departure. -/
theorem State.sample_starts {q : List Instr} (hu : s.Undisturbed s.watched) (hr : s.plan.run = some r)
    (hst : r.state = .planned) (htb : s.geo.committed = some tb) (hcond : s.watched.startConditions = true)
    (hmargin : tb.braking.aMin ≤ (s.watched.envelopeFor tb r).aGuar) :
    ∃ r', (s.sample.flagged q).plan.run = some r' ∧ r'.state = .starting ∧ r'.id = r.id ∧ r'.target = r.target ∧
      r'.pA = r.pA ∧ r'.dir = r.dir ∧ (s.sample.flagged q).NearestStop r (fun _ _ => True) r'.stop ∧
      (s.sample.flagged q).sup.env = some (s.watched.envelopeFor tb r) ∧
      (∀ c : Car, ((s.sample.flagged q).tally.get c).frozen =
        some ((s.tally.get c).upper tb.braking.tolerance, (s.tally.get c).lower tb.braking.tolerance)) ∧
      (s.sample.flagged q).brk = { s.brk with ten := true, seq := .torqueWait, torque := some s.now } ∧
      (s.sample.flagged q).sup.trip = s.sup.trip ∧
      (s.sample.flagged q).plan.pendingRun = (if s.plan.pendingRun = some r.target then none else s.plan.pendingRun) := by
  obtain ⟨hrun, -, hpending, hwatches, hgeo, hbrk, hsup, htrk, -, hfrozen⟩ := s.flagged_sample_frame q
  have hsound : (s.watched.leaving tb r).drive.faulted = false := by simpa using State.drive_sound_of_conditions hcond
  have hnow : s.watched.now = s.now := by
    simp [State.watched, State.supervised, State.motionSeen, State.measured, apply_ite]
  have htol : s.watched.geo.tolerance = tb.braking.tolerance := by simp [Geometry.tolerance, hu.geo, htb]
  have hplan := State.planRun_of_conditions (hu.run.trans hr) hst ((congrArg _ hu.geo).trans htb) hcond s.stopPoint
  rw [if_neg (Nat.not_lt.2 hmargin)] at hplan
  rw [hplan] at hrun hpending hwatches hgeo hbrk hsup hfrozen
  obtain ⟨hdrun, hdpending, hdwatches, hdgeo, -, hdsup, -, hdtally, hdbrk⟩ :=
    State.depart_of_sound (r := s.watched.readyRun tb r) hsound
  refine ⟨_, hrun.trans hdrun, rfl, rfl, rfl, rfl, rfl, ?_, ?_, fun c => ?_, ?_, ?_, ?_⟩
  · exact (State.formStop_none_nearest _ _).of_eq (hgeo.trans hdgeo) (htrk.trans (by simp)) (hwatches.trans hdwatches) rfl rfl
  · rw [hsup, hdsup]; simp
  · rw [hfrozen, hdtally, State.leaving_tally, Load.freeze_frozen, htol, hu.tally]
  · rw [hbrk, hdbrk]; simp [hu.brk, hnow]
  · rw [hsup, hdsup]; simp [hu.trip]
  · rw [hpending, hdpending, clearPending_of_some]; simp [hu.pendingRun, State.readyRun]

end

/-- Settles O37: no event but a sample takes a run to STARTING from PLANNED, and the planner's part of a sample at standstill
finds the start conditions as the sample found the line. -/
theorem departureNeedsBrakeMargin : Obligations.DepartureNeedsBrakeMargin := by
  refine ⟨fun c r r' s t hexec hr hst hr' hst' => ?_, fun dt r tb s hr hst htb hwatch => ?_⟩
  · rw [eq_transmit_of_exec hexec] at hr'
    simp only [State.transmit_frame] at hr'
    rcases effect_keeps_unstarted (c := c) hr hst with ⟨dt, rfl⟩ | hunstarted
    · obtain ⟨hid, henv, hlocked, hfrozen, hten, hseq⟩ :=
        State.sample_departs (s := s.advance dt) (q := s.pending) hr hst hr' hst'
      rw [eq_transmit_of_exec hexec]
      simp only [State.transmit_frame]
      exact ⟨⟨dt, rfl⟩, hid, henv, hlocked, hfrozen, hten, hseq⟩
    · exact absurd hst' (hunstarted r' hr')
  · refine ⟨((s.advance dt).sample.flagged s.pending), exec_eq_transmit (.positionSample dt) s, fun hstill hconf => ?_⟩
    have htrk : ((s.advance dt).sample.flagged s.pending).trk = (s.advance dt).watched.trk :=
      (State.flagged_sample_frame _ _).2.2.2.2.2.2.2.1
    have hu : (s.advance dt).Undisturbed (s.advance dt).watched :=
      State.Undisturbed.watched hr hst hwatch (by rw [← htrk]; exact hstill) (by rw [← htrk]; exact hconf)
    have haGuar : ((s.advance dt).watched.envelopeFor tb r).aGuar =
        (span tb ((s.advance dt).sample.flagged s.pending).trk.xA r.pA r.dir (runMasses tb s.tally r.dir)).aGuar := by
      rw [State.envelopeFor_aGuar, htrk, hu.tally]
      rfl
    have hmet := hu.startConditions_iff
    rw [← htrk] at hmet
    intro met a
    refine ⟨fun h => ?_, fun h ha => ?_, fun h ha => ?_⟩
    · exact State.sample_waits hu hr hst htb (Bool.eq_false_iff.2 (fun hc => h (hmet.1 hc)))
    · exact State.sample_closes hu hr hst htb (hmet.2 h) (haGuar ▸ ha)
    · obtain ⟨r', hrun, hstate, hid, htarget, hpA, hdir, hstop, henv, hrest⟩ :=
        State.sample_starts (q := s.pending) hu hr hst htb (hmet.2 h) (haGuar ▸ ha)
      exact ⟨r', _, hrun, hstate, hid, htarget, hpA, hdir, hstop, henv, haGuar, State.envelopeFor_limit _ _, hrest⟩

end Machine
end Sys2Proof
end

section
/-! PROOFS. The writes an event is made of, as far as the queues, the severity memory, the tracker's and the links' counts, the
recent tickets and the reservations read them: every operation of the blocks is a chain of these. -/

namespace Sys2Proof
namespace Machine

/-- What the invariants of the lists, of the severity memory and of the reservations read, but for the reply lists. -/
def State.shared (s : State) :=
  (s.geo.committed, s.trk, s.gates, s.tally, s.links, s.notices, s.line.mode, s.line.conds, s.line.memory)

/-- The speed window and the standstill count keep their lengths (R22, R23). -/
def Tracker.CountsOk (t : Tracker) : Prop :=
  t.window.length ≤ 10 ∧ t.stillCount ≤ 51 ∧ (t.still = true ↔ t.stillCount = 51)

/-- In UNKNOWN and LOST no car expects a marker, and the miss counts are 0 (R26). -/
def Tracker.ExpectationsOk (t : Tracker) : Prop :=
  t.conf = .unknown ∨ t.conf = .lost → t.expected = .const none ∧ t.misses = .const 0

/-- Two records of a gate that hold the same, both PASSING or neither, both HELD or neither. -/
def Gate.Alike (x y : Gate) : Prop :=
  x.address = y.address ∧ x.station = y.station ∧ x.admission = y.admission ∧ (x.state = .passing ↔ y.state = .passing) ∧
    (x.state = .held ↔ y.state = .held)

/-- `g` has the records of `s`, alike, and no ticket more. -/
structure State.QuietGates (s : State) (g : Gates) : Prop where
  bus : g.busReleased = s.gates.busReleased
  recent : g.recent.Sublist s.gates.recent
  records : s.ReservedOk → ∃ f : Gate → Gate, g.gates = s.gates.gates.map f ∧ ∀ x ∈ s.gates.gates, (f x).Alike x

/-- `l'` is `l` but for the reservation of `a`, given back. -/
def Load.GivesBack (l l' : Load) (a : Admission) : Prop :=
  l'.resPersons = l.resPersons - a.persons ∧ l'.resMass = l.resMass - a.mass

/-- One write of an event. `q` says that the reservations are told: a commit then finds no admission held. -/
inductive State.Write (q : Prop) : State → State → Prop
  | own {s t : State} : t.shared = s.shared → Write q s t
  | notice (s : State) (cls : NoticeClass) (kind : Nat) (body : List Field) : Write q s (s.notice cls kind body)
  | settings (s : State) (x : Settings) (y : PerPort Nat) :
      Write q s { s with notices := { s.notices with settings := x, threshold := y } }
  | condition (s : State) (c : Condition) (b : Bool) : Write q s (s.handOver c b)
  | memory (s : State) : Write q s { s with line := { s.line with memory := s.line.conds.level } }
  | mode (s : State) (m : Mode) : m ≠ .unconfigured →
      Write q s { s with line := { s.line with mode := m } }
  | tables (s : State) (tb : Tables) : Write q s { s with geo := ⟨some tb, Staging.empty⟩ }
  | track (s : State) (x : Tracker) : (s.trk.CountsOk → x.CountsOk) → (s.trk.ExpectationsOk → x.ExpectationsOk) →
      Write q s { s with trk := x }
  | link (s : State) (c : Car) (l : CarLink) : ((s.links.get c).sent.length ≤ 4 → l.sent.length ≤ 4) →
      ((s.links.get c).streak ≤ 3 → l.streak ≤ 3) → Write q s (s.setLink c l)
  | load (s : State) (c : Car) (l : Load) : l.resPersons = (s.tally.get c).resPersons →
      l.resMass = (s.tally.get c).resMass → Write q s (s.setLoad c l)
  | gates (s : State) (g : Gates) : s.QuietGates g → Write q s { s with gates := g }
  | busRelease (s : State) : s.gates.busReleased = false →
      Write q s { s with gates := { s.gates with busReleased := true, gates := s.gates.gates.map Gate.busRelease } }
  | rebuild (s : State) (es : List GateEntry) : (es.map (fun e => e.address)).Nodup → s.line.mode ≠ .unconfigured →
      s.geo.committed ≠ none → (q → ∀ g ∈ s.gates.gates, g.admission = none) →
      Write q s { s with gates := s.gates.rebuild es }
  | settle (s : State) (g : Gate) (a : Admission) (l : Load) (f : Gate → Gate) : g ∈ s.gates.gates →
      g.admission = some a → (s.tally.get a.car).GivesBack l a → (f g).address = g.address → (f g).admission = none →
      (f g).state ≠ .passing → Write q s ((s.setLoad a.car l).gate g.address f)

/-- The writes of a part of an event. -/
def State.Writes (s : State) (q : Prop) (t : State) : Prop := Relation.ReflTransGen (State.Write q) s t

namespace State.Writes

variable {q : Prop} {s t u : State}

theorem refl (s : State) : s.Writes q s := Relation.ReflTransGen.refl

theorem trans (h : s.Writes q t) (h' : t.Writes q u) : s.Writes q u := Relation.ReflTransGen.trans h h'

theorem write (h : s.Writes q t) (hu : State.Write q t u) : s.Writes q u := Relation.ReflTransGen.tail h hu

theorem own (h : s.Writes q t) (hu : u.shared = t.shared) : s.Writes q u := h.write (.own hu)

theorem notice (h : s.Writes q t) (cls : NoticeClass) (kind : Nat) (body : List Field) : s.Writes q (t.notice cls kind body) :=
  h.write (.notice _ _ _ _)

theorem noticeIf (h : s.Writes q t) (b : Bool) (cls : NoticeClass) (kind : Nat) (body : List Field) :
    s.Writes q (t.noticeIf b cls kind body) := by
  cases b
  · exact h
  · exact h.notice cls kind body

theorem handOver (h : s.Writes q t) (c : Condition) (b : Bool) : s.Writes q (t.handOver c b) := h.write (.condition _ _ _)

theorem ite {b : Prop} [Decidable b] {x y : State} (hx : s.Writes q x) (hy : s.Writes q y) : s.Writes q (if b then x else y) := by
  split
  · exact hx
  · exact hy

theorem foldl {α : Type} {f : State → α → State} (hf : ∀ {s t : State} (a : α), s.Writes q t → s.Writes q (f t a)) (as : List α)
    (h : s.Writes q t) : s.Writes q (as.foldl f t) := by
  induction as generalizing t with
  | nil => exact h
  | cons a as ih => exact ih (hf a h)

theorem track (h : s.Writes q t) {x : Tracker} (hcounts : t.trk.CountsOk → x.CountsOk)
    (hexp : t.trk.ExpectationsOk → x.ExpectationsOk) : s.Writes q { t with trk := x } := h.write (.track _ _ hcounts hexp)

theorem setLoad (h : s.Writes q t) {c : Car} {l : Load} (hp : l.resPersons = (t.tally.get c).resPersons)
    (hm : l.resMass = (t.tally.get c).resMass) : s.Writes q (t.setLoad c l) := h.write (.load _ _ _ hp hm)

theorem setLink (h : s.Writes q t) {c : Car} {l : CarLink} (hsent : (t.links.get c).sent.length ≤ 4 → l.sent.length ≤ 4)
    (hstreak : (t.links.get c).streak ≤ 3 → l.streak ≤ 3) : s.Writes q (t.setLink c l) := h.write (.link _ _ _ hsent hstreak)

theorem gates (h : s.Writes q t) {g : Gates} (hg : t.QuietGates g) : s.Writes q { t with gates := g } := h.write (.gates _ _ hg)

end State.Writes

/-! ### The tally -/

section
variable {q : Prop} {s t : State}

theorem State.Writes.weighTests (h : s.Writes q t) (c : Car) : s.Writes q (t.weighTests c) := by
  simp only [State.weighTests]
  split
  · exact h
  · exact ((((h.setLoad (by rfl) (by rfl)).handOver _ _).notice _ _ _).ite (h.setLoad (by rfl) (by rfl))).noticeIf _ _ _ _

theorem State.Writes.tryWindow (h : s.Writes q t) (c : Car) : s.Writes q (t.tryWindow c) := by
  simp only [State.tryWindow]
  split
  · exact h
  · exact ((h.setLoad (by rfl) (by rfl)).handOver _ _).notice _ _ _

theorem State.Writes.tallyWindows (h : s.Writes q t) : s.Writes q t.tallyWindows := (h.tryWindow .A).tryWindow .B

theorem State.Writes.freezeCar (h : s.Writes q t) (c : Car) : s.Writes q (t.freezeCar c) :=
  (h.setLoad (by rfl) (by rfl)).notice _ _ _

theorem State.Writes.freeze (h : s.Writes q t) : s.Writes q t.freeze := (h.freezeCar .A).freezeCar .B

theorem State.Writes.unfreezeCar (h : s.Writes q t) (c : Car) : s.Writes q (t.unfreezeCar c) := by
  simp only [State.unfreezeCar]
  split
  · exact ((h.setLoad (by rfl) (by rfl)).handOver _ _).notice _ _ _
  · exact h

theorem State.Writes.unfreeze (h : s.Writes q t) : s.Writes q t.unfreeze := (h.unfreezeCar .A).unfreezeCar .B

theorem State.Writes.releaseEvent (h : s.Writes q t) (c : Car) : s.Writes q (t.releaseEvent c) := by
  simp only [State.releaseEvent]
  split
  · exact ((h.setLoad (by rfl) (by rfl)).handOver _ _).notice _ _ _
  · exact h.setLoad (by rfl) (by rfl)

theorem State.Writes.arrivalWeigh (h : s.Writes q t) (c : Car) (kg : Nat) : s.Writes q (t.arrivalWeigh c kg) := by
  simp only [State.arrivalWeigh]
  split
  · exact (h.setLoad (by rfl) (by rfl)).notice _ _ _
  · exact h

theorem State.Writes.departureWeigh (h : s.Writes q t) (c : Car) (kg : Nat) : s.Writes q (t.departureWeigh c kg) := by
  simp only [State.departureWeigh]
  split
  · exact ((h.setLoad (by rfl) (by rfl)).notice _ _ _).weighTests c
  · exact h

theorem State.Writes.reading (h : s.Writes q t) (c : Car) (kg : Nat) (b : Bool) : s.Writes q (t.reading c kg b) := by
  have hread : s.Writes q (t.setLoad c { t.tally.get c with reading := some (min kg 65000, b) }) :=
    h.setLoad (by rfl) (by rfl)
  simp only [State.reading]
  split
  · exact (hread.arrivalWeigh c _).departureWeigh c _
  · exact hread

/-! ### Gates that close -/

theorem Gate.Alike.refl (x : Gate) : x.Alike x := ⟨rfl, rfl, rfl, Iff.rfl, Iff.rfl⟩

theorem Gate.Alike.trans {x y z : Gate} (h : x.Alike y) (h' : y.Alike z) : x.Alike z :=
  ⟨h.1.trans h'.1, h.2.1.trans h'.2.1, h.2.2.1.trans h'.2.2.1, h.2.2.2.1.trans h'.2.2.2.1,
    h.2.2.2.2.trans h'.2.2.2.2⟩

theorem Gate.close_alike (x : Gate) : x.close.Alike x := by
  cases h : x.state <;> simp [Gate.Alike, Gate.close, Gate.leafCmd, h]

/-- Every record is alike. -/
theorem State.QuietGates.of_map {s : State} {g : Gates} (f : Gate → Gate) (hbus : g.busReleased = s.gates.busReleased)
    (hrecent : g.recent.Sublist s.gates.recent) (hgates : g.gates = s.gates.gates.map f) (hf : ∀ x, (f x).Alike x) :
    s.QuietGates g :=
  ⟨hbus, hrecent, fun _ => ⟨f, hgates, fun x _ => hf x⟩⟩

/-- The records stay as they are: only the rest of the Gate Controller's own changes. -/
theorem State.QuietGates.of_gates {s : State} {g : Gates} (hbus : g.busReleased = s.gates.busReleased)
    (hrecent : g.recent.Sublist s.gates.recent) (hgates : g.gates = s.gates.gates) : s.QuietGates g :=
  .of_map id hbus hrecent (by simp [hgates]) Gate.Alike.refl

theorem State.quietGates_close (s : State) (n : Nat) : s.QuietGates (s.gates.close n) :=
  .of_map (fun x => if x.station = n then x.close else x) rfl (List.Sublist.refl _) rfl (fun x => by
    split
    · exact x.close_alike
    · exact .refl x)

theorem State.Writes.closeStation (h : s.Writes q t) (n : Nat) (e : GateEvent) : s.Writes q (t.closeStation n e) :=
  State.Writes.foldl (fun _ h => h.notice _ _ _) _ (h.gates (t.quietGates_close n))

theorem State.Writes.closeStations (h : s.Writes q t) (e : GateEvent) (ns : List Nat) : s.Writes q (t.closeStations e ns) :=
  State.Writes.foldl (fun n h => h.closeStation n e) ns h

theorem State.Writes.closeAll (h : s.Writes q t) : s.Writes q t.closeAll := h.closeStations _ _

theorem State.Writes.servingUpdate (h : s.Writes q t) : s.Writes q t.servingUpdate := h.closeStations _ _

theorem State.Writes.closeLead (h : s.Writes q t) (c : Car) : s.Writes q (t.closeLead c) := h.closeStations _ _

/-! ### The run -/

theorem State.Writes.setRun (h : s.Writes q t) (r : Option Run) : s.Writes q (t.setRun r) := h.own rfl

theorem State.Writes.runChanged (h : s.Writes q t) : s.Writes q t.runChanged := h.tallyWindows.servingUpdate

theorem State.Writes.enterRun (h : s.Writes q t) (b : Nat) (r : Run) (w : RunWhy) : s.Writes q (t.enterRun b r w) :=
  ((h.setRun _).notice _ _ _).runChanged

theorem State.Writes.warningExit (h : s.Writes q t) : s.Writes q t.warningExit := by
  simp only [State.warningExit]
  split
  · exact h
  · exact State.Writes.notice (h.own (by rfl)) _ _ _

theorem State.Writes.closeRun (h : s.Writes q t) (r : Run) (o : RunOutcome) (y : CloseReason) (e : Option Int) :
    s.Writes q (t.closeRun r o y e) := by
  have hclosed : s.Writes q { t.warningExit with
      plan := { t.warningExit.plan with run := none, lastRun := some ⟨r.id, r.target, o, y, e⟩ } } :=
    h.warningExit.own rfl
  exact (State.Writes.unfreeze ((hclosed.notice _ _ _).own (by rfl))).runChanged

theorem State.Writes.closePlanned (h : s.Writes q t) (y : CloseReason) : s.Writes q (t.closePlanned y) := by
  unfold State.closePlanned
  split
  · exact (h.closeRun _ _ _ _).ite h
  · exact h

theorem State.Writes.lowerCruise (h : s.Writes q t) : s.Writes q t.lowerCruise := h.own rfl

theorem State.Writes.takeHold (h : s.Writes q t) (r : Run) (c : HoldCause) (vh : Nat) : s.Writes q (t.takeHold r c vh) :=
  (h.setRun _).ite (h.enterRun _ _ _)

theorem State.Writes.hold (h : s.Writes q t) (c : HoldCause) : s.Writes q (t.hold c) := by
  unfold State.hold
  split
  · split
    · exact h.setRun _
    · exact h.takeHold _ _ _
    · exact h.takeHold _ _ _
    · exact h.takeHold _ _ _
    · exact h
    · exact h
    · exact h
  · exact h

theorem State.Writes.tripRun (h : s.Writes q t) (c : Cause) : s.Writes q (t.tripRun c) := by
  unfold State.tripRun
  split
  · exact h.ite (State.Writes.warningExit (State.Writes.enterRun (h.own (by rfl)) _ _ _))
  · exact h

theorem State.Writes.releasesConfirmed (h : s.Writes q t) : s.Writes q t.releasesConfirmed := by
  unfold State.releasesConfirmed
  split
  · have hrun : ∀ r r', s.Writes q ((t.enterRun r r' RunWhy.none).handOver .driveStart false) := fun _ _ =>
      (h.enterRun _ _ _).handOver _ _
    split
    · dsimp only
      split
      · exact (hrun _ _).takeHold _ _ _
      · exact hrun _ _
    · exact h
  · exact h

theorem State.Writes.backToPlanned (h : s.Writes q t) (r : Run) (f : StartFail) : s.Writes q (t.backToPlanned r f) :=
  (State.Writes.unfreeze (h.warningExit.own (by rfl))).enterRun _ _ _

theorem State.Writes.startFailed (h : s.Writes q t) (f : StartFail) : s.Writes q (t.startFailed f) := by
  unfold State.startFailed
  split
  · split
    · dsimp only
      have hstart : s.Writes q (if f = .drive then t.handOver .driveStart true else t) := (h.handOver _ _).ite h
      split
      · exact (hstart.notice _ _ _).closeRun _ _ _ _
      · split
        · exact hstart.enterRun _ _ _
        · exact hstart.backToPlanned _ _
    · exact h
  · exact h

theorem State.Writes.holdReachedBy (h : s.Writes q t) (c : HoldCause) : s.Writes q (t.holdReachedBy c) := by
  cases c with
  | watch n => exact State.Writes.own (h.notice _ _ _) (by rfl)
  | _ => exact h

theorem State.Writes.enterHolding (h : s.Writes q t) (r : Run) (c : Option HoldCause) : s.Writes q (t.enterHolding r c) := by
  simp only [State.enterHolding]
  split
  · exact (h.enterRun _ _ _).holdReachedBy _
  · exact h.enterRun _ _ _

end

end Machine
end Sys2Proof
end

section
/-! PROOFS. The writes of the door, brake, link, drive, position and sample operations. -/

namespace Sys2Proof
namespace Machine

section
variable {q : Prop} {s t : State}

/-! ### Doors -/

theorem State.Writes.closeFailed (h : s.Writes q t) (x : Door) : s.Writes q (t.closeFailed x) :=
  (h.notice _ _ _).handOver _ _

theorem State.Writes.setDoor (h : s.Writes q t) (x : Door) (r : DoorRec) : s.Writes q (t.setDoor x r) := h.own rfl

theorem State.Writes.returnSide (h : s.Writes q t) (c : Car) : s.Writes q (t.returnSide c) := h.own rfl

theorem State.Writes.closeEnded (h : s.Writes q t) (x : Door) : s.Writes q (t.closeEnded x) :=
  State.Writes.noticeIf (State.Writes.returnSide (h.handOver _ _) _) _ _ _ _

theorem State.Writes.applyDecision (h : s.Writes q t) (x : Door) (d : Decision) : s.Writes q (t.applyDecision x d) := by
  cases d with
  | granted n side => exact State.Writes.releaseEvent (h.own (by rfl)) _
  | already => exact h
  | refused r => exact h

theorem State.Writes.decideDoors (h : s.Writes q t) (xs : List Door) : s.Writes q (t.decideDoors xs).1 := by
  induction xs generalizing t with
  | nil => exact h
  | cons x xs ih => exact ih (h.applyDecision x _)

theorem State.Writes.autoRelease (h : s.Writes q t) (c : Car) (i : Nat) : s.Writes q (t.autoRelease c i) :=
  (h.decideDoors _).notice _ _ _

theorem State.Writes.autoReleaseAt (h : s.Writes q t) (c : Car) (p : Station) (i : Nat) :
    s.Writes q (t.autoReleaseAt c p i) := (h.autoRelease _ _).ite h

theorem State.Writes.lockForRun (h : s.Writes q t) : s.Writes q t.lockForRun :=
  State.Writes.closeLead (State.Writes.closeLead (h.own (by rfl)) .A) .B

theorem State.Writes.withdrawDoors (h : s.Writes q t) : s.Writes q t.withdrawDoors := h.own rfl

theorem State.Writes.lockCar (h : s.Writes q t) (c : Car) : s.Writes q (t.lockCar c) :=
  State.Writes.closeLead (h.own (by rfl)) c

theorem State.Writes.closeExpiry (h : s.Writes q t) (x : Door) : s.Writes q (t.closeExpiry x) := by
  simp only [State.closeExpiry]
  split
  · split
    · exact (h.setDoor _ _).closeEnded x
    · exact (h.setDoor _ _).closeFailed x
  · exact h

theorem State.Writes.reopenExpiry (h : s.Writes q t) (x : Door) : s.Writes q (t.reopenExpiry x) :=
  ((h.setDoor _ _).returnSide _).ite h

theorem State.Writes.isolate (h : s.Writes q t) (x : Door) : s.Writes q (t.isolate x) :=
  State.Writes.ite h (((((h.setDoor _ _).returnSide _).notice _ _ _).handOver _ _).handOver _ _)

theorem State.Writes.restore (h : s.Writes q t) (x : Door) : s.Writes q (t.restore x) :=
  ((((h.setDoor _ _).returnSide _).notice _ _ _).handOver _ _).ite h

/-! ### The run at its target -/

theorem State.Writes.arrive (h : s.Writes q t) (r : Run) : s.Writes q (t.arrive r) := by
  simp only [State.arrive]
  split
  · exact (((h.notice _ _ _).closeRun _ _ _ _).autoReleaseAt _ _ _).autoReleaseAt _ _ _
  · exact h.closeRun _ _ _ _

theorem State.Writes.stopComplete (h : s.Writes q t) : s.Writes q t.stopComplete := by
  unfold State.stopComplete
  split
  · split
    · split
      · exact h.arrive _
      · exact h.enterHolding _ _
      · exact (h.closeRun _ _ _ _).ite (h.enterHolding _ _)
    · exact h
  · exact h

/-! ### Brakes and trips -/

theorem State.Writes.setBrakes (h : s.Writes q t) (b : Brakes) : s.Writes q (t.setBrakes b) :=
  State.Writes.noticeIf (State.Writes.noticeIf (h.own (by rfl)) _ _ _ _) _ _ _ _

theorem State.Writes.brakeCondition (h : s.Writes q t) : s.Writes q t.brakeCondition := h.handOver _ _

theorem State.Writes.trackCondition (h : s.Writes q t) : s.Writes q t.trackCondition := h.handOver _ _

theorem State.Writes.tenOff (h : s.Writes q t) : s.Writes q t.tenOff := h.own rfl

theorem State.Writes.setTrack (h : s.Writes q t) (c : Car) (x : TrackRec) : s.Writes q (t.setTrack c x) :=
  State.Writes.noticeIf (h.own (by rfl)) _ _ _ _

theorem State.Writes.escalate (h : s.Writes q t) (e : EscCause) (y : EscSource) : s.Writes q (t.escalate e y) := by
  have happlied : s.Writes q (if t.sup.tracked then { t with brk := t.brk.reassert }
      else (t.setTrack .A (t.brk.track.a.apply t.now)).setTrack .B (t.brk.track.b.apply t.now)) :=
    (h.own (by rfl)).ite ((h.setTrack _ _).setTrack _ _)
  exact (State.Writes.notice (happlied.own (by rfl)) _ _ _).trackCondition

theorem State.Writes.tripNotice (h : s.Writes q t) (b : Bool) (c : Cause) (f : Figures) : s.Writes q (t.tripNotice b c f) :=
  (h.notice _ _ _).ite (h.notice _ _ _)

theorem State.Writes.emergency (h : s.Writes q t) (c : Cause) (f : Figures) : s.Writes q (t.emergency c f) := by
  have hdropped : s.Writes q { (t.setBrakes (t.brk.dropAll t.now)) with drive := t.drive.stop } :=
    State.Writes.own (h.setBrakes (t.brk.dropAll t.now)) (by rfl)
  have htripped : s.Writes q ((State.brakeCondition { (t.setBrakes (t.brk.dropAll t.now)) with drive := t.drive.stop }).tripRun c) :=
    hdropped.brakeCondition.tripRun c
  simp only [State.emergency]
  exact State.Writes.tripNotice (State.Writes.foldl (fun e h => h.escalate e _) _
    (State.Writes.handOver (htripped.own (by rfl)) _ _)) _ _ _

theorem State.Writes.raise (h : s.Writes q t) (c : Cause) : s.Writes q (t.raise c) :=
  State.Writes.emergency (h.own (by rfl)) _ _

theorem State.Writes.settleApply (h : s.Writes q t) : s.Writes q t.settleApply := by
  unfold State.settleApply
  split
  · exact h.raise _
  · split
    · split
      · exact h.tenOff.stopComplete
      · exact h.tenOff.startFailed _
      · exact h
    · exact h

theorem State.Writes.enterAbort (h : s.Writes q t) (f : StartFail) : s.Writes q (t.enterAbort f) :=
  (h.setBrakes _).brakeCondition.settleApply

theorem State.Writes.settleRelease (h : s.Writes q t) : s.Writes q t.settleRelease := by
  unfold State.settleRelease
  split
  · exact h.enterAbort _
  · exact (State.Writes.releasesConfirmed (h.own (by rfl))).ite h

theorem State.Writes.settle (h : s.Writes q t) : s.Writes q t.settle := by
  unfold State.settle
  split
  · exact h.settleRelease
  · exact h.settleApply
  · exact h.settleApply
  · exact h
  · exact h
  · exact h

theorem State.Writes.sheaveTest (h : s.Writes q t) : s.Writes q t.sheaveTest := (h.escalate _ _).ite h

theorem State.Writes.brakeMoved (h : s.Writes q t) : s.Writes q t.brakeMoved := h.brakeCondition.sheaveTest.settle

theorem State.Writes.startSequence (h : s.Writes q t) : s.Writes q t.startSequence := by
  simp only [State.startSequence]
  exact (State.Writes.raise (h.own (by rfl)) _).ite (h.own (by rfl))

theorem State.Writes.torqueOn (h : s.Writes q t) : s.Writes q t.torqueOn :=
  (h.setBrakes _).brakeCondition.settleRelease.ite (h.tenOff.startFailed _)

theorem State.Writes.torqueExpiry (h : s.Writes q t) : s.Writes q t.torqueExpiry := (h.tenOff.startFailed _).ite h

theorem State.Writes.stopSequence (h : s.Writes q t) : s.Writes q t.stopSequence := (h.setBrakes _).brakeCondition.settleApply

theorem State.Writes.contactChange (h : s.Writes q t) (k : Contact) (closed : Bool) : s.Writes q (t.contactChange k closed) :=
  (h.setBrakes _).brakeMoved

theorem State.Writes.brakeExpiry (h : s.Writes q t) (i : BrakeId) : s.Writes q (t.brakeExpiry i) := (h.setBrakes _).brakeMoved

theorem State.Writes.trackExpiry (h : s.Writes q t) (c : Car) : s.Writes q (t.trackExpiry c) := (h.setTrack _ _).trackCondition

theorem State.Writes.trackReport (h : s.Writes q t) (c : Car) (b : Bool) : s.Writes q (t.trackReport c b) :=
  ((h.setTrack _ _).trackCondition.raise _).ite (h.setTrack _ _).trackCondition

theorem State.Writes.decelTest (h : s.Writes q t) : s.Writes q t.decelTest := by
  unfold State.decelTest
  split
  · exact h
  · split
    · exact (h.escalate _ _).ite (h.own (by rfl))
    · exact h

/-! ### Doors and links in motion -/

theorem State.Writes.motionTest (h : s.Writes q t) (x : Door) : s.Writes q (t.motionTest x) := by
  simp only [State.motionTest]
  split
  · exact h
  · split
    · exact h
    · exact State.Writes.hold (h.notice _ _ _) _
    · exact State.Writes.raise (h.notice _ _ _) _

theorem State.Writes.motionTests (h : s.Writes q t) : s.Writes q t.motionTests :=
  State.Writes.foldl (fun x h => h.motionTest x) _ h

theorem State.Writes.reportLocked (h : s.Writes q t) (x : Door) : s.Writes q (t.reportLocked x) :=
  ((h.setDoor _ _).closeEnded x).ite (h.returnSide _)

theorem State.Writes.reportObstructed (h : s.Writes q t) (x : Door) : s.Writes q (t.reportObstructed x) := by
  simp only [State.reportObstructed]
  exact (State.Writes.ite (((h.setDoor _ _).notice _ _ _).closeFailed x) ((h.setDoor _ _).notice _ _ _)).ite h

theorem State.Writes.doorReport (h : s.Writes q t) (x : Door) (r : DoorState) : s.Writes q (t.doorReport x r) := by
  have hacts : ∀ {u : State}, s.Writes q u → s.Writes q (u.reportActs x r) := by
    intro u hu
    cases r with
    | locked => exact hu.reportLocked x
    | obstructed => exact hu.reportObstructed x
    | fault => exact hu.notice _ _ _
    | _ => exact hu
  have hset : s.Writes q (t.setDoor x { t.doors.door x with reported := r }) := h.setDoor _ _
  exact State.Writes.ite h (hset.ite ((hacts hset).motionTest x))

theorem State.Writes.doorReports (h : s.Writes q t) (c : Car) (x : Quad DoorState) : s.Writes q (t.doorReports c x) :=
  State.Writes.foldl (fun _ h => h.doorReport _ _) _ h

theorem State.Writes.linkTest (h : s.Writes q t) (c : Car) : s.Writes q (t.linkTest c) := by
  unfold State.linkTest
  split
  · exact h
  · exact (h.hold _).ite h
  · exact h.ite (h.raise _)

theorem State.Writes.linkTests (h : s.Writes q t) : s.Writes q t.linkTests := (h.linkTest .A).linkTest .B

theorem State.Writes.linkChanged (h : s.Writes q t) (c : Car) (b : LinkState) : s.Writes q (t.linkChanged c b) := by
  have hset : s.Writes q ((((t.handOver (.linkStale c) ((t.links.get c).state == .stale)).handOver (.linkLost c)
      ((t.links.get c).state == .lost)).notice .link 0 [.code c.code, .code b.code, .code (t.links.get c).state.code,
        .num (t.links.get c).invalid]).setLink c { t.links.get c with invalid := 0 }) :=
    State.Writes.setLink (((h.handOver _ _).handOver _ _).notice _ _ _) (by simp) (by simp)
  exact State.Writes.ite hset (State.Writes.doorReports (hset.linkTest c) _ _)

theorem State.Writes.moveLink (h : s.Writes q t) (c : Car) {l : CarLink} (hsent : l.sent = (t.links.get c).sent)
    (hstreak : (t.links.get c).streak ≤ 3 → l.streak ≤ 3) : s.Writes q (t.moveLink c l) := by
  have hset : s.Writes q (t.setLink c l) := h.setLink (by rw [hsent]; exact id) hstreak
  exact hset.ite (hset.linkChanged c _)

theorem State.Writes.staleExpiry (h : s.Writes q t) (c : Car) : s.Writes q (t.staleExpiry c) :=
  State.Writes.ite (h.moveLink c (by rfl) (fun _ => Nat.zero_le 3)) h

theorem State.Writes.lostExpiry (h : s.Writes q t) (c : Car) : s.Writes q (t.lostExpiry c) :=
  (h.moveLink c (by unfold CarLink.lose; split <;> rfl) (by unfold CarLink.lose; split <;> simp)).ite h

theorem State.Writes.carFrameArrives (h : s.Writes q t) (c : Car) (bytes : List Byte) :
    s.Writes q (t.carFrameArrives c bytes) := by
  have htrack : ∀ {u : State} (o : Option Bool), s.Writes q u → s.Writes q (u.trackBrakeReport c o) := by
    intro u o hu
    cases o
    · exact hu
    · exact hu.trackReport c _
  have hfault : ∀ {u : State} (n : Nat), s.Writes q u → s.Writes q (u.carFault c n) := fun n hu =>
    State.Writes.ite hu (State.Writes.notice (hu.setLink (by exact id) (by exact id)) _ _ _)
  unfold State.carFrameArrives
  split
  · have hvalid : s.Writes q (t.moveLink c ((t.links.get c).valid t.now)) := h.moveLink c rfl (fun _ => by
      simp only [CarLink.valid]
      split <;> omega)
    exact State.Writes.setLink (hfault _ (State.Writes.reading (htrack _ (hvalid.doorReports c _)) c _ _)) (by exact id) (by exact id)
  · refine h.setLink id (fun hle => ?_)
    simp only [CarLink.invalidFrame]
    split <;> omega

theorem State.Writes.sendFrame (h : s.Writes q t) (c : Car) : s.Writes q (t.sendFrame c) :=
  h.setLink (fun hle => by
    simp only [CarLink.sending, pushSent, List.length_append, List.length_singleton]
    split
    · omega
    · rw [List.length_drop]; omega) id

/-! ### The drive -/

theorem State.Writes.driveFrameArrives (h : s.Writes q t) (bytes : List Byte) : s.Writes q (t.driveFrameArrives bytes) := by
  have hsequence : ∀ {u : State} x, s.Writes q u → s.Writes q (u.sequenceStatus x) := by
    intro u x hu
    unfold State.sequenceStatus
    split
    · exact hu.torqueOn.ite hu
    · exact hu.ite (hu.enterAbort _)
    · exact hu
    · exact hu
    · exact hu
    · exact hu
  unfold State.driveFrameArrives
  split
  · simp only [State.driveStatus]
    refine State.Writes.ite (State.Writes.raise ?_ _) (hsequence _ ?_)
    all_goals exact State.Writes.noticeIf (State.Writes.noticeIf (h.own (by rfl)) _ _ _ _) _ _ _ _
  · exact h

theorem State.Writes.driveSilence (h : s.Writes q t) : s.Writes q t.driveSilence := by
  simp only [State.driveSilence]
  have hsilent : s.Writes q (State.notice { t with drive := { t.drive with silent := true, timer := none } } .link 3
      [.flag true]) := State.Writes.notice (h.own (by rfl)) _ _ _
  exact State.Writes.ite ((hsilent.raise _).ite hsilent) h

theorem State.Writes.sendReference (h : s.Writes q t) : s.Writes q t.sendReference := h.own rfl

end

end Machine
end Sys2Proof
end

section
/-! PROOFS. The writes of the position operations, of the supervision and of the planner's part of a sample. -/

namespace Sys2Proof
namespace Machine

/-! ### The tracker -/

/-- Two trackers with the same window, counts, confidence and expectations. -/
structure Tracker.SameCounts (t u : Tracker) : Prop where
  window : u.window.length = t.window.length
  stillCount : u.stillCount = t.stillCount
  still : u.still = t.still

theorem Tracker.SameCounts.countsOk {t u : Tracker} (h : t.SameCounts u) (ht : t.CountsOk) : u.CountsOk := by
  rwa [Tracker.CountsOk, h.window, h.stillCount, h.still]

/-- Expectations that are the same, or none. -/
theorem Tracker.ExpectationsOk.of_eq {t u : Tracker} (ht : t.ExpectationsOk) (hconf : u.conf = t.conf)
    (hexp : u.expected = t.expected ∨ u.expected = .const none) (hmisses : u.misses = t.misses ∨ u.misses = .const 0) :
    u.ExpectationsOk := fun hc => by
  obtain ⟨hnone, hzero⟩ := ht (hconf ▸ hc)
  exact ⟨hexp.elim (fun h => h.trans hnone) id, hmisses.elim (fun h => h.trans hzero) id⟩

/-- A confidence that lets runs start asks nothing of the expectations. -/
theorem Tracker.expectationsOk_of_runs {t : Tracker} (h : t.conf.noRuns = false) : t.ExpectationsOk := by
  rintro (hc | hc) <;> simp [hc, Confidence.noRuns] at h

theorem Tracker.enter_sameCounts (t : Tracker) (c : Confidence) : t.SameCounts (t.enter c) := by
  cases c <;> exact ⟨rfl, rfl, rfl⟩

theorem Tracker.enter_expectationsOk (t : Tracker) (c : Confidence) : (t.enter c).ExpectationsOk := by
  cases c with
  | unknown => exact fun _ => ⟨rfl, rfl⟩
  | lost => exact fun _ => ⟨rfl, rfl⟩
  | _ => exact Tracker.expectationsOk_of_runs rfl

theorem Tracker.moveBase_eq (t : Tracker) (k : Nat) :
    ∃ b x, t.moveBase k = { t with countBase := b, xBase := x } := by
  simp only [Tracker.moveBase]
  split
  · exact ⟨_, _, rfl⟩
  · exact ⟨_, _, rfl⟩

theorem pushWindow_length_le {x : Int} {ws : List Int} (h : ws.length ≤ 10) : (pushWindow x ws).length ≤ 10 := by
  simp only [pushWindow, List.length_append, List.length_singleton]
  split
  · omega
  · rw [List.length_drop]; omega

theorem stillCountAfter_le (n : Nat) (v : Int) : stillCountAfter n v ≤ 51 := by
  unfold stillCountAfter
  split <;> omega

theorem Tracker.measure_countsOk {t : Tracker} (now : Time) (h : t.CountsOk) : (t.measure now).CountsOk :=
  ⟨pushWindow_length_le h.1, stillCountAfter_le _ _, by simp [Tracker.measure]⟩

theorem Tracker.expectation_of_noRuns {t : Tracker} (h : t.conf.noRuns = true) (ms : List Marker) (c : Car) (x : Int) :
    t.expectation ms c x = none := by
  unfold Tracker.expectation
  split
  · rw [if_pos h]
  · rfl

theorem Tracker.expectAll_expectationsOk {t : Tracker} (ms : List Marker) (h : t.ExpectationsOk) :
    (t.expectAll ms).ExpectationsOk := fun hc => by
  have hno : t.conf.noRuns = true := by rcases hc with hc | hc <;> simp only [Tracker.expectAll] at hc <;> simp [hc, Confidence.noRuns]
  refine ⟨?_, (h hc).2⟩
  simp only [Tracker.expectAll, Tracker.expectation_of_noRuns hno]
  rfl

section
variable {q : Prop} {s t : State}

/-! ### Position -/

theorem State.Writes.evalAtStop (h : s.Writes q t) : s.Writes q t.evalAtStop := h.own rfl

theorem State.Writes.setConf (h : s.Writes q t) (c : Confidence) : s.Writes q (t.setConf c) := by
  have hset : s.Writes q { t with trk := t.trk.enter c } :=
    h.track (t.trk.enter_sameCounts c).countsOk (fun _ => t.trk.enter_expectationsOk c)
  exact State.Writes.ite h ((hset.handOver _ _).handOver _ _).lowerCruise

theorem State.Writes.confEvent (h : s.Writes q t) (c : Confidence) (k : PosCause) (car : Option Car) (id : Option Nat)
    (value : Option Int) : s.Writes q (t.confEvent c k car id value) := by
  have hset : s.Writes q ((t.setConf c).posNotice k car id value t.trk.conf) := (h.setConf c).notice _ _ _
  exact ((hset.raise _).ite (hset.closePlanned _)).ite hset

theorem State.Writes.confQuiet (h : s.Writes q t) (c : Confidence) (k : PosCause) (car : Option Car) (id : Option Nat)
    (value : Option Int) : s.Writes q (t.confQuiet c k car id value) := h.ite (h.confEvent c k car id value)

/-- A marker that is taken leaves the counts, and asks nothing of the expectations where runs may start. -/
theorem State.Writes.track_of_runs (h : s.Writes q t) {x : Tracker} (hcounts : t.trk.SameCounts x)
    (hconf : x.conf.noRuns = false) : s.Writes q { t with trk := x } :=
  h.track hcounts.countsOk (fun _ => Tracker.expectationsOk_of_runs hconf)

theorem Tracker.correct_sameCounts (t : Tracker) (l p : Int) : t.SameCounts (t.correct l p) :=
  ⟨by simp [Tracker.correct], rfl, rfl⟩

theorem State.Writes.reportA (h : s.Writes q t) (m : Marker) (hconf : t.trk.conf.noRuns = false) :
    s.Writes q (t.reportA m) := by
  have hcounts := t.trk.correct_sameCounts t.geo.length m.pos
  simp only [State.reportA]
  split
  · exact State.Writes.evalAtStop (State.Writes.confQuiet
      (h.track_of_runs ⟨by exact hcounts.window, by rfl, by rfl⟩ (by exact hconf)) _ _ _ _ _)
  · split
    · exact State.Writes.evalAtStop (State.Writes.confEvent
        (h.track_of_runs ⟨by exact hcounts.window, by rfl, by rfl⟩ (by exact hconf)) _ _ _ _ _)
    · exact h.confEvent _ _ _ _ _

theorem State.Writes.reportB (h : s.Writes q t) (m : Marker) (hconf : t.trk.conf.noRuns = false) :
    s.Writes q (t.reportB m) := by
  simp only [State.reportB]
  split
  · exact State.Writes.confEvent (h.track_of_runs ⟨by rfl, by rfl, by rfl⟩ (by exact hconf)) _ _ _ _ _
  · split
    · exact State.Writes.evalAtStop (h.track_of_runs ⟨by rfl, by rfl, by rfl⟩ (by exact hconf))
    · split
      · exact State.Writes.evalAtStop (State.Writes.confEvent (h.track_of_runs ⟨by rfl, by rfl, by rfl⟩ (by exact hconf)) _ _ _ _ _)
      · exact h.confEvent _ _ _ _ _

theorem State.Writes.markerReport (h : s.Writes q t) (c : Car) (id : Nat) : s.Writes q (t.markerReport c id) := by
  simp only [State.markerReport]
  split
  · exact h.notice _ _ _
  next m _ =>
    split
    next hused =>
      have hconf : t.trk.conf.noRuns = false := by
        simp only [State.reportUsed, Bool.and_eq_true, Bool.not_eq_true'] at hused
        exact hused.1.1
      have hplaced : s.Writes q { t with trk := t.trk.place t.geo.length (t.trk.freshX t.geo.scale) } :=
        h.track_of_runs ⟨rfl, rfl, rfl⟩ hconf
      cases c
      · exact hplaced.reportA m hconf
      · exact hplaced.reportB m hconf
    next => exact h

theorem State.Writes.missTest (h : s.Writes q t) (c : Car) : s.Writes q (t.missTest c) := by
  simp only [State.missTest]
  split
  · exact h
  next e he =>
    split
    · refine State.Writes.confEvent (h.track (by exact Tracker.SameCounts.countsOk ⟨rfl, rfl, rfl⟩) (fun hexp hc => ?_)) _ _ _ _ _
      rw [(hexp hc).1, PerCar.get_const] at he
      cases he
    · exact h

theorem State.Writes.trackSample (h : s.Writes q t) : s.Writes q t.trackSample := by
  obtain ⟨b, x, hbase⟩ := t.trk.moveBase_eq t.geo.scale
  have hcounts : t.trk.CountsOk → (((t.trk.moveBase t.geo.scale).place t.geo.length
      ((t.trk.moveBase t.geo.scale).freshX t.geo.scale)).measure t.now).CountsOk := fun hc =>
    Tracker.measure_countsOk _ (by rw [hbase]; exact hc)
  have hexp : t.trk.ExpectationsOk → (((t.trk.moveBase t.geo.scale).place t.geo.length
      ((t.trk.moveBase t.geo.scale).freshX t.geo.scale)).measure t.now).ExpectationsOk := fun he => by
    rw [hbase]; exact he
  refine h.track (fun hc => ?_) (fun he => ?_)
  · split
    · exact hcounts hc
    · exact hcounts hc
  · split
    · exact hexp he
    · exact Tracker.expectAll_expectationsOk _ (hexp he)

theorem State.Writes.reference (h : s.Writes q t) (p : Int) : s.Writes q (t.reference p) := by
  have hplaced : s.Writes q { t with trk := t.trk.reference t.geo.length p } :=
    h.track (Tracker.SameCounts.countsOk ⟨by simp [Tracker.reference], rfl, rfl⟩)
      (fun he => he.of_eq rfl (.inl rfl) (.inr rfl))
  simp only [State.reference]
  exact State.Writes.evalAtStop (State.Writes.notice ((hplaced.setConf .referenced).track
    (by exact Tracker.SameCounts.countsOk ⟨rfl, rfl, rfl⟩) (by exact Tracker.expectAll_expectationsOk _)) _ _ _)

theorem State.Writes.commitPosition (h : s.Writes q t) : s.Writes q t.commitPosition :=
  State.Writes.evalAtStop (State.Writes.confQuiet (h.track
    (by exact Tracker.SameCounts.countsOk ⟨by simp [Tracker.commit], rfl, rfl⟩)
    (by exact fun he => he.of_eq rfl (.inr rfl) (.inr rfl))) _ _ _ _ _)

/-! ### Supervision -/

theorem State.Writes.setBand (h : s.Writes q t) (b : BandRec) : s.Writes q (t.setBand b) := h.own rfl

theorem State.Writes.interventionNotice (h : s.Writes q t) (k : Nat) (fs : List Field) : s.Writes q (t.interventionNotice k fs) :=
  h.notice _ _ _

theorem State.Writes.updateWarning (h : s.Writes q t) (w : Option Source) : s.Writes q (t.updateWarning w) := by
  simp only [State.updateWarning]
  split
  · exact (h.setBand _).interventionNotice _ _
  · exact (h.setBand _).interventionNotice _ _
  · exact h.setBand _
  · exact h.setBand _

theorem State.Writes.combineBands (h : s.Writes q t) (r : Run) : s.Writes q (t.combineBands r) := by
  have hraised : ∀ {u : State} b, s.Writes q u → s.Writes q (u.raiseHighest b) := fun b hu => (hu.own (by rfl)).ite hu
  have hjudged : ∀ {u : State} (l : Band) c, s.Writes q u → s.Writes q (if l = .emergency then u.bandEmergency c else u) :=
    fun l c hu => State.Writes.ite (((hu.setBand _).interventionNotice _ _).emergency _ _) hu
  have hlatched : ∀ {u : State} (b : Prop) [Decidable b] src, s.Writes q u → s.Writes q (if b then u.setLatch src else u) :=
    fun b _ src hu => State.Writes.ite ((hu.setBand _).interventionNotice _ _) hu
  have hbase := hjudged (t.findBands r).level (t.findBands r).cause
    (hlatched (((t.findBands r).level.atLeast .service && t.sup.band.latch.isNone) = true) (t.findBands r).latchSource
      ((hraised (t.findBands r).level (h.setBand { t.sup.band with last := some (t.evalValues r) })).updateWarning
        (t.findBands r).warning))
  exact State.Writes.ite (hbase.hold .service) hbase

theorem State.Writes.bands (h : s.Writes q t) : s.Writes q t.bands := by
  unfold State.bands
  split
  · exact (h.combineBands _).ite (h.setBand _)
  · exact h.setBand _

theorem State.Writes.motionCheck (h : s.Writes q t) : s.Writes q t.motionCheck := by
  simp only [State.motionCheck]
  exact (h.setBand _).ite (State.Writes.emergency ((h.setBand _).notice _ _ _) _ _)

theorem State.Writes.notifyWatch (h : s.Writes q t) (p : Int × Int) (n : Ix4) : s.Writes q (t.notifyWatch p n) := by
  simp only [State.notifyWatch]
  exact State.Writes.ite (State.Writes.own (h.notice _ _ _) (by rfl)) h

theorem State.Writes.notifyWatches (h : s.Writes q t) : s.Writes q t.notifyWatches := by
  simp only [State.notifyWatches]
  split
  · exact State.Writes.own (State.Writes.foldl (fun n h => h.notifyWatch _ n) Ix4.all h) (by rfl)
  · exact h.own rfl

theorem State.Writes.stillTests (h : s.Writes q t) : s.Writes q t.stillTests :=
  State.Writes.linkTests (State.Writes.motionTests (h.withdrawDoors.ite h))

/-! ### The planner -/

theorem State.Writes.setRef (h : s.Writes q t) (x : Int) : s.Writes q (t.setRef x) := h.own rfl

theorem State.Writes.holdSetNotice (h : s.Writes q t) (p : StopPoint) : s.Writes q (t.holdSetNotice p) := by
  cases p with
  | watch n x => exact h.notice _ _ _
  | _ => exact h

theorem State.Writes.depart (h : s.Writes q t) (r : Run) : s.Writes q (t.depart r) :=
  (State.Writes.enterRun ((h.holdSetNotice _).own (by rfl)) _ _ _).startSequence

theorem State.Writes.leavePlanned (h : s.Writes q t) (tb : Tables) (r : Run) : s.Writes q (t.leavePlanned tb r) := by
  have hready : ∀ p r', s.Writes q ({ t.freeze with sup := p }.setRun r') := fun p r' =>
    State.Writes.setRun (h.freeze.own (by rfl)) r'
  exact State.Writes.ite ((hready _ _).closeRun _ _ _ _) ((hready _ _).depart _)

theorem State.Writes.drivePhase (h : s.Writes q t) (tb : Tables) (r : Run) (p : StopPoint) (d : RunDyn) :
    s.Writes q (t.drivePhase tb r p d) := by
  have hphase : ∀ {u : State} r x, s.Writes q u → s.Writes q (u.phase r x) := fun r x hu =>
    (hu.setRun _).ite (hu.enterRun _ _ _)
  simp only [State.drivePhase]
  split
  · exact (hphase _ _ (h.setRef _)).stopSequence.ite (hphase _ _ (h.setRef _))
  · exact (h.setRef _).setRun _

theorem State.Writes.planRun (h : s.Writes q t) (found : Option StopPoint) : s.Writes q (t.planRun found) := by
  unfold State.planRun
  split
  · split
    · exact ((h.setRef 0).leavePlanned _ _).ite (h.setRef 0)
    · split
      · split
        · exact h.drivePhase _ _ _ _
        · exact h.setRef 0
      · exact h.setRef 0
  · exact h.setRef 0

theorem State.Writes.sample (h : s.Writes q t) : s.Writes q t.sample := by
  have hmeasured : s.Writes q t.measured := ((h.trackSample.missTest .A).missTest .B).evalAtStop.brakeCondition
  have hseen : s.Writes q t.motionSeen := hmeasured.stillTests.ite hmeasured
  have hwatched : s.Writes q t.watched := hseen.bands.motionCheck.decelTest.notifyWatches
  rw [State.sample_eq]
  exact (hwatched.planRun _).sendReference.tallyWindows.servingUpdate

end

end Machine
end Sys2Proof
end

section
/-! PROOFS. The writes of the gate operations: polls and commands, the end of a passage, the requests on gates, and the next
transaction. -/

namespace Sys2Proof
namespace Machine

section
variable {q : Prop} {s t : State} {g : Gate}

/-! ### One record -/

theorem Gates.mem_update {gs : Gates} {a : Nat} {f : Gate → Gate} {y : Gate} :
    y ∈ (gs.update a f).gates ↔ ∃ x ∈ gs.gates, (if x.address = a then f x else x) = y := by
  simp [Gates.update]

/-- The record of `g`'s address holds what `g` holds. -/
def State.Shows (t : State) (g : Gate) : Prop := ∃ x ∈ t.gates.gates, x.Alike g

theorem Gate.Alike.symm {x y : Gate} (h : x.Alike y) : y.Alike x :=
  ⟨h.1.symm, h.2.1.symm, h.2.2.1.symm, h.2.2.2.1.symm, h.2.2.2.2.symm⟩

theorem State.Shows.of_alike {x : Gate} (h : t.Shows g) (hx : g.Alike x) : t.Shows x := by
  obtain ⟨y, hy, hyg⟩ := h
  exact ⟨y, hy, hyg.trans hx⟩

theorem State.Shows.of_gates {u : State} (h : t.Shows g) (hu : u.gates.gates = t.gates.gates) : u.Shows g := by
  rwa [State.Shows, hu]

theorem State.Shows.gate (h : t.Shows g) (a : Nat) {f : Gate → Gate} (hf : ∀ x, (f x).Alike x) :
    (t.gate a f).Shows g := by
  obtain ⟨x, hx, hxg⟩ := h
  refine ⟨_, Gates.mem_update.2 ⟨x, hx, rfl⟩, ?_⟩
  split
  · exact (hf x).trans hxg
  · exact hxg

theorem State.shows_of_find {a : Nat} (h : t.gates.find? a = some g) : t.Shows g ∧ g.address = a := by
  refine ⟨⟨g, List.mem_of_find?_eq_some h, .refl g⟩, ?_⟩
  simpa using List.find?_some h

/-- Each address has one record. -/
theorem State.ReservedOk.eq_of_address (h : t.ReservedOk) {x y : Gate} (hx : x ∈ t.gates.gates) (hy : y ∈ t.gates.gates)
    (hxy : x.address = y.address) : x = y := List.inj_on_of_nodup_map h.1 hx hy hxy

/-- The record that `g` shows is written, and stays alike. -/
theorem State.Writes.gate (h : s.Writes q t) (hg : t.Shows g) {f : Gate → Gate}
    (hf : t.ReservedOk → ∀ x ∈ t.gates.gates, x.Alike g → (f x).Alike x) : s.Writes q (t.gate g.address f) := by
  refine h.gates ⟨rfl, List.Sublist.refl _, fun hok => ⟨fun x => if x.address = g.address then f x else x, rfl, ?_⟩⟩
  intro x hx
  obtain ⟨y, hy, hyg⟩ := hg
  dsimp only
  split
  next heq =>
    have hxy : x = y := hok.eq_of_address hx hy (heq.trans hyg.1.symm)
    exact hf hok x hx (hxy ▸ hyg)
  next => exact .refl x

theorem State.Writes.gate_of_alike (h : s.Writes q t) (a : Nat) {f : Gate → Gate} (hf : ∀ x, (f x).Alike x) :
    s.Writes q (t.gate a f) :=
  h.gates (.of_map (fun x => if x.address = a then f x else x) rfl (List.Sublist.refl _) rfl (fun x => by
    split
    · exact hf x
    · exact .refl x))

theorem State.weighTests_withGates (u : State) (c : Car) (gs : Gates) :
    { u.weighTests c with gates := gs } = State.weighTests { u with gates := gs } c := by
  simp only [State.weighTests]
  cases (u.tally.get c).departure with
  | none => rfl
  | some d =>
    dsimp only
    generalize (!(u.tally.get c).excess && decide ((u.tally.get c).expected + u.geo.tolerance < d)) = excess
    cases excess <;> rfl

theorem State.weighTests_gate (u : State) (c : Car) (a : Nat) (f : Gate → Gate) :
    (u.weighTests c).gate a f = (u.gate a f).weighTests c := by
  have hgates : (u.weighTests c).gates = u.gates := by simp
  rw [State.gate, hgates, State.weighTests_withGates]
  rfl

/-- An admission is no longer held, and its reservation given back in the same event. -/
theorem State.Writes.endHold (h : s.Writes q t) (hg : t.Shows g) {a : Admission} (ha : g.admission = some a) {l : Load}
    (hl : (t.tally.get a.car).GivesBack l a) {f : Gate → Gate}
    (hf : ∀ x, (f x).address = x.address ∧ (f x).admission = none ∧ (f x).state ≠ .passing) :
    s.Writes q (((t.setLoad a.car l).weighTests a.car).gate g.address f) := by
  obtain ⟨x, hx, hxg⟩ := hg
  rw [State.weighTests_gate, ← hxg.1]
  exact State.Writes.weighTests
    (h.write (.settle t x a l f hx (hxg.2.2.1.trans ha) hl (hf x).1 (hf x).2.1 (hf x).2.2)) a.car

/-! ### The end of a passage -/

theorem Gate.endPassage_spec (b : Bool) (x : Gate) : (Gate.endPassage b x).address = x.address ∧
    (Gate.endPassage b x).admission = none ∧ (Gate.endPassage b x).state ≠ .passing := by
  simp only [Gate.endPassage]
  split
  · simp [Gate.disable]
  · split
    · simp
    · simp [Gate.leafCmd]

theorem Gate.goOffline_spec (x : Gate) : x.goOffline.address = x.address ∧ x.goOffline.admission = none ∧
    x.goOffline.state ≠ .passing ∧ x.goOffline.state ≠ .held ∧ x.goOffline.station = x.station := by
  simp only [Gate.goOffline]
  split
  · simp
  · simp [Gate.disable]

theorem State.Writes.gateOffline (h : s.Writes q t) (hg : t.Shows g) (hheld : g.state ≠ .held) (y : OfflineCause) :
    s.Writes q (t.gateOffline g y) := by
  have hoff : s.Writes q ((t.convertHeld g).gate g.address Gate.goOffline) := by
    unfold State.convertHeld
    split
    next a ha =>
      exact h.endHold hg ha ⟨rfl, rfl⟩ (fun x =>
        ⟨x.goOffline_spec.1, x.goOffline_spec.2.1, x.goOffline_spec.2.2.1⟩)
    next hnone =>
      refine h.gate hg (fun hok x hx hxg => ?_)
      have hadm : x.admission = none := hxg.2.2.1.trans hnone
      have hpassing : x.state ≠ .passing := fun hp => by
        have := (hok.2.1 x hx).2 hp
        rw [hadm] at this
        cases this
      have hxheld : x.state ≠ .held := fun hh => hheld (hxg.2.2.2.2.1 hh)
      obtain ⟨haddr, hnone', hp, hh, hstation⟩ := x.goOffline_spec
      exact ⟨haddr, hstation, hnone'.trans hadm.symm, iff_of_false hp hpassing, iff_of_false hh hxheld⟩
  exact State.Writes.handOver (hoff.notice _ _ _) _ _

theorem State.Writes.passed (h : s.Writes q t) (hg : t.Shows g) {a : Admission} (ha : g.admission = some a) (e : GateEvent) :
    s.Writes q (t.passed g a e) := by
  have hend : s.Writes q ((t.tallyConvert a.car a.persons a.mass).gate g.address
      (Gate.endPassage ((t.tallyConvert a.car a.persons a.mass).gates.openFor g.station).isSome)) :=
    h.endHold hg ha ⟨rfl, rfl⟩ (Gate.endPassage_spec _)
  exact (hend.notice _ _ _).notice _ _ _

theorem State.Writes.turnedBack (h : s.Writes q t) (hg : t.Shows g) {a : Admission} (ha : g.admission = some a) :
    s.Writes q (t.turnedBack g a) := by
  unfold State.turnedBack
  split
  · exact h.passed hg ha _
  · have hgates : (t.tallyRelease a.car a.persons a.mass).gates = t.gates := by simp
    have hend : s.Writes q ((t.tallyRelease a.car a.persons a.mass).gate g.address
        (Gate.endPassage ((t.tallyRelease a.car a.persons a.mass).gates.openFor g.station).isSome)) :=
      h.endHold hg ha ⟨rfl, rfl⟩ (Gate.endPassage_spec _)
    have hdrop := hend.gates (g := { (((t.tallyRelease a.car a.persons a.mass).gate g.address
        (Gate.endPassage ((t.tallyRelease a.car a.persons a.mass).gates.openFor g.station).isSome))).gates with
          recent := dropAdmission a g.address (t.tallyRelease a.car a.persons a.mass).gates.recent })
      (.of_gates rfl List.filter_sublist rfl)
    exact State.Writes.notice (State.Writes.notice hdrop _ _ _) _ _ _

theorem State.Writes.passageTimeout (h : s.Writes q t) (hg : t.Shows g) {a : Admission} (ha : g.admission = some a) :
    s.Writes q (t.passageTimeout g a) := by
  have hend : s.Writes q ((t.tallyConvert a.car a.persons a.mass).gate g.address
      (Gate.endPassage ((t.tallyConvert a.car a.persons a.mass).gates.openFor g.station).isSome)) :=
    h.endHold hg ha ⟨rfl, rfl⟩ (Gate.endPassage_spec _)
  exact State.Writes.notice (State.Writes.gate_of_alike (hend.notice _ _ _) _ (by exact Gate.Alike.refl)) _ _ _

/-! ### Polls and commands -/

theorem State.Writes.lateOutcome (h : s.Writes q t) (g : Gate) (p : Passage) : s.Writes q (t.lateOutcome g p) := by
  unfold State.lateOutcome
  split
  · exact (h.gate_of_alike _ (by exact Gate.Alike.refl)).notice _ _ _
  · exact h.notice _ _ _

theorem State.Writes.refuse (h : s.Writes q t) (a ticket cls : Nat) (r : TicketRefusal) :
    s.Writes q (t.refuse a ticket cls r) := (h.gate_of_alike _ (by exact Gate.Alike.refl)).notice _ _ _

theorem State.Writes.missed (h : s.Writes q t) (hg : t.Shows g) (hheld : g.state ≠ .held) : s.Writes q (t.missed g) :=
  State.Writes.ite (h.gate_of_alike _ (by exact Gate.Alike.refl)) (h.gateOffline hg hheld _)

theorem Gate.answered_alike (x : Gate) : x.answered.Alike x := .refl x

theorem Gate.echoed_alike (x : Gate) : x.echoed.Alike x := .refl x

theorem State.Writes.mismatch (h : s.Writes q t) (hg : t.Shows g) (hheld : g.state ≠ .held) (c : GateCmd) (b : Bool) :
    s.Writes q (t.mismatch g c b) := by
  have hretry : s.Writes q (t.gate g.address (fun x => { x with retries := g.retries + 1 })) :=
    h.gate_of_alike _ (by exact Gate.Alike.refl)
  have hshows := hg.gate g.address (f := fun x => { x with retries := g.retries + 1 }) Gate.Alike.refl
  simp only [State.mismatch]
  split
  · split
    · exact hretry.gate_of_alike _ Gate.answered_alike
    · exact State.Writes.missed (g := { g with retries := g.retries + 1 }) hretry (hshows.of_alike (.refl g)) hheld
  · exact State.Writes.gateOffline (h.notice _ _ _) (hg.of_gates (by rfl)) hheld _

/-- An admission is granted at `t` to a ticket that `g`'s gate presents. -/
structure State.Grants (t : State) (g : Gate) (c : Car) (ticket persons mass : Nat) : Prop where
  shows_ : t.Shows g
  opened : g.state = .opened
  openFor : t.gates.openFor g.station = some c
  fresh : ∀ r ∈ t.gates.recent, r.ticket ≠ ticket
  check : (t.admissionCheck c persons mass).1 = .grant

/-- What the grant makes of the state. -/
def State.granted (t : State) (g : Gate) (c : Car) (ticket persons mass : Nat) : State :=
  (t.setLoad c { t.tally.get c with lastCheck := some (t.admissionCheck c persons mass) }).grant g c ticket persons mass

/-- A chain of writes from `s` to `u`, or a grant at `t` that makes `u`. -/
def State.WritesOrGrants (s : State) (q : Prop) (t u : State) : Prop :=
  s.Writes q u ∨ ∃ g c ticket persons mass, t.Grants g c ticket persons mass ∧ u = t.granted g c ticket persons mass

theorem State.Writes.ticket (h : s.Writes q t) (hg : t.Shows g) (hopened : g.state = .opened) (id cls party : Nat) :
    s.WritesOrGrants q t (t.ticket g id cls party) := by
  unfold State.ticket
  split
  next c k hopen hclass =>
    split
    · exact .inl (h.refuse _ _ _ _)
    next hnone =>
      have hload : s.Writes q (t.setLoad c { t.tally.get c with
          lastCheck := some (t.admissionCheck c (party * k.persons) (party * k.mass)) }) :=
        h.setLoad (by rfl) (by rfl)
      dsimp only
      split
      next hcheck =>
        refine .inr ⟨g, c, id, _, _, ⟨hg, hopened, hopen, ?_, hcheck⟩, rfl⟩
        unfold State.ticketRefusal at hnone
        split at hnone
        · cases hnone
        · split at hnone
          · cases hnone
          · split at hnone
            · cases hnone
            next hdup => simpa using hdup
      · exact .inl (hload.refuse _ _ _ _)
      · exact .inl (hload.refuse _ _ _ _)
  · exact .inl (h.refuse _ _ _ _)

theorem State.Writes.pollAnswer (h : s.Writes q t) (hg : t.Shows g) (hheld : g.state ≠ .held) (x : Answer) :
    s.WritesOrGrants q t (t.pollAnswer g x) := by
  cases x with
  | idle => exact .inl h
  | echo _ _ => exact .inl h
  | fault c => exact .inl (State.Writes.gateOffline (h.notice _ _ _) (hg.of_gates (by rfl)) hheld _)
  | ticket id cls party =>
    simp only [State.pollAnswer]
    split
    next hopened => exact h.ticket hg hopened id cls party
    next => exact .inl (h.refuse _ _ _ _)
  | passed =>
    simp only [State.pollAnswer]
    split
    next a ha => exact .inl (h.passed hg ha _)
    next => exact .inl (h.lateOutcome _ _)
  | turnedBack =>
    simp only [State.pollAnswer]
    split
    next a ha => exact .inl (h.turnedBack hg ha)
    next => exact .inl (h.lateOutcome _ _)

theorem State.Writes.answerInService (h : s.Writes q t) (hg : t.Shows g) (hheld : g.state ≠ .held) (tr : Transaction)
    (ans : Option Answer) :
    s.WritesOrGrants q (t.gate g.address Gate.answered) (t.answerInService tr g ans) := by
  have hanswered : s.Writes q (t.gate g.address Gate.answered) := h.gate_of_alike _ Gate.answered_alike
  unfold State.answerInService
  split
  · split
    · exact .inl (h.missed hg hheld)
    · exact .inl (h.missed hg hheld)
    · exact hanswered.pollAnswer (hg.gate _ Gate.answered_alike) hheld _
  · split
    · split
      · exact .inl (h.gate_of_alike _ Gate.echoed_alike)
      · exact .inl (h.mismatch hg hheld _ _)
    · split
      · exact .inl hanswered
      · exact .inl (h.missed hg hheld)

theorem Gate.online_alike {x : Gate} (hp : x.state ≠ .passing) (hh : x.state ≠ .held) : x.online.Alike x :=
  ⟨rfl, rfl, rfl, iff_of_false (by simp [Gate.online]) hp, iff_of_false (by simp [Gate.online]) hh⟩

theorem State.Writes.streak (h : s.Writes q t) (hg : t.Shows g) (hoff : g.state = .offline) : s.Writes q (t.streak g) := by
  have hcount : s.Writes q (t.gate g.address (fun x => { x with streak := g.streak + 1 })) :=
    h.gate_of_alike _ (by exact Gate.Alike.refl)
  have hshows := hg.gate g.address (f := fun x => { x with streak := g.streak + 1 }) Gate.Alike.refl
  have honline := hcount.gate hshows (f := Gate.online) (fun _ x _ hxg =>
    Gate.online_alike (fun hp => by have := hxg.2.2.2.1.1 hp; rw [hoff] at this; cases this)
      (fun hh => by have := hxg.2.2.2.2.1 hh; rw [hoff] at this; cases this))
  simp only [State.streak]
  exact State.Writes.ite hcount (State.Writes.handOver (honline.notice _ _ _) _ _)

theorem State.lateOutcome_shows {x : Gate} (h : t.Shows x) (g : Gate) (p : Passage) : (t.lateOutcome g p).Shows x := by
  unfold State.lateOutcome
  split
  next o _ =>
    exact (h.gate g.address (f := fun y => { y with overdue := none }) Gate.Alike.refl).of_gates (by simp)
  next => exact h.of_gates (by rfl)

theorem State.Writes.answerOffline (h : s.Writes q t) (hg : t.Shows g) (hoff : g.state = .offline) (ans : Option Answer) :
    s.Writes q (t.answerOffline g ans) := by
  have hzero : s.Writes q (t.gate g.address (fun x => { x with streak := 0 })) := h.gate_of_alike _ (by exact Gate.Alike.refl)
  unfold State.answerOffline
  split
  · exact h.streak hg hoff
  · exact h.streak hg hoff
  · exact (h.lateOutcome g .passed).streak (State.lateOutcome_shows hg _ _) hoff
  · exact (h.lateOutcome g .turnedBack).streak (State.lateOutcome_shows hg _ _) hoff
  · exact hzero
  · exact hzero
  · exact hzero

theorem State.Writes.takeAnswer (h : s.Writes q t) (tr : Transaction) (ans : Option Answer) :
    s.Writes q (t.takeAnswer tr ans) ∨ ∃ x, s.WritesOrGrants q (t.gate x Gate.answered) (t.takeAnswer tr ans) := by
  unfold State.takeAnswer
  split
  · exact .inl h
  next g hfind =>
    obtain ⟨hg, -⟩ := State.shows_of_find hfind
    split
    · exact .inl h
    · split
      · exact .inl h
      · exact .inl h
      next hoff => exact .inl (h.answerOffline hg hoff _)
      next hst => exact .inr ⟨_, h.answerInService hg (by simp [hst]) _ _⟩
      next hst => exact .inr ⟨_, h.answerInService hg (by simp [hst]) _ _⟩
      next hst => exact .inr ⟨_, h.answerInService hg (by simp [hst]) _ _⟩

/-! ### The next transaction -/

theorem Gate.onSend_alike (x : Gate) : x.onSend.Alike x := by
  unfold Gate.onSend
  split
  · exact .refl x
  · exact .refl x
  · exact .refl x
  · split
    · exact .refl x
    · exact .refl x

theorem Gates.next_quiet (t : State) (now : Time) : t.QuietGates (t.gates.next now) := by
  have hsame : ∀ x y, t.QuietGates { t.gates with round := x, lastMain := y } := fun _ _ =>
    .of_gates rfl (List.Sublist.refl _) rfl
  have hbegin : ∀ x y (g : Gate) b, t.QuietGates (({ t.gates with round := x, lastMain := y } : Gates).begin_ now g b) :=
    fun _ _ g _ => .of_map (fun x => if x.address = g.address then x.onSend else x) rfl (List.Sublist.refl _) rfl
      (fun x => by
        split
        · exact x.onSend_alike
        · exact .refl x)
  unfold Gates.next
  split
  · split
    · split
      · exact hbegin _ _ _ _
      · exact hsame _ _
    · split
      · split
        · exact hbegin _ _ _ _
        · exact hsame _ _
      · exact hsame _ _
  · exact hsame _ _

theorem State.Writes.nextTransaction (h : s.Writes q t) : s.Writes q t.nextTransaction := h.gates (Gates.next_quiet t t.now)

/-! ### Requests on gates -/

theorem State.Writes.stateNotices (h : s.Writes q t) (f : Gate → Gate) (e : GateEvent) (gs : List Gate) :
    s.Writes q (t.stateNotices f e gs) := State.Writes.foldl (fun _ h => h.noticeIf _ _ _ _) gs h

theorem State.Writes.releaseGateBus (h : s.Writes q t) : s.Writes q t.releaseGateBus.1 := by
  unfold State.releaseGateBus
  split
  · exact h
  · split
    · exact h
    next hbus =>
      have hreleased := h.write (.busRelease t (by simpa using hbus))
      exact State.Writes.nextTransaction (State.Writes.handOver (hreleased.stateNotices _ _ _) _ _)

theorem Gate.settings_alike (b l : Bool) (n : Nat) (v : Bool) (x : Gate) : (x.settings b l n v).Alike x := by
  cases h : x.state <;> cases b <;> simp [Gate.Alike, Gate.settings, Gate.applyEnabled, Gate.enable, Gate.disable, h]

theorem State.Writes.setGate (h : s.Writes q t) (a b c d e : Nat) : s.Writes q (t.setGate a b c d e).1 := by
  unfold State.setGate
  split
  · exact h
  · split
    · exact h
    · exact State.Writes.nextTransaction (State.Writes.handOver
        ((h.gate_of_alike _ (Gate.settings_alike _ _ _ _)).stateNotices _ _ _) _ _)

theorem Gate.opens_alike (x : Gate) : x.opens.Alike x := by
  cases h : x.state <;> simp [Gate.Alike, Gate.opens, Gate.leafCmd, h]

theorem State.Writes.openStation (h : s.Writes q t) (n : Nat) : s.Writes q (t.openStation n).1 := by
  have hopen : ∀ c, s.Writes q (t.openFor n c) := fun c =>
    State.Writes.stateNotices (h.gates (g := t.gates.openStation n c)
      (.of_map (fun x => if x.station = n then x.opens else x) rfl (List.Sublist.refl _) rfl
      (fun x => by
        split
        · exact x.opens_alike
        · exact .refl x))) _ _ _
  unfold State.openStation
  split
  · exact h
  · split
    · exact h
    · split
      · exact h
      · exact hopen _

theorem State.Writes.closeStationRequest (h : s.Writes q t) (n : Nat) : s.Writes q (t.closeStationRequest n).1 := by
  unfold State.closeStationRequest
  split
  · exact h
  · exact h.closeStation _ _

theorem State.Writes.loadClasses (h : s.Writes q t) (es : List ClassBytes) : s.Writes q (t.loadClasses es).1 := by
  unfold State.loadClasses
  split
  · exact h
  · exact h.gates (.of_gates rfl (List.Sublist.refl _) rfl)

theorem State.Writes.setPassback (h : s.Writes q t) (m : Nat) : s.Writes q (t.setPassback m).1 :=
  h.gates (.of_gates rfl List.filter_sublist rfl)

theorem State.Writes.passbackExpiry (h : s.Writes q t) (n : Nat) : s.Writes q (t.passbackExpiry n) :=
  h.gates (.of_gates rfl List.filter_sublist rfl)

theorem State.Writes.passageExpiry (h : s.Writes q t) (n : Nat) : s.Writes q (t.passageExpiry n) := by
  unfold State.passageExpiry
  split
  next g hfind =>
    split
    next a ha => exact (h.passageTimeout (State.shows_of_find hfind).1 ha).ite h
    next => exact h
  next => exact h

end

end Machine
end Sys2Proof
end

section
/-! PROOFS. The validation of R4: what a candidate that passes has passed, and the limits of R5 to R13 that this says. -/

namespace Sys2Proof
namespace Machine

/-! ### The stages of a validation -/

theorem bind_eq_ok_iff {ε α β : Type} {x : Except ε α} {f : α → Except ε β} {b : β} :
    (x >>= f) = .ok b ↔ ∃ a, x = .ok a ∧ f a = .ok b := by
  cases x with
  | error e => simp [bind, Except.bind]
  | ok a => simp [bind, Except.bind]

theorem Source_.open_eq_ok_iff {α : Type} {x : Source_ α} {k : Nat} {a : α} : x.open k = .ok a ↔ x = .held a := by
  cases x <;> simp [Source_.open]

theorem failIf_eq_ok_iff {c : Option Failure} {u : Unit} : failIf c = .ok u ↔ c = none := by
  cases c <;> simp [failIf]

/-- The tables a validation takes, and the checks they passed. -/
structure Passes (g : Geometry) (t : Tables) : Prop where
  segments : pickSegments g = .held (t.line, t.segments) ∧ checkSegments (t.line, t.segments) = none
  zones : pick g.staging.zones (g.committed.map (fun t => t.zones)) true = .held t.zones ∧
    checkEntries 1 (checkZone t.line.length t.stations) [] t.zones = none
  stations : pick g.staging.stations (g.committed.map (fun t => t.stations)) false = .held t.stations ∧
    checkCount 2 1 8 t.stations.length = none ∧ checkEntries 2 (checkStation t.line.length) [] t.stations = none
  halts : pick g.staging.halts (g.committed.map (fun t => t.halts)) false = .held t.halts ∧
    checkHalts t.line.length t.stations t.halts = none
  markers : pick g.staging.markers (g.committed.map (fun t => t.markers)) true = .held t.markers ∧
    checkEntries 4 (checkMarker t.line) [] t.markers = none
  cars : pick g.staging.cars (g.committed.map (fun t => [t.cars.a, t.cars.b])) false = .held [t.cars.a, t.cars.b] ∧
    checkEntries 5 checkCar [] [t.cars.a, t.cars.b] = none
  braking : pick g.staging.braking (g.committed.map (fun t => [t.braking])) false = .held [t.braking] ∧
    checkEntries 6 checkBraking [] [t.braking] = none
  gates : pick g.staging.gates (g.committed.map (fun t => t.gates)) true = .held t.gates ∧
    checkEntries 7 (checkGate t.stations t.halts) [] t.gates = none
  noRelease : t.noRelease = noReleaseStations t.zones t.stations t.halts

theorem passes_of_validate {g : Geometry} {t : Tables} (h : validate g = .ok t) : Passes g t := by
  simp only [validate, bind_eq_ok_iff, Source_.open_eq_ok_iff, failIf_eq_ok_iff, Option.or_eq_none_iff] at h
  obtain ⟨⟨line, segs⟩, hseg, -, hsegok, zones, hzones, -, hzonesok, ps, hps, -, ⟨hcount, hpsok⟩, hs, hhs, -, hhsok, ms, hms, -,
    hmsok, cars, hcars, -, ⟨-, hcarsok⟩, brakes, hbrakes, -, ⟨-, hbrakesok⟩, gates, hgates, -, hgatesok, hlast⟩ := h
  split at hlast
  next a b k =>
    cases hlast
    rw [hps] at hzonesok
    exact ⟨⟨hseg, hsegok⟩, ⟨hzones, hzonesok⟩, ⟨hps, hcount, hpsok⟩, ⟨hhs, hhsok⟩, ⟨hms, hmsok⟩, ⟨hcars, hcarsok⟩,
      ⟨hbrakes, hbrakesok⟩, ⟨hgates, hgatesok⟩, rfl⟩
  next => cases hlast

/-! ### Checks of entries -/

theorem firstCheck_cons_eq_none_iff {b : Bool} {c : Check} {xs : List (Bool × Check)} :
    firstCheck ((b, c) :: xs) = none ↔ b = true ∧ firstCheck xs = none := by
  cases b <;> simp [firstCheck]

theorem firstCheck_nil : firstCheck [] = none := rfl

theorem checkCount_eq_none_iff {k lo hi n : Nat} : checkCount k lo hi n = none ↔ lo ≤ n ∧ n ≤ hi := by
  simp [checkCount, inRange]

section
variable {α : Type} {k : Nat} {f : List α → α → Option Check}

theorem checkEntries_cons_eq_none_iff {earlier : List α} {e : α} {es : List α} :
    checkEntries k f earlier (e :: es) = none ↔ f earlier e = none ∧ checkEntries k f (earlier ++ [e]) es = none := by
  simp only [checkEntries]
  cases f earlier e <;> simp

theorem forall_of_checkEntries {P : α → Prop} (hP : ∀ earlier e, f earlier e = none → P e) {es : List α} :
    ∀ {earlier : List α}, checkEntries k f earlier es = none → ∀ e ∈ es, P e := by
  induction es with
  | nil => simp
  | cons x xs ih =>
    intro earlier h e he
    obtain ⟨hx, hxs⟩ := checkEntries_cons_eq_none_iff.1 h
    rcases List.mem_cons.1 he with rfl | he
    · exact hP _ _ hx
    · exact ih hxs e he

/-- Entries that each stand right to those before them stand right to each other. -/
theorem pairwise_of_checkEntries {R : α → α → Prop}
    (hR : ∀ earlier e, earlier.Pairwise R → f earlier e = none → ∀ p ∈ earlier, R p e) {es : List α} :
    ∀ {earlier : List α}, earlier.Pairwise R → checkEntries k f earlier es = none → (earlier ++ es).Pairwise R := by
  induction es with
  | nil => intro earlier he _; simpa using he
  | cons x xs ih =>
    intro earlier he h
    obtain ⟨hx, hxs⟩ := checkEntries_cons_eq_none_iff.1 h
    have hlonger : (earlier ++ [x]).Pairwise R := by
      rw [List.pairwise_append]
      refine ⟨he, List.pairwise_singleton R x, fun p hp y hy => ?_⟩
      rw [List.mem_singleton.1 hy]
      exact hR earlier x he hx p hp
    simpa using ih hlonger hxs

/-- In a list in which each stands right to the later ones, each stands right to the last or is it. -/
theorem rel_getLast {R : α → α → Prop} {l : List α} {x p : α} (h : l.Pairwise R) (hlast : l.getLast? = some x) (hp : p ∈ l) :
    R p x ∨ p = x := by
  obtain ⟨ys, rfl⟩ := List.getLast?_eq_some_iff.1 hlast
  rcases List.mem_append.1 hp with hp | hp
  · exact .inl ((List.pairwise_append.1 h).2.2 p hp x (List.mem_singleton.2 rfl))
  · exact .inr (List.mem_singleton.1 hp)

end

/-! ### Stations and halts -/

theorem namesStation_iff {ps : List Station} {n : Nat} : namesStation ps n = true ↔ ∃ p ∈ ps, p.number = n := by
  simp [namesStation]

theorem find_of_namesStation {ps : List Station} {n : Nat} (h : namesStation ps n = true) :
    ∃ p, ps.find? (fun x => x.number == n) = some p ∧ p.number = n ∧ stopOfStation ps n = p.stopPos := by
  obtain ⟨p, hp, hn⟩ := namesStation_iff.1 h
  have hsome : (ps.find? (fun x => x.number == n)).isSome = true := by
    rw [List.find?_isSome]
    exact ⟨p, hp, by simpa using hn⟩
  obtain ⟨x, hx⟩ := Option.isSome_iff_exists.1 hsome
  exact ⟨x, hx, by simpa using List.find?_some hx, by simp [stopOfStation, hx]⟩

/-- A halt whose stations are named has its positions. -/
theorem Tables.haltInfo_of_named {t : Tables} {h : Halt}
    (hnamed : (namesStation t.stations h.stationA && namesStation t.stations h.stationB) = true) :
    ∃ a b : Station, t.haltInfo h = some ⟨a.stopPos, b.stopPos, a, b⟩ ∧ a.number = h.stationA ∧ b.number = h.stationB ∧
      stopOfStation t.stations h.stationA = a.stopPos ∧ stopOfStation t.stations h.stationB = b.stopPos := by
  rw [Bool.and_eq_true] at hnamed
  obtain ⟨a, ha, hna, hsa⟩ := find_of_namesStation hnamed.1
  obtain ⟨b, hb, hnb, hsb⟩ := find_of_namesStation hnamed.2
  exact ⟨a, b, by simp [Tables.haltInfo, Tables.station?, ha, hb], hna, hnb, hsa, hsb⟩

/-- Car A's stop of a halt is the stop of its station. -/
theorem Tables.haltInfo_pA {t : Tables} {h : Halt} {x : HaltInfo} (hx : t.haltInfo h = some x) :
    x.pA = stopOfStation t.stations h.stationA := by
  unfold Tables.haltInfo at hx
  split at hx
  next a b ha hb =>
    cases hx
    simp only [Tables.station?] at ha
    simp [stopOfStation, ha]
  next => cases hx

theorem lookupZone_release (zones : List Zone) (c d : Nat) (x : Int) :
    (lookupZone zones c x).release = (lookupZone zones d x).release := by
  unfold lookupZone
  split <;> rfl

/-! ### The limits -/

section
variable {g : Geometry} {t : Tables}

theorem Passes.lineOk (h : Passes g t) : 200000 ≤ t.line.length ∧ t.line.length ≤ 4000000 ∧ 500 ≤ t.line.defaultCap ∧
    t.line.defaultCap ≤ t.line.maxCruise ∧ 1000 ≤ t.line.maxCruise ∧ t.line.maxCruise ≤ 14000 ∧ 1 ≤ t.line.scale ∧
    t.line.scale ≤ 65535 ∧ 0 ≤ t.line.loopStart ∧ t.line.loopStart < Int.fdiv t.line.length 2 ∧
    Int.fdiv t.line.length 2 < t.line.loopEnd ∧ t.line.loopEnd ≤ t.line.length := by
  have hsegments := h.segments.2
  unfold checkSegments at hsegments
  split at hsegments
  · cases hsegments
  next hline =>
    simp only [checkLine, firstCheck_cons_eq_none_iff, between, inRange, Bool.and_eq_true, decide_eq_true_eq] at hline
    obtain ⟨⟨hl1, hl2⟩, ⟨hd1, hd2⟩, ⟨⟨hm1, hm2⟩, hdm⟩, ⟨hs1, hs2⟩, ⟨⟨⟨h1, h2⟩, h3⟩, h4⟩, -⟩ := hline
    exact ⟨hl1, hl2, hd1, hdm, hm1, hm2, hs1, hs2, h1, h2, h3, h4⟩

theorem Passes.segmentsOk (h : Passes g t) : t.segments.length ≤ 32 ∧ t.segments.head?.map (fun e => e.start) = some 0 ∧
    t.segments.Pairwise (fun a b => a.start < b.start) ∧
    ∀ e ∈ t.segments, e.start < t.line.length ∧ -2000 ≤ e.sine ∧ e.sine ≤ 8000 := by
  have hsegments := h.segments.2
  unfold checkSegments at hsegments
  split at hsegments
  · cases hsegments
  next hline =>
    obtain ⟨hcount, hentries⟩ := Option.or_eq_none_iff.1 hsegments
    obtain ⟨hlo, hhi⟩ := checkCount_eq_none_iff.1 hcount
    refine ⟨hhi, ?_, ?_, forall_of_checkEntries (fun earlier e he => ?_) hentries⟩
    · cases hs : t.segments with
      | nil => simp [hs] at hlo
      | cons e es =>
        simp only [hs] at hentries
        have hfirst := (checkEntries_cons_eq_none_iff.1 hentries).1
        simp only [checkSegment, firstCheck_cons_eq_none_iff, List.getLast?_nil, decide_eq_true_eq] at hfirst
        simp [hfirst.1]
    · refine pairwise_of_checkEntries (fun earlier e hsorted he p hp => ?_) List.Pairwise.nil hentries
      simp only [checkSegment, firstCheck_cons_eq_none_iff] at he
      cases hlast : earlier.getLast? with
      | none => simp [List.getLast?_eq_none_iff.1 hlast] at hp
      | some x =>
        have hxe : x.start < e.start := by simpa [hlast] using he.1
        rcases rel_getLast hsorted hlast hp with hpx | rfl
        · exact hpx.trans hxe
        · exact hxe
    · simp only [checkSegment, firstCheck_cons_eq_none_iff, between, Bool.and_eq_true, decide_eq_true_eq] at he
      exact ⟨he.2.1, he.2.2.1⟩

theorem Passes.zonesOk (h : Passes g t) : ∀ z ∈ t.zones, 0 ≤ z.start ∧ z.start < z.stop ∧ z.stop ≤ t.line.length + 1 ∧
    300 ≤ z.cap ∧ z.cap ≤ 14000 ∧ 1 ≤ z.side ∧ z.side ≤ 3 ∧ (z.station = 0 ∨ ∃ p ∈ t.stations, p.number = z.station) := by
  refine forall_of_checkEntries (fun earlier z hz => ?_) h.zones.2
  simp only [checkZone, firstCheck_cons_eq_none_iff, inRange, Bool.and_eq_true, Bool.or_eq_true, decide_eq_true_eq,
    beq_iff_eq, namesStation_iff] at hz
  obtain ⟨⟨⟨h1, h2⟩, h3⟩, ⟨h4, h5⟩, ⟨h6, h7⟩, h8, -⟩ := hz
  exact ⟨h1, h2, h3, h4, h5, h6, h7, h8⟩

theorem Passes.stationsOk (h : Passes g t) : 1 ≤ t.stations.length ∧ t.stations.length ≤ 8 ∧
    (∀ p ∈ t.stations, 1 ≤ p.number ∧ p.number ≤ 8 ∧ 0 ≤ p.stopPos ∧ p.stopPos ≤ t.line.length) ∧
    t.stations.Pairwise (fun p q => p.number ≠ q.number ∧ 600 < (p.stopPos - q.stopPos).natAbs) := by
  obtain ⟨-, hcount, hentries⟩ := h.stations
  obtain ⟨hlo, hhi⟩ := checkCount_eq_none_iff.1 hcount
  refine ⟨hlo, hhi, forall_of_checkEntries (fun earlier p hp => ?_) hentries,
    pairwise_of_checkEntries (fun earlier e _ he p hp => ?_) List.Pairwise.nil hentries⟩
  · simp only [checkStation, firstCheck_cons_eq_none_iff, inRange, between, Bool.and_eq_true, decide_eq_true_eq] at hp
    exact ⟨hp.1.1, hp.1.2, hp.2.2.1⟩
  · simp only [checkStation, firstCheck_cons_eq_none_iff, Bool.not_eq_true', List.all_eq_true, decide_eq_true_eq] at he
    obtain ⟨-, hnew, -, hspaced, -⟩ := he
    refine ⟨fun heq => ?_, ?_⟩
    · rw [namesStation_iff.2 ⟨p, hp, heq⟩] at hnew
      cases hnew
    · rw [← Int.natAbs_neg, Int.neg_sub]
      exact hspaced p hp

theorem Passes.haltsOk (h : Passes g t) : 2 ≤ t.halts.length ∧ t.halts.length ≤ 8 ∧
    (∀ x ∈ t.halts, ∃ a b, t.haltInfo x = some ⟨a.stopPos, b.stopPos, a, b⟩ ∧ a.number = x.stationA ∧
      b.number = x.stationB ∧ (b.stopPos - (t.line.length - a.stopPos)).natAbs ≤ 500) ∧
    t.halts.Pairwise (fun x y => ∀ i j, t.haltInfo x = some i → t.haltInfo y = some j → 600 < (i.pA - j.pA).natAbs) ∧
    (∀ x xs, t.halts = x :: xs → ∀ y ∈ xs, ∀ i j, t.haltInfo x = some i → t.haltInfo y = some j → i.pA < j.pA) := by
  have hhalts := h.halts.2
  simp only [checkHalts, Option.or_eq_none_iff] at hhalts
  obtain ⟨⟨hcount, hentries⟩, hordered⟩ := hhalts
  obtain ⟨hlo, hhi⟩ := checkCount_eq_none_iff.1 hcount
  refine ⟨hlo, hhi, forall_of_checkEntries (fun earlier x hx => ?_) hentries,
    pairwise_of_checkEntries (fun earlier e _ he p hp i j hi hj => ?_) List.Pairwise.nil hentries,
    fun x xs hxs y hy i j hi hj => ?_⟩
  · simp only [checkHalt, firstCheck_cons_eq_none_iff, decide_eq_true_eq] at hx
    obtain ⟨hnamed, hmirror, -⟩ := hx
    obtain ⟨a, b, hinfo, hna, hnb, hsa, hsb⟩ := Tables.haltInfo_of_named hnamed
    rw [hsa, hsb] at hmirror
    exact ⟨a, b, hinfo, hna, hnb, hmirror⟩
  · simp only [checkHalt, firstCheck_cons_eq_none_iff, List.all_eq_true, decide_eq_true_eq] at he
    rw [Tables.haltInfo_pA hi, Tables.haltInfo_pA hj]
    exact he.2.2.1 p hp
  · rw [hxs] at hordered
    simp only [haltsOrdered, ite_eq_left_iff, reduceCtorEq, imp_false, Decidable.not_not, List.all_eq_true,
      decide_eq_true_eq] at hordered
    rw [Tables.haltInfo_pA hi, Tables.haltInfo_pA hj]
    exact hordered y hy

theorem Passes.markersOk (h : Passes g t) : t.markers.Pairwise (fun m k => m.id ≠ k.id ∧ m.pos ≤ k.pos) ∧
    ∀ m ∈ t.markers, m.id ≤ 255 ∧ (0 ≤ m.pos ∧ m.pos ≤ t.line.length) ∧ m.track ≤ 2 ∧
      (m.track ≠ 0 → t.line.loopStart ≤ m.pos ∧ m.pos ≤ t.line.loopEnd) := by
  refine ⟨pairwise_of_checkEntries (fun earlier e hsorted he p hp => ?_) List.Pairwise.nil h.markers.2,
    forall_of_checkEntries (fun earlier m hm => ?_) h.markers.2⟩
  · simp only [checkMarker, firstCheck_cons_eq_none_iff, Bool.and_eq_true, Bool.not_eq_true', List.any_eq_false,
      beq_iff_eq] at he
    obtain ⟨⟨-, hnew⟩, -, hlast, -⟩ := he
    refine ⟨hnew p hp, ?_⟩
    cases hx : earlier.getLast? with
    | none => simp [List.getLast?_eq_none_iff.1 hx] at hp
    | some x =>
      have hxe : x.pos ≤ e.pos := by simpa [hx] using hlast
      rcases rel_getLast hsorted hx hp with hpx | rfl
      · exact hpx.2.trans hxe
      · exact hxe
  · simp only [checkMarker, firstCheck_cons_eq_none_iff, inRange, between, Bool.and_eq_true, Bool.or_eq_true,
      decide_eq_true_eq, beq_iff_eq] at hm
    obtain ⟨⟨⟨-, hid⟩, -⟩, hpos, -, ⟨-, htrack⟩, hloop, -⟩ := hm
    exact ⟨hid, hpos, htrack, hloop.resolve_left⟩

theorem Passes.carsOk (h : Passes g t) (c : Car) : 2000 ≤ (t.cars.get c).emptyMass ∧ (t.cars.get c).emptyMass ≤ 30000 ∧
    1 ≤ (t.cars.get c).capacity ∧ (t.cars.get c).capacity ≤ 300 ∧ -20000 ≤ (t.cars.get c).offsets.q1 ∧
    (t.cars.get c).offsets.q1 < (t.cars.get c).offsets.q2 ∧ (t.cars.get c).offsets.q2 < (t.cars.get c).offsets.q3 ∧
    (t.cars.get c).offsets.q3 < (t.cars.get c).offsets.q4 ∧ (t.cars.get c).offsets.q4 ≤ 20000 := by
  refine forall_of_checkEntries (P := fun x : CarData => 2000 ≤ x.emptyMass ∧ x.emptyMass ≤ 30000 ∧ 1 ≤ x.capacity ∧
    x.capacity ≤ 300 ∧ -20000 ≤ x.offsets.q1 ∧ x.offsets.q1 < x.offsets.q2 ∧ x.offsets.q2 < x.offsets.q3 ∧
    x.offsets.q3 < x.offsets.q4 ∧ x.offsets.q4 ≤ 20000) (fun earlier x hx => ?_) h.cars.2 (t.cars.get c)
    (by cases c <;> simp [PerCar.get])
  simp only [checkCar, firstCheck_cons_eq_none_iff, inRange, between, Quad.toList, List.all_cons, List.all_nil,
    Bool.and_eq_true, decide_eq_true_eq] at hx
  obtain ⟨⟨hm1, hm2⟩, ⟨hc1, hc2⟩, ⟨⟨h1, -⟩, -, -, ⟨-, h4⟩, -⟩, ⟨⟨h12, h23⟩, h34⟩, -⟩ := hx
  exact ⟨hm1, hm2, hc1, hc2, h1, h12, h23, h34, h4⟩

theorem Passes.brakingOk (h : Passes g t) : 10000 ≤ t.braking.force ∧ t.braking.force ≤ 400000 ∧ t.braking.mEq ≤ 60000 ∧
    200 ≤ t.braking.tR ∧ t.braking.tR ≤ 2000 ∧ 200 ≤ t.braking.aMin ∧ t.braking.aMin ≤ 1500 ∧
    200 ≤ t.braking.aSvcCfg ∧ t.braking.aSvcCfg ≤ 1200 ∧ 100 ≤ t.braking.aAcc ∧ t.braking.aAcc ≤ 800 ∧
    500 ≤ t.braking.overrun ∧ t.braking.overrun ≤ 5000 ∧ t.braking.reserve ≤ 300 ∧ t.braking.tolerance ≤ 2000 ∧
    200 ≤ t.braking.stretchBound ∧ t.braking.stretchBound ≤ 4000 := by
  have hchecked := (checkEntries_cons_eq_none_iff.1 h.braking.2).1
  simp only [checkBraking, firstCheck_cons_eq_none_iff, inRange, Bool.and_eq_true, decide_eq_true_eq] at hchecked
  omega

theorem Passes.gatesOk (h : Passes g t) : t.gates.Pairwise (fun a b => a.address ≠ b.address) ∧
    ∀ e ∈ t.gates, 1 ≤ e.address ∧ e.address ≤ 16 ∧ 1 ≤ e.compartment ∧ e.compartment ≤ 4 ∧
      (t.station? e.station).isSome = true ∧ ∃ x ∈ t.halts, x.stationA = e.station ∨ x.stationB = e.station := by
  refine ⟨pairwise_of_checkEntries (fun earlier e _ he p hp => ?_) List.Pairwise.nil h.gates.2,
    forall_of_checkEntries (fun earlier e he => ?_) h.gates.2⟩
  · simp only [checkGate, firstCheck_cons_eq_none_iff, Bool.not_eq_true', List.any_eq_false, beq_iff_eq] at he
    exact he.2.1 p hp
  · simp only [checkGate, firstCheck_cons_eq_none_iff, inRange, Bool.and_eq_true, decide_eq_true_eq, List.any_eq_true,
      Bool.or_eq_true, beq_iff_eq] at he
    obtain ⟨⟨ha1, ha2⟩, -, hnamed, hused, ⟨hc1, hc2⟩, -⟩ := he
    obtain ⟨p, hp, -⟩ := find_of_namesStation hnamed
    exact ⟨ha1, ha2, hc1, hc2, by simp [Tables.station?, hp], hused⟩

theorem Passes.mem_noRelease_iff (h : Passes g t) (n : Nat) : n ∈ t.noRelease ↔
    (∃ x ∈ t.halts, x.stationA = n ∨ x.stationB = n) ∧ ∃ p ∈ t.stations, p.number = n ∧
      (lookupZone t.zones t.line.defaultCap p.stopPos).release = false := by
  rw [h.noRelease]
  simp only [noReleaseStations, List.mem_map, List.mem_filter, Bool.and_eq_true, List.any_eq_true, Bool.or_eq_true,
    beq_iff_eq, Bool.not_eq_true', lookupZone_release _ 0 t.line.defaultCap]
  constructor
  · rintro ⟨p, ⟨hp, hused, hzone⟩, rfl⟩
    exact ⟨hused, p, hp, rfl, hzone⟩
  · rintro ⟨hused, p, hp, rfl, hzone⟩
    exact ⟨p, ⟨hp, hused, hzone⟩, rfl⟩

end

/-- Settles O21: what validation checked of each table says its limits. -/
theorem validatedTablesKeepLimits : Obligations.ValidatedTablesKeepLimits := by
  intro g t hvalid
  have h := passes_of_validate hvalid
  exact ⟨h.lineOk, h.segmentsOk, h.zonesOk, h.stationsOk, h.haltsOk, h.markersOk, h.carsOk, h.brakingOk, h.gatesOk,
    h.mem_noRelease_iff⟩

end Machine
end Sys2Proof
end

section
/-! PROOFS. The writes of the requests and of every command, and the invariants of the lists and of the severity memory that
they keep. -/

namespace Sys2Proof
namespace Machine

/-! ### A commit -/

theorem validate_gates_nodup {g : Geometry} {tb : Tables} (h : validate g = .ok tb) :
    (tb.gates.map (fun e => e.address)).Nodup := by
  rw [List.Nodup, List.pairwise_map]
  exact (passes_of_validate h).gatesOk.1

/-- A commit discards the position without losing it: the confidence is changed, and said to be. -/
theorem State.commitPosition_eq (s : State) : s.commitPosition =
    (if s.trk.conf = .unknown then { s with trk := s.trk.commit s.geo.length }
      else ((State.setConf { s with trk := s.trk.commit s.geo.length } .unknown).posNotice .commit none none none
        s.trk.conf)).evalAtStop := by
  have hevent := State.confEvent_of_not_lost (s := { s with trk := s.trk.commit s.geo.length }) (c := .unknown)
    (.inr (by decide)) .commit none none none
  simp only [State.commitPosition, State.confQuiet, hevent]
  rfl

theorem State.commitPosition_gates (s : State) : s.commitPosition.gates = s.gates := by
  rw [State.commitPosition_eq]
  split <;> simp

theorem Mode.afterCommit_ne_unconfigured (m : Mode) : m.afterCommit ≠ .unconfigured := by cases m <;> decide

section
variable {q : Prop} {s t : State}

theorem State.changeMode_mode (s : State) (m : Mode) (e : ModeEvent) : (s.changeMode m e).line.mode = m := by
  simp only [State.changeMode]
  split
  next h => exact h
  next => rfl

/-- The state of a commit once the tables are in force and the position is discarded. -/
def State.committing (s : State) (tb : Tables) : State :=
  (State.changeMode { s with geo := ⟨some tb, Staging.empty⟩ } s.line.mode.afterCommit .commit).commitPosition

@[simp] theorem State.committing_geo (s : State) (tb : Tables) : (s.committing tb).geo = ⟨some tb, Staging.empty⟩ := by
  simp [State.committing]

@[simp] theorem State.committing_mode (s : State) (tb : Tables) : (s.committing tb).line.mode = s.line.mode.afterCommit := by
  simp [State.committing, State.changeMode_mode]

@[simp] theorem State.committing_gates (s : State) (tb : Tables) : (s.committing tb).gates = s.gates := by
  simp [State.committing, State.commitPosition_gates]

theorem State.Writes.changeMode (h : s.Writes q t) {m : Mode} (hm : m ≠ .unconfigured) (e : ModeEvent) :
    s.Writes q (t.changeMode m e) := State.Writes.ite h (State.Writes.notice (h.write (.mode t m hm)) _ _ _)

theorem State.Writes.commit (h : s.Writes q t) {tb : Tables} (htb : validate t.geo = .ok tb)
    (hnone : q → ∀ g ∈ t.gates.gates, g.admission = none) : s.Writes q (t.commit tb) := by
  have hcommitting : s.Writes q (t.committing tb) :=
    State.Writes.commitPosition (State.Writes.changeMode (h.write (.tables t tb)) t.line.mode.afterCommit_ne_unconfigured _)
  have hplan : s.Writes q { t.committing tb with plan := (t.committing tb).plan.commit tb.line.length } :=
    hcommitting.own rfl
  have hrebuilt := hplan.write (.rebuild _ tb.gates (validate_gates_nodup htb)
    (by rw [State.committing_mode]; exact t.line.mode.afterCommit_ne_unconfigured)
    (by rw [State.committing_geo]; simp) (by rw [State.committing_gates]; exact hnone))
  exact State.Writes.notice (State.Writes.nextTransaction (State.Writes.handOver hrebuilt _ _)) _ _ _

/-- A commit that is not refused finds no admission held. -/
theorem State.ReservedOk.no_admission (h : t.ReservedOk) (hmode : t.line.mode.configurable = true)
    (hrefusal : t.commitRefusal = none) : ∀ g ∈ t.gates.gates, g.admission = none := by
  intro g hg
  cases hm : t.line.mode with
  | unconfigured => rw [h.2.2.2.1 (.inl hm)] at hg; cases hg
  | locked =>
    simp only [State.commitRefusal, hm, if_true] at hrefusal
    split at hrefusal
    · cases hrefusal
    · split at hrefusal
      · cases hrefusal
      · split at hrefusal
        · cases hrefusal
        next hshut =>
          simp only [Gates.shut, Bool.not_eq_true', Bool.not_eq_false, List.all_eq_true] at hshut
          have hnot : g.state ≠ .passing := fun hp => by simpa [Gate.openOrPassing, hp] using hshut g hg
          rw [← Option.not_isSome_iff_eq_none, h.2.1 g hg]
          exact hnot
  | automatic => rw [hm] at hmode; cases hmode
  | recovery => rw [hm] at hmode; cases hmode

theorem State.Writes.commitGeometry (h : s.Writes q t) (hq : q → t.ReservedOk) : s.Writes q t.commitGeometry.1 := by
  unfold State.commitGeometry
  split
  next hmode =>
    split
    · exact h
    next hrefusal =>
      split
      · exact h
      next tb htb => exact h.commit htb (fun hok => (hq hok).no_admission hmode hrefusal)
  next => exact h

/-! ### The other requests -/

theorem State.Writes.load {α : Type} (h : s.Writes q t) (r : Except Reply (Part α)) (put : Part α → Staging) :
    s.Writes q (t.load r put).1 := by
  unfold State.load
  split
  · split
    · exact h.own rfl
    · exact h
  · exact h

theorem State.Writes.setMode (h : s.Writes q t) (n : Nat) : s.Writes q (t.setMode n).1 := by
  unfold State.setMode
  split
  · exact h
  · split
    · exact h
    next m hm =>
      have hne : m ≠ .unconfigured := by
        rintro rfl
        unfold settableMode at hm
        split at hm <;> cases hm
      split
      · exact h
      · exact State.Writes.ite (h.changeMode hne _).closeAll (h.changeMode hne _)

theorem State.Writes.setReference (h : s.Writes q t) (n : Nat) : s.Writes q (t.setReference n).1 := by
  unfold State.setReference
  split
  · exact h
  · split
    · exact h
    · split
      · exact h
      · exact h.reference _

theorem State.Writes.announceRun (h : s.Writes q t) (o : Option Nat) : s.Writes q (t.announceRun o).1 := by
  unfold State.announceRun
  split
  · exact h
  · split
    · exact h.own rfl
    · split
      · exact h.own rfl
      · exact h

theorem State.Writes.startRun (h : s.Writes q t) (n c : Nat) : s.Writes q (t.startRun n c).1 := by
  unfold State.startRun
  split
  · exact h
  · split
    · exact h
    · split
      · split
        · exact h
        · exact State.Writes.lockForRun (State.Writes.enterRun (h.own (by rfl)) _ _ _)
      · exact h

theorem State.Writes.holdRun (h : s.Writes q t) : s.Writes q t.holdRun.1 := by
  unfold State.holdRun
  split
  · exact h
  · split
    · exact h
    · exact h
    · exact h.hold _
    · exact h.hold _
    · exact h.hold _
    · exact h.hold _
    · exact h

theorem State.Writes.cancelRun (h : s.Writes q t) : s.Writes q t.cancelRun.1 := by
  unfold State.cancelRun
  split
  · exact h
  · split
    · exact h
    · exact h.closeRun _ _ _ _
    · exact h.hold _
    · exact h.hold _
    · exact h.hold _
    · exact h.hold _
    · exact h.closeRun _ _ _ _

theorem State.Writes.resume (h : s.Writes q t) (tb : Tables) (r : Run) (e : Envelope) : s.Writes q (t.resume tb r e) :=
  State.Writes.startSequence (State.Writes.holdSetNotice (State.Writes.enterRun (h.own (by rfl)) _ _ _) _)

theorem State.Writes.resumeRun (h : s.Writes q t) : s.Writes q t.resumeRun.1 := by
  have hholding : ∀ r, s.Writes q (t.resumeHolding r).1 := by
    intro r
    unfold State.resumeHolding
    split
    · exact h
    · split
      · exact h.arrive _
      · split
        · simp only [State.tryResume]
          split
          · exact h
          · split
            · exact h
            · exact h.resume _ _ _
        · exact h
  unfold State.resumeRun
  split
  · exact h
  · split
    · exact hholding _
    · exact h

theorem State.Writes.replaceWatch (h : s.Writes q t) (n : Ix4) (w : Watch) : s.Writes q (t.replaceWatch n w) := by
  have hnew : ∀ {u : State} r, s.Writes q u → s.Writes q (u.newWatch r n w) := by
    intro u r hu
    unfold State.newWatch
    split
    · exact hu
    · dsimp only
      split
      · exact ((hu.setRun _).notice _ _ _).ite hu
      · exact (hu.takeHold _ _ _).notice _ _ _
  have hset : s.Writes q (t.setWatchRec n w) := h.own rfl
  simp only [State.replaceWatch, State.watchChanged]
  split
  · exact hset
  next r _ =>
    have hcancel : s.Writes q ((t.setWatchRec n w).cancelWatch r n (t.plan.watches.get n)).1 := by
      simp only [State.cancelWatch]
      split
      · exact (hset.setRun _).notice _ _ _
      · exact hset
    split
    · exact hset.ite (hnew _ hcancel)
    · split
      · exact (hset.setRun _).holdSetNotice _
      · exact hset

theorem State.Writes.setWatch (h : s.Writes q t) (i : Nat) (w : WatchBytes) : s.Writes q (t.setWatch i w).1 := by
  unfold State.setWatch
  split
  · exact h
  · split
    · exact h.replaceWatch _ _
    · exact h

theorem State.Writes.clearWatch (h : s.Writes q t) (i : Nat) : s.Writes q (t.clearWatch i).1 := by
  unfold State.clearWatch
  split
  · exact h.replaceWatch _ _
  · exact h

theorem State.Writes.dropEnvelope (h : s.Writes q t) : s.Writes q t.dropEnvelope := h.own rfl

theorem State.Writes.closeTripped (h : s.Writes q t) (c : Cause) : s.Writes q (t.closeTripped c) := by
  unfold State.closeTripped
  split
  · exact (h.closeRun _ _ _ _).ite h
  · exact h

theorem State.Writes.clearTrip (h : s.Writes q t) : s.Writes q t.clearTrip.1 := by
  unfold State.clearTrip
  split
  · exact h
  next x _ _ =>
    have hcleared : s.Writes q { t with sup := { t.sup with trip := none }, brk := { t.brk with watch := none } } :=
      h.own rfl
    exact ((hcleared.closeTripped x.cause).dropEnvelope.handOver _ _).notice _ _ _
  · exact h

theorem State.Writes.releaseTrackBrakes (h : s.Writes q t) : s.Writes q t.releaseTrackBrakes.1 := by
  unfold State.releaseTrackBrakes
  split
  · exact h
  · exact State.Writes.trackCondition (State.Writes.foldl (fun c h => h.setTrack c _) _ h)

theorem State.Writes.releaseDoors (h : s.Writes q t) (a b : Nat) : s.Writes q (t.releaseDoors a b).1 := by
  unfold State.releaseDoors
  split
  · exact h
  · exact State.Writes.noticeIf (h.decideDoors _) _ _ _ _

theorem State.Writes.lockDoors (h : s.Writes q t) (a : Nat) : s.Writes q (t.lockDoors a).1 := by
  have hnamed : ∀ {u : State} c, s.Writes q u → s.Writes q (u.lockNamed a c) := fun c hu => (hu.lockCar c).ite hu
  exact hnamed .B (hnamed .A h)

theorem State.Writes.isolateDoor (h : s.Writes q t) (d : Nat) : s.Writes q (t.isolateDoor d).1 := by
  unfold State.isolateDoor
  split
  · exact h
  · split
    · exact h
    · exact h.isolate _

theorem State.Writes.restoreDoor (h : s.Writes q t) (d : Nat) : s.Writes q (t.restoreDoor d).1 := by
  unfold State.restoreDoor
  split
  · exact h
  · split
    · exact h
    · exact h.restore _

theorem State.Writes.setNotice (h : s.Writes q t) (a b c d : Nat) : s.Writes q (t.setNotice a b c d).1 := by
  unfold State.setNotice
  split
  · exact State.Writes.noticeIf (h.write (.settings t _ t.notices.threshold)) _ _ _ _
  · exact h

theorem State.Writes.setThreshold (h : s.Writes q t) (p x : Nat) : s.Writes q (t.setThreshold p x).1 := by
  unfold State.setThreshold
  split
  · exact State.Writes.noticeIf (h.write (.settings t t.notices.settings _)) _ _ _ _
  · exact h

/-- The writes of each request's owner. -/
theorem State.Writes.owner (h : s.Writes q t) (hq : q → t.ReservedOk) (r : Request) : s.Writes q (r.owner t).1 := by
  cases r with
  | loadSegments n i l es => exact h.load _ _
  | loadZones n i es => exact h.load _ _
  | loadStations n i es => exact h.load _ _
  | loadHalts n i es => exact h.load _ _
  | loadMarkers n i es => exact h.load _ _
  | loadCars n i es => exact h.load _ _
  | loadBraking n i es => exact h.load _ _
  | loadGates n i es => exact h.load _ _
  | commitGeometry => exact h.commitGeometry hq
  | discardGeometry => exact h.own rfl
  | readGeometry a b c => exact h.own (by simp [Request.owner, State.shared])
  | setMode n => exact h.setMode n
  | clearSeverity => exact State.Writes.noticeIf (h.write (.memory t)) _ _ _ _
  | restart => exact h.own (by simp [Request.owner, State.shared])
  | readStatus => exact h
  | setReference n => exact h.setReference n
  | readPosition => exact h
  | announceRun o => exact h.announceRun o
  | startRun n c => exact h.startRun n c
  | holdRun => exact h.holdRun
  | resumeRun => exact h.resumeRun
  | cancelRun => exact h.cancelRun
  | setWatch i w => exact h.setWatch i w
  | clearWatch i => exact h.clearWatch i
  | readRun => exact h
  | clearTrip => exact h.clearTrip
  | releaseTrackBrakes => exact h.releaseTrackBrakes
  | readTrip => exact h
  | releaseDoors a b => exact h.releaseDoors a b
  | lockDoors a => exact h.lockDoors a
  | isolateDoor d => exact h.isolateDoor d
  | restoreDoor d => exact h.restoreDoor d
  | readDoors => exact h
  | releaseGateBus => exact h.releaseGateBus
  | setGate a b c d e => exact h.setGate a b c d e
  | openStation n => exact h.openStation n
  | closeStation n => exact h.closeStationRequest n
  | loadClasses es => exact h.loadClasses es
  | setPassback m => exact h.setPassback m
  | readGates n => exact h
  | readTally => exact h
  | setNotice a b c d => exact h.setNotice a b c d
  | setThreshold p x => exact h.setThreshold p x

/-! ### Every command -/

theorem State.asked_writes (hq : q → s.ReservedOk) (h : ReqHead) (r : Request) : s.Writes q (s.asked h r) := by
  have hadvance : s.Writes q (s.advance h.dt) := (State.Writes.refl s).own rfl
  rcases (s.advance h.dt).request_cases h r r.owner with ⟨x, hx⟩ | ⟨x, y, hx⟩
  · rw [State.asked, hx]
    exact hadvance.own rfl
  · rw [State.asked, hx]
    exact State.Writes.own (State.Writes.owner (t := { s.advance h.dt with ctl := x }) (hadvance.own (by rfl)) hq r) (by rfl)

/-- The state in which an answer of the gate at `x` is looked at: no transaction in progress, the gate's missed polls 0. -/
def State.polled (s : State) (x : Nat) : State :=
  State.gate { s with gates := { s.gates with trans := none } } x Gate.answered

/-- The end of a transaction once its answer is taken: the round of polls, and the next transaction. -/
def State.finished (s : State) (tr : Transaction) : State :=
  State.nextTransaction { s with gates := { s.gates with round := if tr.inserted then s.gates.round else s.gates.passing } }

theorem State.endTransaction_eq (s : State) (tr : Transaction) (ans : Option Answer) :
    s.endTransaction tr ans = (State.takeAnswer { s with gates := { s.gates with trans := none } } tr ans).finished tr := rfl

theorem State.Writes.finished (h : s.Writes q t) (tr : Transaction) : s.Writes q (t.finished tr) :=
  State.Writes.nextTransaction (h.gates (.of_gates rfl (List.Sublist.refl _) rfl))

theorem State.polled_writes (s : State) (x : Nat) : s.Writes q (s.polled x) := by
  have hidle : s.Writes q { s with gates := { s.gates with trans := none } } :=
    (State.Writes.refl s).gates (.of_gates rfl (List.Sublist.refl _) rfl)
  exact hidle.gate_of_alike _ Gate.answered_alike

/-- What a gate's transaction makes of the state as it ends. -/
theorem State.endTransaction_writes (s : State) (tr : Transaction) (ans : Option Answer) :
    s.Writes q (s.endTransaction tr ans) ∨ ∃ x g c ticket persons mass, (s.polled x).Grants g c ticket persons mass ∧
      s.endTransaction tr ans = ((s.polled x).granted g c ticket persons mass).finished tr := by
  have hidle : s.Writes q { s with gates := { s.gates with trans := none } } :=
    (State.Writes.refl s).gates (.of_gates rfl (List.Sublist.refl _) rfl)
  rw [State.endTransaction_eq]
  rcases hidle.takeAnswer tr ans with hw | ⟨x, hw | ⟨g, c, ticket, persons, mass, hgrants, heq⟩⟩
  · exact .inl (hw.finished tr)
  · exact .inl (hw.finished tr)
  · exact .inr ⟨x, g, c, ticket, persons, mass, hgrants, by rw [heq]; rfl⟩

/-- The end of a transaction without an answer grants nothing. -/
theorem State.endTransaction_silent (s : State) (tr : Transaction) : s.Writes q (s.endTransaction tr none) := by
  have hidle : s.Writes q { s with gates := { s.gates with trans := none } } :=
    (State.Writes.refl s).gates (.of_gates rfl (List.Sublist.refl _) rfl)
  have htaken : s.Writes q (State.takeAnswer { s with gates := { s.gates with trans := none } } tr none) := by
    have hservice : ∀ {g : Gate}, State.Shows { s with gates := { s.gates with trans := none } } g → g.state ≠ .held →
        s.Writes q (State.answerInService { s with gates := { s.gates with trans := none } } tr g none) := by
      intro g hg hheld
      unfold State.answerInService
      split
      · exact hidle.missed hg hheld
      · split
        · simp only [reduceCtorEq, ite_false]
          exact hidle.mismatch hg hheld _ _
        · exact hidle.missed hg hheld
    unfold State.takeAnswer
    split
    · exact hidle
    next g hfind =>
      obtain ⟨hg, -⟩ := State.shows_of_find hfind
      split
      · exact hidle
      · split
        · exact hidle
        · exact hidle
        next hoff => exact hidle.answerOffline hg hoff _
        next hst => exact hservice hg (by simp [hst])
        next hst => exact hservice hg (by simp [hst])
        next hst => exact hservice hg (by simp [hst])
  exact htaken.finished tr

/-- Every command's effect is a reset, or a chain of writes, in which an answer of a gate may have a grant. -/
theorem effect_writes (c : Instr) (s : State) (hq : q → s.ReservedOk) :
    (∃ u k i, s.Writes q u ∧ effect c s = u.doReset k i) ∨ s.Writes q (effect c s) ∨
      ∃ dt bytes tr x g k ticket persons mass, c = .gateAnswer dt bytes ∧
        ((s.advance dt).polled x).Grants g k ticket persons mass ∧
        effect c s = (((s.advance dt).polled x).granted g k ticket persons mass).finished tr := by
  have ha : ∀ dt, s.Writes q (s.advance dt) := fun dt => (State.Writes.refl s).own rfl
  cases c with
  | powerOn pins => exact .inl ⟨s, _, _, .refl s, rfl⟩
  | resetLine => exact .inl ⟨s, _, _, .refl s, rfl⟩
  | transmitterFree dt port =>
    simp only [effect, State.transmitterFree]
    split
    · exact .inl ⟨s.advance dt, _, _, ha dt, rfl⟩
    · exact .inr (.inl ((ha dt).own rfl))
  | gateAnswer dt bytes =>
    simp only [effect, State.gateAnswer]
    split
    next tr _ =>
      rcases (s.advance dt).endTransaction_writes tr (readAnswer tr.address bytes) with
        hw | ⟨x, g, k, ticket, persons, mass, hgrants, heq⟩
      · exact .inr (.inl ((ha dt).trans hw))
      · exact .inr (.inr ⟨dt, bytes, tr, x, g, k, ticket, persons, mass, rfl, hgrants, heq⟩)
    next => exact .inr (.inl (ha dt))
  | gateResponseTimeout dt =>
    simp only [effect, State.gateSilence]
    split
    next tr _ =>
      split
      · exact .inr (.inl ((ha dt).trans (State.endTransaction_silent _ tr)))
      · exact .inr (.inl (ha dt))
    next => exact .inr (.inl (ha dt))
  | positionSample dt => exact .inr (.inl (ha dt).sample)
  | encoderFault dt => exact .inr (.inl ((ha dt).confQuiet _ _ _ _ _))
  | markerReport dt car id =>
    exact .inr (.inl (State.Writes.markerReport ((ha dt).setLink (by exact fun h => h) (by exact fun h => h)) car id))
  | plannedWaitExpiry dt =>
    refine .inr (.inl ?_)
    simp only [effect, State.waitExpiry]
    split
    · exact ((ha dt).closePlanned _).ite (ha dt)
    · exact ha dt
  | torqueTimeout dt => exact .inr (.inl (ha dt).torqueExpiry)
  | contactChange dt k x => exact .inr (.inl ((ha dt).contactChange k x))
  | brakeTimerExpiry dt i => exact .inr (.inl ((ha dt).brakeExpiry i))
  | trackBrakeTimerExpiry dt car => exact .inr (.inl ((ha dt).trackExpiry car))
  | estopChange dt n closed =>
    refine .inr (.inl ?_)
    have hloops : ∀ x, s.Writes q { s.advance dt with line := { (s.advance dt).line with loops := x } } := fun x =>
      (ha dt).own rfl
    simp only [effect, State.estopChange]
    exact State.Writes.ite (ha dt) (State.Writes.ite (hloops _)
      (State.Writes.ite ((hloops _).raise _) ((hloops _).closePlanned _)))
  | keyChange dt on =>
    refine .inr (.inl ?_)
    simp only [effect, State.keyChange]
    exact State.Writes.ite (ha dt) (State.Writes.notice ((ha dt).own (by rfl)) _ _ _)
  | carFrameSend dt => exact .inr (.inl (((ha dt).sendFrame .A).sendFrame .B))
  | carFrameReceived dt car bytes => exact .inr (.inl ((ha dt).carFrameArrives car bytes))
  | linkStaleExpiry dt car => exact .inr (.inl ((ha dt).staleExpiry car))
  | linkLostExpiry dt car => exact .inr (.inl ((ha dt).lostExpiry car))
  | driveStatusFrame dt bytes => exact .inr (.inl ((ha dt).driveFrameArrives bytes))
  | driveSilenceExpiry dt => exact .inr (.inl (ha dt).driveSilence)
  | passageTimeout dt gate => exact .inr (.inl ((ha dt).passageExpiry gate))
  | passbackExpiry dt ticket => exact .inr (.inl ((ha dt).passbackExpiry ticket))
  | reopenTimerExpiry dt door => exact .inr (.inl ((ha dt).reopenExpiry door))
  | closeTimerExpiry dt door => exact .inr (.inl ((ha dt).closeExpiry door))
  | controlFrameReceived dt port bytes => exact .inr (.inl ((ha dt).own (by simp [effect, State.shared])))
  | receiveTimeout dt port => exact .inr (.inl ((ha dt).own (by simp [effect, State.shared])))
  | quadratureStep dt up =>
    exact .inr (.inl ((ha dt).track (Tracker.SameCounts.countsOk ⟨rfl, rfl, rfl⟩)
      (fun h => h.of_eq rfl (.inl rfl) (.inl rfl))))
  | controlByteReceived dt port byte => exact .inr (.inl ((ha dt).own (by simp [effect, State.shared])))
  | _ => exact .inr (.inl (State.asked_writes hq _ _))

end

end Machine
end Sys2Proof
end

section
/-! PROOFS. What every write keeps of the lists, the severity memory and the expectations. -/

namespace Sys2Proof
namespace Machine

/-! ### What is shared -/

theorem State.shared_eq {s t : State} (h : t.shared = s.shared) :
    t.geo.committed = s.geo.committed ∧ t.trk = s.trk ∧ t.gates = s.gates ∧ t.tally = s.tally ∧ t.links = s.links ∧
      t.notices = s.notices ∧ t.line.mode = s.line.mode ∧ t.line.conds = s.line.conds ∧ t.line.memory = s.line.memory := by
  simpa only [State.shared, Prod.mk.injEq] using h

/-- Chains of writes keep what each write keeps. -/
theorem State.Writes.keeps {q : Prop} {P : State → Prop} (hstep : ∀ s t, State.Write q s t → P s → P t) {s t : State}
    (h : s.Writes q t) (hs : P s) : P t := by
  induction h with
  | refl => exact hs
  | tail _ hw ih => exact hstep _ _ hw ih

/-! ### A grant -/

/-- The load of a car that admits a party: the check is recorded, its persons and mass are reserved. -/
def Load.reserve (l : Load) (check : CheckOutcome × Option Nat) (persons mass : Nat) : Load :=
  { l with lastCheck := some check, resPersons := l.resPersons + persons, resMass := l.resMass + mass }

/-- A gate's record as its gate admits a party. -/
def Gate.letIn (x : Gate) (a : Admission) : Gate :=
  { x.answerCmd (.admits a.persons) with state := .passing, admission := some a, overdue := none }

/-- The admission that a grant gives. -/
def State.admission (t : State) (g : Gate) (c : Car) (ticket persons mass : Nat) : Admission :=
  ⟨ticket, c, persons, mass, g.leaf, t.now, 2000 * g.scale⟩

/-- The part of a grant that reserves: the load, the gate's record and the recent ticket. -/
def State.admitting (t : State) (g : Gate) (c : Car) (ticket persons mass : Nat) : State :=
  { t.setLoad c ((t.tally.get c).reserve (t.admissionCheck c persons mass) persons mass) with
    gates := { t.gates.update g.address (fun x => x.letIn (t.admission g c ticket persons mass)) with
      recent := pushRecent ⟨ticket, g.address, t.now⟩ t.gates.recent } }

theorem PerCar.set_set {α : Type} (p : PerCar α) (c : Car) (x y : α) : (p.set c x).set c y = p.set c y := by cases c <;> rfl

/-- The rest of a grant is the tests of the weigh and its notices. -/
theorem State.granted_eq (t : State) (g : Gate) (c : Car) (ticket persons mass : Nat) :
    t.granted g c ticket persons mass =
      ((((t.admitting g c ticket persons mass).weighTests c).notice .gate 0
        (stateBody g.address .opened .passing .grant)).notice .admission 0
          ((t.admission g c ticket persons mass).fields g.address)) := by
  rw [State.admitting, ← State.weighTests_withGates]
  simp only [State.granted, State.grant, State.tallyGrant, State.setLoad, PerCar.get_set, if_pos, PerCar.set_set, State.gate]
  simp
  rfl

theorem State.admitting_writes {q : Prop} (t : State) (g : Gate) (c : Car) (ticket persons mass : Nat) :
    (t.admitting g c ticket persons mass).Writes q (t.granted g c ticket persons mass) := by
  rw [State.granted_eq]
  exact (((State.Writes.refl _).weighTests c).notice _ _ _).notice _ _ _

/-- What a command keeps that every write, an admission and a reset keep. -/
theorem effect_keeps {q : Prop} {P : State → Prop} (hstep : ∀ s t, State.Write q s t → P s → P t)
    (hadmit : ∀ t g c ticket persons mass, t.Grants g c ticket persons mass → P t → P (t.admitting g c ticket persons mass))
    (hreset : ∀ s k i, P s → P (s.doReset k i)) {c : Instr} {s : State} (hq : q → s.ReservedOk) (hs : P s) : P (effect c s) := by
  rcases effect_writes c s hq with ⟨u, k, i, hu, heq⟩ | hw | ⟨dt, _, tr, x, g, k, ticket, persons, mass, -, hgrants, heq⟩
  · rw [heq]
    exact hreset u k i (hu.keeps hstep hs)
  · exact hw.keeps hstep hs
  · have hadvance : s.Writes q (s.advance dt) := (State.Writes.refl s).own rfl
    have hadmitting := hadmit _ g k ticket persons mass hgrants
      ((hadvance.trans ((s.advance dt).polled_writes x)).keeps hstep hs)
    rw [heq]
    exact ((State.admitting_writes _ g k ticket persons mass).finished tr).keeps hstep hadmitting

/-- And what a step keeps, where the end of an event keeps it too. -/
theorem step_keeps_writes {q : Prop} {P : State → Prop} (hstep : ∀ s t, State.Write q s t → P s → P t)
    (hadmit : ∀ t g c ticket persons mass, t.Grants g c ticket persons mass → P t → P (t.admitting g c ticket persons mass))
    (hreset : ∀ s k i, P s → P (s.doReset k i)) (hended : ∀ u : State, P u → ∀ is, P (u.ended is))
    (hq : ∀ s, q → P s → s.ReservedOk) {s t : State} (hs : P s) (h : step s = .next t) : P t :=
  step_keeps (fun u _ hu => hstep u _ (.own rfl) hu)
    (fun _ u hu => effect_keeps hstep hadmit hreset (fun hx => hq u hx hu) hu) (fun u is hu => hended u hu is) hs h

/-! ### The severity memory -/

theorem Severity.max_self_right (x y : Severity) : (x.max y).max y = x.max y := by cases x <;> cases y <;> rfl

theorem Severity.max_self (x : Severity) : x.max x = x := by cases x <;> rfl

theorem State.Write.severityOk {s t : State} (h : State.Write False s t) (hs : s.SeverityOk) : t.SeverityOk := by
  cases h with
  | own heq =>
    obtain ⟨-, -, -, -, -, -, -, hconds, hmemory⟩ := State.shared_eq heq
    rwa [State.SeverityOk, hconds, hmemory]
  | condition c b => exact Severity.max_self_right _ _
  | memory => exact Severity.max_self _
  | _ => exact hs

theorem State.doReset_line (s : State) (k : ResetKind) (i : Inputs) : (s.doReset k i).line = (s.resetBlocks k i).line := by
  simp [State.doReset, State.resetReport]

/-- Settles O49: the memory takes the level of every condition it is handed, and a reset and CLEAR_SEVERITY set it to the
present level. -/
theorem severityMemoryCoversConditions : Obligations.SeverityMemoryCoversConditions := fun _ _ hs hstep =>
  step_keeps_writes (q := False) (P := State.SeverityOk) (fun _ _ hw => hw.severityOk) (fun _ _ _ _ _ _ _ h => h)
    (fun s k i _ => by rw [State.SeverityOk, State.doReset_line]; exact Severity.max_self _)
    (fun _ hu => State.ended_keeps (P := State.SeverityOk) (fun _ _ _ h => h) (fun _ _ _ h => h) hu)
    (fun _ h => h.elim) hs hstep

/-! ### The queues -/

theorem NoticeQueue.length_add_le {n : NoticeQueue} (cls : NoticeClass) (kind : Nat) (now : Time) (body : List Field)
    (h : n.entries.length ≤ 32) : (n.add cls kind now body).entries.length ≤ 32 := by
  have hroom : noticeRoom = 32 := rfl
  simp only [NoticeQueue.add]
  split
  · exact h
  · split
    · simp only [List.length_append, List.length_singleton]; omega
    · split
      next old hold =>
        split
        · have hmem : ∃ a ∈ n.entries, (fun e : Notice => e.priority == old.priority) a = true :=
            ⟨old, List.mem_of_find?_eq_some hold, by simp⟩
          obtain ⟨a, ha, hp⟩ := hmem
          have := List.length_eraseP_of_mem (p := fun e : Notice => e.priority == old.priority) ha hp
          have := List.length_pos_of_mem ha
          simp only [dropFirst, List.length_append, List.length_singleton]
          omega
        · exact h
      · exact h

theorem State.Write.noticesOk {q : Prop} {s t : State} (h : State.Write q s t) (hs : s.notices.entries.length ≤ 32) :
    t.notices.entries.length ≤ 32 := by
  cases h with
  | own heq =>
    obtain ⟨-, -, -, -, -, hnotices, -⟩ := State.shared_eq heq
    rwa [hnotices]
  | notice cls kind body => exact NoticeQueue.length_add_le _ _ _ _ hs
  | condition c b =>
    simp only [State.handOver]
    split
    · exact hs
    · exact NoticeQueue.length_add_le _ _ _ _ hs
  | _ => exact hs

theorem NoticeQueue.length_handed_le (n : NoticeQueue) (k : Port) (x : Notice) :
    (n.handed k x).entries.length ≤ n.entries.length := by
  simp only [NoticeQueue.handed]
  split
  · exact (List.length_replace).le
  · exact List.length_erase_le

theorem State.ask_notices_le (s : State) (k : Port) : (s.ask k).notices.entries.length ≤ s.notices.entries.length := by
  simp only [State.ask, State.sendNext, State.sendNotice, State.setPort]
  split
  · exact le_rfl
  · split
    · split
      · exact s.notices.length_handed_le k _
      · exact le_rfl
    · split
      · exact le_rfl
      · exact le_rfl

theorem State.transmit_notices_le (s : State) : s.transmit.notices.entries.length ≤ s.notices.entries.length :=
  (State.ask_notices_le _ _).trans (State.ask_notices_le _ _)

theorem State.doReset_notices_le (s : State) (k : ResetKind) (i : Inputs) : (s.doReset k i).notices.entries.length ≤ 32 := by
  have hempty : (s.resetBlocks k i).notices.entries.length ≤ 32 := by
    cases k <;> simp [State.resetBlocks, State.resetNotices]
  have hadd : ∀ {u : State} (b : Bool) cls kind body, u.notices.entries.length ≤ 32 →
      (u.noticeIf b cls kind body).notices.entries.length ≤ 32 := by
    intro u b cls kind body hu
    cases b
    · exact hu
    · exact NoticeQueue.length_add_le _ _ _ _ hu
  exact hadd _ _ _ _ (hadd _ _ _ _ ((State.transmit_notices_le _).trans (NoticeQueue.length_add_le _ _ _ _ hempty)))

theorem State.ended_notices_le {s : State} (l : List Instr) (h : s.notices.entries.length ≤ 32) :
    (s.ended l).notices.entries.length ≤ 32 := (State.transmit_notices_le _).trans h

/-- The room of a port: 16 entries, of which 4 wait. -/
def PortState.RoomOk (p : PortState) : Prop := p.replies.length ≤ 16 ∧ p.waiting.length ≤ 4

theorem length_readyFirst (x : Reply) (es : List ReplyEntry) : (readyFirst x es).length = es.length := by
  induction es with
  | nil => rfl
  | cons e es ih =>
    simp only [readyFirst]
    split <;> simp [ih]

theorem waiting_readyFirst_le (x : Reply) (es : List ReplyEntry) :
    ((readyFirst x es).filter ReplyEntry.isWaiting).length ≤ (es.filter ReplyEntry.isWaiting).length := by
  induction es with
  | nil => exact le_rfl
  | cons e es ih =>
    simp only [readyFirst]
    split
    next h =>
      have hready : ReplyEntry.isWaiting { e with state := .ready x } = false := rfl
      simp [h, hready]
    next h => simpa [h] using ih

/-- The ports of the links each have room. -/
def State.PortsOk (s : State) : Prop := ∀ k : Port, (s.ctl.get k).RoomOk

theorem State.queuesOk_iff (s : State) : s.QueuesOk ↔ s.notices.entries.length ≤ 32 ∧ s.PortsOk := Iff.rfl

theorem State.PortsOk.setPort {s : State} (h : s.PortsOk) {k : Port} {p : PortState} (hp : p.RoomOk) :
    (s.setPort k p).PortsOk := by
  intro j
  simp only [State.setPort, PerPort.get_set]
  split
  · exact hp
  · exact h j

theorem State.PortsOk.of_ctl {s t : State} (h : s.PortsOk) (ht : t.ctl = s.ctl) : t.PortsOk := by
  rwa [State.PortsOk, ht]

theorem State.PortsOk.answer {s : State} (h : s.PortsOk) (k : Port) (x : Reply) : (s.answer k x).PortsOk :=
  h.setPort ⟨by rw [length_readyFirst]; exact (h k).1, (waiting_readyFirst_le _ _).trans (h k).2⟩

theorem State.PortsOk.joinArrival {s : State} (h : s.PortsOk) (k : Port) (tag : Byte) (kind guard : Nat) (j : Judgement) :
    (s.joinArrival k tag kind guard j).PortsOk := by
  have hwaiting := (h k).2
  have hreplies : replyRoom = 16 := rfl
  have hrequests : requestRoom = 4 := rfl
  simp only [State.joinArrival, State.joinReplies]
  split
  · exact h
  next hroom =>
    split
    · refine h.setPort ⟨by simp; omega, ?_⟩
      simpa [PortState.waiting, List.filter_append, ReplyEntry.isWaiting] using hwaiting
    · split
      · refine h.setPort ⟨by simp; omega, ?_⟩
        simpa [PortState.waiting, List.filter_append, ReplyEntry.isWaiting] using hwaiting
      next r hfew =>
        have hone := List.length_filter_le ReplyEntry.isWaiting [⟨tag, kind, .waiting guard r⟩]
        simp only [PortState.waiting, List.length_singleton] at hfew hone
        refine h.setPort ⟨by simp; omega, ?_⟩
        simp only [PortState.waiting, List.filter_append, List.length_append]
        omega

theorem State.PortsOk.takeRequest {s : State} (h : s.PortsOk) (k : Port) (guard : Nat) {act : Owner}
    (hact : ∀ u, (act u).1.ctl = u.ctl) : (s.takeRequest k guard act).PortsOk := by
  unfold State.takeRequest
  split
  · exact h.answer k _
  · split
    · exact State.PortsOk.answer (h.of_ctl (hact s)) k _
    · exact h.answer k _

theorem State.PortsOk.request {s : State} (x : s.PortsOk) (h : ReqHead) (r : Request) {act : Owner}
    (hact : ∀ u, (act u).1.ctl = u.ctl) : (s.request h r act).PortsOk := by
  simp only [State.request]
  split
  · exact x.takeRequest _ _ hact
  · split
    · exact (x.joinArrival _ _ _ _ _).takeRequest _ _ hact
    · exact x.joinArrival _ _ _ _ _

/-- No request's owner touches the ports. -/
theorem Request.owner_ctl (r : Request) (u : State) : (r.owner u).1.ctl = u.ctl := by
  cases r <;> simp [Request.owner]

theorem State.PortsOk.ask {s : State} (h : s.PortsOk) (k : Port) : (s.ask k).PortsOk := by
  have hsame : ∀ {t : State} x, t.ctl = s.ctl → (t.setPort k { s.ctl.get k with tx := x }).PortsOk := fun x ht =>
    (h.of_ctl ht).setPort (h k)
  simp only [State.ask, State.sendNext, State.sendNotice]
  split
  · exact h
  · split
    · split
      · exact hsame _ rfl
      · exact h
    next e es hes =>
      split
      next r hr =>
        have hroom := h k
        simp only [PortState.RoomOk, PortState.waiting, hes] at hroom
        refine h.setPort ⟨(Nat.le_succ _).trans hroom.1, le_trans ?_ hroom.2⟩
        exact (List.Sublist.filter _ (List.sublist_cons_self e es)).length_le
      · exact h

theorem State.PortsOk.transmit {s : State} (h : s.PortsOk) : s.transmit.PortsOk := (h.ask .C).ask .S

theorem State.doReset_portsOk (s : State) (k : ResetKind) (i : Inputs) : (s.doReset k i).PortsOk := by
  have hempty : ∀ u : State, u.ctl = .const PortState.afterReset → u.transmit.PortsOk := fun u hu =>
    State.PortsOk.transmit (fun j => by
      rw [hu, PerPort.get_const]
      exact ⟨by simp [PortState.afterReset], by simp [PortState.afterReset, PortState.waiting]⟩)
  exact State.PortsOk.of_ctl (hempty ((s.resetBlocks k i).notice .mode 1 [.code k.code,
    .code (s.resetBlocks k i).line.mode.code, .code (s.resetBlocks k i).line.reported.code]) rfl)
      (by simp [State.doReset, State.resetReport])

theorem effect_portsOk {c : Instr} {s : State} (h : s.PortsOk) : (effect c s).PortsOk := by
  have hsame : ∀ {t : State}, t.ctl = s.ctl → t.PortsOk := fun ht => h.of_ctl ht
  have ha : ∀ dt, (s.advance dt).PortsOk := fun dt => h
  have hrx : ∀ {t : State} k x, t.PortsOk → (t.setPort k { t.ctl.get k with rx := x }).PortsOk := fun k x ht => ht.setPort (ht k)
  cases c with
  | powerOn pins => exact s.doReset_portsOk _ _
  | resetLine => exact s.doReset_portsOk _ _
  | transmitterFree dt port =>
    simp only [effect, State.transmitterFree]
    split
    · exact State.doReset_portsOk _ _ _
    · exact (ha dt).setPort ((ha dt) port)
  | controlFrameReceived dt port bytes =>
    simp only [effect, State.controlFrame]
    split
    · exact (ha dt).joinArrival _ _ _ _ _
    · exact ha dt
  | receiveTimeout dt port => exact hrx _ _ (ha dt)
  | controlByteReceived dt port byte =>
    simp only [effect, State.controlByte]
    split
    · exact State.PortsOk.joinArrival (hrx _ _ (ha dt)) _ _ _ _ _
    · exact hrx _ _ (ha dt)
  | positionSample | encoderFault | markerReport | plannedWaitExpiry | torqueTimeout | contactChange | brakeTimerExpiry
  | trackBrakeTimerExpiry | estopChange | keyChange | carFrameSend | carFrameReceived | linkStaleExpiry | linkLostExpiry
  | driveStatusFrame | driveSilenceExpiry | gateAnswer | gateResponseTimeout | passageTimeout | passbackExpiry
  | reopenTimerExpiry | closeTimerExpiry | quadratureStep => exact hsame (by simp [effect])
  | _ => exact State.PortsOk.request (ha _) _ _ (Request.owner_ctl _)

/-! ### The tracker and the links -/

theorem State.countsOk_iff (s : State) : s.CountsOk ↔ s.trk.CountsOk ∧
    ∀ c : Car, (s.links.get c).sent.length ≤ 4 ∧ (s.links.get c).streak ≤ 3 := by
  simp only [State.CountsOk, Tracker.CountsOk, and_assoc]

theorem State.Write.countsOk {q : Prop} {s t : State} (h : State.Write q s t) (hs : s.CountsOk) : t.CountsOk := by
  rw [State.countsOk_iff] at hs ⊢
  cases h with
  | own heq =>
    obtain ⟨-, htrk, -, -, hlinks, -⟩ := State.shared_eq heq
    rwa [htrk, hlinks]
  | track x hcounts hexp => exact ⟨hcounts hs.1, hs.2⟩
  | link c l hsent hstreak =>
    refine ⟨hs.1, fun d => ?_⟩
    simp only [State.setLink, PerCar.get_set]
    split
    next => exact ⟨hsent (hs.2 c).1, hstreak (hs.2 c).2⟩
    next => exact hs.2 d
  | _ => exact hs

theorem State.doReset_counts (s : State) (k : ResetKind) (i : Inputs) : (s.doReset k i).CountsOk := by
  have htrk : (s.doReset k i).trk = (s.resetBlocks k i).trk := by simp [State.doReset, State.resetReport]
  have hlinks : (s.doReset k i).links = (s.resetBlocks k i).links := by simp [State.doReset, State.resetReport]
  rw [State.CountsOk, htrk, hlinks]
  exact ⟨by simp [State.resetBlocks, Tracker.afterReset], by simp [State.resetBlocks, Tracker.afterReset],
    by simp [State.resetBlocks, Tracker.afterReset], fun c => by simp [State.resetBlocks, CarLink.afterReset]⟩

theorem State.Write.expectationsOk {q : Prop} {s t : State} (h : State.Write q s t) (hs : s.ExpectationsOk) :
    t.ExpectationsOk := by
  cases h with
  | own heq =>
    obtain ⟨-, htrk, -⟩ := State.shared_eq heq
    rwa [State.ExpectationsOk, htrk]
  | track x hcounts hexp => exact hexp hs
  | _ => exact hs

theorem State.doReset_expectations (s : State) (k : ResetKind) (i : Inputs) : (s.doReset k i).ExpectationsOk := by
  have htrk : (s.doReset k i).trk = (s.resetBlocks k i).trk := by simp [State.doReset, State.resetReport]
  rw [State.ExpectationsOk, htrk]
  exact fun _ => ⟨rfl, rfl⟩

/-! ### The recent tickets -/

theorem State.Write.ticketsOk {q : Prop} {s t : State} (h : State.Write q s t) (hs : s.TicketsOk) : t.TicketsOk := by
  cases h with
  | own heq =>
    obtain ⟨-, -, hgates, -⟩ := State.shared_eq heq
    rwa [State.TicketsOk, hgates]
  | gates g hg =>
    exact ⟨hg.recent.length_le.trans hs.1, (hg.recent.map _).nodup hs.2⟩
  | _ => exact hs

theorem pushRecent_ticketsOk {r : Recent} {rs : List Recent} (hlen : rs.length ≤ 128) (hnodup : (rs.map (fun x => x.ticket)).Nodup)
    (hfresh : ∀ x ∈ rs, x.ticket ≠ r.ticket) :
    (pushRecent r rs).length ≤ 128 ∧ ((pushRecent r rs).map (fun x => x.ticket)).Nodup := by
  have hroom : recentRoom = 128 := rfl
  have hkept : ∃ xs : List Recent, pushRecent r rs = xs ++ [r] ∧ xs.Sublist rs ∧ xs.length + 1 ≤ 128 := by
    unfold pushRecent
    split
    · exact ⟨rs, rfl, List.Sublist.refl rs, by omega⟩
    · exact ⟨rs.drop 1, rfl, List.drop_sublist 1 rs, by rw [List.length_drop]; omega⟩
  obtain ⟨xs, heq, hsub, hlen'⟩ := hkept
  rw [heq, List.length_append, List.length_singleton, List.map_append, List.map_singleton]
  refine ⟨hlen', List.Nodup.append ((hsub.map _).nodup hnodup) (List.nodup_singleton _) ?_⟩
  rw [List.disjoint_singleton, List.mem_map]
  rintro ⟨x, hx, hticket⟩
  exact hfresh x (hsub.subset hx) hticket

theorem State.TicketsOk.doReset {s : State} (h : s.TicketsOk) (k : ResetKind) (i : Inputs) : (s.doReset k i).TicketsOk := by
  have hgates : (s.doReset k i).gates = s.resetGates k := by simp [State.doReset, State.resetReport, State.resetBlocks]
  rw [State.TicketsOk, hgates]
  cases k with
  | restart =>
    have htickets : (s.gates.recent.map (fun r => { r with time := r.time - s.now })).map (fun r : Recent => r.ticket) =
        s.gates.recent.map (fun r => r.ticket) := by simp
    exact ⟨by simpa [State.resetGates, Gates.afterRestart] using h.1, by
      simp only [State.resetGates, Gates.afterRestart, htickets]; exact h.2⟩
  | _ => exact ⟨by simp [State.resetGates, Gates.afterPowerOn], by simp [State.resetGates, Gates.afterPowerOn]⟩

/-- Settles O50: each list and count is kept by every write that touches it, by a grant and by a reset. -/
theorem listsKeepTheirRoom : Obligations.ListsKeepTheirRoom := by
  refine ⟨fun _ _ hs hstep => ?_, fun _ _ hs hstep => ?_, fun _ _ hs hstep => ?_, fun _ _ hs hstep => ?_⟩
  · exact ⟨step_keeps_writes (q := False) (P := fun s => s.notices.entries.length ≤ 32) (fun _ _ hw => hw.noticesOk)
        (fun _ _ _ _ _ _ _ h => h) (fun s k i _ => s.doReset_notices_le k i) (fun _ hu is => State.ended_notices_le is hu)
        (fun _ h => h.elim) hs.1 hstep,
      step_keeps (P := State.PortsOk) (fun _ _ hu => hu) (fun _ _ hu => effect_portsOk hu)
        (fun _ _ hu => State.PortsOk.transmit hu) hs.2 hstep⟩
  · exact step_keeps_writes (q := False) (P := State.CountsOk) (fun _ _ hw => hw.countsOk) (fun _ _ _ _ _ _ _ h => h)
      (fun s k i _ => s.doReset_counts k i)
      (fun _ hu => State.ended_keeps (P := State.CountsOk) (fun _ _ _ h => h) (fun _ _ _ h => h) hu)
      (fun _ h => h.elim) hs hstep
  · exact step_keeps_writes (q := False) (P := State.ExpectationsOk) (fun _ _ hw => hw.expectationsOk)
      (fun _ _ _ _ _ _ _ h => h) (fun s k i _ => s.doReset_expectations k i)
      (fun _ hu => State.ended_keeps (P := State.ExpectationsOk) (fun _ _ _ h => h) (fun _ _ _ h => h) hu)
      (fun _ h => h.elim) hs hstep
  · exact step_keeps_writes (q := False) (P := State.TicketsOk) (fun _ _ hw => hw.ticketsOk)
      (fun _ _ _ _ _ _ hgrants h => pushRecent_ticketsOk h.1 h.2 hgrants.fresh) (fun _ k i hs => hs.doReset k i)
      (fun _ hu => State.ended_keeps (P := State.TicketsOk) (fun _ _ _ h => h) (fun _ _ _ h => h) hu)
      (fun _ h => h.elim) hs hstep

end Machine
end Sys2Proof
end

section
/-! PROOFS. The reservations of the cars are the admissions the gates hold for them. -/

namespace Sys2Proof
namespace Machine

variable {s t : State}

/-! ### One gate of the list -/

/-- An update of the gate at a listed address is a replacement of one record. -/
theorem Gates.update_split {gs : Gates} (hnodup : (gs.gates.map (fun g => g.address)).Nodup) {g : Gate} (hg : g ∈ gs.gates)
    (f : Gate → Gate) :
    ∃ l₁ l₂, gs.gates = l₁ ++ g :: l₂ ∧ (gs.update g.address f).gates = l₁ ++ f g :: l₂ := by
  obtain ⟨l₁, l₂, hsplit⟩ := List.append_of_mem hg
  have hother : ∀ x ∈ l₁ ++ l₂, x.address ≠ g.address := by
    rw [hsplit, List.map_append, List.map_cons, List.nodup_middle, List.nodup_cons, ← List.map_append] at hnodup
    exact fun x hx heq => hnodup.1 (heq ▸ List.mem_map_of_mem hx)
  have hsame : ∀ l : List Gate, (∀ x ∈ l, x.address ≠ g.address) →
      l.map (fun x => if x.address = g.address then f x else x) = l := fun l hl =>
    (List.map_congr_left fun x hx => if_neg (hl x hx)).trans (List.map_id' l)
  refine ⟨l₁, l₂, hsplit, ?_⟩
  simp only [Gates.update, hsplit, List.map_append, List.map_cons, if_pos,
    hsame l₁ (fun x hx => hother x (List.mem_append_left _ hx)), hsame l₂ (fun x hx => hother x (List.mem_append_right _ hx))]

theorem Gates.update_map_address (gs : Gates) (a : Nat) {f : Gate → Gate} (hf : ∀ x, x.address = a → (f x).address = x.address) :
    (gs.update a f).gates.map (fun g => g.address) = gs.gates.map (fun g => g.address) := by
  simp only [Gates.update, List.map_map]
  refine List.map_congr_left fun x _ => ?_
  simp only [Function.comp]
  split
  next h => exact hf x h
  · rfl

theorem Gates.heldFor_eq_nil {gs : Gates} (h : ∀ g ∈ gs.gates, g.admission = none) (c : Car) : gs.heldFor c = [] := by
  have hnone : gs.gates.filterMap (fun x => x.admission) = [] := List.filterMap_eq_nil_iff.2 h
  simp [Gates.heldFor, hnone]

/-! ### What keeps the reservations -/

theorem State.ReservedOk.of_eq (h : s.ReservedOk) (hgates : t.gates.gates = s.gates.gates)
    (hbus : t.gates.busReleased = s.gates.busReleased)
    (hbare : t.line.mode = .unconfigured ∨ t.geo.committed = none → s.line.mode = .unconfigured ∨ s.geo.committed = none)
    (htally : ∀ c, (t.tally.get c).resPersons = (s.tally.get c).resPersons ∧ (t.tally.get c).resMass = (s.tally.get c).resMass) :
    t.ReservedOk := by
  obtain ⟨hnodup, hpassing, hheld, hempty, hsums⟩ := h
  simp only [State.ReservedOk, Gates.heldFor, hgates, hbus, htally]
  exact ⟨hnodup, hpassing, hheld, fun x => hempty (hbare x), hsums⟩

theorem State.ReservedOk.quiet (h : s.ReservedOk) {g : Gates} (hg : s.QuietGates g) :
    State.ReservedOk { s with gates := g } := by
  obtain ⟨f, hmap, halike⟩ := hg.records h
  obtain ⟨hnodup, hpassing, hheld, hempty, hsums⟩ := h
  have hadm : g.gates.filterMap (fun x => x.admission) = s.gates.gates.filterMap (fun x => x.admission) := by
    rw [hmap, List.filterMap_map]
    exact List.filterMap_congr fun x hx => (halike x hx).2.2.1
  simp only [State.ReservedOk, Gates.heldFor, hadm]
  refine ⟨?_, ?_, ?_, ?_, hsums⟩
  · have haddress : (s.gates.gates.map f).map (fun x => x.address) = s.gates.gates.map (fun x => x.address) := by
      rw [List.map_map]
      exact List.map_congr_left fun x hx => (halike x hx).1
    rwa [hmap, haddress]
  · simp only [hmap, List.forall_mem_map]
    intro x hx
    obtain ⟨-, -, hadmission, hstate, -⟩ := halike x hx
    rw [hadmission, hpassing x hx, hstate]
  · simp only [hmap, List.forall_mem_map]
    exact fun hbus x hx => (halike x hx).2.2.2.2.2 (hheld (hg.bus ▸ hbus) x hx)
  · exact fun hbare => by rw [hmap, hempty hbare, List.map_nil]

theorem Gate.busRelease_spec (x : Gate) : x.busRelease.address = x.address ∧ x.busRelease.admission = x.admission ∧
    x.busRelease.state ≠ .passing := by
  unfold Gate.busRelease
  split <;> exact ⟨rfl, rfl, nofun⟩

/-- Before the bus is released no gate holds an admission, nor does one as it is. -/
theorem State.ReservedOk.busRelease (h : s.ReservedOk) (hbus : s.gates.busReleased = false) :
    State.ReservedOk { s with gates := { s.gates with busReleased := true, gates := s.gates.gates.map Gate.busRelease } } := by
  obtain ⟨hnodup, hpassing, hheld, hempty, hsums⟩ := h
  have hnone : ∀ g ∈ s.gates.gates, g.admission = none := fun g hg => by
    have := hpassing g hg
    simpa [hheld hbus g hg] using this
  have hmap : (s.gates.gates.map Gate.busRelease).filterMap (fun x => x.admission) =
      s.gates.gates.filterMap (fun x => x.admission) := by
    rw [List.filterMap_map]
    exact List.filterMap_congr fun x _ => x.busRelease_spec.2.1
  simp only [State.ReservedOk, Gates.heldFor, hmap]
  refine ⟨?_, ?_, by simp, fun hbare => by rw [hempty hbare, List.map_nil], hsums⟩
  · rw [List.map_map]
    rwa [List.map_congr_left (g := fun x => x.address) fun x _ => x.busRelease_spec.1]
  · simp only [List.forall_mem_map]
    intro x hx
    obtain ⟨-, hadmission, hstate⟩ := x.busRelease_spec
    simp [hadmission, hnone x hx, hstate]

/-- The records of a rebuilt gate table: no admissions, each at its entry's address. -/
theorem Gates.rebuild_spec {gs : Gates} (es : List GateEntry) (hnone : ∀ g ∈ gs.gates, g.admission = none)
    (hstate : ∀ g ∈ gs.gates, g.state ≠ .passing) :
    (gs.rebuild es).gates.map (fun g => g.address) = es.map (fun e => e.address) ∧
      ∀ g ∈ (gs.rebuild es).gates, g.admission = none ∧ g.state ≠ .passing ∧ (gs.busReleased = false → g.state = .held) := by
  simp only [Gates.rebuild, List.map_map, List.forall_mem_map]
  constructor
  · refine List.map_congr_left fun e _ => ?_
    simp only [Function.comp]
    split
    next x hx => exact (by simpa using List.find?_some hx)
    · rfl
  · intro e _
    split
    next x hx =>
      have hmem : x ∈ gs.gates := List.mem_of_find?_eq_some hx
      refine ⟨hnone x hmem, ?_, fun hbus => by simp [hbus]⟩
      cases gs.busReleased
      · simp
      · exact hstate x hmem
    · refine ⟨rfl, ?_, fun hbus => by simp [hbus, Gate.make]⟩
      cases gs.busReleased <;> simp [Gate.make]

theorem State.ReservedOk.rebuild (h : s.ReservedOk) {es : List GateEntry} (hes : (es.map (fun e => e.address)).Nodup)
    (hmode : s.line.mode ≠ .unconfigured) (hgeo : s.geo.committed ≠ none) (hnone : ∀ g ∈ s.gates.gates, g.admission = none) :
    State.ReservedOk { s with gates := s.gates.rebuild es } := by
  obtain ⟨-, hpassing, -, -, hsums⟩ := h
  have hstate : ∀ g ∈ s.gates.gates, g.state ≠ .passing := fun g hg hp => by
    have := (hpassing g hg).2 hp
    simp [hnone g hg] at this
  obtain ⟨haddress, hspec⟩ := Gates.rebuild_spec es hnone hstate
  refine ⟨by simpa only [haddress] using hes, fun g hg => ?_, fun hbus g hg => (hspec g hg).2.2 hbus, ?_, fun c => ?_⟩
  · obtain ⟨hadm, hp, -⟩ := hspec g hg
    simp [hadm, hp]
  · rintro (hx | hx)
    · exact absurd hx hmode
    · exact absurd hx hgeo
  · rw [Gates.heldFor_eq_nil (gs := s.gates.rebuild es) fun g hg => (hspec g hg).1]
    simpa only [Gates.heldFor_eq_nil hnone] using hsums c

/-- An admission given back leaves the list as its gate's record lets it go. -/
theorem State.ReservedOk.settle (h : s.ReservedOk) {g : Gate} {a : Admission} {l : Load} {f : Gate → Gate}
    (hg : g ∈ s.gates.gates) (ha : g.admission = some a) (hl : (s.tally.get a.car).GivesBack l a)
    (haddress : (f g).address = g.address) (hadm : (f g).admission = none) (hstate : (f g).state ≠ .passing) :
    ((s.setLoad a.car l).gate g.address f).ReservedOk := by
  obtain ⟨hnodup, hpassing, hheld, hempty, hsums⟩ := h
  obtain ⟨l₁, l₂, hsplit, hupdate⟩ := Gates.update_split hnodup hg f
  have hgates : ((s.setLoad a.car l).gate g.address f).gates.gates = l₁ ++ f g :: l₂ := hupdate
  simp only [hsplit, List.forall_mem_append, List.forall_mem_cons, List.map_append, List.map_cons] at hnodup hpassing hheld
  simp only [State.ReservedOk, Gates.heldFor, hgates, List.forall_mem_append, List.forall_mem_cons, List.map_append, List.map_cons]
  refine ⟨by rwa [haddress], ⟨hpassing.1, by simp [hadm, hstate], hpassing.2.2⟩, fun hbus => ?_, fun hbare => ?_, fun c => ?_⟩
  · have hp := hpassing.2.1.1 (by simp [ha])
    rw [(hheld hbus).2.1] at hp
    cases hp
  · simp [hempty hbare] at hg
  · have hcar := hsums c
    simp only [Gates.heldFor, hsplit, List.filterMap_append, List.filterMap_cons, ha, hadm, List.filter_append,
      List.filter_cons, List.map_append, List.sum_append] at hcar ⊢
    simp only [State.gate, State.setLoad, PerCar.get_set]
    obtain ⟨hpersons, hmass⟩ := hl
    by_cases hc : a.car = c
    · subst hc
      simp only [beq_self_eq_true, if_pos, List.map_cons, List.sum_cons] at hcar ⊢
      omega
    · simpa [hc, Ne.symm hc] using hcar

/-- A grant reserves what its gate holds from then on. -/
theorem State.ReservedOk.admitting (h : s.ReservedOk) {g : Gate} {c : Car} {ticket persons mass : Nat}
    (hgrants : s.Grants g c ticket persons mass) : (s.admitting g c ticket persons mass).ReservedOk := by
  obtain ⟨hnodup, hpassing, hheld, hempty, hsums⟩ := h
  obtain ⟨x, hx, haddr, -, -, hpass, hhold⟩ := hgrants.shows_
  have hopened := hgrants.opened
  have hnone : x.admission = none := by
    have := hpassing x hx
    simpa [hpass, hopened] using this
  obtain ⟨l₁, l₂, hsplit, hupdate⟩ := Gates.update_split hnodup hx (fun y => y.letIn (s.admission g c ticket persons mass))
  have hgates : (s.admitting g c ticket persons mass).gates.gates =
      l₁ ++ x.letIn (s.admission g c ticket persons mass) :: l₂ := by
    rw [← hupdate, haddr]; rfl
  have hletIn : (x.letIn (s.admission g c ticket persons mass)).admission = some (s.admission g c ticket persons mass) := rfl
  simp only [hsplit, List.forall_mem_append, List.forall_mem_cons, List.map_append, List.map_cons] at hnodup hpassing hheld
  simp only [State.ReservedOk, Gates.heldFor, hgates, List.forall_mem_append, List.forall_mem_cons, List.map_append, List.map_cons]
  refine ⟨hnodup, ⟨hpassing.1, by simp [Gate.letIn], hpassing.2.2⟩, fun hbus => ?_, fun hbare => ?_, fun k => ?_⟩
  · have hp := hhold.1 (hheld hbus).2.1
    rw [hopened] at hp
    cases hp
  · simp [hempty hbare] at hx
  · have hcar := hsums k
    simp only [Gates.heldFor, hsplit, List.filterMap_append, List.filterMap_cons, hletIn, hnone, List.filter_append,
      List.filter_cons, List.map_append, List.sum_append] at hcar ⊢
    simp only [State.admitting, State.setLoad, PerCar.get_set, State.admission]
    by_cases hc : c = k
    · subst hc
      simp only [beq_self_eq_true, if_pos, List.map_cons, List.sum_cons, Load.reserve] at hcar ⊢
      omega
    · simpa [hc, Ne.symm hc] using hcar

theorem State.Write.reservedOk (h : State.Write True s t) (hs : s.ReservedOk) : t.ReservedOk := by
  cases h with
  | own heq =>
    obtain ⟨hgeo, -, hgates, htally, -, -, hmode, -⟩ := State.shared_eq heq
    exact hs.of_eq (by rw [hgates]) (by rw [hgates]) (by rw [hgeo, hmode]; exact id) (by simp [htally])
  | mode m hm => exact hs.of_eq rfl rfl (fun h => .inr (h.resolve_left hm)) (fun _ => ⟨rfl, rfl⟩)
  | tables tb => exact hs.of_eq rfl rfl (fun h => .inl (h.resolve_right (by simp))) (fun _ => ⟨rfl, rfl⟩)
  | load c l hp hm =>
    refine hs.of_eq rfl rfl id fun k => ?_
    simp only [State.setLoad, PerCar.get_set]
    split
    next h => subst h; exact ⟨hp, hm⟩
    · exact ⟨rfl, rfl⟩
  | gates g hg => exact hs.quiet hg
  | busRelease hbus => exact hs.busRelease hbus
  | rebuild es hes hmode hgeo hnone => exact hs.rebuild hes hmode hgeo (hnone trivial)
  | settle g a l f hg ha hl haddress hadm hstate => exact hs.settle hg ha hl haddress hadm hstate
  | condition c b => exact hs.of_eq (by simp) (by simp) (by simp) (by simp)
  | _ => exact hs.of_eq rfl rfl id (fun _ => ⟨rfl, rfl⟩)

/-- A reset leaves no admission and no reservation. -/
theorem State.ReservedOk.doReset (h : s.ReservedOk) (k : ResetKind) (i : Inputs) : (s.doReset k i).ReservedOk := by
  obtain ⟨hnodup, -, -, hempty, -⟩ := h
  have hblocks : (s.resetBlocks k i).ReservedOk := by
    have hload : ∀ (f : Load → Nat) c, f Load.afterReset = 0 → f (((PerCar.const Load.afterReset).get c)) = 0 := fun f c h0 => by
      rw [PerCar.get_const, h0]
    cases k
    case restart =>
      refine ⟨?_, ?_, ?_, ?_, fun c => ?_⟩
      · simpa [State.resetBlocks, State.resetGates, Gates.afterRestart, Function.comp_def, Gate.restart] using hnodup
      · simp [State.resetBlocks, State.resetGates, Gates.afterRestart, Gate.restart]
      · simp [State.resetBlocks, State.resetGates, Gates.afterRestart, Gate.restart]
      · have : s.geo.committed = none → s.gates.gates = [] := fun hc => hempty (.inr hc)
        simpa [State.resetBlocks, State.resetGates, Gates.afterRestart, State.resetMode, State.resetGeo] using this
      · rw [Gates.heldFor_eq_nil]
        · exact ⟨hload (fun l => l.resPersons) c rfl, hload (fun l => l.resMass) c rfl⟩
        · simp [State.resetBlocks, State.resetGates, Gates.afterRestart, Gate.restart]
    all_goals
      refine ⟨List.nodup_nil, by rintro g (_ | _), by rintro - g (_ | _), fun _ => rfl, fun c => ?_⟩
      exact ⟨hload (fun l => l.resPersons) c rfl, hload (fun l => l.resMass) c rfl⟩
  exact hblocks.of_eq (by simp [State.doReset, State.resetReport]) (by simp [State.doReset, State.resetReport])
    (by simp [State.doReset, State.resetReport]) (by simp [State.doReset, State.resetReport])

/-- Settles O58: a write that ends an admission gives its reservation back, a grant reserves what its gate holds. -/
theorem reservationsAreHeldAdmissions : Obligations.ReservationsAreHeldAdmissions := fun _ _ hs hstep =>
  step_keeps_writes (q := True) (P := State.ReservedOk) (fun _ _ hw => hw.reservedOk) (fun _ _ _ _ _ _ hgrants h => h.admitting hgrants)
    (fun _ k i h => h.doReset k i)
    (fun u hu is => hu.of_eq (by simp [State.ended]) (by simp [State.ended]) (by simp [State.ended]) (by simp [State.ended]))
    (fun _ _ h => h) hs hstep

end Machine
end Sys2Proof
end

section
/-! PROOFS. The admission check, and where an admission that a gate holds comes from. -/

namespace Sys2Proof
namespace Machine

variable {s t : State}

/-! ### The admission check (R172 to R174) -/

theorem guaranteed_le_aCap (force m : Nat) (fAid : Int) : guaranteed force fAid m ≤ Config.aCap := by
  unfold guaranteed
  split
  · exact Nat.zero_le _
  · split
    · exact Nat.zero_le _
    · exact Nat.min_le_left _ _

theorem span_aGuar_le (tb : Tables) (x0 x1 : Int) (dir : Dir) (ms : Masses) : (span tb x0 x1 dir ms).aGuar ≤ Config.aCap :=
  guaranteed_le_aCap _ _ _

/-- The deceleration of the check on one span. -/
def State.checkSpan (s : State) (tb : Tables) (c : Car) (mass : Nat) (x0 x1 : Int) (dir : Dir) : Nat :=
  (span tb x0 x1 dir (checkMasses tb s.tally c mass dir)).aGuar

/-- Where the spans of the check start: the halt the cars stand at, or the position. -/
def State.checkStart (s : State) : Int :=
  match s.line.atStop.bind s.geo.halt? with
  | some x => x.pA
  | none => s.trk.xA

theorem within_iff (x y : Int) : within x y = true ↔ (x - y).natAbs ≤ 300 :=
  decide_eq_true_iff

theorem State.checkGuar_target {tb : Tables} {c : Car} {mass : Nat} {x : HaltInfo}
    (hx : s.plan.pendingRun.bind s.geo.halt? = some x) (hfar : 300 < (x.pA - s.checkStart).natAbs) :
    s.checkGuar tb c mass = s.checkSpan tb c mass s.checkStart x.pA (if s.checkStart < x.pA then .up else .down) := by
  have hspans : s.checkSpans tb = [(s.checkStart, x.pA, if s.checkStart < x.pA then .up else .down)] := by
    have hout : ¬within x.pA s.checkStart = true := by rw [within_iff]; omega
    simp only [State.checkSpans, hx]
    exact if_neg hout
  simp only [State.checkGuar, hspans, List.foldl_cons, List.foldl_nil]
  exact Nat.min_eq_right (span_aGuar_le _ _ _ _ _)

theorem State.checkGuar_line {tb : Tables} {c : Car} {mass : Nat}
    (hnear : ∀ x, s.plan.pendingRun.bind s.geo.halt? = some x → (x.pA - s.checkStart).natAbs ≤ 300) :
    s.checkGuar tb c mass =
      min (s.checkSpan tb c mass 0 tb.line.length .up) (s.checkSpan tb c mass 0 tb.line.length .down) := by
  have hspans : s.checkSpans tb = [(0, tb.line.length, Dir.up), (0, tb.line.length, Dir.down)] := by
    unfold State.checkSpans
    cases hx : s.plan.pendingRun.bind s.geo.halt? with
    | none => rfl
    | some x => exact if_pos ((within_iff _ _).2 (hnear x hx))
  simp only [State.checkGuar, hspans, List.foldl_cons, List.foldl_nil, State.checkSpan]
  rw [Nat.min_eq_right (span_aGuar_le _ _ _ _ _)]

/-- The outcome of the check on a margin of `n`. -/
def Tables.marginVerdict (tb : Tables) (n : Nat) : CheckOutcome × Option Nat :=
  (if tb.braking.aMin + tb.braking.reserve ≤ n then .grant else .margin, some n)

theorem State.admissionCheck_full {tb : Tables} {c : Car} {persons mass : Nat} (htb : s.geo.committed = some tb)
    (hfrozen : (s.tally.get c).frozen = none)
    (hfull : (tb.cars.get c).capacity <
      (s.tally.get c).carryPersons + (s.tally.get c).admPersons + (s.tally.get c).resPersons + persons) :
    s.admissionCheck c persons mass = (.capacity, none) := by
  simp only [State.admissionCheck, htb, hfrozen]
  rw [if_neg (by simp), if_pos hfull]

theorem State.admissionCheck_margin {tb : Tables} {c : Car} {persons mass : Nat} (htb : s.geo.committed = some tb)
    (hfrozen : (s.tally.get c).frozen = none)
    (hroom : ¬(tb.cars.get c).capacity <
      (s.tally.get c).carryPersons + (s.tally.get c).admPersons + (s.tally.get c).resPersons + persons) :
    s.admissionCheck c persons mass = tb.marginVerdict (s.checkGuar tb c mass) := by
  simp only [State.admissionCheck, htb, hfrozen, Tables.marginVerdict]
  rw [if_neg (by simp), if_neg hroom]

/-- What a granted check found. -/
theorem State.of_admissionCheck_grant {c : Car} {persons mass : Nat} (h : (s.admissionCheck c persons mass).1 = .grant) :
    ∃ tb, s.geo.committed = some tb ∧ (s.tally.get c).frozen = none ∧
      (s.tally.get c).carryPersons + (s.tally.get c).admPersons + (s.tally.get c).resPersons + persons ≤ (tb.cars.get c).capacity ∧
      tb.braking.aMin + tb.braking.reserve ≤ s.checkGuar tb c mass := by
  unfold State.admissionCheck at h
  dsimp only at h
  split at h
  · cases h
  next tb htb =>
    split at h
    · cases h
    next hfrozen =>
      split at h
      · cases h
      next hroom =>
        refine ⟨tb, htb, by simpa using hfrozen, not_lt.1 hroom, ?_⟩
        by_contra hmargin
        simp [hmargin] at h

/-- The bounds of R168. -/
theorem Load.upper_eq (l : Load) (tol : Nat) : l.upper tol =
    match l.frozen, l.departure with
    | some f, _ => f.1
    | none, some d => max (l.carryMass + l.admMass + l.resMass) (d + tol)
    | none, none => l.carryMass + l.admMass + l.resMass := by
  unfold Load.upper Load.expected
  cases l.frozen <;> cases l.departure <;> rfl

theorem Load.lower_eq (l : Load) (tol : Nat) : l.lower tol =
    match l.frozen, l.departure with
    | some f, _ => f.2
    | none, some d => d - tol
    | none, none => 0 := by
  unfold Load.lower
  cases l.frozen <;> cases l.departure <;> rfl

theorem Dir.descending_eq_iff (dir : Dir) (c : Car) : dir.descending = c ↔ (c = .A ↔ dir = .down) := by
  cases dir <;> cases c <;> decide

/-! ### Admissions that stand -/

/-- What the gates of `t` hold, the gates at the same addresses held at `s`. -/
def State.HoldsOnly (s t : State) : Prop :=
  ∀ g ∈ t.gates.gates, ∀ a, g.admission = some a → ∃ g0 ∈ s.gates.gates, g0.address = g.address ∧ g0.admission = some a

theorem State.HoldsOnly.of_gates (h : t.gates.gates = s.gates.gates) : s.HoldsOnly t := fun g hg _ ha =>
  ⟨g, h ▸ hg, rfl, ha⟩

theorem State.HoldsOnly.trans {u : State} (h : s.HoldsOnly t) (h' : t.HoldsOnly u) : s.HoldsOnly u := by
  intro g hg a ha
  obtain ⟨g1, hg1, haddr1, ha1⟩ := h' g hg a ha
  obtain ⟨g0, hg0, haddr0, ha0⟩ := h g1 hg1 a ha1
  exact ⟨g0, hg0, haddr0.trans haddr1, ha0⟩

theorem State.HoldsOnly.of_map {f : Gate → Gate} (h : t.gates.gates = s.gates.gates.map f)
    (hf : ∀ x ∈ s.gates.gates, (f x).address = x.address ∧ (f x).admission = x.admission) : s.HoldsOnly t := by
  intro g hg a ha
  rw [h, List.mem_map] at hg
  obtain ⟨x, hx, rfl⟩ := hg
  obtain ⟨haddr, hadm⟩ := hf x hx
  exact ⟨x, hx, haddr.symm, hadm ▸ ha⟩

theorem State.HoldsOnly.of_none (h : ∀ g ∈ t.gates.gates, g.admission = none) : s.HoldsOnly t := fun g hg _ ha => by
  rw [h g hg] at ha
  cases ha

/-- No write lets a gate hold an admission it did not hold. -/
theorem State.Write.holdsOnly (h : State.Write True s t) (hs : s.ReservedOk) : s.HoldsOnly t := by
  cases h with
  | own heq =>
    obtain ⟨-, -, hgates, -⟩ := State.shared_eq heq
    exact .of_gates (by rw [hgates])
  | gates g hg =>
    obtain ⟨f, hmap, halike⟩ := hg.records hs
    exact .of_map hmap fun x hx => ⟨(halike x hx).1, (halike x hx).2.2.1⟩
  | busRelease hbus => exact .of_map rfl fun x _ => ⟨x.busRelease_spec.1, x.busRelease_spec.2.1⟩
  | rebuild es hes hmode hgeo hnone =>
    have hstate : ∀ g ∈ s.gates.gates, g.state ≠ .passing := fun g hg hp => by
      have := (hs.2.1 g hg).2 hp
      simp [hnone trivial g hg] at this
    exact .of_none fun g hg => ((Gates.rebuild_spec es (hnone trivial) hstate).2 g hg).1
  | settle g a l f hg ha hl haddress hadm hstate =>
    intro y hy b hb
    obtain ⟨x, hx, rfl⟩ := Gates.mem_update.1 hy
    split at hb
    next haddr =>
      rw [hs.eq_of_address hx hg haddr, hadm] at hb
      cases hb
    next haddr => exact ⟨x, hx, by rw [if_neg haddr], hb⟩
  | condition c b => exact .of_gates (by simp)
  | _ => exact .of_gates rfl

theorem State.Writes.holdsOnly (h : s.Writes True t) (hs : s.ReservedOk) : t.ReservedOk ∧ s.HoldsOnly t :=
  h.keeps (P := fun t => t.ReservedOk ∧ s.HoldsOnly t)
    (fun _ _ hw ⟨hok, hold⟩ => ⟨hw.reservedOk hok, hold.trans (hw.holdsOnly hok)⟩) ⟨hs, .of_gates rfl⟩

theorem State.doReset_no_admission (s : State) (k : ResetKind) (i : Inputs) :
    ∀ g ∈ (s.doReset k i).gates.gates, g.admission = none := by
  have hgates : (s.doReset k i).gates = s.resetGates k := by simp [State.doReset, State.resetReport, State.resetBlocks]
  rw [hgates]
  cases k
  case restart => simp [State.resetGates, Gates.afterRestart, Gate.restart]
  all_goals rintro g (_ | _)

/-- The tests of a weigh leave the reservations. -/
theorem State.weighTests_reserved (u : State) (c k : Car) :
    ((u.weighTests c).tally.get k).resPersons = (u.tally.get k).resPersons ∧
      ((u.weighTests c).tally.get k).resMass = (u.tally.get k).resMass := by
  have hset : ∀ e b, (((u.setLoad c { u.tally.get c with excess := e, short := b }).tally.get k).resPersons =
      (u.tally.get k).resPersons ∧
      ((u.setLoad c { u.tally.get c with excess := e, short := b }).tally.get k).resMass = (u.tally.get k).resMass) := by
    intro e b
    simp only [State.setLoad, PerCar.get_set]
    split
    next h => subst h; exact ⟨rfl, rfl⟩
    · exact ⟨rfl, rfl⟩
  simp only [State.weighTests]
  split
  · exact ⟨rfl, rfl⟩
  · split <;> simpa using hset _ _

/-- What a grant leaves, up to the alike records of its gates: the reservation, the ticket on the list, and one admission
more, of the gate that grants. -/
theorem State.granted_spec {p : State} {g : Gate} {k : Car} {ticket persons mass : Nat} (hp : p.ReservedOk)
    (hgrants : p.Grants g k ticket persons mass) :
    (p.granted g k ticket persons mass).ReservedOk ∧
      (∃ r ∈ (p.granted g k ticket persons mass).gates.recent, r.ticket = ticket) ∧
      ((p.granted g k ticket persons mass).tally.get k).resPersons = (p.tally.get k).resPersons + persons ∧
      ((p.granted g k ticket persons mass).tally.get k).resMass = (p.tally.get k).resMass + mass ∧
      ∀ y ∈ (p.granted g k ticket persons mass).gates.gates, ∀ a, y.admission = some a →
        (∃ x ∈ p.gates.gates, x.address = y.address ∧ x.admission = some a) ∨
          (a = p.admission g k ticket persons mass ∧ y.station = g.station) := by
  have hok : (p.admitting g k ticket persons mass).ReservedOk := hp.admitting hgrants
  have hgates : (p.granted g k ticket persons mass).gates = (p.admitting g k ticket persons mass).gates := by
    rw [State.granted_eq]; simp
  have htally : (p.granted g k ticket persons mass).tally = ((p.admitting g k ticket persons mass).weighTests k).tally := by
    rw [State.granted_eq]; simp
  obtain ⟨hpersons, hmass⟩ := State.weighTests_reserved (p.admitting g k ticket persons mass) k k
  refine ⟨((State.admitting_writes p g k ticket persons mass).holdsOnly hok).1, ?_, ?_, ?_, ?_⟩
  · rw [hgates]
    exact ⟨⟨ticket, g.address, p.now⟩, List.mem_append_right _ (List.mem_singleton.2 rfl), rfl⟩
  · rw [htally, hpersons]
    simp [State.admitting, State.setLoad, PerCar.get_set, Load.reserve]
  · rw [htally, hmass]
    simp [State.admitting, State.setLoad, PerCar.get_set, Load.reserve]
  · rw [hgates]
    intro y hy a ha
    obtain ⟨x, hx, rfl⟩ := Gates.mem_update.1 hy
    split at ha
    next haddr =>
      obtain ⟨w, hw, hwg⟩ := hgrants.shows_
      have hxw : x = w := hp.eq_of_address hx hw (haddr.trans hwg.1.symm)
      refine .inr ⟨(Option.some.inj ha).symm, ?_⟩
      rw [if_pos haddr, hxw, ← hwg.2.1]
      rfl
    next haddr => exact .inl ⟨x, hx, by rw [if_neg haddr], ha⟩

/-- The next transaction leaves every record alike, the recent tickets and the tally. -/
theorem State.finished_spec {u : State} (hu : u.ReservedOk) (tr : Transaction) :
    (u.finished tr).tally = u.tally ∧ (u.finished tr).gates.recent = u.gates.recent ∧
      ∀ y ∈ (u.finished tr).gates.gates, ∃ x ∈ u.gates.gates, y.Alike x := by
  refine ⟨by simp [State.finished], by simp [State.finished, State.nextTransaction], fun y hy => ?_⟩
  obtain ⟨f, hmap, halike⟩ := (Gates.next_quiet { u with gates := { u.gates with
    round := if tr.inserted then u.gates.round else u.gates.passing } } u.now).records
      (hu.of_eq rfl rfl id (fun _ => ⟨rfl, rfl⟩))
  have hy' : y ∈ u.gates.gates.map f := hmap ▸ hy
  obtain ⟨x, hx, rfl⟩ := List.mem_map.1 hy'
  exact ⟨x, hx, halike x hx⟩

/-- The admission that a gate holds anew, which the answer of a gate had. -/
theorem effect_admission {c : Instr} {g : Gate} {a : Admission} (hs : s.ReservedOk) (hg : g ∈ (effect c s).gates.gates)
    (ha : g.admission = some a) (hnew : ∀ g0 ∈ s.gates.gates, g0.address = g.address → g0.admission ≠ some a) :
    ∃ dt bytes tb, c = .gateAnswer dt bytes ∧ s.geo.committed = some tb ∧
      (s.tally.get a.car).frozen = none ∧ (s.admissionCheck a.car a.persons a.mass).1 = .grant ∧
      (s.tally.get a.car).carryPersons + (s.tally.get a.car).admPersons + (s.tally.get a.car).resPersons + a.persons
        ≤ (tb.cars.get a.car).capacity ∧
      tb.braking.aMin + tb.braking.reserve ≤ s.checkGuar tb a.car a.mass ∧
      (∀ r ∈ s.gates.recent, r.ticket ≠ a.ticket) ∧ (∃ r ∈ (effect c s).gates.recent, r.ticket = a.ticket) ∧
      a.granted = s.now + dt ∧ s.gates.openFor g.station = some a.car ∧
      ((effect c s).tally.get a.car).resPersons = (s.tally.get a.car).resPersons + a.persons ∧
      ((effect c s).tally.get a.car).resMass = (s.tally.get a.car).resMass + a.mass := by
  rcases effect_writes c s (q := True) (fun _ => hs) with ⟨u, k, i, -, heq⟩ | hw |
    ⟨dt, bytes, tr, x, g', k, ticket, persons, mass, hc, hgrants, heq⟩
  · rw [heq] at hg
    have := u.doReset_no_admission k i g hg
    rw [ha] at this
    cases this
  · obtain ⟨g0, hg0, haddr, ha0⟩ := (hw.holdsOnly hs).2 g hg a ha
    exact absurd ha0 (hnew g0 hg0 haddr)
  · have hpolled : s.Writes True ((s.advance dt).polled x) :=
      ((State.Writes.refl s).own (u := s.advance dt) rfl).trans ((s.advance dt).polled_writes x)
    obtain ⟨hp, hheld⟩ := hpolled.holdsOnly hs
    obtain ⟨hgranted, hrecent, hpersons, hmass, hadmissions⟩ := State.granted_spec hp hgrants
    obtain ⟨htally', hrecent', halike⟩ := State.finished_spec hgranted tr
    rw [heq] at hg
    obtain ⟨y, hy, haddr, hstation, hadm, -⟩ := halike g hg
    rcases hadmissions y hy a (hadm ▸ ha) with ⟨w, hw, hwaddr, hwa⟩ | ⟨rfl, hystation⟩
    · obtain ⟨g0, hg0, hg0addr, hg0a⟩ := hheld w hw a hwa
      exact absurd hg0a (hnew g0 hg0 (hg0addr.trans (hwaddr.trans haddr.symm)))
    · have hcheck : (s.admissionCheck k persons mass).1 = .grant := hgrants.check
      obtain ⟨tb, htb, hfrozen, hroom, hmargin⟩ := State.of_admissionCheck_grant hcheck
      rw [heq, hrecent', htally']
      exact ⟨dt, bytes, tb, hc, htb, hfrozen, hcheck, hroom, hmargin, hgrants.fresh, hrecent, rfl,
        by rw [hstation, hystation]; exact hgrants.openFor, hpersons, hmass⟩

/-- Settles O57: the check by its branches, and the one admission that the answer of a gate may add. -/
theorem admissionsKeepRoomAndMargin : Obligations.AdmissionsKeepRoomAndMargin := by
  refine ⟨fun s c persons mass => ⟨fun hnone => by simp only [State.admissionCheck, hnone], fun tb htb => ?_⟩, ?_⟩
  · have hmasses : ∀ dir, checkMasses tb s.tally c mass dir =
        if (c = .A ↔ dir = .down) then
          ⟨(tb.cars.get c).emptyMass + (s.tally.get c).upper tb.braking.tolerance + mass,
            (tb.cars.get c.other).emptyMass + (s.tally.get c.other).lower tb.braking.tolerance,
            (tb.cars.get c).emptyMass + (s.tally.get c).upper tb.braking.tolerance + mass +
              (tb.cars.get c.other).emptyMass + (s.tally.get c.other).upper tb.braking.tolerance⟩
        else
          ⟨(tb.cars.get c.other).emptyMass + (s.tally.get c.other).upper tb.braking.tolerance,
            (tb.cars.get c).emptyMass + (s.tally.get c).lower tb.braking.tolerance,
            (tb.cars.get c).emptyMass + (s.tally.get c).upper tb.braking.tolerance + mass +
              (tb.cars.get c.other).emptyMass + (s.tally.get c.other).upper tb.braking.tolerance⟩ := by
      intro dir
      simp only [checkMasses, Dir.descending_eq_iff]
    simp only [Load.upper_eq, Load.lower_eq] at hmasses
    refine ⟨fun hfrozen => ?_, State.admissionCheck_full htb, fun x hfrozen hroom hx hfar => ?_, fun hfrozen hroom hnear => ?_⟩
    · simp only [State.admissionCheck, htb, if_pos hfrozen]
    · rw [State.admissionCheck_margin htb hfrozen hroom, State.checkGuar_target hx hfar, State.checkSpan, hmasses]
      rfl
    · rw [State.admissionCheck_margin htb hfrozen hroom, State.checkGuar_line hnear, State.checkSpan, State.checkSpan, hmasses, hmasses]
      rfl
  · intro c s t g a h hs hg ha hnew
    have ht := eq_transmit_of_exec h
    have hgates : t.gates = (effect c s).gates := by rw [ht]; simp
    have htally : t.tally = (effect c s).tally := by rw [ht]; simp
    have heffect : (effect c s).ReservedOk := effect_keeps (q := True) (fun _ _ hw => hw.reservedOk)
      (fun _ _ _ _ _ _ hgrants h => h.admitting hgrants) (fun _ k i h => h.doReset k i) (fun _ => hs) hs
    rw [hgates] at hg ⊢
    have hpassing : g.state = .passing := (heffect.2.1 g hg).1 (by simp [ha])
    obtain ⟨dt, bytes, tb, hc, htb, hfrozen, hcheck, hroom, hmargin, hfresh, hrecent, hgranted, hopen, hpersons, hmass⟩ :=
      effect_admission hs hg ha hnew
    rw [htally]
    exact ⟨dt, bytes, tb, hc, htb, hfrozen, hcheck, hroom, hmargin, hfresh, hrecent, hgranted, hpassing, hopen, hpersons, hmass⟩

end Machine
end Sys2Proof
end

section
/-! PROOFS. What a request that is taken makes of the state, and the obligations on guards, arrivals at an idle queue, reads and
inputs. -/

namespace Sys2Proof
namespace Machine

variable {s : State} {c : Instr} {h : ReqHead} {r : Request}

/-! ### A request that is taken -/

theorem exec_request (hc : c.request = some (h, r)) (s : State) : exec c s = requestEvent h r r.owner s := by
  rw [exec_eq_ended, effect_eq_asked hc, State.asked, requestEvent, event_eq_ended]

/-- A taken request is answered with what its owner makes of it. -/
theorem exec_taken (hc : c.request = some (h, r)) (ht : Taken s h r) :
    exec c s = answered s h (r.owner (s.advance h.dt)).1 (r.owner (s.advance h.dt)).2 := by
  rw [exec_request hc, requestEvent_taken _ ht]

theorem exec_taken_of_eq {u : State} {x : Reply} (hc : c.request = some (h, r)) (ht : Taken s h r)
    (hact : r.owner (s.advance h.dt) = (u, x)) : exec c s = answered s h u x := by
  rw [exec_taken hc ht, hact]

/-- The state of an answered request before the transmitters are asked. -/
theorem answered_eq_transmit (s : State) (h : ReqHead) (u : State) (x : Reply) :
    answered s h u x = .next ((u.replied h.port x).flagged s.pending).transmit := rfl

@[simp] theorem State.replied_frame (u : State) (k : Port) (x : Reply) :
    (u.replied k x).now = u.now ∧ (u.replied k x).geo = u.geo ∧ (u.replied k x).trk = u.trk ∧ (u.replied k x).sup = u.sup ∧
      (u.replied k x).plan = u.plan ∧ (u.replied k x).brk = u.brk ∧ (u.replied k x).doors = u.doors ∧
      (u.replied k x).gates = u.gates ∧ (u.replied k x).tally = u.tally ∧ (u.replied k x).line = u.line ∧
      (u.replied k x).links = u.links ∧ (u.replied k x).drive = u.drive ∧ (u.replied k x).notices = u.notices ∧
      (u.replied k x).freeSeq = u.freeSeq ∧ (u.replied k x).pending = u.pending :=
  ⟨rfl, rfl, rfl, rfl, rfl, rfl, rfl, rfl, rfl, rfl, rfl, rfl, rfl, rfl, rfl⟩

theorem State.replied_ctl {u v : State} (huv : u.ctl = v.ctl) (k : Port) (x : Reply) : (u.replied k x).ctl = (v.replied k x).ctl := by
  simp only [State.replied, huv]

/-! ### Guards -/

/-- Settles O10: each code of the table by its arm. -/
theorem guardTable : Obligations.GuardTable := fun l => by
  simp [List.range, List.range.loop, LineStatus.guard]

theorem PortState.expects_of_joined {p : PortState} (hp : p.waiting = []) (h : ReqHead) (r : Request) :
    ({ p with replies := p.replies ++ [⟨h.tag, r.kind, .waiting h.guard r⟩] } : PortState).expects h r = true := by
  have hfilter : p.replies.filter ReplyEntry.isWaiting = [] := hp
  simp [PortState.expects, PortState.waiting, List.filter_append, hfilter, ReplyEntry.isWaiting]

theorem PortState.expects_of_idle {p : PortState} (hp : p.waiting = []) (h : ReqHead) (r : Request) : p.expects h r = false := by
  simp only [PortState.expects, hp, List.head?_nil]

/-- A request that passes its checks joins a reply list with room as a waiting entry. -/
theorem State.joinArrival_pass {u : State} {k : Port} (hroom : (u.ctl.get k).replies.length < 16)
    (hwait : (u.ctl.get k).waiting.length < 4) (tag : Byte) (kind guard : Nat) (r : Request) :
    u.joinArrival k tag kind guard (.pass r) = u.setPort k { u.ctl.get k with
      replies := (u.ctl.get k).replies ++ [⟨tag, kind, .waiting guard r⟩] } := by
  have hreplies : ¬replyRoom ≤ (u.ctl.get k).replies.length := not_le.2 hroom
  have hrequests : ¬requestRoom ≤ (u.ctl.get k).waiting.length := not_le.2 hwait
  simp only [State.joinArrival, State.joinReplies, if_neg hreplies, if_neg hrequests]

theorem State.judgeRequest_pass {u : State} {k : Port} {guard : Nat} {r : Request} (hbody : bodyLengthOk r = true)
    (hguard : guard ≤ 15) (hauth : authorised k u.line.key r = true) : u.judgeRequest k guard r = .pass r := by
  simp [State.judgeRequest, hbody, hauth, not_lt.2 hguard]

/-- The state once the request waits in its port's reply list. -/
def State.queued (s : State) (h : ReqHead) (r : Request) : State :=
  { s with ctl := s.ctl.set h.port { s.ctl.get h.port with
    replies := (s.ctl.get h.port).replies ++ [⟨h.tag, r.kind, .waiting h.guard r⟩] } }

/-- Settles O11: the two refusals by the branches of the taking; on arrival at an idle queue by the entry that joins. -/
theorem requestsAreGuardedAndQueued : Obligations.RequestsAreGuardedAndQueued := by
  intro c h r s hc
  refine ⟨fun hfront hpending => ?_, fun hfront hfree hguard => ?_, fun hidle hroom hbody hguard hauth => ?_⟩
  · rw [exec_request hc, requestEvent_busy _ hfront hpending]
  · rw [exec_request hc, requestEvent_guardFalse _ hfront hfree hguard]
  · have hjudge : (s.advance h.dt).judgeRequest h.port h.guard r = .pass r := State.judgeRequest_pass hbody hguard hauth
    have hfew : ((s.advance h.dt).ctl.get h.port).waiting.length < 4 := by simp [hidle]
    have hjoined := State.joinArrival_pass (u := s.advance h.dt) hroom hfew h.tag r.kind h.guard r
    have hnot : ((s.advance h.dt).ctl.get h.port).expects h r = false := PortState.expects_of_idle hidle h r
    have hroom' : ((s.advance h.dt).ctl.get h.port).replies.length < replyRoom := hroom
    have hidle' : ((s.advance h.dt).ctl.get h.port).waiting = [] := hidle
    have htakes : (s.advance h.dt).takesAtOnce h r = true := by
      simp only [State.takesAtOnce, hidle', hjudge, List.isEmpty_nil, hroom', decide_true, beq_self_eq_true, Bool.and_self]
    have hjoin : (s.advance h.dt).request h r r.owner = ((s.queued h r).advance h.dt).takeRequest h.port h.guard r.owner := by
      simp only [State.request, hnot, hjudge, hjoined, htakes]
      rfl
    have hfront : ((s.queued h r).ctl.get h.port).expects h r = true := by
      rw [State.queued, PerPort.get_set, if_pos rfl]
      exact PortState.expects_of_joined hidle h r
    calc exec c s = .next (((s.advance h.dt).request h r r.owner).ended s.pending) := by
          rw [exec_request hc, requestEvent, event_eq_ended]
      _ = requestEvent h r r.owner (s.queued h r) := by rw [hjoin, requestEvent_front r.owner hfront]; rfl
      _ = exec c (s.queued h r) := (exec_request hc _).symm

/-! ### Inputs and reads -/

/-- Settles O15: a change of the key is written and queued, and a step counts. -/
theorem inputEventsAreRecorded : Obligations.InputEventsAreRecorded := by
  refine ⟨fun dt on s hon => ?_, fun dt s => ?_, fun dt up s => ?_⟩
  · have hon' : (s.advance dt).line.key ≠ on := hon
    rw [exec_eq_ended, effect, State.keyChange, if_neg hon']
    rfl
  · have hon : (s.advance dt).line.key = s.line.key := rfl
    rw [exec_eq_ended, effect, State.keyChange, if_pos hon]
  · rw [exec_eq_ended]
    rfl

theorem Geometry.view_eq_none_iff (g : Geometry) : ∀ a, g.view a = none ↔ 7 < a
  | 0 | 1 | 2 | 3 | 4 | 5 | 6 | 7 => by simp [Geometry.view]
  | _ + 8 => by simp [Geometry.view]

theorem State.readGeometry_done (s : State) {a b : Nat} (ha : a ≤ 7) (hb : b ≤ 1) (first : Nat) :
    ∃ body, (s.readGeometry a b first).2 = ⟨.done, body⟩ := by
  unfold State.readGeometry
  split
  · rw [if_neg (not_lt.2 hb)]
    exact ⟨_, rfl⟩
  next hview =>
    rw [Geometry.view_eq_none_iff] at hview
    omega

theorem State.readGeometry_range (s : State) {a b : Nat} (hab : 7 < a ∨ 1 < b) (first : Nat) :
    (s.readGeometry a b first).2 = ⟨.range, []⟩ := by
  unfold State.readGeometry
  split
  next hview =>
    have ha : ¬7 < a := fun ha => by simp [(s.geo.view_eq_none_iff a).2 ha] at hview
    rw [if_pos (hab.resolve_left ha)]
    rfl
  · rfl

/-- Settles O18: each read answers with what its owner reads, and writes nothing. -/
theorem readRequestsChangeNothing : Obligations.ReadRequestsChangeNothing := by
  have hread : ∀ (c : Instr) (r : Request) {h : ReqHead} {s : State} {x : Reply}, c.request = some (h, r) → Taken s h r →
      r.owner (s.advance h.dt) = (s.advance h.dt, x) → exec c s = answered s h (s.advance h.dt) x :=
    fun c r => exec_taken_of_eq
  refine ⟨fun h s ht => hread (.readStatus h) .readStatus rfl ht rfl,
    fun h s ht => hread (.readPosition h) .readPosition rfl ht rfl,
    fun h s ht => hread (.readRun h) .readRun rfl ht rfl, fun h s ht => hread (.readTrip h) .readTrip rfl ht rfl,
    fun h s ht => hread (.readDoors h) .readDoors rfl ht rfl,
    fun h first s ht => hread (.readGates h first) (.readGates first) rfl ht rfl,
    fun h s ht => hread (.readTally h) .readTally rfl ht rfl, fun h a b first s ht => ?_,
    fun s => ⟨rfl, rfl, rfl, fun _ => rfl, rfl⟩⟩
  have hsame := (s.advance h.dt).readGeometry_state a b first
  refine ⟨fun ha hb => ?_, fun hab => ?_⟩
  · obtain ⟨body, hbody⟩ := (s.advance h.dt).readGeometry_done ha hb first
    exact ⟨body, hread (.readGeometry h a b first) (.readGeometry a b first) rfl ht (Prod.ext hsame hbody)⟩
  · exact hread (.readGeometry h a b first) (.readGeometry a b first) rfl ht
      (Prod.ext hsame ((s.advance h.dt).readGeometry_range hab first))

end Machine
end Sys2Proof
end

section
/-! PROOFS. The arithmetic of the count base (R19), of the permitted speed (R48) and of the worst force of a span (R44, R45). -/

namespace Sys2Proof
namespace Machine

/-! ### The base move -/

/-- The count difference after a base move is the remainder of the one before. -/
theorem Tracker.delta_moveBase (t : Tracker) (scale : Nat) (h : 1073741824 ≤ mag t.delta) :
    (t.moveBase scale).delta = Int.tmod t.delta 1000 := by
  have hq : t.delta - Int.tdiv t.delta 1000 * 1000 = Int.tmod t.delta 1000 := by
    rw [mul_comm]
    exact (Int.tmod_def t.delta 1000).symm
  have hsub : (t.moveBase scale).delta = (t.delta - Int.tdiv t.delta 1000 * 1000).bmod (2 ^ 32) := by
    simp only [Tracker.moveBase, if_pos h]
    have hmove : t.count - (t.countBase + BitVec.ofInt 32 (Int.tdiv t.delta 1000 * 1000)) =
        (t.count - t.countBase) - BitVec.ofInt 32 (Int.tdiv t.delta 1000 * 1000) := by
      rw [sub_add_eq_sub_sub]
    simp only [Tracker.delta] at hmove ⊢
    rw [hmove, BitVec.toInt_sub, BitVec.toInt_ofInt, Int.sub_bmod_bmod]
  have hsmall : -1000 < Int.tmod t.delta 1000 ∧ Int.tmod t.delta 1000 < 1000 :=
    ⟨by have := Int.lt_tmod_of_pos t.delta (b := 1000) (by omega); omega, Int.tmod_lt_of_pos _ (by omega)⟩
  rw [hsub, hq]
  exact Int.bmod_eq_of_le (by omega) (by omega)

/-- Settles O22: the base takes whole thousands of steps, and x_base what they are worth. -/
theorem baseMoveKeepsPosition : Obligations.BaseMoveKeepsPosition := by
  intro t scale
  by_cases h : 1073741824 ≤ mag t.delta
  · have hdelta := t.delta_moveBase scale h
    have hq : Int.tmod t.delta 1000 = t.delta - 1000 * Int.tdiv t.delta 1000 := Int.tmod_def _ _
    have hsmall : -1000 < Int.tmod t.delta 1000 ∧ Int.tmod t.delta 1000 < 1000 :=
      ⟨by have := Int.lt_tmod_of_pos t.delta (b := 1000) (by omega); omega, Int.tmod_lt_of_pos _ (by omega)⟩
    have hbase : (t.moveBase scale).xBase = t.xBase + Int.tdiv t.delta 1000 * scale := by simp only [Tracker.moveBase, if_pos h]
    refine ⟨?_, by omega, Int.tdiv t.delta 1000, by simp only [Tracker.moveBase, if_pos h], hbase⟩
    have hscaled : t.delta * (scale : Int) =
        (t.moveBase scale).delta * scale + 1000 * (Int.tdiv t.delta 1000 * scale) := by
      rw [hdelta, hq]
      ring
    simp only [Tracker.freshX, hbase, hscaled, Int.fdiv_eq_ediv_of_nonneg _ (show (0 : Int) ≤ 1000 by omega)]
    omega
  · have hsame : t.moveBase scale = t := if_neg h
    rw [hsame]
    refine ⟨rfl, by simpa [mag] using h, 0, by simp, by simp⟩

/-! ### The permitted speed -/

theorem isqrtBits_bounds (n : Nat) : ∀ (k r : Nat), r * r ≤ n → n < (r + 2 ^ k) * (r + 2 ^ k) →
    isqrtBits n k r * isqrtBits n k r ≤ n ∧ n < (isqrtBits n k r + 1) * (isqrtBits n k r + 1)
  | 0, r, hlow, hhigh => ⟨hlow, by simpa [isqrtBits] using hhigh⟩
  | k + 1, r, hlow, hhigh => by
    unfold isqrtBits
    split
    next hle =>
      refine isqrtBits_bounds n k _ hle ?_
      have htwice : r + 2 ^ k + 2 ^ k = r + 2 ^ (k + 1) := by rw [pow_succ]; omega
      rwa [htwice]
    next hgt => exact isqrtBits_bounds n k r hlow (not_le.1 hgt)

/-- isqrt is the whole root. -/
theorem isqrt_bounds (n : Nat) : isqrt n * isqrt n ≤ n ∧ n < (isqrt n + 1) * (isqrt n + 1) := by
  refine isqrtBits_bounds n _ 0 (by simp) ?_
  have hpow : n < 2 ^ (n.log2 + 1) := Nat.lt_log2_self
  calc n < 2 ^ (n.log2 + 1) := hpow
    _ ≤ 2 ^ ((n.log2 / 2 + 1) + (n.log2 / 2 + 1)) := Nat.pow_le_pow_right (by omega) (by omega)
    _ = (0 + 2 ^ (n.log2 / 2 + 1)) * (0 + 2 ^ (n.log2 / 2 + 1)) := by rw [pow_add, zero_add]

theorem le_isqrt {k n : Nat} (h : k * k ≤ n) : k ≤ isqrt n := by
  have hlt := (isqrt_bounds n).2
  by_contra hk
  have : (isqrt n + 1) * (isqrt n + 1) ≤ k * k := Nat.mul_le_mul (by omega) (by omega)
  omega

theorem permitted_bounds (aGuar k : Nat) {d : Nat} (hd : 0 < d) :
    (permitted aGuar k d + k) * (permitted aGuar k d + k) ≤ k * k + 2 * aGuar * d ∧
      k * k + 2 * aGuar * d < (permitted aGuar k d + k + 1) * (permitted aGuar k d + k + 1) := by
  have hroot : permitted aGuar k d + k = isqrt (k * k + 2 * aGuar * d) := by
    have hle : k ≤ isqrt (k * k + 2 * aGuar * d) := le_isqrt (Nat.le_add_right _ _)
    have hnot : ¬(d : Int) ≤ 0 := by omega
    rw [permitted, if_neg hnot, Int.toNat_natCast]
    omega
  rw [hroot]
  exact isqrt_bounds _

/-- Settles O29: the whole root by its bits, and the permitted speed by it. -/
theorem permittedSpeedIsGreatest : Obligations.PermittedSpeedIsGreatest := by
  refine ⟨isqrt_bounds, fun e x => ?_, fun p x hnone => by rw [Supervisor.vE, hnone]⟩
  have hd : e.vE x = permitted e.aGuar e.k ((e.limit - x) * (match e.dir with | .up => 1 | .down => -1)) := by
    cases hdir : e.dir <;> simp [Envelope.vE, Envelope.dLimit, Dir.sign, hdir]
  dsimp only
  rw [hd]
  generalize (e.limit - x) * (match e.dir with | .up => 1 | .down => -1) = d
  refine ⟨fun hd => if_pos hd, fun hd => ?_⟩
  obtain ⟨n, rfl⟩ := Int.eq_ofNat_of_zero_le hd.le
  have hbounds := permitted_bounds e.aGuar e.k (Int.natCast_pos.1 hd)
  exact_mod_cast hbounds

/-! ### The worst force of a span -/

theorem ceilDivI_bounds (a : Int) {b : Int} (hb : 0 < b) : a ≤ ceilDivI a b * b ∧ ceilDivI a b * b < a + b := by
  have hdiv : Int.fdiv (-a) b * b + Int.emod (-a) b = -a := by
    rw [Int.fdiv_eq_ediv_of_nonneg _ hb.le]
    exact Int.ediv_mul_add_emod _ _
  have hpos : 0 ≤ Int.emod (-a) b := Int.emod_nonneg _ hb.ne'
  have hlt : Int.emod (-a) b < b := Int.emod_lt_of_pos _ hb
  simp only [ceilDivI, neg_mul]
  omega

/-- The segment a position stands in is the last one that starts at or before it. -/
theorem sineAt_append {x : Int} {e : Segment} {post : List Segment} (hpost : ∀ k ∈ post, x < k.start) :
    ∀ {pre : List Segment}, (pre ++ e :: post).Pairwise (fun a b => a.start < b.start) → pre = [] ∨ e.start ≤ x →
      sineAt x (pre ++ e :: post) = e.sine := by
  intro pre
  induction pre with
  | nil =>
    intro _ _
    cases post with
    | nil => rfl
    | cons k ks => exact if_pos (hpost k List.mem_cons_self)
  | cons g pre ih =>
    intro hsorted he
    have hex : e.start ≤ x := he.resolve_left (List.cons_ne_nil _ _)
    obtain ⟨-, htail⟩ := List.pairwise_cons.1 hsorted
    have hnext := ih htail (.inr hex)
    cases pre with
    | nil => exact (if_neg (not_lt.2 hex)).trans hnext
    | cons k ks =>
      have hk : k.start < e.start := (List.pairwise_cons.1 htail).1 e (by simp)
      exact (if_neg (by omega : ¬x < k.start)).trans hnext

/-- Positions on the same side of every start have the same sine. -/
theorem sineAt_congr {x y : Int} : ∀ {gs : List Segment}, (∀ g ∈ gs, g.start ≤ x ↔ g.start ≤ y) → sineAt x gs = sineAt y gs
  | [], _ => rfl
  | [_], _ => rfl
  | g :: k :: rest, h => by
    have hrest : sineAt x (k :: rest) = sineAt y (k :: rest) := sineAt_congr fun g' hg' => h g' (List.mem_cons_of_mem _ hg')
    have hk := h k (by simp)
    simp only [sineAt, hrest]
    by_cases hx : x < k.start
    · rw [if_pos hx, if_pos (by omega)]
    · rw [if_neg hx, if_neg (by omega)]

theorem mem_insertPoint {x p : Int} {xs : List Int} : p ∈ insertPoint x xs ↔ p = x ∨ p ∈ xs := by
  induction xs with
  | nil => simp [insertPoint]
  | cons y ys ih =>
    unfold insertPoint
    split
    · simp
    · split
      next heq => simp [heq]
      next => simp only [List.mem_cons, ih]; tauto

theorem insertPoint_sorted {x : Int} {xs : List Int} (h : xs.Pairwise (· < ·)) : (insertPoint x xs).Pairwise (· < ·) := by
  induction xs with
  | nil => simp [insertPoint]
  | cons y ys ih =>
    obtain ⟨hy, hys⟩ := List.pairwise_cons.1 h
    unfold insertPoint
    split
    next hlt =>
      refine List.pairwise_cons.2 ⟨fun p hp => ?_, h⟩
      rcases List.mem_cons.1 hp with rfl | hp
      · exact hlt
      · exact hlt.trans (hy p hp)
    next hle =>
      split
      · exact h
      next hne =>
        refine List.pairwise_cons.2 ⟨fun p hp => ?_, ih hys⟩
        rcases mem_insertPoint.1 hp with rfl | hp
        · omega
        · exact hy p hp

theorem foldr_insertPoint_sorted (xs : List Int) {ys : List Int} (h : ys.Pairwise (· < ·)) :
    (xs.foldr insertPoint ys).Pairwise (· < ·) := by
  induction xs with
  | nil => exact h
  | cons x xs ih => exact insertPoint_sorted ih

theorem mem_foldr_insertPoint {xs ys : List Int} {p : Int} : p ∈ xs.foldr insertPoint ys ↔ p ∈ xs ∨ p ∈ ys := by
  induction xs with
  | nil => simp
  | cons x xs ih => simp only [List.foldr_cons, mem_insertPoint, ih, List.mem_cons, or_assoc]

theorem cutPoints_sorted (t : Tables) (x0 x1 : Int) : (cutPoints t x0 x1).Pairwise (· < ·) :=
  foldr_insertPoint_sorted _ (insertPoint_sorted (List.pairwise_singleton _ _))

theorem mem_cutPoints (t : Tables) (x0 x1 p : Int) : p ∈ cutPoints t x0 x1 ↔ p = min x0 x1 ∨ p = max x0 x1 ∨
    (min x0 x1 ≤ p ∧ p ≤ max x0 x1 ∧ ∃ g ∈ t.segments, p = g.start ∨ p = t.line.length - g.start) := by
  simp only [cutPoints, mem_foldr_insertPoint, mem_insertPoint, List.mem_filter, List.mem_append, List.mem_map,
    List.mem_singleton, Bool.and_eq_true, decide_eq_true_eq]
  constructor
  · rintro (⟨⟨g, hg, rfl⟩ | ⟨y, ⟨g, hg, rfl⟩, rfl⟩, hlow, hhigh⟩ | hmin | hmax)
    · exact .inr (.inr ⟨hlow, hhigh, g, hg, .inl rfl⟩)
    · exact .inr (.inr ⟨hlow, hhigh, g, hg, .inr rfl⟩)
    · exact .inl hmin
    · exact .inr (.inl hmax)
  · rintro (hmin | hmax | ⟨hlow, hhigh, g, hg, rfl | rfl⟩)
    · exact .inr (.inl hmin)
    · exact .inr (.inr hmax)
    · exact .inl ⟨.inl ⟨g, hg, rfl⟩, hlow, hhigh⟩
    · exact .inl ⟨.inr ⟨g.start, ⟨g, hg, rfl⟩, rfl⟩, hlow, hhigh⟩

/-- Two positions with no cut point between them, nor at one of them alone. -/
def SameSides (xs : List Int) (x y : Int) : Prop := ∀ p ∈ xs, (p ≤ x ↔ p ≤ y) ∧ (p < x ↔ p < y)

/-- Every position between the first and the last cut point has a cut point or a midpoint on its sides. -/
theorem exists_midpoint_sameSides {x : Int} : ∀ {xs : List Int}, xs.Pairwise (· < ·) → (∃ p ∈ xs, p ≤ x) → (∃ p ∈ xs, x ≤ p) →
    ∃ y ∈ withMidpoints xs, SameSides xs x y
  | [], _, ⟨p, hp, _⟩, _ => absurd hp List.not_mem_nil
  | [a], _, ⟨p, hp, hpx⟩, ⟨p', hp', hxp⟩ => by
    rw [List.mem_singleton] at hp hp'
    have hax : x = a := by omega
    exact ⟨a, List.mem_singleton.2 rfl, fun p _ => by rw [hax]; exact ⟨Iff.rfl, Iff.rfl⟩⟩
  | a :: b :: rest, hsorted, ⟨p, hp, hpx⟩, ⟨p', hp', hxp⟩ => by
    obtain ⟨ha, htail⟩ := List.pairwise_cons.1 hsorted
    have hab : a < b := ha b List.mem_cons_self
    have hb : ∀ q ∈ rest, b < q := (List.pairwise_cons.1 htail).1
    have hax : a ≤ x := by
      rcases List.mem_cons.1 hp with rfl | hp
      · exact hpx
      · exact (ha p hp).le.trans hpx
    by_cases hbx : b ≤ x
    · have habove : ∃ q ∈ b :: rest, x ≤ q := by
        rcases List.mem_cons.1 hp' with rfl | hp'
        · omega
        · exact ⟨p', hp', hxp⟩
      obtain ⟨y, hy, hsame⟩ := exists_midpoint_sameSides htail ⟨b, List.mem_cons_self, hbx⟩ habove
      have hby : b ≤ y := (hsame b List.mem_cons_self).1.1 hbx
      refine ⟨y, List.mem_cons_of_mem _ (List.mem_cons_of_mem _ hy), fun q hq => ?_⟩
      rcases List.mem_cons.1 hq with rfl | hq
      · omega
      · exact hsame q hq
    · have hbetween : ∀ q ∈ a :: b :: rest, q = a ∨ b ≤ q := by
        intro q hq
        rcases List.mem_cons.1 hq with rfl | hq
        · exact .inl rfl
        · rcases List.mem_cons.1 hq with rfl | hq
          · exact .inr le_rfl
          · exact .inr (hb q hq).le
      by_cases hxa : x = a
      · exact ⟨a, List.mem_cons_self, fun q _ => by rw [hxa]; exact ⟨Iff.rfl, Iff.rfl⟩⟩
      · have hmid : a < Int.fdiv (a + b) 2 ∧ Int.fdiv (a + b) 2 < b := by
          rw [Int.fdiv_eq_ediv_of_nonneg _ (by omega)]
          omega
        refine ⟨Int.fdiv (a + b) 2, List.mem_cons_of_mem _ List.mem_cons_self, fun q hq => ?_⟩
        rcases hbetween q hq with rfl | hq
        · omega
        · omega

theorem withMidpoints_between {lo hi : Int} : ∀ {xs : List Int}, (∀ p ∈ xs, lo ≤ p ∧ p ≤ hi) →
    ∀ y ∈ withMidpoints xs, lo ≤ y ∧ y ≤ hi
  | [], _, y, hy => absurd hy List.not_mem_nil
  | [a], h, y, hy => h y hy
  | a :: b :: rest, h, y, hy => by
    have ha := h a List.mem_cons_self
    have hb := h b (by simp)
    simp only [withMidpoints, List.mem_cons] at hy
    rcases hy with rfl | rfl | hy
    · exact ha
    · rw [Int.fdiv_eq_ediv_of_nonneg _ (by omega)]
      omega
    · exact withMidpoints_between (fun p hp => h p (List.mem_cons_of_mem _ hp)) y hy

/-- The worst force is the force at the point it names, of those looked at the greatest. -/
theorem worstForce_spec (f : Int → Int) (x0 : Int) (xs : List Int) :
    (worstForce f x0 xs).1 = f (worstForce f x0 xs).2 ∧ ((worstForce f x0 xs).2 = x0 ∨ (worstForce f x0 xs).2 ∈ xs) ∧
      ∀ x ∈ xs, f x ≤ (worstForce f x0 xs).1 := by
  unfold worstForce
  induction xs using List.reverseRecOn with
  | nil => exact ⟨rfl, .inl rfl, by rintro x (_ | _)⟩
  | append_singleton xs x ih =>
    obtain ⟨hforce, hpoint, hgreatest⟩ := ih
    simp only [List.foldl_append, List.foldl_cons, List.foldl_nil, List.mem_append, List.mem_singleton]
    split
    next hlt =>
      refine ⟨rfl, .inr (.inr rfl), fun y hy => ?_⟩
      rcases hy with hy | rfl
      · exact (hgreatest y hy).trans hlt.le
      · exact le_rfl
    next hle =>
      refine ⟨hforce, hpoint.imp_right .inl, fun y hy => ?_⟩
      rcases hy with hy | rfl
      · exact hgreatest y hy
      · exact not_lt.1 hle

theorem aidingForce_congr {t : Tables} {x0 x1 x y : Int} (dir : Dir) (ms : Masses) (hx : min x0 x1 ≤ x ∧ x ≤ max x0 x1)
    (hy : min x0 x1 ≤ y ∧ y ≤ max x0 x1) (h : SameSides (cutPoints t x0 x1) x y) :
    aidingForce t dir ms x = aidingForce t dir ms y := by
  have hcut : ∀ g ∈ t.segments, ∀ p, p = g.start ∨ p = t.line.length - g.start → min x0 x1 ≤ p → p ≤ max x0 x1 →
      (p ≤ x ↔ p ≤ y) ∧ (p < x ↔ p < y) := fun g hg p hp hlow hhigh =>
    h p ((mem_cutPoints t x0 x1 p).2 (.inr (.inr ⟨hlow, hhigh, g, hg, hp⟩)))
  have hA : sineAt x t.segments = sineAt y t.segments := sineAt_congr fun g hg => by
    have := hcut g hg g.start (.inl rfl)
    omega
  have hB : sineAt (t.line.length - x) t.segments = sineAt (t.line.length - y) t.segments := sineAt_congr fun g hg => by
    have := hcut g hg (t.line.length - g.start) (.inr rfl)
    omega
  simp only [aidingForce, hA, hB]

/-- Settles O27: the force is the same between cut points, and each of them and each midpoint is looked at. -/
theorem worstForceBoundsSpan : Obligations.WorstForceBoundsSpan := by
  refine ⟨fun pre post e x hsorted he hpost => sineAt_append hpost hsorted he, fun t dir ms x => ?_, fun t x0 x1 dir ms => ?_⟩
  · have hbounds : ∀ a : Int, a ≤ ceilDivI a 1000000 * 1000000 ∧ ceilDivI a 1000000 * 1000000 < a + 1000000 :=
      fun a => ceilDivI_bounds a (by omega)
    cases dir <;> exact hbounds _
  · obtain ⟨hforce, hpoint, hgreatest⟩ := worstForce_spec (aidingForce t dir ms) (min x0 x1) (withMidpoints (cutPoints t x0 x1))
    have hcuts : ∀ p ∈ cutPoints t x0 x1, min x0 x1 ≤ p ∧ p ≤ max x0 x1 := fun p hp => by
      rcases (mem_cutPoints t x0 x1 p).1 hp with rfl | rfl | ⟨hlow, hhigh, -⟩
      · omega
      · omega
      · exact ⟨hlow, hhigh⟩
    refine ⟨fun x hlow hhigh => ?_, le_max_right _ _, ?_⟩
    · obtain ⟨y, hy, hsame⟩ := exists_midpoint_sameSides (cutPoints_sorted t x0 x1)
        ⟨min x0 x1, (mem_cutPoints _ _ _ _).2 (.inl rfl), hlow⟩ ⟨max x0 x1, (mem_cutPoints _ _ _ _).2 (.inr (.inl rfl)), hhigh⟩
      rw [aidingForce_congr dir ms ⟨hlow, hhigh⟩ (withMidpoints_between hcuts y hy) hsame]
      exact (hgreatest y hy).trans (le_max_left _ _)
    · have hplace : min x0 x1 ≤ (span t x0 x1 dir ms).cut ∧ (span t x0 x1 dir ms).cut ≤ max x0 x1 := by
        rcases hpoint with heq | hmem
        · exact ⟨heq.ge, heq.le.trans min_le_max⟩
        · exact withMidpoints_between hcuts _ hmem
      exact ⟨_, hplace.1, hplace.2, rfl, congrArg (max · 0) hforce⟩

end Machine
end Sys2Proof
end

section
/-! PROOFS. The requests of the line, the notice settings and the staging copy. -/

namespace Sys2Proof
namespace Machine

variable {s t : State}

/-! ### Stations that close -/

/-- A gate whose station has closed: not OPEN, and SHUT follows the passage in progress. -/
def Gate.Closed (g : Gate) : Prop := g.state ≠ .opened ∧ (g.state = .passing → g.closePending = true)

theorem Gate.close_closed (g : Gate) : g.close.Closed := by
  unfold Gate.close
  split
  · exact ⟨nofun, nofun⟩
  next h => exact ⟨by simp [h], fun _ => rfl⟩
  next hopened hpassing => exact ⟨hopened, fun h => absurd h hpassing⟩

theorem Gate.close_station (g : Gate) : g.close.station = g.station := by
  unfold Gate.close
  split <;> rfl

theorem State.closeStation_gates (s : State) (n : Nat) (e : GateEvent) : (s.closeStation n e).gates = s.gates.close n := by
  simp [State.closeStation]

/-- Closing stations leaves no gate of theirs open. -/
theorem State.closeStations_closed (e : GateEvent) : ∀ (ns : List Nat) (s : State),
    ∀ g ∈ (s.closeStations e ns).gates.gates,
      (g.station ∈ ns ∨ (∀ x ∈ s.gates.gates, x.station = g.station → x.Closed)) → g.Closed
  | [], s, g, hg, h => (h.resolve_left List.not_mem_nil) g hg rfl
  | n :: ns, s, g, hg, h => by
    refine State.closeStations_closed e ns (s.closeStation n e) g hg ?_
    by_cases hns : g.station ∈ ns
    · exact .inl hns
    · refine .inr fun x hx hstation => ?_
      rw [State.closeStation_gates] at hx
      obtain ⟨y, hy, rfl⟩ := List.mem_map.1 hx
      by_cases hy' : y.station = n
      · rw [if_pos hy']
        exact y.close_closed
      · rw [if_neg hy'] at hstation ⊢
        rcases h with hmem | hclosed
        · rcases List.mem_cons.1 hmem with heq | hmem
          · exact absurd (hstation.trans heq) hy'
          · exact absurd hmem hns
        · exact hclosed y hy hstation

theorem Geometry.mem_stations_of_station? {g : Geometry} {n : Nat} (h : (g.station? n).isSome = true) :
    n ∈ g.stations.map (fun x => x.number) := by
  unfold Geometry.station? at h
  unfold Geometry.stations
  cases hc : g.committed with
  | none => simp [hc] at h
  | some tb =>
    obtain ⟨p, hp⟩ := Option.isSome_iff_exists.1 (by simpa [hc] using h)
    have hn : p.number = n := by simpa using List.find?_some hp
    exact List.mem_map.2 ⟨p, List.mem_of_find?_eq_some hp, hn⟩

/-! ### Requests of the line -/

theorem settableMode_eq_none_iff : ∀ n, settableMode n = none ↔ ¬(n = 1 ∨ n = 2 ∨ n = 3)
  | 0 | 1 | 2 | 3 => by simp [settableMode]
  | _ + 4 => by simp [settableMode]

theorem State.setMode_unconfigured (h : s.line.mode = .unconfigured) (n : Nat) : s.setMode n = (s, ⟨.mode, []⟩) := if_pos h

theorem State.setMode_range (h : s.line.mode ≠ .unconfigured) {n : Nat} (hn : settableMode n = none) :
    s.setMode n = (s, ⟨.range, []⟩) := by
  simp only [State.setMode, if_neg h, hn]
  rfl

theorem State.setMode_run (h : s.line.mode ≠ .unconfigured) {n : Nat} {m : Mode} (hn : settableMode n = some m)
    (hrun : s.plan.run.isSome = true) : s.setMode n = (s, ⟨.state, [.code 1]⟩) := by
  simp only [State.setMode, if_neg h, hn, if_pos hrun]
  rfl

theorem State.setMode_done (h : s.line.mode ≠ .unconfigured) {n : Nat} {m : Mode} (hn : settableMode n = some m)
    (hrun : s.plan.run = none) : s.setMode n = (s.enterMode m, ⟨.done, [.code s.line.mode.code, .code m.code]⟩) := by
  simp only [State.setMode, if_neg h, hn, hrun]
  rfl

theorem State.closeAll_line (s : State) : s.closeAll.line = s.line := by simp

@[simp] theorem State.enterMode_mode (s : State) (m : Mode) : (s.enterMode m).line.mode = m := by
  simp only [State.enterMode]
  split
  · rw [State.closeAll_line, State.changeMode_mode]
  · rw [State.changeMode_mode]

theorem State.enterMode_gates (h : m = s.line.mode ∨ s.line.mode ≠ .automatic) : (s.enterMode m).gates = s.gates := by
  have hstays : ¬(s.line.mode = .automatic ∧ m ≠ .automatic) := by
    rintro ⟨hauto, hm⟩
    exact h.elim (fun heq => hm (heq.trans hauto)) (fun hne => hne hauto)
  simp only [State.enterMode, if_neg hstays]
  simp

theorem State.enterMode_closed {m : Mode} (h : s.line.mode = .automatic) (hm : m ≠ .automatic) :
    ∀ g ∈ (s.enterMode m).gates.gates, (s.geo.station? g.station).isSome = true → g.Closed := by
  intro g hg hstation
  simp only [State.enterMode, if_pos (And.intro h hm)] at hg
  exact State.closeStations_closed _ _ _ g hg (.inl (by simpa using Geometry.mem_stations_of_station? hstation))

theorem NoticeQueue.length_add_le_succ (n : NoticeQueue) (cls : NoticeClass) (kind : Nat) (now : Time) (body : List Field) :
    (n.add cls kind now body).entries.length ≤ n.entries.length + 1 := by
  simp only [NoticeQueue.add]
  split
  · omega
  · split
    · simp
    · split
      next old hold =>
        split
        · have := List.length_eraseP_le (p := fun e : Notice => e.priority == old.priority) (l := n.entries)
          simp only [dropFirst, List.length_append, List.length_singleton]
          omega
        · simp
      · simp

theorem State.lowerMemory_notices_le (s : State) : s.lowerMemory.notices.entries.length ≤
    s.notices.entries.length + (if s.line.reported = s.line.conds.level then 0 else 1) := by
  simp only [State.lowerMemory, State.noticeIf]
  by_cases h : s.line.reported = s.line.conds.level
  · simp [h]
  · simp only [bne_iff_ne, ne_eq, h, not_false_eq_true, if_true, if_false]
    exact NoticeQueue.length_add_le_succ _ _ _ _ _

/-- Settles O16: SET_MODE, CLEAR_SEVERITY and RESTART by the branches of their rules. -/
theorem lineRequestsTakeEffect : Obligations.LineRequestsTakeEffect := by
  refine ⟨fun h n s ht => ?_, fun h n m s ht hmode hrun hnm => ?_, fun h s ht => ?_, fun h s ht => ?_⟩
  · have hset : ∀ {u x}, (s.advance h.dt).setMode n = (u, x) → exec (.setMode h n) s = answered s h u x :=
      fun hact => exec_taken_of_eq (r := .setMode n) rfl ht hact
    refine ⟨fun hmode => hset (State.setMode_unconfigured (s := s.advance h.dt) hmode n),
      fun hmode hnamed => hset (State.setMode_range (s := s.advance h.dt) hmode ((settableMode_eq_none_iff n).2 hnamed)), fun hmode hnamed hrun => ?_⟩
    cases hm : settableMode n with
    | none => exact absurd hnamed ((settableMode_eq_none_iff n).1 hm)
    | some m => exact hset (State.setMode_run (s := s.advance h.dt) hmode hm hrun)
  · have hm : settableMode n = some m := by
      simp only [List.mem_cons, Prod.mk.injEq, List.not_mem_nil, or_false] at hnm
      rcases hnm with ⟨rfl, rfl⟩ | ⟨rfl, rfl⟩ | ⟨rfl, rfl⟩ <;> rfl
    have hdone : (s.advance h.dt).setMode n = _ := State.setMode_done (s := s.advance h.dt) hmode hm hrun
    refine ⟨_, (exec_taken_of_eq (r := .setMode n) rfl ht hdone).trans (answered_eq_transmit _ _ _ _), by simp,
      State.replied_ctl (by simp) _ _, fun hauto hne g hg hstation => ?_, fun hsame => ?_, ?_⟩
    · exact State.enterMode_closed (s := s.advance h.dt) hauto hne g hg hstation
    · exact State.enterMode_gates (s := s.advance h.dt) hsame
    · simp
  · refine ⟨_, (exec_taken_of_eq (r := .clearSeverity) rfl ht rfl).trans (answered_eq_transmit _ _ _ _), ?_,
      State.replied_ctl ?_ _ _, (s.advance h.dt).lowerMemory_notices_le, ?_⟩
    · simp [State.lowerMemory]
    · simp [State.lowerMemory]
    · simp [State.lowerMemory]
  · rw [exec_taken (r := .restart) rfl ht]
    simp only [Request.owner, State.restart]
    have hrun : (s.advance h.dt).plan.run = s.plan.run := rfl
    have hstill : (s.advance h.dt).trk.still = s.trk.still := rfl
    rw [hrun, hstill]
    split
    · rfl
    · simp only [Bool.not_eq_true']
      split
      · rfl
      · rfl

/-! ### Notice settings -/

theorem Settings.get_put (x : Settings) (c d : NoticeClass) (v : NoticeSetting) :
    (x.put c v).get d = if d = c then v else x.get d := by
  cases c <;> cases d <;> rfl

theorem NoticeClass.exists_ofNumber? : ∀ {n : Nat}, n ≤ 15 → ∃ c, NoticeClass.ofNumber? n = some c
  | 0, _ | 1, _ | 2, _ | 3, _ | 4, _ | 5, _ | 6, _ | 7, _ | 8, _ | 9, _ | 10, _ | 11, _ | 12, _ | 13, _ | 14, _ | 15, _ =>
    ⟨_, rfl⟩
  | _ + 16, h => absurd h (by omega)

theorem NoticeClass.ofNumber?_eq_none : ∀ {n : Nat}, 15 < n → NoticeClass.ofNumber? n = none
  | 0, h | 1, h | 2, h | 3, h | 4, h | 5, h | 6, h | 7, h | 8, h | 9, h | 10, h | 11, h | 12, h | 13, h | 14, h | 15, h =>
    absurd h (by omega)
  | _ + 16, _ => rfl

theorem noticeSetting_eq_some {e r : Nat} (p : Nat) (he : e ≤ 1) (hlow : 1 ≤ r) (hhigh : r ≤ 3) :
    noticeSetting e p r = some ⟨e == 1, max 1 (min p 15), decide (r = 1 ∨ r = 3), decide (r = 2 ∨ r = 3)⟩ := by
  rw [noticeSetting, if_pos ⟨he, hlow, hhigh⟩]
  simp [Bool.decide_or, beq_eq_decide]

theorem noticeSetting_eq_none {e r : Nat} (p : Nat) (h : 1 < e ∨ r < 1 ∨ 3 < r) : noticeSetting e p r = none :=
  if_neg (by omega)

theorem State.setNotice_range {n e p r : Nat} (h : NoticeClass.ofNumber? n = none ∨ noticeSetting e p r = none) :
    s.setNotice n e p r = (s, ⟨.range, []⟩) := by
  unfold State.setNotice
  split
  next hc hx => simp [hc, hx] at h
  · rfl

/-- A setting that is what it was queues no notice. -/
theorem State.putSetting_entries {c : NoticeClass} {x : NoticeSetting}
    (h : (s.putSetting c x).notices.settings = s.notices.settings) :
    (s.putSetting c x).notices.entries = s.notices.entries := by
  have hput : s.notices.settings.put c x = s.notices.settings := by simpa [State.putSetting] using h
  have hold : s.notices.settings.get c = x := by rw [← hput, Settings.get_put, if_pos rfl]
  simp [State.putSetting, State.noticeIf, hold]

/-- A threshold that is what it was queues no notice. -/
theorem State.putThreshold_entries {k : Port} {x : Nat} (h : s.notices.threshold.get k = x) :
    (s.putThreshold k x).notices.entries = s.notices.entries := by
  simp [State.putThreshold, State.noticeIf, h]

theorem NoticeSetting.fields_of_route {e : Bool} {p r : Nat} (hlow : 1 ≤ r) (hhigh : r ≤ 3) :
    (⟨e, p, decide (r = 1 ∨ r = 3), decide (r = 2 ∨ r = 3)⟩ : NoticeSetting).fields = [.flag e, .num p, .code r] := by
  obtain rfl | rfl | rfl : r = 1 ∨ r = 2 ∨ r = 3 := by omega
  · rfl
  · rfl
  · rfl

/-- Settles O17: the setting and the threshold by what replaces them. -/
theorem noticeSettingsAreReplaced : Obligations.NoticeSettingsAreReplaced := by
  refine ⟨fun h n e p r s ht => ⟨fun hn he hlow hhigh => ?_, fun hbad => ?_⟩, fun h n x s ht => ⟨fun k hk => ?_, fun hn => ?_⟩⟩
  · obtain ⟨c, hc⟩ := NoticeClass.exists_ofNumber? hn
    have hdone : (s.advance h.dt).setNotice n e p r =
        ((s.advance h.dt).putSetting c ⟨e == 1, max 1 (min p 15), decide (r = 1 ∨ r = 3), decide (r = 2 ∨ r = 3)⟩,
          ⟨.done, [.flag (e == 1), .num (max 1 (min p 15)), .code r]⟩) := by
      simp only [State.setNotice, hc, noticeSetting_eq_some p he hlow hhigh]
      rw [NoticeSetting.fields_of_route hlow hhigh]
      rfl
    refine ⟨_, c, (exec_taken_of_eq (r := .setNotice n e p r) rfl ht hdone).trans (answered_eq_transmit _ _ _ _), hc, ?_, fun d hd => ?_,
      State.replied_ctl ?_ _ _, (s.advance h.dt).putSetting_entries, ?_⟩
    · simp [State.putSetting, Settings.get_put]
    · simp [State.putSetting, Settings.get_put, hd]
    · simp [State.putSetting]
    · simp [State.putSetting]
  · refine exec_taken_of_eq (r := .setNotice n e p r) rfl ht (State.setNotice_range ?_)
    exact hbad.imp NoticeClass.ofNumber?_eq_none (noticeSetting_eq_none p)
  · have hport : portOf n = some k := by
      simp only [List.mem_cons, Prod.mk.injEq, List.not_mem_nil, or_false] at hk
      rcases hk with ⟨rfl, rfl⟩ | ⟨rfl, rfl⟩ <;> rfl
    have hdone : (s.advance h.dt).setThreshold n x = ((s.advance h.dt).putThreshold k (min x 15), ⟨.done, [.num (min x 15)]⟩) := by
      simp only [State.setThreshold, hport]
      rfl
    refine ⟨_, (exec_taken_of_eq (r := .setThreshold n x) rfl ht hdone).trans (answered_eq_transmit _ _ _ _), ?_, ?_,
      State.replied_ctl ?_ _ _, (s.advance h.dt).putThreshold_entries, ?_⟩
    · simp [State.putThreshold]
    · simp [State.putThreshold]
    · simp [State.putThreshold]
    · simp [State.putThreshold]
  · have hport : portOf n = none := by
      obtain ⟨m, rfl⟩ : ∃ m, n = m + 2 := ⟨n - 2, by omega⟩
      rfl
    refine exec_taken_of_eq (r := .setThreshold n x) rfl ht ?_
    simp only [Request.owner, State.setThreshold, hport]
    rfl

/-! ### The staging copy -/

theorem State.configurable_iff (s : State) : s.configurable ↔ s.line.mode.configurable = true := by
  cases hmode : s.line.mode <;> simp [State.configurable, Mode.configurable, hmode]

theorem loadPart_ok {α : Type} {room n i : Nat} {old : Option (Part α)} {es : List α} {p : Part α}
    (h : PartTaken room old n i es p) : loadPart room old n i es = .ok p := by
  obtain ⟨hroom, ⟨hi, hlen, hone, rfl⟩ | ⟨hi, q, rfl, hdeclared, hmore, hplace, hone, hfit, rfl⟩⟩ := h
  · simp only [loadPart]
    rw [if_neg (by omega), if_pos ⟨hi, hlen, hone⟩]
  · simp only [loadPart]
    rw [if_neg (by omega), if_neg (by omega), if_neg hi, if_pos ⟨by omega, hdeclared, hplace, hone, hfit⟩]
    subst hdeclared
    rfl

theorem loadPart_error {α : Type} {room n i : Nat} {old : Option (Part α)} {es : List α} {x : Reply}
    (h : s.LoadRefused room old n i es x) (hconf : s.configurable) : loadPart room old n i es = .error x := by
  rcases h with ⟨hnot, -⟩ | ⟨-, hroom, rfl⟩ | ⟨-, hroom, hi, hnone, rfl⟩ | ⟨-, hroom, hi, hbad, rfl⟩
  · exact absurd hconf hnot
  · simp only [loadPart, if_pos hroom]
    rfl
  · simp only [loadPart]
    rw [if_neg (by omega), if_neg (by omega), if_neg hi]
    cases old with
    | none => rfl
    | some q =>
      dsimp only
      rw [if_neg]
      · rfl
      · rintro ⟨hmore, hdeclared, hplace, hone, hfit⟩
        exact hnone _ ⟨hroom, .inr ⟨hi, q, rfl, hdeclared, by omega, hplace, hone, hfit, rfl⟩⟩
  · simp only [loadPart]
    rw [if_neg (by omega), if_neg, if_pos hi]
    · rfl
    · rintro ⟨-, hlen, hone⟩
      rcases hbad with hlong | ⟨rfl, hn⟩
      · omega
      · simp at hone
        omega

theorem State.load_taken {α : Type} {room n i : Nat} {old : Option (Part α)} {es : List α} {p : Part α} (hconf : s.configurable)
    (h : PartTaken room old n i es p) (put : Part α → Staging) :
    s.load (loadPart room old n i es) put = (s.setStaging (put p), ⟨.done, []⟩) := by
  simp only [State.load, if_pos (s.configurable_iff.1 hconf), loadPart_ok h]
  rfl

theorem State.load_refused {α : Type} {room n i : Nat} {old : Option (Part α)} {es : List α} {x : Reply}
    (h : s.LoadRefused room old n i es x) (put : Part α → Staging) : s.load (loadPart room old n i es) put = (s, x) := by
  by_cases hconf : s.configurable
  · simp only [State.load, if_pos (s.configurable_iff.1 hconf), loadPart_error h hconf]
  · have hx : x = ⟨.mode, []⟩ := by
      rcases h with ⟨-, rfl⟩ | ⟨hc, -⟩ | ⟨hc, -⟩ | ⟨hc, -⟩
      · rfl
      all_goals exact absurd hc hconf
    have hmode : ¬s.line.mode.configurable = true := fun h => hconf (s.configurable_iff.2 h)
    simp only [State.load, if_neg hmode, hx]
    rfl

theorem lineAfter_of_taken {old : Option SegPart} {l : Option LineRecord} {line : LineRecord}
    (h : l = some line ∨ (l = none ∧ old.map (fun x => x.line) = some line)) : lineAfter old l = line := by
  rcases h with rfl | ⟨rfl, hold⟩
  · rfl
  · obtain ⟨q, rfl, rfl⟩ := Option.map_eq_some_iff.1 hold
    rfl

/-- Settles O19: one rule for the eight tables, and the discarding. -/
theorem stagingIsLoadedAndDiscarded : Obligations.StagingIsLoadedAndDiscarded := by
  refine ⟨fun h n i l es p line s ht hconf hpart hline => ?_, fun h n i es p s ht hconf hpart => ?_,
    fun h n i es p s ht hconf hpart => ?_, fun h n i es p s ht hconf hpart => ?_, fun h n i es p s ht hconf hpart => ?_,
    fun h n i es p s ht hconf hpart => ?_, fun h n i es p s ht hconf hpart => ?_, fun h n i es p s ht hconf hpart => ?_,
    fun h n i l es x s ht hx => ?_, fun h n i es x s ht hx => ?_, fun h n i es x s ht hx => ?_, fun h n i es x s ht hx => ?_,
    fun h n i es x s ht hx => ?_, fun h n i es x s ht hx => ?_, fun h n i es x s ht hx => ?_, fun h n i es x s ht hx => ?_,
    fun h s ht => exec_taken_of_eq (r := .discardGeometry) rfl ht rfl⟩
  · rw [← lineAfter_of_taken hline]
    exact exec_taken_of_eq (r := .loadSegments n i l es) rfl ht (State.load_taken (s := s.advance h.dt) hconf hpart _)
  · exact exec_taken_of_eq (r := .loadZones n i es) rfl ht (State.load_taken (s := s.advance h.dt) hconf hpart _)
  · exact exec_taken_of_eq (r := .loadStations n i es) rfl ht (State.load_taken (s := s.advance h.dt) hconf hpart _)
  · exact exec_taken_of_eq (r := .loadHalts n i es) rfl ht (State.load_taken (s := s.advance h.dt) hconf hpart _)
  · exact exec_taken_of_eq (r := .loadMarkers n i es) rfl ht (State.load_taken (s := s.advance h.dt) hconf hpart _)
  · exact exec_taken_of_eq (r := .loadCars n i es) rfl ht (State.load_taken (s := s.advance h.dt) hconf hpart _)
  · exact exec_taken_of_eq (r := .loadBraking n i es) rfl ht (State.load_taken (s := s.advance h.dt) hconf hpart _)
  · exact exec_taken_of_eq (r := .loadGates n i es) rfl ht (State.load_taken (s := s.advance h.dt) hconf hpart _)
  · exact exec_taken_of_eq (r := .loadSegments n i l es) rfl ht (State.load_refused (s := s.advance h.dt) hx _)
  · exact exec_taken_of_eq (r := .loadZones n i es) rfl ht (State.load_refused (s := s.advance h.dt) hx _)
  · exact exec_taken_of_eq (r := .loadStations n i es) rfl ht (State.load_refused (s := s.advance h.dt) hx _)
  · exact exec_taken_of_eq (r := .loadHalts n i es) rfl ht (State.load_refused (s := s.advance h.dt) hx _)
  · exact exec_taken_of_eq (r := .loadMarkers n i es) rfl ht (State.load_refused (s := s.advance h.dt) hx _)
  · exact exec_taken_of_eq (r := .loadCars n i es) rfl ht (State.load_refused (s := s.advance h.dt) hx _)
  · exact exec_taken_of_eq (r := .loadBraking n i es) rfl ht (State.load_refused (s := s.advance h.dt) hx _)
  · exact exec_taken_of_eq (r := .loadGates n i es) rfl ht (State.load_refused (s := s.advance h.dt) hx _)

end Machine
end Sys2Proof
end

section
/-! PROOFS. What an emergency makes of the brakes, the trip record, the escalation watch and the track brakes (R105 to R112). -/

namespace Sys2Proof
namespace Machine

variable {s : State}

/-! ### Escalations -/

theorem Brakes.reassert_cmd (b : Brakes) (c : Car) : (b.reassert.track.get c).cmd = .apply := by cases c <;> rfl

theorem Brakes.reassert_state (b : Brakes) (c : Car) : (b.reassert.track.get c).state = (b.track.get c).state := by cases c <;> rfl

theorem TrackRec.apply_cmd (r : TrackRec) (now : Time) : (r.apply now).cmd = .apply := by
  unfold TrackRec.apply
  split <;> rfl

/-- The track brakes after an escalation: APPLY anew, or APPLY once more where the level was TRACK already. -/
theorem State.escalate_track (s : State) (e : EscCause) (y : EscSource) (c : Car) :
    (s.escalate e y).brk.track.get c =
      if s.sup.tracked = true then s.brk.reassert.track.get c else (s.brk.track.get c).apply s.now := by
  simp only [State.escalate]
  split
  · simp
  · cases c
    · simp
      rfl
    · simp
      rfl

theorem State.escalate_cmd (s : State) (e : EscCause) (y : EscSource) (c : Car) :
    ((s.escalate e y).brk.track.get c).cmd = .apply := by
  rw [State.escalate_track]
  split
  · exact Brakes.reassert_cmd _ _
  · exact TrackRec.apply_cmd _ _

/-- An escalation changes the brakes' track records and stops the watch. -/
theorem State.escalate_brk (s : State) (e : EscCause) (y : EscSource) :
    (s.escalate e y).brk = { s.brk with track := (s.escalate e y).brk.track, watch := none } := by
  simp only [State.escalate]
  split
  · simp [Brakes.reassert]
  · simp [State.setTrack]

/-- What an escalation leaves of each track record and makes of it. -/
theorem State.escalate_track_spec (s : State) (e : EscCause) (y : EscSource) (c : Car) :
    ((s.escalate e y).brk.track.get c).cmd = .apply ∧
      ((s.brk.track.get c).state = some .applied → ((s.escalate e y).brk.track.get c).state = some .applied) ∧
      ((∀ x, s.sup.trip = some x → x.highest = none) → (s.brk.track.get c).state ≠ some .applied →
        (s.escalate e y).brk.track.get c = ⟨.apply, some .applying, some s.now⟩) := by
  refine ⟨s.escalate_cmd e y c, fun hstate => ?_, fun hhighest hstate => ?_⟩
  · rw [State.escalate_track]
    split
    · rw [Brakes.reassert_state, hstate]
    · rw [TrackRec.apply, if_pos hstate]
  · have htracked : ¬s.sup.tracked = true := by
      cases htrip : s.sup.trip with
      | none => simp [Supervisor.tracked, htrip]
      | some x => simp [Supervisor.tracked, htrip, hhighest x htrip]
    rw [State.escalate_track, if_neg htracked, TrackRec.apply, if_neg hstate]

theorem Brakes.trackAlarm_of_cmd {b : Brakes} (h : (b.track.get .A).cmd = .apply) : b.trackAlarm = true := by
  have ha : b.track.a.cmd = .apply := h
  simp [Brakes.trackAlarm, ha]

theorem State.escalate_condition (s : State) (e : EscCause) (y : EscSource) : (s.escalate e y).line.conds.trackBrake = true := by
  have halarm : (s.escalate e y).line.conds.trackBrake = (s.escalate e y).brk.trackAlarm := by
    simp [State.escalate, State.trackCondition, State.handOver, Conditions.put]
  rw [halarm]
  exact Brakes.trackAlarm_of_cmd (s.escalate_cmd e y .A)

/-- Escalations found in turn. -/
def State.escalateAll (s : State) (es : List EscCause) (y : EscSource) : State := es.foldl (fun s e => s.escalate e y) s

theorem State.escalateAll_trip (es : List EscCause) (y : EscSource) :
    ∀ s : State, (s.escalateAll es y).sup.trip = s.sup.trip.map (fun x => x.escalateAll es) := by
  induction es with
  | nil => intro s; simp [State.escalateAll, TripRec.escalateAll]
  | cons e es ih =>
    intro s
    have hstep := ih (s.escalate e y)
    rw [State.escalate_trip, Option.map_map] at hstep
    exact hstep

theorem State.escalateAll_brk (es : List EscCause) (y : EscSource) :
    ∀ s : State, (s.escalateAll es y).brk = { s.brk with
      track := (s.escalateAll es y).brk.track
      watch := if es = [] then s.brk.watch else none } := by
  induction es with
  | nil => intro s; rfl
  | cons e es ih =>
    intro s
    have hstep := ih (s.escalate e y)
    rw [State.escalate_brk] at hstep
    have hcons : s.escalateAll (e :: es) y = (s.escalate e y).escalateAll es y := rfl
    rw [hcons]
    simpa using hstep

theorem State.escalateAll_cmd (y : EscSource) (c : Car) :
    ∀ (es : List EscCause) (s : State), es ≠ [] → ((s.escalateAll es y).brk.track.get c).cmd = .apply
  | [], _, h => absurd rfl h
  | [e], s, _ => s.escalate_cmd e y c
  | e :: e' :: es, s, _ => State.escalateAll_cmd y c (e' :: es) (s.escalate e y) (List.cons_ne_nil _ _)

theorem State.escalateAll_condition (y : EscSource) :
    ∀ (es : List EscCause) (s : State), es ≠ [] → (s.escalateAll es y).line.conds.trackBrake = true
  | [], _, h => absurd rfl h
  | [e], s, _ => s.escalate_condition e y
  | e :: e' :: es, s, _ => State.escalateAll_condition y (e' :: es) (s.escalate e y) (List.cons_ne_nil _ _)

/-! ### Emergencies -/

/-- The sheave brake is FAILED with its output off, as an emergency finds it (R112). -/
def State.sheaveSlack (s : State) : Bool := !s.brk.ebr && s.brk.sheave.state == .failed

/-- The escalations an emergency finds (R110 to R112). -/
def State.found (s : State) (c : Cause) : List EscCause :=
  (if s.sheaveSlack then [.sheaveApply] else []) ++ (if s.trk.stretch then [.rope] else [])
    ++ (match c with | .carTrackBrake _ => [.carTrackBrake] | _ => [])

/-- The state in which the escalations of an emergency are looked for: outputs dropped, the run tripped, the watch started. -/
def State.dropping (s : State) (c : Cause) (f : Figures) : State :=
  (((State.brakeCondition { (s.setBrakes (s.brk.dropAll s.now)) with drive := s.drive.stop }).tripRun c).startWatch f.v)

/-- The same with the trip record valid. -/
def State.recorded (s : State) (c : Cause) (f : Figures) : State :=
  State.handOver { s.dropping c f with
    sup := { (s.dropping c f).sup with
      trip := some (TripRec.log (s.dropping c f).sup.trip c f (!((s.dropping c f).escalations c).isEmpty)) } } .tripValid true

theorem State.emergency_eq (s : State) (c : Cause) (f : Figures) :
    s.emergency c f =
      ((s.recorded c f).escalateAll ((s.dropping c f).escalations c) (.emergency c)).tripNotice s.sup.trip.isNone c f := by
  rfl

@[simp] theorem State.dropping_brk (s : State) (c : Cause) (f : Figures) :
    (s.dropping c f).brk = { s.brk.dropAll s.now with
      watch := s.brk.watch.or (some ⟨s.now, mag f.v, s.aTest⟩) } := by
  simp [State.dropping, State.startWatch, State.aTest, Brakes.dropAll, Brakes.tenOff, Brakes.releaseOff]

@[simp] theorem State.dropping_trip (s : State) (c : Cause) (f : Figures) : (s.dropping c f).sup.trip = s.sup.trip := by
  simp [State.dropping, State.startWatch]

@[simp] theorem State.dropping_trk (s : State) (c : Cause) (f : Figures) : (s.dropping c f).trk = s.trk := by
  simp [State.dropping, State.startWatch]

/-- A brake whose output falls is APPLIED or APPLYING, and FAILED only where it was with its output off. -/
theorem Brakes.dropRecord_failed (b : Brakes) (now : Time) :
    ((b.dropRecord .sheave now).state == .failed) = (!b.ebr && b.sheave.state == .failed) := by
  unfold Brakes.dropRecord
  cases hout : b.output .sheave with
  | true =>
    have hebr : b.ebr = true := hout
    cases hconf : b.confirmedApplied .sheave <;> simp [hebr, BrakeRec.deenergised]
  | false =>
    have hebr : b.ebr = false := hout
    simp [hebr, Brakes.record]

theorem State.dropping_escalations (s : State) (c : Cause) (f : Figures) : (s.dropping c f).escalations c = s.found c := by
  have hwatch : (s.brk.watch.or (some ⟨s.now, mag f.v, s.aTest⟩)).isSome = true := by cases s.brk.watch <;> rfl
  have hsheave : ((s.brk.dropAll s.now).sheave.state == .failed) = s.sheaveSlack := s.brk.dropRecord_failed s.now
  simp only [State.escalations, State.found, State.dropping_brk, State.dropping_trk, hwatch, hsheave, Bool.true_and] <;> rfl

/-- The trip record after an emergency. -/
theorem State.emergency_trip (s : State) (c : Cause) (f : Figures) :
    (s.emergency c f).sup.trip =
      some ((TripRec.log s.sup.trip c f (!(s.found c).isEmpty)).escalateAll (s.found c)) := by
  have hnotice : ∀ (u : State) b, (u.tripNotice b c f).sup = u.sup := fun u b => by simp
  rw [State.emergency_eq, hnotice, State.escalateAll_trip, State.dropping_escalations]
  simp [State.recorded, State.dropping_escalations]

/-- The brakes after an emergency, but for the track brakes. -/
theorem State.emergency_brk (s : State) (c : Cause) (f : Figures) :
    (s.emergency c f).brk = { s.brk.dropAll s.now with
      track := (s.emergency c f).brk.track
      watch := if s.found c = [] then s.brk.watch.or (some ⟨s.now, mag f.v, s.aTest⟩) else none } := by
  have hnotice : ∀ (u : State) b, (u.tripNotice b c f).brk = u.brk := fun u b => by simp
  rw [State.emergency_eq, hnotice, State.dropping_escalations, State.escalateAll_brk]
  simp [State.recorded, Brakes.dropAll, Brakes.tenOff, Brakes.releaseOff]

theorem State.emergency_dropped (s : State) (c : Cause) (f : Figures) : (s.emergency c f).brk.dropped := by
  rw [State.emergency_brk]
  exact ⟨rfl, rfl, rfl, rfl⟩

theorem State.emergency_watch (s : State) (c : Cause) (f : Figures) : (s.emergency c f).brk.watch =
    if s.found c = [] then s.brk.watch.or (some ⟨s.now, mag f.v, s.aTest⟩) else none := by
  rw [State.emergency_brk]

theorem State.emergency_track_of_none (s : State) {c : Cause} (f : Figures) (h : s.found c = []) :
    (s.emergency c f).brk.track = s.brk.track := by
  have hnotice : ∀ (u : State) b, (u.tripNotice b c f).brk = u.brk := fun u b => by simp
  rw [State.emergency_eq, hnotice, State.dropping_escalations, h]
  simp [State.escalateAll, State.recorded, Brakes.dropAll, Brakes.tenOff, Brakes.releaseOff]

theorem State.emergency_cmd (s : State) {c : Cause} (f : Figures) (h : s.found c ≠ []) (k : Car) :
    ((s.emergency c f).brk.track.get k).cmd = .apply := by
  have hnotice : ∀ (u : State) b, (u.tripNotice b c f).brk = u.brk := fun u b => by simp
  rw [State.emergency_eq, hnotice, State.dropping_escalations]
  exact State.escalateAll_cmd _ k _ _ h

theorem TripRec.escalateAll_of_highest {x : TripRec} (h : x.highest.isSome = true) (es : List EscCause) : x.escalateAll es = x := by
  induction es with
  | nil => rfl
  | cons e es ih =>
    have hsame : x.escalate e = x := by
      obtain ⟨e0, he0⟩ := Option.isSome_iff_exists.1 h
      simp [TripRec.escalate, he0]
      rw [← he0]
    rw [show x.escalateAll (e :: es) = (x.escalate e).escalateAll es from rfl, hsame, ih]

/-- The record an emergency finds none of: its cause and figures, the level as escalations were found, the first of them. -/
theorem State.emergency_trip_of_none {c : Cause} {f : Figures} (h : s.sup.trip = none) :
    (s.emergency c f).sup.trip = some ⟨c, !(s.found c).isEmpty, f, 0, (s.found c).head?⟩ := by
  rw [State.emergency_trip, h]
  cases s.found c with
  | nil => rfl
  | cons e es =>
    have hfirst : ((⟨c, true, f, 0, none⟩ : TripRec).escalate e).highest.isSome = true := rfl
    exact congrArg some (TripRec.escalateAll_of_highest hfirst es)

/-- The record an emergency finds keeps its cause and figures, and counts it. -/
theorem State.emergency_trip_of_some {c : Cause} {f : Figures} {x : TripRec} (h : s.sup.trip = some x) :
    (s.emergency c f).sup.trip = some (TripRec.escalateAll { x with later := satInc x.later } (s.found c)) := by
  rw [State.emergency_trip, h]
  rfl

theorem State.emergency_highest {c : Cause} {f : Figures} (h : s.found c ≠ []) {x : TripRec}
    (hx : (s.emergency c f).sup.trip = some x) : x.highest.isSome = true := by
  rw [State.emergency_trip] at hx
  exact Option.some.inj hx ▸ TripRec.escalateAll_highest h

/-! ### Emergencies raised outside the supervisor -/

/-- The state in which an emergency is raised: a free value is taken where nothing was evaluated yet. -/
def State.raising (s : State) : State := { s with freeSeq := if s.sup.band.last.isSome then s.freeSeq else s.freeSeq + 1 }

theorem State.raise_eq (s : State) (c : Cause) : s.raise c = s.raising.emergency c s.lastFigures := rfl

theorem State.raise_dropped (s : State) (c : Cause) : (s.raise c).brk.dropped := s.raising.emergency_dropped _ _

theorem State.raise_trip_of_none {c : Cause} (h : s.sup.trip = none) :
    (s.raise c).sup.trip = some ⟨c, !(s.found c).isEmpty, s.lastFigures, 0, (s.found c).head?⟩ :=
  State.emergency_trip_of_none (s := s.raising) h

theorem State.raise_trip_of_some {c : Cause} {x : TripRec} (h : s.sup.trip = some x) :
    (s.raise c).sup.trip = some (TripRec.escalateAll { x with later := satInc x.later } (s.found c)) :=
  State.emergency_trip_of_some (s := s.raising) h

theorem State.raise_watch (s : State) (c : Cause) : (s.raise c).brk.watch =
    if s.found c = [] then s.brk.watch.or (some ⟨s.now, mag s.lastFigures.v, s.aTest⟩) else none :=
  s.raising.emergency_watch c s.lastFigures

theorem State.raise_track_of_none (s : State) {c : Cause} (h : s.found c = []) : (s.raise c).brk.track = s.brk.track :=
  s.raising.emergency_track_of_none _ h

theorem State.raise_cmd (s : State) {c : Cause} (h : s.found c ≠ []) (k : Car) : ((s.raise c).brk.track.get k).cmd = .apply :=
  s.raising.emergency_cmd _ h k

theorem State.raise_highest {c : Cause} (h : s.found c ≠ []) {x : TripRec} (hx : (s.raise c).sup.trip = some x) :
    x.highest.isSome = true := State.emergency_highest (s := s.raising) h hx

/-- The record an emergency leaves, with its cause where it is a new one. -/
theorem State.raise_trip (s : State) (c : Cause) : ∃ x, (s.raise c).sup.trip = some x ∧ (s.sup.trip = none → x.cause = c) := by
  cases h : s.sup.trip with
  | none => exact ⟨_, State.raise_trip_of_none h, fun _ => rfl⟩
  | some x => exact ⟨_, State.raise_trip_of_some h, nofun⟩

/-- The run that an emergency trips. -/
theorem State.raise_run_of_some {c : Cause} {r : Run} (h : s.plan.run = some r) :
    ∃ r', (s.raise c).plan.run = some r' ∧ r'.state = .tripped ∧ r'.id = r.id := by
  refine ⟨r.trip, by simp [h], r.trip_state, ?_⟩
  unfold Run.trip
  split <;> rfl

end Machine
end Sys2Proof
end

section
/-! PROOFS. What the operations on the run write, said once: the plan and the line after a run enters a state, is held or closes,
and the conditions after a close and after an emergency. -/

namespace Sys2Proof
namespace Machine

variable {s : State}

/-! ### A run enters a state -/

@[simp] theorem State.servingUpdate_line (s : State) : s.servingUpdate.line = s.line := by simp [State.servingUpdate]

@[simp] theorem State.enterRun_line (s : State) (b : Nat) (r : Run) (w : RunWhy) : (s.enterRun b r w).line = s.line := by
  rw [State.enterRun, State.runChanged_of_run (by simp)]
  simp

theorem State.enterRun_plan (s : State) (b : Nat) (r : Run) (w : RunWhy) :
    (s.enterRun b r w).plan = { s.plan with run := some r } := by
  rw [State.enterRun, State.runChanged_of_run (by simp)]
  simp
  rfl

/-! ### Holds -/

/-- The run that a hold makes brake. -/
def Run.held (r : Run) (c : HoldCause) (vh : Nat) (now : Time) : Run :=
  { r with stop := .asap vh now, holdCause := some c, state := .braking }

theorem State.takeHold_of_asap {r : Run} (h : r.stop.isAsap = true) (c : HoldCause) (vh : Nat) :
    s.takeHold r c vh = s.setRun (some { r with holdCause := if c = .cancel then some .cancel else r.holdCause }) := if_pos h

theorem State.takeHold_plan {r : Run} (h : r.stop.isAsap = false) (c : HoldCause) (vh : Nat) :
    (s.takeHold r c vh).plan = { s.plan with run := some (r.held c vh s.now) } := by
  rw [State.takeHold, if_neg (by simp [h]), State.enterRun_plan]
  rfl

@[simp] theorem State.takeHold_line (s : State) (r : Run) (c : HoldCause) (vh : Nat) : (s.takeHold r c vh).line = s.line := by
  unfold State.takeHold
  split <;> simp

@[simp] theorem State.takeHold_tally (s : State) (r : Run) (c : HoldCause) (vh : Nat) : (s.takeHold r c vh).tally = s.tally := by
  unfold State.takeHold
  split <;> simp

theorem State.hold_of_moving {r : Run} (hr : s.plan.run = some r) (hst : r.state.moving = true) (c : HoldCause) :
    s.hold c = s.takeHold r c (mag s.trk.v) := by
  unfold State.hold
  rw [hr]
  cases hs : r.state <;> simp_all [RunState.moving]

theorem State.hold_of_starting {r : Run} (hr : s.plan.run = some r) (hst : r.state = .starting) (c : HoldCause) :
    s.hold c = s.setRun (some { r with pendingStop := pendingWith r.pendingStop c }) := by
  simp only [State.hold, hr, hst]

/-! ### Closes -/

theorem State.closePlanned_of_planned {r : Run} (hr : s.plan.run = some r) (hst : r.state = .planned) (y : CloseReason) :
    s.closePlanned y = s.closeRun r .cancelled y none := by
  simp only [State.closePlanned, hr, if_pos hst]

theorem State.closePlanned_of_not_planned (h : ∀ r, s.plan.run = some r → r.state ≠ .planned) (y : CloseReason) :
    s.closePlanned y = s := by
  unfold State.closePlanned
  split
  next r hr => exact if_neg (h r hr)
  next => rfl

@[simp] theorem State.closeRun_warning (s : State) (r : Run) (o : RunOutcome) (y : CloseReason) (e : Option Int) :
    (s.closeRun r o y e).sup.band.warning = none := by
  have hexit : s.warningExit.sup.band.warning = none := by
    unfold State.warningExit
    split
    next h => exact h
    next => rfl
  simpa [State.closeRun, State.dropEnvelope] using hexit

/-! ### Conditions -/

theorem State.tryWindow_conds (s : State) (c : Car) : ∃ x, (s.tryWindow c).line.conds = { s.line.conds with excess := x } := by
  unfold State.tryWindow
  split
  · exact ⟨_, rfl⟩
  · exact ⟨s.line.conds.excess.set c false, by simp [Conditions.put]⟩

theorem State.runChanged_conds (s : State) : ∃ x, s.runChanged.line.conds = { s.line.conds with excess := x } := by
  obtain ⟨x, hx⟩ := s.tryWindow_conds .A
  obtain ⟨y, hy⟩ := (s.tryWindow .A).tryWindow_conds .B
  refine ⟨y, ?_⟩
  rw [State.runChanged, State.servingUpdate_line, State.tallyWindows, hy, hx]

theorem State.unfreezeCar_conds (s : State) (c : Car) : ∃ x, (s.unfreezeCar c).line.conds = { s.line.conds with excess := x } := by
  simp only [State.unfreezeCar]
  split
  · exact ⟨s.line.conds.excess.set c false, by simp [Conditions.put]⟩
  · exact ⟨_, rfl⟩

theorem State.unfreeze_conds (s : State) : ∃ x, s.unfreeze.line.conds = { s.line.conds with excess := x } := by
  obtain ⟨x, hx⟩ := s.unfreezeCar_conds .A
  obtain ⟨y, hy⟩ := (s.unfreezeCar .A).unfreezeCar_conds .B
  exact ⟨y, by rw [State.unfreeze, hy, hx]⟩

theorem State.closeRun_conds (s : State) (r : Run) (o : RunOutcome) (y : CloseReason) (e : Option Int) :
    ∃ x, (s.closeRun r o y e).line.conds = { s.line.conds with excess := x } := by
  simp only [State.closeRun]
  generalize hu : State.dropEnvelope _ = u
  have hline : u.line = s.line := by subst hu; simp [State.dropEnvelope]
  obtain ⟨x, hx⟩ := u.unfreeze_conds
  obtain ⟨z, hz⟩ := u.unfreeze.runChanged_conds
  exact ⟨z, by rw [hz, hx, hline]⟩

theorem State.closePlanned_conds (s : State) (y : CloseReason) :
    ∃ x, (s.closePlanned y).line.conds = { s.line.conds with excess := x } := by
  unfold State.closePlanned
  split
  · split
    · exact s.closeRun_conds _ _ _ _
    · exact ⟨_, rfl⟩
  · exact ⟨_, rfl⟩

@[simp] theorem State.warningExit_line (s : State) : s.warningExit.line = s.line := by
  unfold State.warningExit
  split <;> simp

@[simp] theorem State.tripRun_line (s : State) (c : Cause) : (s.tripRun c).line = s.line := by
  unfold State.tripRun
  split
  · split
    · rfl
    · simp
  · rfl

theorem State.escalate_conds (s : State) (e : EscCause) (y : EscSource) :
    (s.escalate e y).line.conds = { s.line.conds with trackBrake := true } := by
  have hput : ∃ b, (s.escalate e y).line.conds = { s.line.conds with trackBrake := b } := by
    simp only [State.escalate]
    split <;> exact ⟨_, by simp [State.trackCondition, Conditions.put]; rfl⟩
  obtain ⟨b, hb⟩ := hput
  have htrue := s.escalate_condition e y
  rw [hb] at htrue ⊢
  simp only at htrue
  rw [htrue]

theorem State.escalateAll_conds (y : EscSource) : ∀ (es : List EscCause) (s : State),
    ∃ b, (s.escalateAll es y).line.conds = { s.line.conds with trackBrake := b }
  | [], s => ⟨_, rfl⟩
  | e :: es, s => by
    obtain ⟨b, hb⟩ := State.escalateAll_conds y es (s.escalate e y)
    exact ⟨b, by rw [show s.escalateAll (e :: es) y = (s.escalate e y).escalateAll es y from rfl, hb, State.escalate_conds]⟩

theorem State.emergency_conds (s : State) (c : Cause) (f : Figures) : ∃ b k,
    (s.emergency c f).line.conds = { s.line.conds with brakeFailed := b, trackBrake := k, tripValid := true } := by
  have hnotice : ∀ (u : State) b, (u.tripNotice b c f).line = u.line := fun u b => by simp
  obtain ⟨k, hk⟩ := State.escalateAll_conds (.emergency c) (s.found c) (s.recorded c f)
  have hrecorded : ∃ b, (s.recorded c f).line.conds = { s.line.conds with brakeFailed := b, tripValid := true } :=
    ⟨_, by simp [State.recorded, State.dropping, State.startWatch, State.brakeCondition, Conditions.put]; rfl⟩
  obtain ⟨b, hb⟩ := hrecorded
  exact ⟨b, k, by rw [State.emergency_eq, hnotice, State.dropping_escalations, hk, hb]⟩

theorem State.raise_conds (s : State) (c : Cause) : ∃ b k,
    (s.raise c).line.conds = { s.line.conds with brakeFailed := b, trackBrake := k, tripValid := true } :=
  s.raising.emergency_conds c s.lastFigures

/-! ### Confidence -/

theorem State.setConf_plan (s : State) {c : Confidence} (hc : c ≠ .degraded) : (s.setConf c).plan = s.plan := by
  simp only [State.setConf]
  split
  · rfl
  · simp only [State.lowerCruise]
    have hdegraded : ((({ s with trk := s.trk.enter c } : State).handOver .confDegraded c.isDegraded).handOver .confLost
        (c == .lost)).trk.conf = c := by simp
    simp [hc]

theorem State.setConf_conds (s : State) {c : Confidence} (hc : s.trk.conf ≠ c) :
    (s.setConf c).line.conds = { s.line.conds with confDegraded := c.isDegraded, confLost := c == .lost } := by
  simp only [State.setConf, if_neg hc]
  simp [State.lowerCruise, Conditions.put]

/-- The state in which the position is lost, before what follows from it. -/
def State.losing (s : State) (k : PosCause) (car : Option Car) (id : Option Nat) (value : Option Int) : State :=
  (s.setConf .lost).posNotice k car id value s.trk.conf

/-- The position lost: an EMERGENCY in motion, the close of a PLANNED run at rest. -/
theorem State.confEvent_lost_eq (h : s.trk.conf ≠ .lost) (k : PosCause) (car : Option Car) (id : Option Nat)
    (value : Option Int) : s.confEvent .lost k car id value =
      if s.carsMoving = true then (s.losing k car id value).raise .positionLost
      else (s.losing k car id value).closePlanned .position := by
  have hconf : (s.losing k car id value).trk.conf = .lost := by simp [State.losing]
  have hmoving : (s.losing k car id value).carsMoving = s.carsMoving := by
    simp [State.losing, State.carsMoving, State.runInMotion, State.setConf_plan]
  simp only [State.confEvent, State.lostEffects]
  rw [if_pos ⟨h, hconf⟩]
  simp only [State.losing] at hmoving
  simp only [hmoving]
  rfl

end Machine
end Sys2Proof
end

section
/-! PROOFS. The position referenced and lost, and the requests that hold and cancel a run. -/

namespace Sys2Proof
namespace Machine

variable {s : State}

/-- An event's end after `effect`, for a command. -/
theorem exec_transmit_of_eq {c : Instr} {u : State} (h : effect c s = u) : exec c s = .next (u.flagged s.pending).transmit := by
  rw [exec_eq_transmit, h]

theorem exec_ended_of_eq {c : Instr} {u : State} (h : effect c s = u) : exec c s = .next (u.ended s.pending) := by
  rw [exec_eq_ended, h]

theorem exec_taken_transmit {c : Instr} {h : ReqHead} {r : Request} {u : State} {x : Reply} (hc : c.request = some (h, r))
    (ht : Taken s h r) (hact : r.owner (s.advance h.dt) = (u, x)) :
    exec c s = .next ((u.replied h.port x).flagged s.pending).transmit := exec_taken_of_eq hc ht hact

/-! ### References -/

theorem State.reference_trk (s : State) (p : Int) : (s.reference p).trk =
    Tracker.expectAll { s.trk.reference s.geo.length p with conf := .referenced } s.geo.markers := by
  have hset : ∀ u : State, (u.setConf .referenced).trk = { u.trk with conf := .referenced } := by
    intro u
    rw [State.setConf_trk]
    split
    next h => rw [← h]
    · rfl
  simp [State.reference, hset]

theorem State.reference_plan (s : State) (p : Int) : (s.reference p).plan = s.plan := by
  simp [State.reference, State.setConf_plan]

theorem State.findAtStop_evalAtStop (u : State) : u.evalAtStop.line.atStop = u.evalAtStop.findAtStop := rfl

/-- Settles O24: the tracker referenced, and ATSTOP evaluated anew. -/
theorem setReferencePlacesCars : Obligations.SetReferencePlacesCars := by
  intro h n x s ht hmode hx hkey hrun hstill
  have hrefusal : (s.advance h.dt).referenceRefusal = none := by
    simp [State.referenceRefusal, hkey, hrun, hstill]
  have hmode' : ¬(s.advance h.dt).line.mode = .unconfigured := hmode
  have hx' : (s.advance h.dt).geo.halt? n = some x := hx
  have htrk := (s.advance h.dt).reference_trk x.pA
  have hdone : (s.advance h.dt).setReference n = ((s.advance h.dt).reference x.pA,
      ⟨.done, [.pos x.pA, .pos (s.geo.length - x.pA), .code 1]⟩) := by
    simp only [State.setReference, if_neg hmode', hx', hrefusal, htrk]
    rfl
  have hstop : ((s.advance h.dt).reference x.pA).line.atStop = ((s.advance h.dt).reference x.pA).findAtStop :=
    State.findAtStop_evalAtStop _
  refine ⟨_, exec_taken_transmit (r := .setReference n) rfl ht hdone, ?_⟩
  simp only [State.flagged_frame, State.replied_frame, htrk]
  refine ⟨rfl, rfl, rfl, rfl, rfl, rfl, rfl, rfl, rfl, rfl, rfl, hstill, rfl, rfl, hstop, State.replied_ctl ?_ _ _, ?_⟩
  · simp
  · simp [State.reference_plan]

/-! ### The position lost -/

theorem State.losing_trk (h : s.trk.conf ≠ .lost) (k : PosCause) (car : Option Car) (id : Option Nat) (value : Option Int) :
    (s.losing k car id value).trk = { s.trk with conf := .lost, expected := .const none, misses := .const 0 } := by
  simp only [State.losing, State.posNotice_frame]
  rw [State.setConf_trk, if_neg h]
  rfl

theorem State.losing_plan (s : State) (k : PosCause) (car : Option Car) (id : Option Nat) (value : Option Int) :
    (s.losing k car id value).plan = s.plan := by simp [State.losing, State.setConf_plan]

@[simp] theorem State.losing_frame (s : State) (k : PosCause) (car : Option Car) (id : Option Nat) (value : Option Int) :
    (s.losing k car id value).geo = s.geo ∧ (s.losing k car id value).sup = s.sup ∧ (s.losing k car id value).brk = s.brk ∧
      (s.losing k car id value).doors = s.doors ∧ (s.losing k car id value).gates = s.gates ∧
      (s.losing k car id value).tally = s.tally ∧ (s.losing k car id value).links = s.links ∧
      (s.losing k car id value).drive = s.drive ∧ (s.losing k car id value).ctl = s.ctl ∧
      (s.losing k car id value).now = s.now ∧ (s.losing k car id value).line.mode = s.line.mode := by
  simp [State.losing]

theorem State.losing_conds (h : s.trk.conf ≠ .lost) (k : PosCause) (car : Option Car) (id : Option Nat) (value : Option Int) :
    (s.losing k car id value).line.conds = { s.line.conds with confDegraded := false, confLost := true } := by
  simp only [State.losing, State.posNotice_frame]
  exact s.setConf_conds h

/-- The position lost: the tracker holds it, the conditions say it, and in motion the line trips. -/
theorem State.confEvent_lost_spec (h : s.trk.conf ≠ .lost) (k : PosCause) (car : Option Car) (id : Option Nat)
    (value : Option Int) :
    (s.confEvent .lost k car id value).trk = { s.trk with conf := .lost, expected := .const none, misses := .const 0 } ∧
      (s.confEvent .lost k car id value).line.conds.confLost = true ∧
      (s.confEvent .lost k car id value).line.conds.confDegraded = false ∧
      (s.carsMoving = true → (s.confEvent .lost k car id value).brk.dropped ∧
        (∃ x, (s.confEvent .lost k car id value).sup.trip = some x ∧ (s.sup.trip = none → x.cause = .positionLost)) ∧
        ∀ r, s.plan.run = some r → ∃ r', (s.confEvent .lost k car id value).plan.run = some r' ∧
          r'.state = .tripped ∧ r'.id = r.id) ∧
      (s.carsMoving = false → (s.confEvent .lost k car id value).brk = s.brk ∧
        (s.confEvent .lost k car id value).sup.trip = s.sup.trip ∧
        ∀ r, s.plan.run = some r → r.state = .planned → (s.confEvent .lost k car id value).plan.run = none ∧
          (s.confEvent .lost k car id value).plan.lastRun = some ⟨r.id, r.target, .cancelled, .position, none⟩) := by
  rw [State.confEvent_lost_eq h]
  have htrk := State.losing_trk h k car id value
  have hconds := State.losing_conds h k car id value
  have hplan := s.losing_plan k car id value
  have hsup : (s.losing k car id value).sup = s.sup := by simp
  have hbrk : (s.losing k car id value).brk = s.brk := by simp
  generalize s.losing k car id value = u at htrk hconds hplan hsup hbrk
  cases hmoving : s.carsMoving with
  | true =>
    obtain ⟨b, j, hraise⟩ := u.raise_conds .positionLost
    rw [hconds] at hraise
    rw [if_pos rfl]
    exact ⟨by simpa using htrk, by rw [hraise], by rw [hraise],
      fun _ => ⟨u.raise_dropped _, hsup ▸ u.raise_trip _, fun r hr => State.raise_run_of_some (hplan ▸ hr)⟩, nofun⟩
  | false =>
    obtain ⟨x, hclose⟩ := u.closePlanned_conds .position
    rw [hconds] at hclose
    rw [if_neg (by simp)]
    refine ⟨by simpa using htrk, by rw [hclose], by rw [hclose], nofun, fun _ => ⟨by simpa using hbrk, by simp [hsup], fun r hr hst => ?_⟩⟩
    rw [State.closePlanned_of_planned (hplan ▸ hr) hst]
    simp

/-- Settles O25: the position lost, or nothing where it is. -/
theorem encoderFaultLosesPosition : Obligations.EncoderFaultLosesPosition := by
  intro dt s
  refine ⟨fun hlost => exec_ended_of_eq (if_pos (by exact hlost)), fun hne => ?_⟩
  have hne' : (s.advance dt).trk.conf ≠ .lost := hne
  have heff : effect (.encoderFault dt) s = (s.advance dt).confEvent .lost .encoderFault none none none := if_neg hne'
  obtain ⟨htrk, hlost, hdegraded, hmoving, hrest⟩ := State.confEvent_lost_spec hne' .encoderFault none none none
  refine ⟨_, exec_transmit_of_eq heff, ?_⟩
  simp only [State.flagged_frame]
  refine ⟨by rw [htrk], by rw [htrk], by rw [htrk], by rw [htrk]; rfl, by rw [htrk]; rfl, by rw [htrk]; rfl, hlost, hdegraded, ?_, ?_, ?_, ?_, hmoving, hrest⟩
  · simp
  · simp
  · simp
  · simp

/-! ### HOLD_RUN and CANCEL_RUN -/

theorem pendingWith_eq (old : Option HoldCause) (c : HoldCause) :
    pendingWith old c = if old = some .cancel then some .cancel else some c := by
  unfold pendingWith
  split
  next h => exact h
  next => rfl

theorem State.holdRun_held {r : Run} (hr : s.plan.run = some r) (hst : r.state.inMotion = true) :
    s.holdRun = (s.hold .holdRequest, ⟨.done, []⟩) := by
  simp only [State.holdRun, hr]
  cases hs : r.state <;> simp_all [RunState.inMotion, Reply.done]

theorem RunState.inMotion_of_moving {x : RunState} (h : x.moving = true) : x.inMotion = true := by
  cases x <;> first | rfl | cases h

/-- Settles O34: by the run's state. -/
theorem holdRunByState : Obligations.HoldRunByState := by
  intro h s ht
  have hact : ∀ {u x}, (s.advance h.dt).holdRun = (u, x) → exec (.holdRun h) s = answered s h u x :=
    fun he => exec_taken_of_eq (r := .holdRun) rfl ht he
  refine ⟨fun hnone => hact ?_, fun r hr => ?_⟩
  · have hnone' : (s.advance h.dt).plan.run = none := hnone
    simp only [State.holdRun, hnone']
    rfl
  have hr' : (s.advance h.dt).plan.run = some r := hr
  refine ⟨fun hst => hact ?_, fun hst => hact ?_, fun hst => hact ?_, fun hst hasap => hact ?_, fun hst hasap => ?_⟩
  · rcases hst with hst | hst
    · simp only [State.holdRun, hr', hst]
      rfl
    · simp only [State.holdRun, hr', hst]
      rfl
  · simp only [State.holdRun, hr', hst]
    rfl
  · rw [State.holdRun_held hr' (by rw [hst]; rfl), State.hold_of_starting hr' hst, pendingWith_eq]
    rfl
  · rw [State.holdRun_held hr' (RunState.inMotion_of_moving hst), State.hold_of_moving hr' hst, State.takeHold_of_asap hasap]
    have hsame : (s.advance h.dt).setRun (some r) = s.advance h.dt := by
      rw [← hr']
      rfl
    exact congrArg (·, _) hsame
  · have hdone : (s.advance h.dt).holdRun = ((s.advance h.dt).takeHold r .holdRequest (mag s.trk.v), ⟨.done, []⟩) := by
      rw [State.holdRun_held hr' (RunState.inMotion_of_moving hst), State.hold_of_moving hr' hst]
      rfl
    have hplan := State.takeHold_plan (s := s.advance h.dt) hasap .holdRequest (mag s.trk.v)
    refine ⟨_, exec_taken_transmit (r := .holdRun) rfl ht hdone, ?_, State.replied_ctl ?_ _ _, ?_⟩
    · simp only [State.flagged_frame, State.replied_frame, hplan]
      rfl
    · simp
    · simp

theorem State.cancelRun_held {r : Run} (hr : s.plan.run = some r) (hst : r.state.inMotion = true) :
    s.cancelRun = (s.hold .cancel, ⟨.done, []⟩) := by
  simp only [State.cancelRun, hr]
  cases hs : r.state <;> simp_all [RunState.inMotion, Reply.done]

theorem State.cancelRun_closed {r : Run} (hr : s.plan.run = some r) (hst : r.state = .planned ∨ r.state = .holding) :
    s.cancelRun = (s.closeRun r .cancelled .cancelRequest none, ⟨.done, []⟩) := by
  rcases hst with hst | hst
  · simp only [State.cancelRun, hr, hst]
    rfl
  · simp only [State.cancelRun, hr, hst]
    rfl

/-- Settles O35: CANCEL_RUN by the run's state, and the wait by its age. -/
theorem cancelAndWaitCloseRuns : Obligations.CancelAndWaitCloseRuns := by
  refine ⟨fun h s ht => ?_, fun dt r s hr hst => ?_⟩
  · have hact : ∀ {u x}, (s.advance h.dt).cancelRun = (u, x) → exec (.cancelRun h) s = answered s h u x :=
      fun he => exec_taken_of_eq (r := .cancelRun) rfl ht he
    refine ⟨fun hnone => hact ?_, fun r hr => ?_⟩
    · have hnone' : (s.advance h.dt).plan.run = none := hnone
      simp only [State.cancelRun, hnone']
      rfl
    have hr' : (s.advance h.dt).plan.run = some r := hr
    refine ⟨fun hst => hact ?_, fun hst => ?_, fun hst => hact ?_, fun hst => ?_⟩
    · simp only [State.cancelRun, hr', hst]
      rfl
    · refine ⟨_, exec_taken_transmit (r := .cancelRun) rfl ht (State.cancelRun_closed hr' hst), ?_⟩
      simp only [State.flagged_frame, State.replied_frame]
      refine ⟨by simp, by simp, by simp, by simp, by simp, by simp, by simp, by simp, State.replied_ctl (by simp) _ _, ?_⟩
      simp
    · rw [State.cancelRun_held hr' (by rw [hst]; rfl), State.hold_of_starting hr' hst]
      have hpending : pendingWith r.pendingStop .cancel = some .cancel := by simp [pendingWith]
      rw [hpending]
      rfl
    · have hdone : (s.advance h.dt).cancelRun = ((s.advance h.dt).takeHold r .cancel (mag s.trk.v), ⟨.done, []⟩) := by
        rw [State.cancelRun_held hr' (RunState.inMotion_of_moving hst), State.hold_of_moving hr' hst]
        rfl
      refine ⟨_, exec_taken_transmit (r := .cancelRun) rfl ht hdone, ?_, State.replied_ctl (by simp) _ _, ?_⟩
      · simp only [State.flagged_frame, State.replied_frame]
        cases hasap : r.stop.isAsap with
        | true => rw [State.takeHold_of_asap hasap]; rfl
        | false => rw [State.takeHold_plan hasap]; rfl
      · simp
  · have hr' : (s.advance dt).plan.run = some r := hr
    have hspan : waitSpan = 60000 := rfl
    have heff : effect (.plannedWaitExpiry dt) s =
        if waitSpan ≤ elapsed r.planTime (s.now + dt) then (s.advance dt).closePlanned .waitExpired else s.advance dt := by
      simp only [effect, State.waitExpiry, hr']
      rfl
    refine ⟨fun hdue => ?_, fun hearly => ?_⟩
    · rw [if_pos (hspan ▸ hdue), State.closePlanned_of_planned hr' hst] at heff
      refine ⟨_, exec_transmit_of_eq heff, ?_⟩
      simp
    · rw [if_neg (by omega)] at heff
      exact exec_ended_of_eq heff

end Machine
end Sys2Proof
end

section
/-! PROOFS. The e-stop loops, the clearing of a trip and of the track brakes, and a start that fails. -/

namespace Sys2Proof
namespace Machine

variable {s : State}

/-! ### The e-stop loops -/

theorem State.found_estop (s : State) (n : Ix4) : s.found (.estop n) =
    (if s.sheaveSlack then [.sheaveApply] else []) ++ (if s.trk.stretch then [.rope] else []) :=
  List.append_nil _

theorem State.sheaveSlack_iff (s : State) : s.sheaveSlack = true ↔ s.brk.ebr = false ∧ s.brk.sheave.state = .failed := by
  simp [State.sheaveSlack]

theorem satInc_eq (n : Nat) : satInc n = if n < 255 then n + 1 else 255 := by
  unfold satInc
  split <;> omega

theorem TripRec.escalateAll_later (es : List EscCause) : ∀ x : TripRec, (x.escalateAll es).later = x.later := by
  induction es with
  | nil => exact fun _ => rfl
  | cons e es ih => exact fun x => ih (x.escalate e)

theorem Quad.set_same {α : Type} {q : Quad α} {n : Ix4} {x : α} (h : q.get n = x) : q.set n x = q := by
  subst h
  cases n <;> rfl

/-- The state of a loop that opens, before what follows. -/
def State.opening (s : State) (n : Ix4) : State := { s with line := { s.line with loops := s.line.loops.set n false } }

theorem State.estopChange_opens {n : Ix4} (h : s.line.loops.get n = true) : s.estopChange n false = (s.opening n).loopOpens n := by
  simp only [State.estopChange, h]
  rfl

/-- Settles O42: an emergency with what it escalates, or the close of a PLANNED run. -/
theorem estopLoopsTripOrClose : Obligations.EstopLoopsTripOrClose := by
  intro dt n s
  refine ⟨?_, fun hopen => ?_, fun hclosed hmoving => ?_, fun hclosed hrest hno => ?_, fun r hclosed hrest hr hst => ?_⟩
  · refine exec_ended_of_eq ?_
    simp only [effect, State.estopChange]
    split
    next hsame => rw [Quad.set_same (q := s.line.loops) hsame]; rfl
    · rfl
  · refine exec_ended_of_eq ?_
    simp only [effect, State.estopChange]
    exact if_pos hopen
  · have heff : effect (.estopChange dt n false) s = ((s.advance dt).opening n).raise (.estop n) := by
      rw [effect, State.estopChange_opens (s := s.advance dt) hclosed]
      exact if_pos hmoving
    refine ⟨_, exec_transmit_of_eq heff, ?_⟩
    have hdropped := ((s.advance dt).opening n).raise_dropped (.estop n)
    have hfound := ((s.advance dt).opening n).found_estop n
    have hslack : ((s.advance dt).opening n).sheaveSlack = true ↔ s.brk.ebr = false ∧ s.brk.sheave.state = .failed :=
      ((s.advance dt).opening n).sheaveSlack_iff
    simp only [State.flagged_frame, State.raise_frame]
    refine ⟨rfl, hdropped, ?_, fun r hr => State.raise_run_of_some hr, ⟨fun hno hrope => ?_, fun hesc => ?_⟩, rfl, rfl, rfl, rfl, rfl⟩
    · cases htrip : s.sup.trip with
      | none =>
        have hnew := State.raise_trip_of_none (s := (s.advance dt).opening n) (c := .estop n) htrip
        generalize ((s.advance dt).opening n).lastFigures = v at hnew
        exact ⟨_, hnew, fun _ => ⟨rfl, rfl⟩, fun y hy => nomatch hy⟩
      | some y =>
        refine ⟨_, State.raise_trip_of_some (s := (s.advance dt).opening n) htrip, nofun, fun y' hy' => ?_⟩
        obtain rfl := Option.some.inj hy'
        exact ⟨(TripRec.same_escalateAll _ _).cause, by rw [TripRec.escalateAll_later, satInc_eq]⟩
    · have hnone : ((s.advance dt).opening n).found (.estop n) = [] := by
        rw [hfound, if_neg (fun h => hno (hslack.1 h)), if_neg (by rw [show ((s.advance dt).opening n).trk.stretch = false from hrope]; simp)]
        rfl
      have hwatch := ((s.advance dt).opening n).raise_watch (.estop n)
      rw [if_pos hnone] at hwatch
      refine ⟨fun w hw => ?_, fun e hw he => ?_, State.raise_track_of_none _ hnone, fun x htrip hx => ?_⟩
      · rw [hwatch, show ((s.advance dt).opening n).brk.watch = some w from hw]
        rfl
      · have hlast : ((s.advance dt).opening n).lastFigures.v = e.v := by
          have he' : ((s.advance dt).opening n).sup.band.last = some e := he
          simp only [State.lastFigures, he']
        refine ⟨s.aTest, ?_, fun env henv => ?_, fun tb henv htb => ?_, fun henv htb => ?_⟩
        · rw [hwatch, show ((s.advance dt).opening n).brk.watch = none from hw, hlast]
          rfl
        · simp only [State.aTest, henv]
        · simp only [State.aTest, henv, htb]
        · simp only [State.aTest, henv, htb]
      · rw [State.raise_trip_of_none (s := (s.advance dt).opening n) htrip, hnone] at hx
        obtain rfl := Option.some.inj hx
        exact ⟨rfl, rfl⟩
    · have hsome : ((s.advance dt).opening n).found (.estop n) ≠ [] := by
        rw [hfound]
        rcases hesc with hs | hrope
        · rw [if_pos (hslack.2 hs)]
          exact List.cons_ne_nil _ _
        · rw [if_pos (show ((s.advance dt).opening n).trk.stretch = true from hrope)]
          exact List.append_ne_nil_of_right_ne_nil _ (List.cons_ne_nil _ _)
      refine ⟨?_, State.raise_cmd _ hsome, fun x hx => ⟨State.raise_highest hsome hx, fun htrip => ?_⟩⟩
      · rw [State.raise_watch, if_neg hsome]
      · rw [State.raise_trip_of_none (s := (s.advance dt).opening n) htrip] at hx
        obtain rfl := Option.some.inj hx
        refine ⟨by simpa using hsome, ?_⟩
        rw [hfound]
        by_cases hs : s.brk.ebr = false ∧ s.brk.sheave.state = .failed
        · rw [if_pos hs, if_pos (hslack.2 hs)]
          rfl
        · rw [if_neg hs, if_neg (fun h => hs (hslack.1 h)),
            if_pos (show ((s.advance dt).opening n).trk.stretch = true from hesc.resolve_left hs)]
          rfl
  · refine exec_ended_of_eq ?_
    have hrest' : ¬((s.advance dt).opening n).carsMoving = true := by rw [show ((s.advance dt).opening n).carsMoving = false from hrest]; simp
    rw [effect, State.estopChange_opens (s := s.advance dt) hclosed, State.loopOpens, if_neg hrest',
      State.closePlanned_of_not_planned (s := (s.advance dt).opening n) hno]
    rfl
  · have heff : effect (.estopChange dt n false) s = ((s.advance dt).opening n).closeRun r .cancelled .estop none := by
      have hrest' : ¬((s.advance dt).opening n).carsMoving = true := by
        rw [show ((s.advance dt).opening n).carsMoving = false from hrest]; simp
      rw [effect, State.estopChange_opens (s := s.advance dt) hclosed, State.loopOpens, if_neg hrest',
        State.closePlanned_of_planned (s := (s.advance dt).opening n) hr hst]
    refine ⟨_, exec_transmit_of_eq heff, ?_⟩
    simp [State.opening]

/-! ### CLEAR_TRIP and RELEASE_TRACK_BRAKES -/

theorem State.clearTrip_refused {x : Reason} (h : s.clearTripRefusal = some x) : s.clearTrip = (s, .reason x) := by
  simp only [State.clearTrip, h]

theorem State.clearTrip_cleared {x : TripRec} (h : s.clearTripRefusal = none) (hx : s.sup.trip = some x) :
    s.clearTrip = (s.tripCleared x.cause, ⟨.done, []⟩) := by
  simp only [State.clearTrip, h, hx]
  rfl

/-- The state in which a cleared trip's run closes. -/
def State.clearing (s : State) : State :=
  { s with sup := { s.sup with trip := none }, brk := { s.brk with watch := none } }

theorem State.closeTripped_of_tripped {r : Run} (hr : s.plan.run = some r) (hst : r.state = .tripped) (c : Cause) :
    s.closeTripped c = s.closeRun r .tripped (.emergency c) none := by
  simp only [State.closeTripped, hr, if_pos hst]

theorem State.closeTripped_of_idle (h : s.plan.run = none) (c : Cause) : s.closeTripped c = s := by
  simp only [State.closeTripped, h]

@[simp] theorem State.closeTripped_brk (s : State) (c : Cause) : (s.closeTripped c).brk = s.brk := by simp

theorem State.tripCleared_eq (s : State) (c : Cause) :
    s.tripCleared c = (((s.clearing.closeTripped c).dropEnvelope).handOver .tripValid false).notice .trip 3 [] := rfl

theorem TrackRec.toRelease_iff (r : TrackRec) : r.toRelease = true ↔ r.cmd = .apply ∨
    r.state ∈ [some BrakeState.applied, some .applying, some .failed] := by
  simp [TrackRec.toRelease, or_assoc]

theorem State.mem_carsToRelease (s : State) (c : Car) : c ∈ s.carsToRelease ↔ (s.brk.track.get c).toRelease = true := by
  cases c <;> simp [State.carsToRelease]

/-- Each of the cars named has its track brake commanded RELEASE. -/
theorem State.releaseTrack_get (s : State) (cs : List Car) (c : Car) : (s.releaseTrack cs).brk.track.get c =
    if c ∈ cs then ⟨.release, some .releasing, some s.now⟩ else s.brk.track.get c := by
  have hfold : ∀ (cs : List Car) (u : State),
      (cs.foldl (fun (s : State) c => s.setTrack c ⟨.release, some .releasing, some s.now⟩) u).brk.track.get c =
        if c ∈ cs then ⟨.release, some .releasing, some u.now⟩ else u.brk.track.get c := by
    intro cs
    induction cs with
    | nil => intro u; simp
    | cons d ds ih =>
      intro u
      rw [List.foldl_cons, ih]
      simp only [State.setTrack_track, State.setTrack_frame, PerCar.get_set, List.mem_cons]
      by_cases hmem : c ∈ ds
      · simp [hmem]
      · simp [hmem]
  have hcond : (s.releaseTrack cs).brk =
      (cs.foldl (fun (s : State) c => s.setTrack c ⟨.release, some .releasing, some s.now⟩) s).brk := by
    simp [State.releaseTrack]
  rw [hcond]
  exact hfold cs s

theorem State.releaseTrack_condition (s : State) (cs : List Car) :
    (s.releaseTrack cs).line.conds.trackBrake = (s.releaseTrack cs).brk.trackAlarm := by
  simp [State.releaseTrack, State.trackCondition, Conditions.put]

/-- Settles O43: both requests by the first refusal that applies. -/
theorem tripsAreCleared : Obligations.TripsAreCleared := by
  refine ⟨fun h s ht => ?_, fun h s ht => ?_⟩
  · have hrefused : ∀ x, (s.advance h.dt).clearTripRefusal = some x →
        exec (.clearTrip h) s = answered s h (s.advance h.dt) (.reason x) := fun x hx =>
      exec_taken_of_eq (r := .clearTrip) rfl ht (State.clearTrip_refused hx)
    refine ⟨fun hnone => hrefused .noTrip (by simp [State.clearTripRefusal, hnone]), fun x hx => ?_⟩
    refine ⟨fun hstill => hrefused .motion (by simp [State.clearTripRefusal, hx, hstill]),
      fun hstill hboth => hrefused .brakes (by simp [State.clearTripRefusal, hx, hstill, hboth]),
      fun hstill hboth hten => hrefused .torque (by simp [State.clearTripRefusal, hx, hstill, hboth, hten]),
      fun hstill hboth hten => ?_⟩
    have hdone := State.clearTrip_cleared (s := s.advance h.dt) (by simp [State.clearTripRefusal, hx, hstill, hboth, hten]) hx
    refine ⟨_, exec_taken_transmit (r := .clearTrip) rfl ht hdone, ?_⟩
    simp only [State.flagged_frame, State.replied_frame]
    refine ⟨?_, ?_, ?_, ?_, fun r hr hst => ?_, fun hrun => ?_, State.replied_ctl ?_ _ _, ?_⟩
    · simp [State.tripCleared_eq, State.dropEnvelope, State.clearing]
    · simp [State.tripCleared_eq, State.dropEnvelope]
    · simp [State.tripCleared_eq, State.dropEnvelope, State.clearing]
    · simp [State.tripCleared_eq, Conditions.put]
    · have hr' : (s.advance h.dt).clearing.plan.run = some r := hr
      simp only [State.tripCleared_eq, State.closeTripped_of_tripped hr' hst]
      simp [State.dropEnvelope]
    · have hrun' : (s.advance h.dt).clearing.plan.run = none := hrun
      simp only [State.tripCleared_eq, State.closeTripped_of_idle hrun']
      simp [State.dropEnvelope, State.clearing]
    · simp [State.tripCleared_eq, State.dropEnvelope, State.clearing]
    · simp [State.tripCleared_eq, State.dropEnvelope, State.clearing]
  · have hrefused : ∀ x, (s.advance h.dt).releaseRefusal = some x →
        exec (.releaseTrackBrakes h) s = answered s h (s.advance h.dt) (.reason x) := fun x hx =>
      exec_taken_of_eq (r := .releaseTrackBrakes) rfl ht (by simp only [Request.owner, State.releaseTrackBrakes, hx])
    have hdue : ∀ c, c ∈ s.carsToRelease ↔ (s.brk.track.get c).cmd = .apply ∨
        (s.brk.track.get c).state ∈ [some BrakeState.applied, some .applying, some .failed] := fun c =>
      (s.mem_carsToRelease c).trans (TrackRec.toRelease_iff _)
    have hlinks : s.carsToRelease.any (fun c => (s.links.get c).state != .live) = true ↔
        ∃ c, c ∈ s.carsToRelease ∧ (s.links.get c).state ≠ .live := by simp
    have hcars : (s.advance h.dt).carsToRelease = s.carsToRelease := rfl
    simp only [← hdue]
    refine ⟨fun hkey => hrefused .key (by simp [State.releaseRefusal, hkey]),
      fun hkey hstill => hrefused .motion (by simp [State.releaseRefusal, hkey, hstill]),
      fun hkey hstill htrip => hrefused .trip (by simp [State.releaseRefusal, hkey, hstill, htrip]),
      fun hkey hstill htrip hdead => hrefused .link ?_, fun hkey hstill htrip hlive => ?_⟩
    · simp only [State.releaseRefusal, hcars]
      simp [hkey, hstill, htrip, hdead]
    · have hnone : ¬s.carsToRelease.any (fun c => (s.links.get c).state != .live) = true := by
        rw [hlinks]
        rintro ⟨c, hc, hne⟩
        exact hne (hlive c hc)
      have hrefusal : (s.advance h.dt).releaseRefusal = none := by
        simp only [State.releaseRefusal, hcars]
        simp [hkey, hstill, htrip]
        exact hlive
      have hdone : (s.advance h.dt).releaseTrackBrakes = ((s.advance h.dt).releaseTrack s.carsToRelease,
          ⟨.done, listF (fun c : Car => [.code c.code]) s.carsToRelease⟩) := by
        simp only [State.releaseTrackBrakes, hrefusal]
        rfl
      refine ⟨_, exec_taken_transmit (r := .releaseTrackBrakes) rfl ht hdone, ?_⟩
      simp only [State.flagged_frame, State.replied_frame]
      refine ⟨fun c hc => ?_, fun c hc => ?_, ⟨_, State.replied_ctl ?_ _ _⟩, State.releaseTrack_condition _ _, ?_⟩
      · rw [State.releaseTrack_get, if_pos hc]
        rfl
      · rw [State.releaseTrack_get, if_neg hc]
        rfl
      · simp
      · simp

/-! ### A start that fails -/

/-- The state in which a failed start goes back: the condition of R73 is handed over with reason DRIVE. -/
def State.failing (s : State) (f : StartFail) : State := if f = .drive then s.handOver .driveStart true else s

@[simp] theorem State.failing_frame (s : State) (f : StartFail) :
    (s.failing f).now = s.now ∧ (s.failing f).geo = s.geo ∧ (s.failing f).trk = s.trk ∧ (s.failing f).sup = s.sup ∧
      (s.failing f).plan = s.plan ∧ (s.failing f).brk = s.brk ∧ (s.failing f).doors = s.doors ∧
      (s.failing f).gates = s.gates ∧ (s.failing f).tally = s.tally ∧ (s.failing f).links = s.links ∧
      (s.failing f).drive = s.drive ∧ (s.failing f).ctl = s.ctl ∧ (s.failing f).line.mode = s.line.mode := by
  unfold State.failing
  split <;> simp

theorem State.failing_conds (s : State) (f : StartFail) :
    (s.failing f).line.conds = if f = .drive then { s.line.conds with driveStart := true } else s.line.conds := by
  unfold State.failing
  split <;> rfl

theorem State.startFailed_cancelled {r : Run} {f : StartFail} (hr : s.plan.run = some r) (hst : r.state = .starting)
    (hcancel : r.pendingStop = some .cancel) : s.startFailed f =
      ((s.failing f).notice .run 0 (runBody r r.state.code r.state.code { RunWhy.none with fail := some f })).closeRun
        r .cancelled .cancelRequest none := by
  simp only [State.startFailed, hr, if_pos hst, if_pos hcancel]
  rfl

theorem State.startFailed_resumed {r : Run} {f : StartFail} {l : LeftHold} (hr : s.plan.run = some r) (hst : r.state = .starting)
    (hcancel : r.pendingStop ≠ some .cancel) (hl : r.leaving = some l) :
    s.startFailed f = (s.failing f).backToHolding r l f := by
  simp only [State.startFailed, hr, if_pos hst, if_neg hcancel, hl]
  rfl

theorem State.startFailed_planned {r : Run} {f : StartFail} (hr : s.plan.run = some r) (hst : r.state = .starting)
    (hcancel : r.pendingStop ≠ some .cancel) (hl : r.leaving = none) :
    s.startFailed f = (s.failing f).backToPlanned r f := by
  simp only [State.startFailed, hr, if_pos hst, if_neg hcancel, hl]
  rfl

theorem State.backToHolding_spec (s : State) (r : Run) (l : LeftHold) (f : StartFail) :
    (s.backToHolding r l f).plan = { s.plan with run := some { r with
      state := .holding, holdCause := l.cause, resumeTarget := l.resumeTarget, stop := l.stop, releaseTime := none,
      pendingStop := none, leaving := none } } ∧
      (s.backToHolding r l f).sup = s.sup ∧ (s.backToHolding r l f).tally = s.tally ∧ (s.backToHolding r l f).line = s.line := by
  refine ⟨?_, ?_, ?_, ?_⟩
  · simp only [State.backToHolding, State.enterRun_plan]
  · simp [State.backToHolding]
  · simp only [State.backToHolding, State.enterRun_tally]
  · simp only [State.backToHolding, State.enterRun_line]

theorem State.backToPlanned_spec (s : State) (r : Run) (f : StartFail) :
    (s.backToPlanned r f).plan.run = some { r with state := .planned, planTime := s.now, dyn := none, pendingStop := none } ∧
      (s.backToPlanned r f).sup.env = none ∧ (∀ c : Car, ((s.backToPlanned r f).tally.get c).frozen = none) ∧
      ∃ x, (s.backToPlanned r f).line.conds = { s.line.conds with excess := x } := by
  obtain ⟨x, hx⟩ := s.warningExit.dropEnvelope.unfreeze_conds
  refine ⟨?_, ?_, fun c => ?_, x, ?_⟩
  · simp [State.backToPlanned, State.enterRun_plan]
  · simp [State.backToPlanned, State.dropEnvelope]
  · simp only [State.backToPlanned, State.enterRun_tally]
    simp
  · simp only [State.backToPlanned, State.enterRun_line, hx]
    simp [State.dropEnvelope]

/-- What a failed start makes of the run, by what the run had before. -/
theorem State.startFailed_spec {r : Run} (f : StartFail) (hr : s.plan.run = some r) (hst : r.state = .starting) :
    (r.pendingStop = some .cancel → (s.startFailed f).plan.run = none ∧
      (s.startFailed f).plan.lastRun = some ⟨r.id, r.target, .cancelled, .cancelRequest, none⟩) ∧
    (r.pendingStop ≠ some .cancel → r.leaving = none →
      (s.startFailed f).plan.run = some { r with state := .planned, planTime := s.now, dyn := none, pendingStop := none } ∧
        (s.startFailed f).sup.env = none ∧ ∀ c : Car, ((s.startFailed f).tally.get c).frozen = none) ∧
    (∀ l, r.pendingStop ≠ some .cancel → r.leaving = some l →
      (s.startFailed f).plan.run = some { r with
        state := .holding, holdCause := l.cause, resumeTarget := l.resumeTarget, stop := l.stop, releaseTime := none,
        pendingStop := none, leaving := none } ∧
      (s.startFailed f).sup = s.sup ∧ (s.startFailed f).tally = s.tally) ∧
    (s.startFailed f).line.conds.driveStart = (if f = .drive then true else s.line.conds.driveStart) := by
  have hdrive : (s.failing f).line.conds.driveStart = (if f = .drive then true else s.line.conds.driveStart) := by
    rw [State.failing_conds]
    split <;> rfl
  refine ⟨fun hcancel => ?_, fun hcancel hl => ?_, fun l hcancel hl => ?_, ?_⟩
  · rw [State.startFailed_cancelled hr hst hcancel]
    simp
  · rw [State.startFailed_planned hr hst hcancel hl]
    obtain ⟨hrun, henv, hfrozen, -⟩ := (s.failing f).backToPlanned_spec r f
    exact ⟨by simp [hrun], henv, hfrozen⟩
  · rw [State.startFailed_resumed hr hst hcancel hl]
    obtain ⟨hplan, -, htally, -⟩ := (s.failing f).backToHolding_spec r l f
    exact ⟨by rw [hplan], by simp, by simp [htally]⟩
  · rw [← hdrive]
    by_cases hcancel : r.pendingStop = some .cancel
    · rw [State.startFailed_cancelled hr hst hcancel]
      obtain ⟨x, hx⟩ := ((s.failing f).notice .run 0 (runBody r r.state.code r.state.code { RunWhy.none with fail := some f })).closeRun_conds
        r .cancelled .cancelRequest none
      rw [hx]
      simp
    · cases hl : r.leaving with
      | none =>
        rw [State.startFailed_planned hr hst hcancel hl]
        obtain ⟨-, -, -, x, hx⟩ := (s.failing f).backToPlanned_spec r f
        rw [hx]
      | some l =>
        rw [State.startFailed_resumed hr hst hcancel hl]
        obtain ⟨-, -, -, hline⟩ := (s.failing f).backToHolding_spec r l f
        rw [hline]

theorem due_some (span : Nat) (t now : Time) : due span (some t) now = true ↔ span ≤ elapsed t now := decide_eq_true_iff

/-- Settles O41: the timer due in TORQUE_WAIT fails the start, and nothing else does. -/
theorem torqueTimeoutFailsStart : Obligations.TorqueTimeoutFailsStart := by
  have hspan : torqueSpan = 2000 := rfl
  refine ⟨fun dt s hno => exec_ended_of_eq (if_neg ?_), fun dt r t0 s hr hst ht0 => ?_⟩
  · rintro ⟨hseq, hdue⟩
    rcases hno with hnone | hne
    · rw [show (s.advance dt).brk.torque = none from hnone] at hdue
      cases hdue
    · exact hne hseq
  have hdue : due torqueSpan (s.advance dt).brk.torque (s.advance dt).now = true ↔ 2000 ≤ elapsed t0 (s.now + dt) := by
    rw [show (s.advance dt).brk.torque = some t0 from ht0, due_some, hspan]
    rfl
  refine ⟨fun hseq hold => ?_, fun hno => exec_ended_of_eq (if_neg ?_)⟩
  · have heff : effect (.torqueTimeout dt) s = (s.advance dt).tenOff.startFailed .drive := if_pos ⟨hseq, hdue.2 hold⟩
    obtain ⟨hcancel, hplanned, hresumed, hdrive⟩ := State.startFailed_spec (s := (s.advance dt).tenOff) .drive (by simpa using hr) hst
    refine ⟨_, exec_transmit_of_eq heff, ?_⟩
    simp only [State.flagged_frame, State.startFailed_frame, State.tenOff_frame] at hcancel hplanned hresumed hdrive ⊢
    exact ⟨rfl, rfl, rfl, rfl, rfl, hdrive, rfl, rfl, hcancel, hplanned, hresumed, rfl, rfl, rfl, rfl, rfl⟩
  · rintro ⟨hseq, hold⟩
    have := hdue.1 hold
    rcases hno with hne | hearly
    · exact hne hseq
    · omega

end Machine
end Sys2Proof
end

section
/-! PROOFS. START_RUN and RESUME_RUN: the refusals in their order, the run that is planned, and the run that starts again. -/

namespace Sys2Proof
namespace Machine

variable {s : State}

/-! ### What the refusals read -/

theorem Mode.runs_iff (m : Mode) : m.runs = true ↔ m = .automatic ∨ m = .recovery := by cases m <;> simp [Mode.runs]

theorem Confidence.noRuns_iff (c : Confidence) : c.noRuns = true ↔ c = .unknown ∨ c = .lost := by
  cases c <;> simp [Confidence.noRuns]

/-- An e-stop loop is open unless all four are closed. -/
theorem LineStatus.estop_iff (l : LineStatus) : l.estop = true ↔ l.loops ≠ Quad.const true := by
  rcases hq : l.loops with ⟨a, b, c, d⟩
  simp only [LineStatus.estop, hq, Quad.toList, Quad.const]
  revert a b c d
  simp

theorem Geometry.committed_of_halt? {g : Geometry} {n : Nat} {x : HaltInfo} (h : g.halt? n = some x) :
    ∃ tb, g.committed = some tb := by
  unfold Geometry.halt? at h
  split at h
  · cases h
  next tb htb => exact ⟨tb, htb⟩

/-! ### START_RUN -/

theorem State.startRun_mode {n v : Nat} (h : ¬s.line.mode.runs = true) : s.startRun n v = (s, ⟨.mode, []⟩) := by
  simp only [State.startRun, if_pos (by simpa using h : (!s.line.mode.runs) = true)]
  rfl

theorem State.startRun_busy {n v : Nat} (h : s.line.mode.runs = true) (hr : s.plan.run.isSome = true) :
    s.startRun n v = (s, ⟨.state, [.code 1]⟩) := by
  simp only [State.startRun, h, hr, Bool.not_true, Bool.false_eq_true, if_false, if_true]
  rfl

theorem State.startRun_noHalt {n v : Nat} (h : s.line.mode.runs = true) (hr : s.plan.run = none) (hx : s.geo.halt? n = none) :
    s.startRun n v = (s, ⟨.target, []⟩) := by
  simp only [State.startRun, h, hr, hx, Bool.not_true, Bool.false_eq_true, if_false, Option.isSome_none]
  cases s.geo.committed <;> rfl

/-- START_RUN to a halt of the table, with no run: the refusal that applies first, or the run accepted. -/
theorem State.startRun_halt {n v : Nat} {tb : Tables} {x : HaltInfo} (h : s.line.mode.runs = true) (hr : s.plan.run = none)
    (htb : s.geo.committed = some tb) (hx : s.geo.halt? n = some x) : s.startRun n v =
      match s.startRefusal tb x.pA with
      | some y => (s, y)
      | none => (s.acceptRun (s.plannedRun n v x.pA), .accepted [.num (s.plannedRun n v x.pA).id,
          .code (s.plannedRun n v x.pA).dir.code, .speed (s.plannedRun n v x.pA).cruise,
          .accel (s.provisional tb x.pA).aGuar]) := by
  simp only [State.startRun, h, hr, htb, hx, Bool.not_true, Bool.false_eq_true, if_false, Option.isSome_none] <;> rfl

section
variable {tb : Tables} {p : Int}

theorem State.startRefusal_near (h : (s.trk.xA - p).natAbs ≤ 300) : s.startRefusal tb p = some ⟨.target, []⟩ :=
  if_pos ((within_iff _ _).2 h)

variable (hfar : 300 < (s.trk.xA - p).natAbs)
include hfar

theorem State.startRefusal_far : s.startRefusal tb p =
    (if s.trk.conf.noRuns then some s.positionReply
    else if s.sup.trip.isSome then some (.reason .trip)
    else if s.line.estop then some (.reason .estop)
    else if !s.brk.trackClear then some (.reason .brakes)
    else if (s.provisional tb p).aGuar < tb.braking.aMin then some (marginReply (s.provisional tb p).aGuar)
    else none) :=
  if_neg (fun h => absurd ((within_iff _ _).1 h) (by omega))

theorem State.startRefusal_unplaced (h : s.trk.conf.noRuns = true) :
    s.startRefusal tb p = some ⟨.position, [.code s.trk.conf.code]⟩ := by
  rw [State.startRefusal_far hfar, if_pos h]
  rfl

variable (hplaced : ¬s.trk.conf.noRuns = true)
include hplaced

theorem State.startRefusal_tripped (h : s.sup.trip.isSome = true) : s.startRefusal tb p = some ⟨.state, [.code 5]⟩ := by
  rw [State.startRefusal_far hfar, if_neg hplaced, if_pos h]
  rfl

variable (hsound : ¬s.sup.trip.isSome = true)
include hsound

theorem State.startRefusal_looped (h : s.line.estop = true) : s.startRefusal tb p = some ⟨.state, [.code 6]⟩ := by
  rw [State.startRefusal_far hfar, if_neg hplaced, if_neg hsound, if_pos h]
  rfl

variable (hclosed : ¬s.line.estop = true)
include hclosed

theorem State.startRefusal_braked (h : s.brk.trackClear = false) : s.startRefusal tb p = some ⟨.state, [.code 7]⟩ := by
  rw [State.startRefusal_far hfar, if_neg hplaced, if_neg hsound, if_neg hclosed, h]
  rfl

theorem State.startRefusal_free (h : s.brk.trackClear = true) : s.startRefusal tb p =
    if (s.provisional tb p).aGuar < tb.braking.aMin then some (marginReply (s.provisional tb p).aGuar) else none := by
  rw [State.startRefusal_far hfar, if_neg hplaced, if_neg hsound, if_neg hclosed, h]
  rfl

end

/-- Every door is commanded LOCK as a run leaves IDLE, and is otherwise reported and isolated as it was. -/
theorem DoorRec.leaveIdle_spec (d : DoorRec) (now : Time) :
    (d.leaveIdle now).release = false ∧ (d.leaveIdle now).reported = d.reported ∧ (d.leaveIdle now).isolated = d.isolated := by
  refine ⟨d.leaveIdle_release now, ?_, ?_⟩ <;> unfold DoorRec.leaveIdle DoorRec.lock DoorRec.withdraw <;> (repeat' split) <;> rfl

theorem State.acceptRun_door (s : State) (r : Run) (d : Door) :
    (s.acceptRun r).doors.door d = (s.doors.door d).leaveIdle s.now := by
  simp [State.acceptRun, State.lockForRun]

theorem State.acceptRun_plan (s : State) (r : Run) :
    (s.acceptRun r).plan = { s.plan with run := some r, nextId := nextRunId s.plan.nextId } := by
  simp [State.acceptRun, State.enterRun_plan]

theorem State.acceptRun_tally (s : State) (r : Run) : (s.acceptRun r).tally = s.tally := by
  simp [State.acceptRun, State.enterRun_tally]

theorem State.acceptRun_conds (s : State) (r : Run) : (s.acceptRun r).line.conds = s.line.conds := by
  simp [State.acceptRun, State.enterRun_line]

theorem Dir.code_eq (x p : Int) : (if x < p then Dir.up else Dir.down).code = if x < p then 0 else 1 := by
  split <;> rfl

/-- Settles O32: the refusals in the order of R67, and the run that none meets. -/
theorem startRunPlansRun : Obligations.StartRunPlansRun := by
  refine ⟨fun h n v s ht => ?_, fun h n v tb x s ht hmode hrun htb hx hfar hplaced hfound htrip hloops hclear => ?_⟩
  · intro refused runs
    have hrefused : ∀ y, (s.advance h.dt).startRun n v = (s.advance h.dt, y) → refused y := fun y hy =>
      exec_taken_of_eq (r := .startRun n v) rfl ht hy
    have hruns : (s.advance h.dt).line.mode.runs = true ↔ runs := Mode.runs_iff s.line.mode
    refine ⟨fun hno => hrefused _ (State.startRun_mode (fun hm => hno (hruns.1 hm))),
      fun hm hr => hrefused _ (State.startRun_busy (hruns.2 hm) hr),
      fun hm hr hx => hrefused _ (State.startRun_noHalt (hruns.2 hm) hr hx), fun x hm hr hx => ?_⟩
    obtain ⟨tb, htb⟩ := Geometry.committed_of_halt? hx
    have hstart := State.startRun_halt (s := s.advance h.dt) (v := v) (hruns.2 hm) hr htb hx
    have hrefusal : ∀ y, (s.advance h.dt).startRefusal tb x.pA = some y → refused y := fun y hy =>
      hrefused y (by rw [hstart, hy])
    have hplaced' : ∀ {c : Confidence}, (c ≠ .unknown ∧ c ≠ .lost) ↔ ¬c.noRuns = true := by
      intro c
      rw [Confidence.noRuns_iff, not_or]
    have hnotrip : s.sup.trip = none → ¬(s.advance h.dt).sup.trip.isSome = true := fun hnone => by
      show ¬s.sup.trip.isSome = true
      simp [hnone]
    have hestop := LineStatus.estop_iff (s.advance h.dt).line
    intro far placed closed
    refine ⟨fun hnear => hrefusal _ (State.startRefusal_near (by simpa [far] using hnear)),
      fun hfar hno => hrefusal _ (State.startRefusal_unplaced hfar (not_not.1 (fun h => hno (hplaced'.2 h)))),
      fun hfar hp htrip => hrefusal _ (State.startRefusal_tripped hfar (hplaced'.1 hp) htrip),
      fun hfar hp htrip hno => hrefusal _ (State.startRefusal_looped hfar (hplaced'.1 hp) (hnotrip htrip) (hestop.2 hno)),
      fun hfar hp htrip hc hbrk => hrefusal _ (State.startRefusal_braked hfar (hplaced'.1 hp) (hnotrip htrip)
        (fun h => hestop.1 h hc) hbrk), fun tb' hfar hp htrip hc hbrk htb' => ?_⟩
    intro dir a hlow
    obtain rfl : tb' = tb := Option.some.inj (htb'.symm.trans htb)
    refine hrefusal _ ?_
    rw [State.startRefusal_free (s := s.advance h.dt) hfar (hplaced'.1 hp) (hnotrip htrip) (fun h => hestop.1 h hc) hbrk]
    exact if_pos hlow
  · intro dir a hmargin
    have hrefusal : (s.advance h.dt).startRefusal tb x.pA = none := by
      rw [State.startRefusal_free (s := s.advance h.dt) hfar (by rw [Confidence.noRuns_iff, not_or]; exact ⟨hplaced, hfound⟩)
        (by rw [show (s.advance h.dt).sup.trip = none from htrip]; simp)
        (by rw [LineStatus.estop_iff, not_not]; exact hloops) hclear]
      exact if_neg (not_lt.2 hmargin)
    have hcruise : (s.advance h.dt).cruiseFor v = formCruise tb.line.maxCruise s.trk.conf s.line.mode v := by
      have htb' : (s.advance h.dt).geo.committed = some tb := htb
      simp only [State.cruiseFor, htb']
      rfl
    have hstart := State.startRun_halt (s := s.advance h.dt) (v := v) ((Mode.runs_iff _).2 hmode) hrun htb hx
    rw [hrefusal] at hstart
    refine ⟨_, exec_taken_transmit (r := .startRun n v) rfl ht hstart, ?_⟩
    simp only [State.flagged_frame, State.replied_frame, State.acceptRun_plan, State.acceptRun_tally, State.acceptRun_conds,
      State.acceptRun_door, State.acceptRun_frame]
    refine ⟨?_, rfl, fun d => DoorRec.leaveIdle_spec _ _, ?_, rfl, rfl, rfl, rfl, rfl, rfl, rfl, rfl, rfl, rfl, rfl, rfl⟩
    · simp only [State.plannedRun, hcruise]
      rfl
    · rw [State.replied_ctl (v := s.advance h.dt) (by simp) _ _]
      simp only [State.plannedRun, hcruise, State.directionTo, Dir.code_eq]
      rfl

end Machine
end Sys2Proof
end

section
/-! PROOFS. The release of doors (R120 to R123, R166): which doors of a list that names them compartment by compartment are
granted, the side each car holds then, and what the tally takes. RELEASE_DOORS and RESUME_RUN are settled by it. -/

namespace Sys2Proof
namespace Machine

variable {s : State}

/-! ### One door -/

/-- The release side of the zone in which a door stands. -/
def State.doorSide (s : State) (x : Door) : Option Side := (s.geo.zone (s.doorPos x)).side

/-- A door not released meets every condition of R121 but for the held side. -/
def State.mayOpen (s : State) (x : Door) : Prop :=
  (s.doors.door x).release = false ∧ s.mayRelease x ∧ (s.doorSide x).isSome = true

/-- The door is granted: its car holds no side, or that of the door's zone. -/
def State.grants (s : State) (x : Door) : Prop :=
  s.mayOpen x ∧ (s.doors.side.get x.car = none ∨ s.doors.side.get x.car = s.doorSide x)

/-- The load record of a car at a release event (R166). -/
def Load.releasing (l : Load) : Load :=
  { l with
    released := l.released || l.window.isSome, departure := none
    excess := if l.departure.isSome then false else l.excess
    short := if l.departure.isSome then false else l.short }

theorem Load.releasing_releasing (l : Load) : l.releasing.releasing = l.releasing := by
  simp [Load.releasing]

theorem State.releaseEvent_tally (s : State) (c : Car) :
    (s.releaseEvent c).tally = s.tally.set c (s.tally.get c).releasing := by
  simp only [State.releaseEvent]
  split
  next h => simp [h, Load.releasing, Load.discard]
  next h =>
    have hnone : (s.tally.get c).departure = none := by simpa using h
    rw [State.setLoad_tally]
    simp only [Load.releasing, hnone, Option.isSome_none, Bool.false_eq_true, if_false]

theorem State.decideDoor_of_grants {x : Door} (h : s.grants x) :
    ∃ n side, s.doorSide x = some side ∧ s.decideDoor x = .granted n side := by
  obtain ⟨⟨hrel, ⟨hrun, hstill, hten, hlink, hstop, hiso, hzone⟩, hside⟩, hheld⟩ := h
  obtain ⟨side, hs⟩ := Option.isSome_iff_exists.1 hside
  have hstop' : s.line.atStop.isNone = false := by simp [Option.isNone_eq_false_iff, hstop]
  have hs' : (s.geo.zone (s.doorPos x)).side = some side := hs
  refine ⟨(s.geo.zone (s.doorPos x)).station, side, hs, ?_⟩
  simp only [State.decideDoor, hrel, hrun, hstill, hten, hlink, hstop', hiso, hzone, hs']
  rcases hheld with hnone | hsame
  · simp [hnone]
  · simp [hsame, hs]

theorem State.grants_of_granted {x : Door} {n : Nat} {side : Side} (h : s.decideDoor x = .granted n side) : s.grants x := by
  obtain ⟨hmay, hrel, -, hside, hheld⟩ := State.mayRelease_of_granted h
  have hside' : s.doorSide x = some side := hside
  exact ⟨⟨hrel, hmay, by rw [hside']; rfl⟩, by rw [hside']; exact hheld⟩

/-- A door that is granted is commanded RELEASE, its car holds the side of its zone, and the tally takes a release event. -/
theorem State.applyDecision_of_grants {x : Door} (h : s.grants x) :
    (s.applyDecision x (s.decideDoor x)).doors =
        { s.doors.put x (s.doors.door x).grant with side := s.doors.side.set x.car (s.doorSide x) } ∧
      (s.applyDecision x (s.decideDoor x)).tally = s.tally.set x.car (s.tally.get x.car).releasing := by
  obtain ⟨n, side, hside, hdec⟩ := State.decideDoor_of_grants h
  have hheld : some ((s.doors.side.get x.car).getD side) = s.doorSide x := by
    rcases h.2 with hnone | hsame
    · rw [hnone, hside]
      rfl
    · rw [hsame, hside]
      rfl
  rw [hdec]
  refine ⟨?_, ?_⟩
  · simp [State.applyDecision, hheld]
  · simp only [State.applyDecision, State.releaseEvent_tally]
    simp

theorem State.applyDecision_of_not_grants {x : Door} (h : ¬s.grants x) : s.applyDecision x (s.decideDoor x) = s := by
  cases hd : s.decideDoor x with
  | already => rfl
  | granted n side => exact absurd (State.grants_of_granted hd) h
  | refused r => rfl

theorem State.applyDecision_doorSide (s : State) (x y : Door) (d : Decision) :
    (s.applyDecision x d).doorSide y = s.doorSide y := by
  simp [State.doorSide, State.doorPos]

/-- The decision about a door leaves each other door's conditions as they were. -/
theorem State.applyDecision_mayOpen {x y : Door} (hxy : y ≠ x) :
    (s.applyDecision x (s.decideDoor x)).mayOpen y ↔ s.mayOpen y := by
  by_cases h : s.grants x
  · obtain ⟨hdoors, -⟩ := State.applyDecision_of_grants h
    have hdoor : (s.applyDecision x (s.decideDoor x)).doors.door y = s.doors.door y := by
      rw [hdoors]
      have hput := s.doors.door_put x y (s.doors.door x).grant
      rw [if_neg hxy] at hput
      exact hput
    simp only [State.mayOpen, State.mayRelease, State.applyDecision_doorSide, hdoor, State.applyDecision_frame, State.doorPos]
  · rw [State.applyDecision_of_not_grants h]

/-! ### A list of doors -/

/-- The doors of a car stand in the list in the order of their compartments, each once. -/
def ByCompartment (xs : List Door) : Prop := xs.Pairwise (fun x y => x.car = y.car → x.comp.index < y.comp.index)

theorem ByCompartment.ne {x y : Door} {xs : List Door} (h : ByCompartment (x :: xs)) (hy : y ∈ xs) : y ≠ x := by
  rintro rfl
  exact absurd ((List.pairwise_cons.1 h).1 y hy rfl) (lt_irrefl _)

theorem State.applyDecision_side {x : Door} {c : Car} (h : (s.doors.side.get c).isSome = true) :
    (s.applyDecision x (s.decideDoor x)).doors.side.get c = s.doors.side.get c := by
  by_cases hg : s.grants x
  · obtain ⟨hdoors, -⟩ := State.applyDecision_of_grants hg
    rw [hdoors, PerCar.get_set]
    split
    next hc =>
      subst hc
      rcases hg.2 with hnone | hsame
      · rw [hnone] at h
        cases h
      · exact hsame.symm
    · rfl
  · rw [State.applyDecision_of_not_grants hg]

/-- A side that a car holds stays. -/
theorem State.decideDoors_side (xs : List Door) : ∀ (s : State) {c : Car}, (s.doors.side.get c).isSome = true →
    (s.decideDoors xs).1.doors.side.get c = s.doors.side.get c := by
  induction xs with
  | nil => exact fun _ _ _ => rfl
  | cons x xs ih =>
    intro s c h
    have hstay := State.applyDecision_side (x := x) h
    exact (ih _ (by rw [hstay]; exact h)).trans hstay

/-- A door may be opened and finds its car with the side of its zone at the end: it was granted in its turn. -/
theorem State.grants_iff_held {x : Door} (xs : List Door) :
    s.grants x ↔ s.mayOpen x ∧
      ((s.applyDecision x (s.decideDoor x)).decideDoors xs).1.doors.side.get x.car = s.doorSide x := by
  constructor
  · intro h
    obtain ⟨hdoors, -⟩ := State.applyDecision_of_grants h
    have hside : (s.applyDecision x (s.decideDoor x)).doors.side.get x.car = s.doorSide x := by
      rw [hdoors, PerCar.get_set, if_pos rfl]
    exact ⟨h.1, (State.decideDoors_side xs _ (by rw [hside]; exact h.1.2.2)).trans hside⟩
  · rintro ⟨hmay, hheld⟩
    refine ⟨hmay, ?_⟩
    cases hs : s.doors.side.get x.car with
    | none => exact .inl rfl
    | some held =>
      have hstay := State.applyDecision_side (s := s) (x := x) (c := x.car) (by rw [hs]; rfl)
      rw [State.decideDoors_side xs _ (by rw [hstay, hs]; rfl), hstay, hs] at hheld
      exact .inr hheld

section
variable {xs : List Door}

/-- A door of the list is granted exactly when it may open and its car ends with the side of its zone. -/
def State.released (s : State) (xs : List Door) (x : Door) : Prop :=
  x ∈ xs ∧ s.mayOpen x ∧ (s.decideDoors xs).1.doors.side.get x.car = s.doorSide x

/-- The doors released of a list are the first, when it is granted, and those the rest releases after it. -/
theorem State.released_cons {x y : Door} (h : ByCompartment (x :: xs)) :
    s.released (x :: xs) y ↔ (y = x ∧ s.grants x) ∨ (s.applyDecision x (s.decideDoor x)).released xs y := by
  by_cases hyx : y = x
  · subst hyx
    have hnot : y ∉ xs := fun hy => h.ne hy rfl
    simp only [State.released, List.mem_cons, true_and, hnot, false_and, or_false]
    exact (State.grants_iff_held xs).symm
  · simp only [State.released, List.mem_cons, hyx, false_or, State.applyDecision_doorSide,
      State.applyDecision_mayOpen hyx, false_and]
    rfl

theorem State.applyDecision_door {x y : Door} (hyx : y ≠ x) :
    (s.applyDecision x (s.decideDoor x)).doors.door y = s.doors.door y := by
  by_cases hg : s.grants x
  · rw [(State.applyDecision_of_grants hg).1]
    have hput := s.doors.door_put x y (s.doors.door x).grant
    rw [if_neg hyx] at hput
    exact hput
  · rw [State.applyDecision_of_not_grants hg]

theorem State.decideDoors_door_of_not_released (xs : List Door) : ∀ (s : State), ByCompartment xs → ∀ {y : Door},
    ¬s.released xs y → (s.decideDoors xs).1.doors.door y = s.doors.door y := by
  induction xs with
  | nil => exact fun _ _ _ _ => rfl
  | cons x xs ih =>
    intro s hxs y hy
    rw [State.released_cons hxs, not_or] at hy
    obtain ⟨hfirst, hrest⟩ := hy
    refine (ih _ (List.pairwise_cons.1 hxs).2 hrest).trans ?_
    by_cases hyx : y = x
    · rw [State.applyDecision_of_not_grants (fun hg => hfirst ⟨hyx, hg⟩)]
    · exact State.applyDecision_door hyx

theorem State.decideDoors_door_of_released (xs : List Door) : ∀ (s : State), ByCompartment xs → ∀ {y : Door},
    s.released xs y → (s.decideDoors xs).1.doors.door y = (s.doors.door y).grant := by
  induction xs with
  | nil => exact fun s _ y hy => absurd hy.1 (List.not_mem_nil)
  | cons x xs ih =>
    intro s hxs y hy
    have htail := (List.pairwise_cons.1 hxs).2
    rcases (State.released_cons hxs).1 hy with ⟨rfl, hg⟩ | hrest
    · have hnot : ¬(s.applyDecision y (s.decideDoor y)).released xs y := fun hr => hxs.ne hr.1 rfl
      refine (State.decideDoors_door_of_not_released xs _ htail hnot).trans ?_
      rw [(State.applyDecision_of_grants hg).1]
      have hput := s.doors.door_put y y (s.doors.door y).grant
      rw [if_pos rfl] at hput
      exact hput
    · exact (ih _ htail hrest).trans (congrArg DoorRec.grant (State.applyDecision_door (hxs.ne hrest.1)))

theorem State.applyDecision_tally (s : State) (x : Door) (c : Car) :
    (s.applyDecision x (s.decideDoor x)).tally.get c = s.tally.get c ∨
      (s.applyDecision x (s.decideDoor x)).tally.get c = (s.tally.get c).releasing := by
  by_cases hg : s.grants x
  · rw [(State.applyDecision_of_grants hg).2, PerCar.get_set]
    split
    next hc => exact .inr (by rw [hc])
    · exact .inl rfl
  · exact .inl (by rw [State.applyDecision_of_not_grants hg])

/-- Several release events of a car in one request are one. -/
theorem State.decideDoors_tally (xs : List Door) : ∀ (s : State) (c : Car), (s.decideDoors xs).1.tally.get c = s.tally.get c ∨
    (s.decideDoors xs).1.tally.get c = (s.tally.get c).releasing := by
  induction xs with
  | nil => exact fun _ _ => .inl rfl
  | cons x xs ih =>
    intro s c
    rcases ih (s.applyDecision x (s.decideDoor x)) c with h | h <;> rcases s.applyDecision_tally x c with h' | h'
    · exact .inl (h.trans h')
    · exact .inr (h.trans h')
    · exact .inr (h.trans (congrArg Load.releasing h'))
    · exact .inr (h.trans (by rw [h', Load.releasing_releasing]))

/-- A car with a door released has a release event in the tally; several are one. -/
theorem State.decideDoors_tally_of_released (xs : List Door) : ∀ (s : State), ByCompartment xs → ∀ {y : Door},
    s.released xs y → (s.decideDoors xs).1.tally.get y.car = (s.tally.get y.car).releasing := by
  induction xs with
  | nil => exact fun s _ y hy => absurd hy.1 (List.not_mem_nil)
  | cons x xs ih =>
    intro s hxs y hy
    rcases (State.released_cons hxs).1 hy with ⟨rfl, hg⟩ | hrest
    · have hfirst : (s.applyDecision y (s.decideDoor y)).tally.get y.car = (s.tally.get y.car).releasing := by
        rw [(State.applyDecision_of_grants hg).2, PerCar.get_set, if_pos rfl]
      rcases State.decideDoors_tally xs (s.applyDecision y (s.decideDoor y)) y.car with h | h
      · exact h.trans hfirst
      · exact h.trans (by rw [hfirst, Load.releasing_releasing])
    · refine (ih _ (List.pairwise_cons.1 hxs).2 hrest).trans ?_
      rcases s.applyDecision_tally x y.car with h | h
      · rw [h]
      · rw [h, Load.releasing_releasing]

/-- A car with no door released keeps its record and its side. -/
theorem State.decideDoors_car_of_none (xs : List Door) : ∀ (s : State), ByCompartment xs → ∀ {c : Car},
    (∀ y, y.car = c → ¬s.released xs y) → (s.decideDoors xs).1.tally.get c = s.tally.get c ∧
      (s.decideDoors xs).1.doors.side.get c = s.doors.side.get c := by
  induction xs with
  | nil => exact fun _ _ _ _ => ⟨rfl, rfl⟩
  | cons x xs ih =>
    intro s hxs c hnone
    have hrest := ih (s.applyDecision x (s.decideDoor x)) (List.pairwise_cons.1 hxs).2 (c := c)
      (fun y hy hr => hnone y hy ((State.released_cons hxs).2 (.inr hr)))
    have hfirst : (s.applyDecision x (s.decideDoor x)).tally.get c = s.tally.get c ∧
        (s.applyDecision x (s.decideDoor x)).doors.side.get c = s.doors.side.get c := by
      by_cases hg : s.grants x
      · have hc : c ≠ x.car := fun hc => hnone x hc.symm ((State.released_cons hxs).2 (.inl ⟨rfl, hg⟩))
        obtain ⟨hdoors, htally⟩ := State.applyDecision_of_grants hg
        rw [hdoors, htally]
        simp [hc]
      · rw [State.applyDecision_of_not_grants hg]
        exact ⟨rfl, rfl⟩
    exact ⟨hrest.1.trans hfirst.1, hrest.2.trans hfirst.2⟩

/-- The first door of a car that may open gives the car its side. -/
theorem State.decideDoors_side_first (xs : List Door) : ∀ (s : State), ByCompartment xs → ∀ {x : Door}, x ∈ xs →
    s.doors.side.get x.car = none → s.mayOpen x →
    (∀ y ∈ xs, y.car = x.car → y.comp.index < x.comp.index → ¬s.mayOpen y) →
    (s.decideDoors xs).1.doors.side.get x.car = s.doorSide x := by
  induction xs with
  | nil => exact fun s _ x hx => absurd hx (List.not_mem_nil)
  | cons z xs ih =>
    intro s hxs x hx hside hmay hfirst
    rcases List.mem_cons.1 hx with rfl | hx'
    · exact ((State.grants_iff_held xs).1 ⟨hmay, .inl hside⟩).2
    · obtain ⟨hz, htail⟩ := List.pairwise_cons.1 hxs
      have hxz := hxs.ne hx'
      have hside' : (s.applyDecision z (s.decideDoor z)).doors.side.get x.car = none := by
        by_cases hg : s.grants z
        · have hcar : x.car ≠ z.car := fun hc =>
            hfirst z List.mem_cons_self hc.symm (hz x hx' hc.symm) hg.1
          rw [(State.applyDecision_of_grants hg).1, PerCar.get_set, if_neg hcar]
          exact hside
        · rw [State.applyDecision_of_not_grants hg]
          exact hside
      refine (ih _ htail hx' hside' ((State.applyDecision_mayOpen hxz).2 hmay) (fun y hy hcar hlt => ?_)).trans
        (State.applyDecision_doorSide s z x _)
      rw [State.applyDecision_mayOpen (hxs.ne hy)]
      exact hfirst y (List.mem_cons_of_mem _ hy) hcar hlt

end

/-! ### RELEASE_DOORS -/

theorem Door.mem_all (x : Door) : x ∈ Door.all := by
  obtain ⟨c, i⟩ := x
  cases c <;> cases i <;> decide

theorem byCompartment_all : ByCompartment Door.all := by
  unfold ByCompartment
  decide

theorem mem_namedDoors (cars comps : Nat) (x : Door) :
    x ∈ namedDoors cars comps ↔ cars.testBit x.car.code = true ∧ comps.testBit x.comp.index = true := by
  simp [namedDoors, Door.mem_all, maskCar, bitOf]

/-- Settles O51: the doors that the decisions grant, in their order. -/
theorem releaseDoorsGrantsDoors : Obligations.ReleaseDoorsGrantsDoors := by
  intro h cars comps s ht
  refine ⟨fun hmode => exec_taken_of_eq (r := .releaseDoors cars comps) rfl ht (if_pos (by exact hmode)), fun hmode => ?_⟩
  have hsorted : ByCompartment (namedDoors cars comps) := byCompartment_all.filter _
  let v := s.advance h.dt
  have hdone : v.releaseDoors cars comps = _ := if_neg (by exact hmode)
  obtain ⟨t, hexec, hdoors, htally, hctl, hframe⟩ : ∃ t : State, exec (.releaseDoors h cars comps) s = .next t.transmit ∧
      t.doors = (v.decideDoors (namedDoors cars comps)).1.doors ∧ t.tally = (v.decideDoors (namedDoors cars comps)).1.tally ∧
      t.ctl = (v.replied h.port ⟨.done, decisionLists (v.decideDoors (namedDoors cars comps)).2⟩).ctl ∧
      s.sameMotion t ∧ t.gates = s.gates ∧ t.links = s.links ∧ t.line.mode = s.line.mode ∧
      t.line.atStop = s.line.atStop ∧ t.line.loops = s.line.loops ∧ t.line.key = s.line.key := by
    refine ⟨_, exec_taken_transmit (r := .releaseDoors cars comps) rfl ht hdone, ?_⟩
    simp only [State.sameMotion, State.flagged_frame, State.replied_frame]
    refine ⟨by simp, by simp, State.replied_ctl (by simp) _ _, ?_⟩
    simp [v]
  refine ⟨t, decisionLists (v.decideDoors (namedDoors cars comps)).2, hexec, ?_⟩
  intro side mayOpen granted
  have hmay : ∀ x, mayOpen x ↔ x ∈ namedDoors cars comps ∧ v.mayOpen x := fun x => by
    rw [mem_namedDoors, and_assoc]
    exact Iff.rfl
  have hgranted : ∀ x, granted x ↔ v.released (namedDoors cars comps) x := fun x => by
    simp only [granted, hmay, hdoors, and_assoc]
    exact Iff.rfl
  refine ⟨fun x hx => ?_, fun x hx => ?_, fun c hc => ?_, fun x hnone hx hfirst => ?_, fun c hnone hno => ?_,
    fun c hx => ?_, fun c hno => ?_, hctl, hframe⟩
  · rw [hdoors]
    exact State.decideDoors_door_of_released _ v hsorted ((hgranted x).1 hx)
  · rw [hdoors]
    exact State.decideDoors_door_of_not_released _ v hsorted (fun hr => hx ((hgranted x).2 hr))
  · rw [hdoors]
    exact State.decideDoors_side _ v hc
  · rw [hdoors]
    obtain ⟨hmem, hopen⟩ := (hmay x).1 hx
    exact State.decideDoors_side_first _ v hsorted hmem hnone hopen
      (fun y hy hcar hlt hopen' => hfirst y hcar hlt ((hmay y).2 ⟨hy, hopen'⟩))
  · rw [hdoors]
    exact (State.decideDoors_car_of_none _ v hsorted
      (fun y hy hr => hno y hy ((hmay y).2 ⟨hr.1, hr.2.1⟩))).2.trans hnone
  · obtain ⟨x, rfl, hx⟩ := hx
    rw [htally, State.decideDoors_tally_of_released _ v hsorted ((hgranted x).1 hx)]
    exact ⟨rfl, rfl⟩
  · rw [htally]
    exact (State.decideDoors_car_of_none _ v hsorted (fun y hy hr => hno y hy ((hgranted y).2 hr))).1

end Machine
end Sys2Proof
end

section
/-! PROOFS. An arrival (R79) and RESUME_RUN: its refusals in their order, the arrival without moving, and the new start. -/

namespace Sys2Proof
namespace Machine

variable {s : State}

/-! ### An arrival -/

theorem Load.releasing_frozen (l : Load) : l.releasing.frozen = l.frozen := rfl

theorem State.autoReleaseAt_frozen (s : State) (c : Car) (st : Station) (n : Nat) (d : Car) :
    ((s.autoReleaseAt c st n).tally.get d).frozen = (s.tally.get d).frozen := by
  unfold State.autoReleaseAt
  split
  · simp only [State.autoRelease, State.notice_frame]
    rcases State.decideDoors_tally (carDoors c) s d with h | h <;> rw [h]
    rfl
  · rfl

/-- An arrival closes the run at its target, with its stop error, and releases the bounds. -/
theorem State.arrive_spec (s : State) (r : Run) : (s.arrive r).plan.run = none ∧
    (s.arrive r).plan.lastRun = some ⟨r.id, r.target, .arrived, .arrived, some (s.trk.xA - r.pA)⟩ ∧
    (s.arrive r).sup.env = none ∧ ∀ c : Car, ((s.arrive r).tally.get c).frozen = none := by
  simp only [State.arrive]
  split
  · simp [State.autoReleaseAt_frozen]
  · simp

/-! ### RESUME_RUN -/

theorem State.resumeRun_of_not_holding (h : ∀ r, s.plan.run = some r → r.state ≠ .holding) :
    s.resumeRun = (s, ⟨.state, [.code 1]⟩) := by
  simp only [State.resumeRun]
  split
  · rfl
  next r hr => exact if_neg (h r hr)

theorem State.resumeRun_of_holding {r : Run} (hr : s.plan.run = some r) (hst : r.state = .holding) :
    s.resumeRun = s.resumeHolding r := by
  simp only [State.resumeRun, hr]
  exact if_pos hst

theorem State.resumeHolding_refused {r : Run} {x : Reply} (h : s.resumeRefusal = some x) : s.resumeHolding r = (s, x) := by
  simp only [State.resumeHolding, h]

theorem State.resumeHolding_near {r : Run} (h : s.resumeRefusal = none) (hnear : (s.trk.xA - r.pA).natAbs ≤ 300) :
    s.resumeHolding r = (s.arrive r, ⟨.done, []⟩) := by
  simp only [State.resumeHolding, h]
  exact if_pos ((within_iff _ _).2 hnear)

theorem State.resumeHolding_far {r : Run} {tb : Tables} (h : s.resumeRefusal = none) (hfar : 300 < (s.trk.xA - r.pA).natAbs)
    (htb : s.geo.committed = some tb) : s.resumeHolding r = s.tryResume tb r := by
  simp only [State.resumeHolding, h, htb]
  exact if_neg (fun hw => absurd ((within_iff _ _).1 hw) (by omega))

theorem State.tryResume_service {tb : Tables} {r : Run} (hlatch : s.sup.band.latch.isSome = true)
    (hslow : (s.resumeEnvelope tb r).vE s.trk.xA < 300) : s.tryResume tb r = (s, ⟨.state, [.code 11]⟩) :=
  if_pos (by simp [hlatch, hslow])

theorem State.tryResume_fast {tb : Tables} {r : Run}
    (h : s.sup.band.latch = none ∨ 300 ≤ (s.resumeEnvelope tb r).vE s.trk.xA) : s.tryResume tb r =
      if (s.resumeEnvelope tb r).aGuar < tb.braking.aMin then (s, marginReply (s.resumeEnvelope tb r).aGuar)
      else (s.resume tb r (s.resumeEnvelope tb r), .accepted []) := by
  refine if_neg ?_
  rcases h with h | h
  · simp [h]
  · simp [h]

/-- A run that passes every test starts again, with the sequence in TORQUE_WAIT. -/
theorem State.resume_of_sound {tb : Tables} {r : Run} {e : Envelope} (hsound : s.drive.faulted = false) :
    s.resume tb r e =
      { ((({ s with sup := s.sup.resume e }).enterRun r.state.code (s.resumedRun tb r e) RunWhy.none).holdSetNotice
          (s.resumedRun tb r e).stop) with
        brk := { s.brk with ten := true, seq := .torqueWait, torque := some s.now }
        drive := { s.drive with timer := some s.now } } := by
  simp only [State.resume]
  rw [State.startSequence_of_sound (by simpa using hsound)]
  simp

/-- Only the watch that holds the run is left out of the stop point of its new start. -/
theorem causeWatch_ne_iff (c : Option HoldCause) (m : Ix4) : some m ≠ causeWatch c ↔ c ≠ some (.watch m) := by
  unfold causeWatch
  split
  next n => simp [eq_comm]
  next h => simpa using h m

theorem State.formStop_nearest (s : State) (r : Run) (c : Option HoldCause) :
    s.NearestStop r (fun m _ => c ≠ some (.watch m)) (s.formStop r (causeWatch c)) := by
  have hnear := s.nearestStop_stopOf r (fun m _ => some m != causeWatch c)
  simp only [bne_iff_ne, causeWatch_ne_iff] at hnear
  exact hnear

/-- Settles O36: the refusals of R86 in their order, the arrival within 300 mm, and the new start. -/
theorem resumeRunStartsAgain : Obligations.ResumeRunStartsAgain := by
  refine ⟨fun h s ht hno => exec_taken_of_eq (r := .resumeRun) rfl ht (State.resumeRun_of_not_holding (s := s.advance h.dt) hno),
    fun h r s ht hr hst => ?_, fun h r tb s ht hr hst hplaced hfound hloops hclear hdoors hlinks hdrive hfar htb => ?_⟩
  · intro lost looped braked opened dead idle
    have hlost : s.trk.conf.noRuns = true ↔ lost := Confidence.noRuns_iff s.trk.conf
    have hlooped : s.line.estop = true ↔ looped := LineStatus.estop_iff s.line
    have hresume := State.resumeRun_of_holding (s := s.advance h.dt) hr hst
    have hrefused : ∀ x, s.resumeRefusal = some x → exec (.resumeRun h) s = answered s h (s.advance h.dt) x := fun x hx =>
      exec_taken_of_eq (r := .resumeRun) rfl ht (hresume.trans (State.resumeHolding_refused hx))
    have hfree : ¬lost → ¬looped → ¬braked → ¬opened → ¬dead → ¬idle → s.resumeRefusal = none := fun h1 h2 h3 h4 h5 h6 => by
      rw [State.resumeRefusal, if_neg (mt hlost.1 h1), if_neg (mt hlooped.1 h2)]
      simp [Bool.eq_true_of_not_eq_false h3, Bool.eq_true_of_not_eq_false h4, Bool.eq_true_of_not_eq_false h5,
        Bool.eq_true_of_not_eq_false h6]
    refine ⟨fun h1 => hrefused _ (if_pos (hlost.2 h1)), fun h1 h2 => hrefused _ ?_, fun h1 h2 h3 => hrefused _ ?_,
      fun h1 h2 h3 h4 => hrefused _ ?_, fun h1 h2 h3 h4 h5 => hrefused _ ?_, fun h1 h2 h3 h4 h5 h6 => hrefused _ ?_,
      fun h1 h2 h3 h4 h5 h6 hnear => ?_, fun tb h1 h2 h3 h4 h5 h6 hfar htb => ?_⟩
    · rw [State.resumeRefusal, if_neg (mt hlost.1 h1), if_pos (hlooped.2 h2)]
      rfl
    · rw [State.resumeRefusal, if_neg (mt hlost.1 h1), if_neg (mt hlooped.1 h2), if_pos (by simpa [braked] using h3)]
      rfl
    · rw [State.resumeRefusal, if_neg (mt hlost.1 h1), if_neg (mt hlooped.1 h2), if_neg (by simpa [braked] using h3),
        if_pos (by simpa [opened] using h4)]
      rfl
    · rw [State.resumeRefusal, if_neg (mt hlost.1 h1), if_neg (mt hlooped.1 h2), if_neg (by simpa [braked] using h3),
        if_neg (by simpa [opened] using h4), if_pos (by simpa [dead] using h5)]
      rfl
    · rw [State.resumeRefusal, if_neg (mt hlost.1 h1), if_neg (mt hlooped.1 h2), if_neg (by simpa [braked] using h3),
        if_neg (by simpa [opened] using h4), if_neg (by simpa [dead] using h5), if_pos (by simpa [idle] using h6)]
      rfl
    · have hnone : (s.advance h.dt).resumeRefusal = none := hfree h1 h2 h3 h4 h5 h6
      obtain ⟨hrun, hlast, henv, hfrozen⟩ := (s.advance h.dt).arrive_spec r
      refine ⟨_, exec_taken_transmit (r := .resumeRun) rfl ht (hresume.trans (State.resumeHolding_near hnone hnear)), ?_⟩
      simp only [State.flagged_frame, State.replied_frame]
      exact ⟨hrun, hlast, henv, by simp, hfrozen, State.replied_ctl (by simp) _ _, by simp⟩
    · intro e
      have hnone : (s.advance h.dt).resumeRefusal = none := hfree h1 h2 h3 h4 h5 h6
      have htry := hresume.trans (State.resumeHolding_far hnone hfar htb)
      refine ⟨fun hlatch hslow => exec_taken_of_eq (r := .resumeRun) rfl ht (htry.trans (State.tryResume_service hlatch hslow)),
        fun hfast hlow => exec_taken_of_eq (r := .resumeRun) rfl ht (htry.trans ?_)⟩
      rw [State.tryResume_fast (s := s.advance h.dt) hfast]
      exact if_pos hlow
  · intro e hfast hmargin
    have hnone : (s.advance h.dt).resumeRefusal = none := by
      show s.resumeRefusal = none
      rw [State.resumeRefusal, if_neg (by rw [Confidence.noRuns_iff, not_or]; exact ⟨hplaced, hfound⟩),
        if_neg (by rw [LineStatus.estop_iff, not_not]; exact hloops)]
      simp [hclear, hdoors, hlinks, hdrive]
    have hsound : (s.advance h.dt).drive.faulted = false := by
      have hok : s.drive.ok = true := hdrive
      simp only [Drive.ok, Bool.and_eq_true, Bool.not_eq_true'] at hok
      exact hok.2
    have htry : (s.advance h.dt).tryResume tb r = ((s.advance h.dt).resume tb r e, ⟨.accepted, []⟩) := by
      rw [State.tryResume_fast (s := s.advance h.dt) hfast]
      exact if_neg (not_lt.2 hmargin)
    rw [State.resume_of_sound hsound] at htry
    refine ⟨_, (s.advance h.dt).resumedRun tb r e, exec_taken_transmit (r := .resumeRun) rfl ht
      ((State.resumeRun_of_holding (s := s.advance h.dt) hr hst).trans ((State.resumeHolding_far hnone hfar htb).trans htry)), ?_⟩
    refine ⟨by simp [State.enterRun_plan], rfl, rfl, rfl, rfl, rfl, rfl, rfl, rfl, rfl, rfl, ?_, rfl, ?_, ?_, ?_, ?_, ?_, ?_,
      State.replied_ctl (by simp) _ _, ?_, ?_, ?_, ?_, ?_, ?_, ?_⟩
    · exact (State.formStop_nearest (s.advance h.dt) r r.holdCause).of_eq (by simp) (by simp) (by simp) rfl rfl
    all_goals simp [Supervisor.resume, State.enterRun_tally, e]

end Machine
end Sys2Proof
end

section
/-! PROOFS. The brake records (R99, R100): what a confirm timer makes of them, and what a changed record makes of the sequences. -/

namespace Sys2Proof
namespace Machine

variable {s : State}

/-! ### A changed brake record -/

/-- The brakes replaced, with their notice and condition. -/
def State.withBrakes (s : State) (b : Brakes) : State := (s.setBrakes b).brakeCondition

@[simp] theorem State.withBrakes_frame (s : State) (b : Brakes) :
    (s.withBrakes b).now = s.now ∧ (s.withBrakes b).geo = s.geo ∧ (s.withBrakes b).trk = s.trk ∧ (s.withBrakes b).sup = s.sup ∧
      (s.withBrakes b).plan = s.plan ∧ (s.withBrakes b).brk = b ∧ (s.withBrakes b).doors = s.doors ∧
      (s.withBrakes b).gates = s.gates ∧ (s.withBrakes b).tally = s.tally ∧ (s.withBrakes b).links = s.links ∧
      (s.withBrakes b).drive = s.drive ∧ (s.withBrakes b).ctl = s.ctl ∧ (s.withBrakes b).line.loops = s.line.loops ∧
      (s.withBrakes b).line.mode = s.line.mode ∧ (s.withBrakes b).line.atStop = s.line.atStop := by
  simp [State.withBrakes]

@[simp] theorem State.withBrakes_conds (s : State) (b : Brakes) :
    (s.withBrakes b).line.conds = { s.line.conds with brakeFailed := b.failed && s.trk.still } := by
  simp [State.withBrakes, State.brakeCondition, State.handOver, Conditions.put]

theorem State.sheaveTest_of_sound (h : s.brk.watch = none ∨ s.brk.sheave.state ≠ .failed) : s.sheaveTest = s := by
  refine if_neg ?_
  rcases h with h | h <;> simp [h]

theorem State.sheaveTest_of_failed (hwatch : s.brk.watch.isSome = true) (hfailed : s.brk.sheave.state = .failed) :
    s.sheaveTest = s.escalate .sheaveApply (.brake s.now) :=
  if_pos (by simp [hwatch, hfailed])

/-! ### The sequences at a changed record -/

theorem State.settle_of_idle (h : s.brk.seq = .rest ∨ s.brk.seq = .torqueWait ∨ s.brk.seq = .moving) : s.settle = s := by
  rcases h with h | h | h <;> simp only [State.settle, h]

theorem State.settle_of_releaseWait (h : s.brk.seq = .releaseWait) : s.settle = s.settleRelease := by
  simp only [State.settle, h]

theorem State.settle_of_applyWait (h : s.brk.seq = .stopWait ∨ s.brk.seq = .abortWait) : s.settle = s.settleApply := by
  rcases h with h | h <;> simp only [State.settle, h]

theorem Brakes.failedOne_of_sound {b : Brakes} (h : b.failed = false) : b.failedOne = none := by
  simp only [Brakes.failed, Bool.or_eq_false_iff, beq_eq_false_iff_ne, ne_eq] at h
  rw [Brakes.failedOne, if_neg h.1, if_neg h.2]

theorem Brakes.both_of_ne {b : Brakes} {i : BrakeId} {x : BrakeState} (h : (b.record i).state ≠ x) : b.both x = false := by
  cases i
  · exact Bool.and_eq_false_iff.2 (.inl (beq_eq_false_iff_ne.2 h))
  · exact Bool.and_eq_false_iff.2 (.inr (beq_eq_false_iff_ne.2 h))

/-- The stop and abort sequences wait on while no brake has failed and one is not APPLIED. -/
theorem State.settleApply_of_waiting {i : BrakeId} (hsound : s.brk.failed = false) (hi : (s.brk.record i).state ≠ .applied) :
    s.settleApply = s := by
  simp only [State.settleApply, Brakes.failedOne_of_sound hsound, Brakes.both_of_ne hi]
  rfl

theorem State.settleApply_of_failed {i : BrakeId} (h : s.brk.failedOne = some i) : s.settleApply = s.raise (.brakeApply i) := by
  simp only [State.settleApply, h]

/-- The start sequence waits on while no brake has failed and one is not RELEASED. -/
theorem State.settleRelease_of_waiting {i : BrakeId} (hsound : s.brk.failed = false) (hi : (s.brk.record i).state ≠ .released) :
    s.settleRelease = s := by
  simp only [State.settleRelease, hsound, Brakes.both_of_ne hi]
  rfl

theorem State.settleRelease_of_failed (h : s.brk.failed = true) : s.settleRelease = s.enterAbort (.brakeRelease false) :=
  if_pos h

/-! ### The confirm timers -/

theorem BrakeState.span_eq {x : BrakeState} (h : x = .releasing ∨ x = .applying) :
    x.span = if x = .releasing then 1500 else 800 := by
  rcases h with h | h <;> subst h <;> rfl

theorem BrakeRec.expire_of_due {r : BrakeRec} {now t0 : Time} (hst : r.state = .releasing ∨ r.state = .applying)
    (ht0 : r.timer = some t0) (hold : (if r.state = .releasing then 1500 else 800) ≤ elapsed t0 now) :
    r.expire now = ⟨.failed, none⟩ := by
  refine if_pos ?_
  rw [ht0, BrakeState.span_eq hst, Bool.and_eq_true, due_some]
  exact ⟨by simpa using hst, hold⟩

theorem BrakeRec.expire_of_not_due {r : BrakeRec} {now : Time} (h : ¬((r.state = .releasing ∨ r.state = .applying) ∧
    ∃ t0, r.timer = some t0 ∧ (if r.state = .releasing then 1500 else 800) ≤ elapsed t0 now)) : r.expire now = r := by
  refine if_neg (fun hdue => h ?_)
  rw [Bool.and_eq_true] at hdue
  obtain ⟨hst, hold⟩ := hdue
  have hst' : r.state = .releasing ∨ r.state = .applying := by simpa using hst
  refine ⟨hst', ?_⟩
  cases ht0 : r.timer with
  | none =>
    rw [ht0] at hold
    cases hold
  | some t0 =>
    rw [ht0, BrakeState.span_eq hst', due_some] at hold
    exact ⟨t0, rfl, hold⟩

theorem Brakes.setRecord_self (b : Brakes) (i : BrakeId) : b.setRecord i (b.record i) = b := by cases i <;> rfl

@[simp] theorem Brakes.setRecord_frame (b : Brakes) (i : BrakeId) (r : BrakeRec) :
    (b.setRecord i r).sbr = b.sbr ∧ (b.setRecord i r).ebr = b.ebr ∧ (b.setRecord i r).ten = b.ten ∧
      (b.setRecord i r).seq = b.seq ∧ (b.setRecord i r).abort = b.abort ∧ (b.setRecord i r).torque = b.torque ∧
      (b.setRecord i r).sbApplied = b.sbApplied ∧ (b.setRecord i r).sbReleased = b.sbReleased ∧
      (b.setRecord i r).ebApplied = b.ebApplied ∧ (b.setRecord i r).ebReleased = b.ebReleased ∧
      (b.setRecord i r).track = b.track ∧ (b.setRecord i r).watch = b.watch := by
  cases i <;> exact ⟨rfl, rfl, rfl, rfl, rfl, rfl, rfl, rfl, rfl, rfl, rfl, rfl⟩

@[simp] theorem Brakes.setRecord_record (b : Brakes) (i j : BrakeId) (r : BrakeRec) :
    (b.setRecord i r).record j = if j = i then r else b.record j := by
  cases i <;> cases j <;> rfl

theorem Brakes.setRecord_failed (b : Brakes) (i : BrakeId) : (b.setRecord i ⟨.failed, none⟩).failed = true := by
  cases i <;> simp [Brakes.failed, Brakes.setRecord]

/-- The brake found FAILED: the service brake where both are. -/
theorem Brakes.setRecord_failedOne (b : Brakes) (i : BrakeId) : (b.setRecord i ⟨.failed, none⟩).failedOne =
    some (if b.service.state = .failed then .service else i) := by
  cases i
  · simp [Brakes.failedOne, Brakes.setRecord]
  · by_cases h : b.service.state = .failed <;> simp [Brakes.failedOne, Brakes.setRecord, h]

theorem State.brakeExpiry_eq (s : State) (i : BrakeId) :
    s.brakeExpiry i = (s.withBrakes (s.brk.setRecord i ((s.brk.record i).expire s.now))).sheaveTest.settle := rfl

/-- The release outputs dropped as a start aborts: with an output on, its brake waits for the apply confirmation. -/
theorem State.enterAbort_of_waiting {i : BrakeId} {f : StartFail} (hsbr : s.brk.sbr = true) (hebr : s.brk.ebr = true)
    (hi : s.brk.confirmedApplied i = false) :
    s.enterAbort f = s.withBrakes { s.brk.releaseOff s.now with seq := .abortWait, abort := some f } := by
  have hdropped : ∀ j, (s.brk.releaseOff s.now).record j = .deenergised (s.brk.confirmedApplied j) s.now := by
    intro j
    cases j
    · exact if_pos hsbr
    · exact if_pos hebr
  have hsound : ∀ j, ((s.brk.releaseOff s.now).record j).state ≠ .failed := by
    intro j
    rw [hdropped]
    cases s.brk.confirmedApplied j <;> simp [BrakeRec.deenergised]
  have hservice := hsound .service
  have hsheave := hsound .sheave
  refine State.settleApply_of_waiting (s := s.withBrakes _) (i := i) ?_ ?_
  · simp only [State.withBrakes_frame]
    simp only [Brakes.failed, Bool.or_eq_false_iff, beq_eq_false_iff_ne]
    exact ⟨hservice, hsheave⟩
  · simp only [State.withBrakes_frame]
    have hrec := hdropped i
    rw [hi] at hrec
    have hstate : ((s.brk.releaseOff s.now).record i).state = .applying := by rw [hrec]; rfl
    cases i
    · exact fun h => absurd (hstate.symm.trans h) (by simp)
    · exact fun h => absurd (hstate.symm.trans h) (by simp)

/-- The confirm timer of a brake is due (R99). -/
def State.confirmDue (s : State) (i : BrakeId) : Prop :=
  ((s.brk.record i).state = .releasing ∨ (s.brk.record i).state = .applying) ∧ ∃ t0, (s.brk.record i).timer = some t0 ∧
    (if (s.brk.record i).state = .releasing then 1500 else 800) ≤ elapsed t0 s.now

/-- The state with a brake FAILED. -/
def State.failBrake (s : State) (i : BrakeId) : State := s.withBrakes (s.brk.setRecord i ⟨.failed, none⟩)

section
variable {i : BrakeId}

theorem State.brakeExpiry_of_due (h : s.confirmDue i) : s.brakeExpiry i = (s.failBrake i).sheaveTest.settle := by
  obtain ⟨hst, t0, ht0, hold⟩ := h
  rw [State.brakeExpiry_eq, BrakeRec.expire_of_due hst ht0 hold]
  rfl

theorem State.brakeExpiry_at_rest (h : s.confirmDue i) (hseq : s.brk.seq = .rest)
    (hwatch : s.brk.watch = none ∨ i = .service ∧ s.brk.sheave.state ≠ .failed) : s.brakeExpiry i = s.failBrake i := by
  have hsound : (s.failBrake i).brk.watch = none ∨ (s.failBrake i).brk.sheave.state ≠ .failed := by
    rcases hwatch with hnone | ⟨rfl, hsheave⟩
    · exact .inl (by simpa [State.failBrake] using hnone)
    · exact .inr (by simpa [State.failBrake, Brakes.setRecord] using hsheave)
  rw [State.brakeExpiry_of_due h, State.sheaveTest_of_sound hsound,
    State.settle_of_idle (.inl (by simpa [State.failBrake] using hseq))]

theorem State.brakeExpiry_in_releaseWait (h : s.confirmDue i) (hseq : s.brk.seq = .releaseWait) (hsbr : s.brk.sbr = true)
    (hebr : s.brk.ebr = true) (hwatch : s.brk.watch = none) (hi : s.brk.confirmedApplied i = false) : s.brakeExpiry i =
      (s.failBrake i).withBrakes { (s.brk.setRecord i ⟨.failed, none⟩).releaseOff s.now with
        seq := .abortWait, abort := some (.brakeRelease false) } := by
  have hfailed : (s.failBrake i).brk.failed = true := by simp [State.failBrake, Brakes.setRecord_failed]
  have hconf : (s.failBrake i).brk.confirmedApplied i = false := by
    cases i <;> simpa [State.failBrake, Brakes.confirmedApplied] using hi
  rw [State.brakeExpiry_of_due h, State.sheaveTest_of_sound (.inl (by simpa [State.failBrake] using hwatch)),
    State.settle_of_releaseWait (by simpa [State.failBrake] using hseq), State.settleRelease_of_failed hfailed,
    State.enterAbort_of_waiting (by simpa [State.failBrake] using hsbr) (by simpa [State.failBrake] using hebr) hconf]
  simp [State.failBrake]

theorem State.brakeExpiry_in_applyWait (h : s.confirmDue i) (hseq : s.brk.seq = .stopWait ∨ s.brk.seq = .abortWait)
    (hwatch : s.brk.watch = none) : s.brakeExpiry i =
      (s.failBrake i).raise (.brakeApply (if s.brk.service.state = .failed then .service else i)) := by
  have hfailed : (s.failBrake i).brk.failedOne = some (if s.brk.service.state = .failed then .service else i) := by
    simp [State.failBrake, Brakes.setRecord_failedOne]
  rw [State.brakeExpiry_of_due h, State.sheaveTest_of_sound (.inl (by simpa [State.failBrake] using hwatch)),
    State.settle_of_applyWait (by simpa [State.failBrake] using hseq), State.settleApply_of_failed hfailed]

theorem State.brakeExpiry_watched (h : s.confirmDue .sheave) (hseq : s.brk.seq = .rest) (hwatch : s.brk.watch.isSome = true) :
    s.brakeExpiry .sheave = (s.failBrake .sheave).escalate .sheaveApply (.brake s.now) := by
  rw [State.brakeExpiry_of_due h, State.sheaveTest_of_failed (by simpa [State.failBrake] using hwatch)
    (by simp [State.failBrake, Brakes.setRecord]), State.settle_of_idle]
  · simp [State.failBrake]
  · rw [State.escalate_brk]
    exact .inl (by simpa [State.failBrake] using hseq)

/-- A sequence that waits for a brake waits on while none has failed and this one is on its way. -/
theorem State.settle_of_waiting (hsound : s.brk.failed = false)
    (hi : (s.brk.record i).state = .releasing ∨ (s.brk.record i).state = .applying) : s.settle = s := by
  have hreleased : (s.brk.record i).state ≠ .released := by rcases hi with h | h <;> simp [h]
  have happlied : (s.brk.record i).state ≠ .applied := by rcases hi with h | h <;> simp [h]
  cases hseq : s.brk.seq with
  | rest => exact State.settle_of_idle (.inl hseq)
  | torqueWait => exact State.settle_of_idle (.inr (.inl hseq))
  | moving => exact State.settle_of_idle (.inr (.inr hseq))
  | releaseWait => rw [State.settle_of_releaseWait hseq, State.settleRelease_of_waiting hsound hreleased]
  | stopWait => rw [State.settle_of_applyWait (.inl hseq), State.settleApply_of_waiting hsound happlied]
  | abortWait => rw [State.settle_of_applyWait (.inr hseq), State.settleApply_of_waiting hsound happlied]

theorem State.brakeExpiry_early (h : ¬s.confirmDue i) (hwatch : s.brk.watch = none ∨ s.brk.sheave.state ≠ .failed)
    (hseq : s.brk.seq = .rest ∨ s.brk.seq = .torqueWait ∨ s.brk.seq = .moving ∨ s.brk.failed = false ∧
      ((s.brk.record i).state = .releasing ∨ (s.brk.record i).state = .applying)) :
    s.brakeExpiry i = s.withBrakes s.brk := by
  have hsettle : (s.withBrakes s.brk).settle = s.withBrakes s.brk := by
    rcases hseq with h | h | h | ⟨hsound, hi⟩
    · exact State.settle_of_idle (.inl (by simpa using h))
    · exact State.settle_of_idle (.inr (.inl (by simpa using h)))
    · exact State.settle_of_idle (.inr (.inr (by simpa using h)))
    · exact State.settle_of_waiting (i := i) (by simpa using hsound) (by simpa using hi)
  rw [State.brakeExpiry_eq, BrakeRec.expire_of_not_due h, Brakes.setRecord_self,
    State.sheaveTest_of_sound (by simpa using hwatch), hsettle]

end

theorem TrackRec.expire_spec (r : TrackRec) (now : Time) :
    (∀ t0, r.timer = some t0 →
      (r.cmd = .apply → 800 ≤ elapsed t0 now → r.expire now = ⟨.apply, some .failed, none⟩) ∧
      (r.cmd = .release → 1500 ≤ elapsed t0 now → r.expire now = ⟨.hold, some .failed, none⟩) ∧
      (r.cmd = .apply → elapsed t0 now < 800 → r.expire now = r) ∧
      (r.cmd = .release → elapsed t0 now < 1500 → r.expire now = r)) ∧
    (r.timer = none ∨ r.cmd = .hold → r.expire now = r) := by
  have happly : applySpan = 800 := rfl
  have hrelease : releaseSpan = 1500 := rfl
  refine ⟨fun t0 ht0 => ⟨fun hc h => ?_, fun hc h => ?_, fun hc h => ?_, fun hc h => ?_⟩, fun h => ?_⟩
  · simp only [TrackRec.expire, hc, ht0]
    exact if_pos ((due_some _ _ _).2 (happly ▸ h))
  · simp only [TrackRec.expire, hc, ht0]
    exact if_pos ((due_some _ _ _).2 (hrelease ▸ h))
  · simp only [TrackRec.expire, hc, ht0]
    exact if_neg (fun hd => absurd ((due_some _ _ _).1 hd) (by omega))
  · simp only [TrackRec.expire, hc, ht0]
    exact if_neg (fun hd => absurd ((due_some _ _ _).1 hd) (by omega))
  · rcases h with h | h
    · cases hc : r.cmd <;> simp [TrackRec.expire, hc, h, due]
    · simp only [TrackRec.expire, h]

/-- Settles O40: each timer by its record, its sequence state and the escalation watch. -/
theorem brakeTimersFailBrakes : Obligations.BrakeTimersFailBrakes := by
  refine ⟨fun dt i s => ?_, fun dt c s => ?_⟩
  · intro r span due
    have heff : effect (.brakeTimerExpiry dt i) s = (s.advance dt).brakeExpiry i := rfl
    refine ⟨fun hdue hseq hwatch => ?_, fun hdue hseq hsbr hebr hwatch hconf => ?_, fun hdue hseq hwatch => ?_,
      fun hdue hi hwatch hseq => ?_, fun hno hwatch hseq => ?_⟩
    · refine ⟨_, exec_transmit_of_eq (heff.trans (State.brakeExpiry_at_rest hdue hseq hwatch)), ?_⟩
      simp [State.failBrake, Brakes.setRecord_failed]
    · refine ⟨_, exec_transmit_of_eq (heff.trans (State.brakeExpiry_in_releaseWait hdue hseq hsbr hebr hwatch hconf)), ?_⟩
      simp [State.failBrake, Brakes.releaseOff]
    · refine ⟨_, exec_transmit_of_eq (heff.trans (State.brakeExpiry_in_applyWait hdue hseq hwatch)), ?_⟩
      simp only [State.flagged_frame]
      refine ⟨State.raise_dropped _ _, ?_, fun run hrun => ?_⟩
      · obtain ⟨x, hx, hcause⟩ := ((s.advance dt).failBrake i).raise_trip
          (.brakeApply (if s.brk.service.state = .failed then .service else i))
        refine ⟨x, hx, fun hnone => hcause (by simpa [State.failBrake] using hnone), fun hi hebr => ?_⟩
        subst hi
        have hslack : ((s.advance dt).failBrake .sheave).sheaveSlack = true :=
          (State.sheaveSlack_iff _).2 ⟨by simpa [State.failBrake] using hebr, by simp [State.failBrake, Brakes.setRecord]⟩
        have hfound : ((s.advance dt).failBrake .sheave).found
            (.brakeApply (if s.brk.service.state = .failed then .service else .sheave)) ≠ [] := by
          simp [State.found, hslack]
        exact ⟨State.raise_highest hfound hx, State.raise_cmd _ hfound⟩
      · obtain ⟨run', hrun', hst, -⟩ := State.raise_run_of_some (s := (s.advance dt).failBrake i)
          (c := .brakeApply (if s.brk.service.state = .failed then .service else i)) (by simpa [State.failBrake] using hrun)
        exact ⟨run', hrun', hst⟩
    · subst hi
      refine ⟨_, exec_transmit_of_eq (heff.trans (State.brakeExpiry_watched hdue hseq hwatch)), ?_⟩
      simp only [State.flagged_frame]
      have hbrk := ((s.advance dt).failBrake .sheave).escalate_brk .sheaveApply (.brake (s.advance dt).now)
      have htrack := ((s.advance dt).failBrake .sheave).escalate_track_spec .sheaveApply (.brake (s.advance dt).now)
      refine ⟨?_, ?_, State.escalate_condition _ _ _, fun c => ?_, ?_⟩
      · rw [hbrk]
        simp only [State.failBrake, State.withBrakes_frame]
        rfl
      · rw [State.escalate_trip]
        simp only [State.failBrake, State.withBrakes_frame]
        rfl
      · simpa [State.failBrake] using htrack c
      · simp [State.failBrake]
    · refine ⟨_, exec_transmit_of_eq (heff.trans (State.brakeExpiry_early hno hwatch hseq)), ?_⟩
      simp
  · have hspec := (s.brk.track.get c).expire_spec (s.now + dt)
    have heff : effect (.trackBrakeTimerExpiry dt c) s = (s.advance dt).trackExpiry c := rfl
    have htrack : ∀ d, ((s.advance dt).trackExpiry c).brk.track.get d =
        if d = c then (s.brk.track.get c).expire (s.now + dt) else s.brk.track.get d := fun d => by
      simp [State.trackExpiry]
    refine ⟨_, exec_transmit_of_eq heff, ?_⟩
    simp only [State.flagged_frame, htrack, if_true]
    refine ⟨hspec.1, hspec.2, by cases c <;> rfl, ?_, ?_⟩
    · simp [State.trackExpiry, State.trackCondition, Conditions.put]
    · simp [State.trackExpiry]

end Machine
end Sys2Proof
end

section
/-! PROOFS. The confirmation contacts (R98): the last release confirmation of a start, the last apply confirmation of a stop, and
the doors that an arrival releases by itself (R124). -/

namespace Sys2Proof
namespace Machine

variable {s : State}

/-! ### Doors released at an arrival -/

/-- What a release of a car's doors, compartment by compartment, makes of them: `auto` says that it is tried, `may` which doors
may open. -/
def State.CarReleases (s t : State) (c : Car) (auto : Prop) (may : Ix4 → Prop) : Prop :=
  let zone := fun i : Ix4 => s.geo.zone (s.doorPos ⟨c, i⟩)
  let granted := fun i : Ix4 => auto ∧ may i ∧ t.doors.side.get c = (zone i).side
  (∀ i, granted i → t.doors.door ⟨c, i⟩ = (s.doors.door ⟨c, i⟩).grant) ∧
    (∀ i, ¬granted i → t.doors.door ⟨c, i⟩ = s.doors.door ⟨c, i⟩) ∧
    ((s.doors.side.get c).isSome = true → t.doors.side.get c = s.doors.side.get c) ∧
    (∀ i, s.doors.side.get c = none → auto → may i → (∀ j, j.index < i.index → ¬may j) →
      t.doors.side.get c = (zone i).side) ∧
    (s.doors.side.get c = none → (¬auto ∨ ∀ i, ¬may i) → t.doors.side.get c = none) ∧
    ((∃ i, granted i) → (t.tally.get c).departure = none ∧
      ((t.tally.get c).window.isSome = true → (t.tally.get c).released = true))

theorem State.CarReleases.congr {s s' t t' : State} {c : Car} {auto auto' : Prop} {may may' : Ix4 → Prop}
    (h : s.CarReleases t c auto may) (hgeo : s'.geo = s.geo) (htrk : s'.trk = s.trk)
    (hdoor : ∀ i, s'.doors.door ⟨c, i⟩ = s.doors.door ⟨c, i⟩) (hside : s'.doors.side.get c = s.doors.side.get c)
    (hdoor' : ∀ i, t'.doors.door ⟨c, i⟩ = t.doors.door ⟨c, i⟩) (hside' : t'.doors.side.get c = t.doors.side.get c)
    (htally : t'.tally.get c = t.tally.get c) (hauto : auto' ↔ auto) (hmay : ∀ i, may' i ↔ may i) :
    s'.CarReleases t' c auto' may' := by
  simp only [State.CarReleases, State.doorPos, hgeo, htrk, hdoor, hside, hdoor', hside', htally, hauto, hmay] at h ⊢
  exact h

/-- No release is tried: the doors stay. -/
theorem State.carReleases_of_same {t : State} {c : Car} {auto : Prop} {may : Ix4 → Prop} (hauto : ¬auto)
    (hdoors : t.doors = s.doors) : s.CarReleases t c auto may := by
  refine ⟨fun i hi => absurd hi.1 hauto, fun i _ => by rw [hdoors], fun _ => by rw [hdoors],
    fun i _ ha => absurd ha hauto, fun h _ => by rw [hdoors, h], ?_⟩
  rintro ⟨i, hi⟩
  exact absurd hi.1 hauto

theorem mem_carDoors (c : Car) (x : Door) : x ∈ carDoors c ↔ x.car = c := by
  obtain ⟨d, i⟩ := x
  have hi : i ∈ Ix4.all := by cases i <;> decide
  simp [carDoors, hi, eq_comm]

theorem byCompartment_carDoors (c : Car) : ByCompartment (carDoors c) := by
  cases c <;> · unfold ByCompartment; decide

theorem State.autoRelease_doors (s : State) (c : Car) (n : Nat) :
    (s.autoRelease c n).doors = (s.decideDoors (carDoors c)).1.doors ∧
      (s.autoRelease c n).tally = (s.decideDoors (carDoors c)).1.tally := by
  simp [State.autoRelease]

/-- The release of a car's own doors at its station. -/
theorem State.autoReleaseAt_releases (s : State) (c : Car) (st : Station) (n : Nat) :
    s.CarReleases (s.autoReleaseAt c st n) c (st.autoRelease = true) (fun i => s.mayOpen ⟨c, i⟩) := by
  unfold State.autoReleaseAt
  split
  next hauto =>
    obtain ⟨hdoors, htally⟩ := s.autoRelease_doors c n
    have hsorted := byCompartment_carDoors c
    have hmem : ∀ i, (⟨c, i⟩ : Door) ∈ carDoors c := fun i => (mem_carDoors c _).2 rfl
    have hown : ∀ y ∈ carDoors c, ∃ i, y = ⟨c, i⟩ := fun y hy => ⟨y.comp, by rw [← (mem_carDoors c y).1 hy]⟩
    simp only [State.CarReleases, hdoors, htally, hauto, true_and, not_true, false_or]
    refine ⟨fun i hi => State.decideDoors_door_of_released _ s hsorted ⟨hmem i, hi⟩,
      fun i hi => State.decideDoors_door_of_not_released _ s hsorted (fun hr => hi hr.2),
      fun h => State.decideDoors_side _ s h, fun i hnone _ hi hfirst => ?_, fun hnone hno => ?_, fun ⟨i, hi⟩ => ?_⟩
    · refine State.decideDoors_side_first _ s hsorted (hmem i) hnone hi (fun y hy _ hlt => ?_)
      obtain ⟨j, rfl⟩ := hown y hy
      exact hfirst j hlt
    · refine (State.decideDoors_car_of_none _ s hsorted (fun y hy hr => ?_)).2.trans hnone
      obtain ⟨j, rfl⟩ := hown y hr.1
      exact hno j hr.2.1
    · rw [State.decideDoors_tally_of_released _ s hsorted (y := ⟨c, i⟩) ⟨hmem i, hi⟩]
      exact ⟨rfl, fun hw => by simpa [Load.releasing] using .inr hw⟩
  next hauto => exact State.carReleases_of_same hauto rfl

/-- A car's doors are not the other car's. -/
theorem State.autoReleaseAt_other (s : State) {c d : Car} (hd : d ≠ c) (st : Station) (n : Nat) :
    (∀ i, (s.autoReleaseAt c st n).doors.door ⟨d, i⟩ = s.doors.door ⟨d, i⟩) ∧
      (s.autoReleaseAt c st n).doors.side.get d = s.doors.side.get d ∧
      (s.autoReleaseAt c st n).tally.get d = s.tally.get d := by
  unfold State.autoReleaseAt
  split
  · obtain ⟨hdoors, htally⟩ := s.autoRelease_doors c n
    have hother : ∀ y, y.car = d → ¬s.released (carDoors c) y := fun y hy hr => hd (hy ▸ (mem_carDoors c y).1 hr.1)
    obtain ⟨hcar, hside⟩ := State.decideDoors_car_of_none _ s (byCompartment_carDoors c) hother
    rw [hdoors, htally]
    exact ⟨fun i => State.decideDoors_door_of_not_released _ s (byCompartment_carDoors c) (hother ⟨d, i⟩ rfl), hside, hcar⟩
  · exact ⟨fun _ => rfl, rfl, rfl⟩

/-- The auto-release flag of a car's station at a halt. -/
def HaltInfo.autoAt (x : HaltInfo) : Car → Bool
  | .A => x.stationA.autoRelease
  | .B => x.stationB.autoRelease

/-- The doors of a car as a run arrives. -/
theorem State.arrive_releases (s : State) (r : Run) (hten : s.brk.ten = false) (c : Car) :
    s.CarReleases (s.arrive r) c (∃ x, s.geo.halt? r.target = some x ∧ x.autoAt c = true)
      (fun i => (s.doors.door ⟨c, i⟩).release = false ∧ s.trk.still = true ∧ (s.links.get c).state = .live ∧
        s.line.atStop.isSome = true ∧ (s.doors.door ⟨c, i⟩).isolated = false ∧
        (s.geo.zone (s.doorPos ⟨c, i⟩)).release = true ∧ (s.geo.zone (s.doorPos ⟨c, i⟩)).side.isSome = true) := by
  cases hx : s.geo.halt? r.target with
  | none =>
    refine State.carReleases_of_same ?_ ?_
    · rintro ⟨x, hx', -⟩
      cases hx'
    · simp [State.arrive, hx]
  | some x =>
    simp only [State.arrive, hx]
    generalize hu : State.closeRun _ r .arrived .arrived _ = u
    have hmay : ∀ i, u.mayOpen ⟨c, i⟩ ↔ (s.doors.door ⟨c, i⟩).release = false ∧ s.trk.still = true ∧
        (s.links.get c).state = .live ∧ s.line.atStop.isSome = true ∧ (s.doors.door ⟨c, i⟩).isolated = false ∧
        (s.geo.zone (s.doorPos ⟨c, i⟩)).release = true ∧ (s.geo.zone (s.doorPos ⟨c, i⟩)).side.isSome = true := fun i => by
      subst hu
      simp only [State.mayOpen, State.mayRelease, State.doorSide, State.doorPos, State.closeRun_frame, State.closeRun_run,
        State.notice_frame, hten, true_and, and_assoc]
    have hauto : (∃ y, some x = some y ∧ y.autoAt c = true) ↔ x.autoAt c = true := by simp
    have hgeo : s.geo = u.geo := by subst hu; simp
    have htrk : s.trk = u.trk := by subst hu; simp
    have hdoors : s.doors = u.doors := by subst hu; simp
    cases c with
    | A =>
      obtain ⟨hdoor, hside, htally⟩ := (u.autoReleaseAt .A x.stationA r.id).autoReleaseAt_other (d := .A) (c := .B)
        (by simp) x.stationB r.id
      exact (u.autoReleaseAt_releases .A x.stationA r.id).congr hgeo htrk (fun i => by rw [hdoors]) (by rw [hdoors])
        hdoor hside htally hauto (fun i => (hmay i).symm)
    | B =>
      obtain ⟨hdoor, hside, -⟩ := u.autoReleaseAt_other (d := .B) (c := .A) (by simp) x.stationA r.id
      have hmayB : ∀ i, (u.autoReleaseAt .A x.stationA r.id).mayOpen ⟨.B, i⟩ ↔ u.mayOpen ⟨.B, i⟩ := fun i => by
        simp only [State.mayOpen, State.mayRelease, State.doorSide, State.doorPos, State.autoReleaseAt_frame, hdoor]
      exact ((u.autoReleaseAt .A x.stationA r.id).autoReleaseAt_releases .B x.stationB r.id).congr (by simpa using hgeo)
        (by simpa using htrk) (fun i => by rw [hdoor, hdoors]) (by rw [hside, hdoors]) (fun _ => rfl) rfl rfl hauto
        (fun i => ((hmayB i).trans (hmay i)).symm)

/-! ### The end of a start and of a stop -/

/-- The state at the end of a stop sequence, by the stop point. -/
theorem State.stopComplete_target {r : Run} (hr : s.plan.run = some r) (hst : r.state = .braking) (hstop : r.stop = .target) :
    s.stopComplete = s.arrive r := by
  simp only [State.stopComplete, hr, if_pos hst, hstop]

theorem State.stopComplete_watch {r : Run} {n : Ix4} {x : Int} (hr : s.plan.run = some r) (hst : r.state = .braking)
    (hstop : r.stop = .watch n x) : s.stopComplete = s.enterHolding r (some (.watch n)) := by
  simp only [State.stopComplete, hr, if_pos hst, hstop]

theorem State.stopComplete_asap {r : Run} {v : Nat} {t : Time} (hr : s.plan.run = some r) (hst : r.state = .braking)
    (hstop : r.stop = .asap v t) : s.stopComplete =
      if r.holdCause = some .cancel then s.closeRun r .cancelled .cancelRequest none else s.enterHolding r r.holdCause := by
  simp only [State.stopComplete, hr, if_pos hst, hstop]

theorem State.enterHolding_run (s : State) (r : Run) (c : Option HoldCause) :
    (s.enterHolding r c).plan.run = some { r with state := .holding, holdCause := c, resumeTarget := some r.target } := by
  cases c with
  | none => simp [State.enterHolding]
  | some x => simp [State.enterHolding]

theorem State.enterHolding_watches (s : State) (r : Run) (n : Ix4) :
    (s.enterHolding r (some (.watch n))).plan.watches = s.plan.watches.set n (s.plan.watches.get n).spend := by
  simp [State.enterHolding, State.holdReachedBy, State.holdReached]

/-- The last release confirmation of a start: the run accelerates, and the condition of R73 clears. -/
theorem State.releasesConfirmed_of_starting {r : Run} (hr : s.plan.run = some r) (hst : r.state = .starting)
    (hno : r.pendingStop = none) : s.releasesConfirmed =
      (s.enterRun r.state.code { r with releaseTime := some s.now, leaving := none, state := .accelerating }
        RunWhy.none).handOver .driveStart false := by
  have hsame : ({ r with releaseTime := some s.now, leaving := none, state := .accelerating, pendingStop := none } : Run) =
      { r with releaseTime := some s.now, leaving := none, state := .accelerating } := by
    rw [Run.mk.injEq]
    simp [hno]
  simp only [State.releasesConfirmed, hr, if_pos hst, hno, hsame]

/-! ### Contact changes -/

theorem Brakes.contact_record (b : Brakes) (k : Contact) (x : Bool) (i : BrakeId) : (b.contact k x).record i = b.record i := by
  cases k <;> cases i <;> rfl

@[simp] theorem Brakes.contact_frame (b : Brakes) (k : Contact) (x : Bool) :
    (b.contact k x).sbr = b.sbr ∧ (b.contact k x).ebr = b.ebr ∧ (b.contact k x).ten = b.ten ∧ (b.contact k x).seq = b.seq ∧
      (b.contact k x).abort = b.abort ∧ (b.contact k x).track = b.track ∧ (b.contact k x).watch = b.watch := by
  cases k <;> exact ⟨rfl, rfl, rfl, rfl, rfl, rfl, rfl⟩

theorem Brakes.contact_contacts (b : Brakes) (k : Contact) (x : Bool) :
    (b.contact k x).sbApplied = (if k = .sbApplied then x else b.sbApplied) ∧
      (b.contact k x).sbReleased = (if k = .sbReleased then x else b.sbReleased) ∧
      (b.contact k x).ebApplied = (if k = .ebApplied then x else b.ebApplied) ∧
      (b.contact k x).ebReleased = (if k = .ebReleased then x else b.ebReleased) := by
  cases k <;> exact ⟨rfl, rfl, rfl, rfl⟩

theorem Brakes.both_setRecord {b : Brakes} {i : BrakeId} {x : BrakeState} (h : ∀ j, j ≠ i → (b.record j).state = x) :
    (b.setRecord i ⟨x, none⟩).service.state = x ∧ (b.setRecord i ⟨x, none⟩).sheave.state = x := by
  cases i
  · exact ⟨rfl, h .sheave (by simp)⟩
  · exact ⟨h .service (by simp), rfl⟩

/-- The brakes as a contact change confirms one record. -/
def Brakes.confirming (b : Brakes) (k : Contact) (closed : Bool) (x : BrakeState) : Brakes :=
  (b.contact k closed).setRecord (contactBrake k) ⟨x, none⟩

theorem State.contactChange_eq (s : State) (k : Contact) (closed : Bool) : s.contactChange k closed =
    (s.withBrakes ((s.brk.contact k closed).reread (contactBrake k))).sheaveTest.settle := rfl

section
variable {k : Contact} {closed : Bool}

theorem Brakes.reread_of_releasing {b : Brakes} (hrec : (b.record (contactBrake k)).state = .releasing)
    (hconf : (b.contact k closed).confirmedReleased (contactBrake k) = true) :
    (b.contact k closed).reread (contactBrake k) = b.confirming k closed .released := by
  simp only [Brakes.reread, BrakeRec.reread, Brakes.contact_record, hrec, hconf, if_true]
  rfl

theorem Brakes.reread_of_applying {b : Brakes} (hrec : (b.record (contactBrake k)).state = .applying)
    (hconf : (b.contact k closed).confirmedApplied (contactBrake k) = true) :
    (b.contact k closed).reread (contactBrake k) = b.confirming k closed .applied := by
  simp only [Brakes.reread, BrakeRec.reread, Brakes.contact_record, hrec, hconf, if_true]
  rfl

theorem Brakes.confirming_both {b : Brakes} {x : BrakeState}
    (h : ∀ j, j ≠ contactBrake k → (b.record j).state = x) :
    (b.confirming k closed x).service.state = x ∧ (b.confirming k closed x).sheave.state = x :=
  Brakes.both_setRecord (fun j hj => by rw [Brakes.contact_record]; exact h j hj)

/-- The last release confirmation of a start. -/
theorem State.contactChange_starts {r : Run} (hseq : s.brk.seq = .releaseWait) (hr : s.plan.run = some r)
    (hst : r.state = .starting) (hno : r.pendingStop = none) (hrec : (s.brk.record (contactBrake k)).state = .releasing)
    (hothers : ∀ j, j ≠ contactBrake k → (s.brk.record j).state = .released)
    (hconf : (s.brk.contact k closed).confirmedReleased (contactBrake k) = true) : s.contactChange k closed =
      ((State.enterRun { (s.withBrakes (s.brk.confirming k closed .released)) with
          brk := { s.brk.confirming k closed .released with seq := .moving } } r.state.code
        { r with releaseTime := some s.now, leaving := none, state := .accelerating } RunWhy.none).handOver .driveStart false) := by
  obtain ⟨hservice, hsheave⟩ := Brakes.confirming_both (closed := closed) hothers
  have hsound : (s.brk.confirming k closed .released).failed = false := by simp [Brakes.failed, hservice, hsheave]
  have hboth : (s.brk.confirming k closed .released).both .released = true := by simp [Brakes.both, hservice, hsheave]
  rw [State.contactChange_eq, Brakes.reread_of_releasing hrec hconf,
    State.sheaveTest_of_sound (.inr (by simp [hsheave])),
    State.settle_of_releaseWait (by simpa [Brakes.confirming] using hseq), State.settleRelease]
  simp only [State.withBrakes_frame, hsound, hboth, if_true]
  refine (State.releasesConfirmed_of_starting (s := { (s.withBrakes (s.brk.confirming k closed .released)) with
      brk := { s.brk.confirming k closed .released with seq := .moving } }) (by simpa using hr) hst hno).trans ?_
  simp

/-- The last apply confirmation of a stop. -/
theorem State.contactChange_stops (hseq : s.brk.seq = .stopWait) (hrec : (s.brk.record (contactBrake k)).state = .applying)
    (hothers : ∀ j, j ≠ contactBrake k → (s.brk.record j).state = .applied)
    (hconf : (s.brk.contact k closed).confirmedApplied (contactBrake k) = true) :
    s.contactChange k closed = (s.withBrakes (s.brk.confirming k closed .applied)).tenOff.stopComplete := by
  obtain ⟨hservice, hsheave⟩ := Brakes.confirming_both (closed := closed) hothers
  have hsound : (s.brk.confirming k closed .applied).failed = false := by simp [Brakes.failed, hservice, hsheave]
  have hboth : (s.brk.confirming k closed .applied).both .applied = true := by simp [Brakes.both, hservice, hsheave]
  have hwait : (s.brk.confirming k closed .applied).seq = .stopWait := by simpa [Brakes.confirming] using hseq
  rw [State.contactChange_eq, Brakes.reread_of_applying hrec hconf,
    State.sheaveTest_of_sound (.inr (by simp [hsheave])), State.settle_of_applyWait (.inl (by simpa using hwait)),
    State.settleApply]
  simp only [State.withBrakes_frame, Brakes.failedOne_of_sound hsound, hboth, hwait, if_true]

theorem State.contactChange_contacts (s : State) (k : Contact) (closed : Bool) :
    (s.contactChange k closed).brk.sbApplied = (s.brk.contact k closed).sbApplied ∧
      (s.contactChange k closed).brk.sbReleased = (s.brk.contact k closed).sbReleased ∧
      (s.contactChange k closed).brk.ebApplied = (s.brk.contact k closed).ebApplied ∧
      (s.contactChange k closed).brk.ebReleased = (s.brk.contact k closed).ebReleased := by
  simp [State.contactChange, Brakes.reread]

end

/-- Settles O39: the contact alone, the end of a start, and the end of a stop by its stop point. -/
theorem contactChangesMoveSequences : Obligations.ContactChangesMoveSequences := by
  intro dt k closed s b i
  have heff : effect (.contactChange dt k closed) s = (s.advance dt).contactChange k closed := rfl
  refine ⟨⟨_, exec_transmit_of_eq heff, ?_⟩, fun r hseq hr hst hno hrec hothers hconf => ?_,
    fun r hseq hr hst hrec hothers hconf => ?_⟩
  · simp only [State.flagged_frame, State.contactChange_contacts, State.contactChange_frame]
    obtain ⟨h1, h2, h3, h4⟩ := s.brk.contact_contacts k closed
    exact ⟨h1, h2, h3, h4, rfl, rfl, rfl, rfl, rfl, rfl⟩
  · obtain ⟨hservice, hsheave⟩ := Brakes.confirming_both (closed := closed) hothers
    refine ⟨_, exec_transmit_of_eq (heff.trans (State.contactChange_starts hseq hr hst hno hrec hothers hconf)), ?_⟩
    refine ⟨?_, ?_, ?_, ?_, ?_, ?_, ?_, ?_, ?_⟩
    · simp
    · simp [Brakes.confirming]
    · simp [Brakes.confirming]
    · simp [Brakes.confirming]
    · simpa using hservice
    · simpa using hsheave
    · simp
    · simp [Conditions.put]
    · simp
  · obtain ⟨hservice, hsheave⟩ := Brakes.confirming_both (closed := closed) hothers
    have hw : ∃ w : State, (s.advance dt).contactChange k closed = w.stopComplete ∧ w.geo = s.geo ∧ w.trk = s.trk ∧
        w.sup = s.sup ∧ w.plan = s.plan ∧ w.doors = s.doors ∧ w.links = s.links ∧ w.line.atStop = s.line.atStop ∧
        w.brk = (s.brk.confirming k closed .applied).tenOff ∧ w.drive.timer = none := by
      refine ⟨_, State.contactChange_stops hseq hrec hothers hconf, ?_⟩
      simp only [State.tenOff_frame, State.tenOff_brk, State.withBrakes_frame]
      exact ⟨rfl, rfl, rfl, rfl, rfl, rfl, rfl, rfl, rfl⟩
    obtain ⟨w, hu, hgeo, htrk, hsup, hplan, hdoors, hlinks, hatStop, hbrk, htimer⟩ := hw
    have hr' : w.plan.run = some r := by rw [hplan]; exact hr
    refine ⟨_, exec_transmit_of_eq (heff.trans hu), ?_⟩
    simp only [State.flagged_frame, State.stopComplete_frame, hbrk, htimer, hsup]
    refine ⟨rfl, rfl, hservice, hsheave, trivial, trivial, fun hstop => ?_, fun hstop => ?_, fun hstop c => ?_,
      fun vh since hstop hno => ?_, fun vh since hstop hcancel => ?_, fun n x hstop => ?_⟩
    · rw [State.stopComplete_target hr' hst hstop]
      obtain ⟨hrun, hlast, henv, -⟩ := w.arrive_spec r
      exact ⟨hrun, by rw [hlast, htrk], henv⟩
    · rw [← hdoors]
      cases hstop' : r.stop with
      | target => exact absurd hstop' hstop
      | watch n x =>
        rw [State.stopComplete_watch hr' hst hstop']
        simp
      | asap v t =>
        rw [State.stopComplete_asap hr' hst hstop']
        split <;> simp
    · rw [State.stopComplete_target hr' hst hstop]
      have hrel := (w.arrive_releases r (by rw [hbrk]; rfl) c).congr hgeo.symm htrk.symm (fun i => by rw [hdoors])
        (by rw [hdoors]) (fun _ => rfl) rfl rfl Iff.rfl (fun _ => Iff.rfl)
      simp only [hgeo, htrk, hdoors, hlinks, hatStop, State.doorPos] at hrel
      exact hrel
    · rw [State.stopComplete_asap hr' hst hstop, if_neg hno, State.enterHolding_run]
    · rw [State.stopComplete_asap hr' hst hstop, if_pos hcancel]
      simp
    · rw [State.stopComplete_watch hr' hst hstop, State.enterHolding_run, State.enterHolding_watches, hplan]
      exact ⟨rfl, rfl⟩

end Machine
end Sys2Proof
end

section
/-! PROOFS. LOCK_DOORS with its gate close lead, ISOLATE_DOOR and RESTORE_DOOR (R126, R130 to R133). -/

namespace Sys2Proof
namespace Machine

variable {s : State}

/-! ### Stations closed one after another -/

theorem Gate.close_opened {g : Gate} (h : g.state = .opened) :
    g.close = { g with state := .closed, outbox := putLeaf .shut g.outbox } := by
  simp only [Gate.close, h]
  rfl

theorem Gate.close_passing {g : Gate} (h : g.state = .passing) : g.close = { g with closePending := true } := by
  simp only [Gate.close, h]

theorem Gate.close_of_closed {g : Gate} (h : g.state ≠ .opened) (h' : g.state ≠ .passing) : g.close = g := by
  unfold Gate.close
  split
  next hst => exact absurd hst h
  next hst => exact absurd hst h'
  · rfl

theorem Gate.close_close (g : Gate) : g.close.close = g.close := by
  by_cases h : g.state = .opened
  · rw [Gate.close_opened h]
    exact Gate.close_of_closed (by simp) (by simp)
  · by_cases h' : g.state = .passing
    · rw [Gate.close_passing h']
      exact Gate.close_passing h'
    · rw [Gate.close_of_closed h h', Gate.close_of_closed h h']

/-- The gates of several stations closed: each gate of theirs once. -/
theorem State.closeStations_gates (e : GateEvent) : ∀ (ns : List Nat) (s : State), (s.closeStations e ns).gates.gates =
    s.gates.gates.map (fun g => if g.station ∈ ns then g.close else g)
  | [], s => by simp [State.closeStations]
  | n :: ns, s => by
    have hrest := State.closeStations_gates e ns (s.closeStation n e)
    rw [State.closeStation_gates] at hrest
    refine hrest.trans ?_
    simp only [Gates.close, List.map_map]
    refine List.map_congr_left (fun g _ => ?_)
    by_cases hn : g.station = n
    · subst hn
      by_cases hns : g.station ∈ ns <;> simp [hns, Gate.close_station, Gate.close_close]
    · simp [hn]

/-- The stations in the gate close lead of a car (R130). -/
def State.leading (s : State) (c : Car) : List Nat :=
  (s.leadStations c).filter (fun n => s.servingOf n == some c || s.servingOf n == none)

theorem State.mem_leading (s : State) (c : Car) (n : Nat) : n ∈ s.leading c ↔ ∃ st ∈ s.geo.stations, st.number = n ∧
    (s.trk.pos c - st.stopPos).natAbs ≤ 300 ∧ (s.servingOf n = some c ∨ s.servingOf n = none) := by
  simp only [State.leading, State.leadStations, List.mem_filter, List.mem_map, within_iff, Bool.or_eq_true, beq_iff_eq]
  constructor
  · rintro ⟨⟨st, ⟨hst, hnear⟩, rfl⟩, hserves⟩
    exact ⟨st, hst, rfl, hnear, hserves⟩
  · rintro ⟨st, hst, rfl, hnear, hserves⟩
    exact ⟨⟨st, ⟨hst, hnear⟩, rfl⟩, hserves⟩

/-- What the gate close lead reads. -/
theorem State.leading_congr {s t : State} (hgeo : t.geo = s.geo) (htrk : t.trk = s.trk) (hplan : t.plan = s.plan)
    (htally : t.tally = s.tally) (c : Car) : t.leading c = s.leading c := by
  have hserves : ∀ st d, t.serves st d = s.serves st d := fun st d => by
    simp only [State.serves, State.idleOrPlanned, htrk, hplan, htally]
  have hserving : t.serving = s.serving := by
    funext st
    simp only [State.serving, hserves]
  have hof : ∀ n, t.servingOf n = s.servingOf n := fun n => by
    simp only [State.servingOf, hgeo, hserving]
  simp only [State.leading, State.leadStations, hgeo, htrk, hof]

/-! ### LOCK_DOORS -/

theorem State.lockCar_gates (s : State) (c : Car) : (s.lockCar c).gates.gates =
    s.gates.gates.map (fun g => if g.station ∈ s.leading c then g.close else g) := by
  have hlead := State.leading_congr (s := s) (t := { s with doors := (s.doors.mapCar c (fun r => r.lock s.now)).returnSide c })
    rfl rfl rfl rfl c
  simp only [State.lockCar]
  rw [← hlead]
  exact State.closeStations_gates .closeLead _ _

theorem State.lockCar_doors (s : State) (c : Car) :
    (s.lockCar c).doors = (s.doors.mapCar c (fun r => r.lock s.now)).returnSide c := by
  simp [State.lockCar]

/-- LOCK_DOORS for the cars that a mask names. -/
def State.locking (s : State) (mask : Nat) : State := (s.lockNamed mask .A).lockNamed mask .B

@[simp] theorem State.lockNamed_same (s : State) (mask : Nat) (c : Car) :
    (s.lockNamed mask c).now = s.now ∧ (s.lockNamed mask c).geo = s.geo ∧ (s.lockNamed mask c).trk = s.trk ∧
      (s.lockNamed mask c).plan = s.plan ∧ (s.lockNamed mask c).tally = s.tally ∧ (s.lockNamed mask c).sup = s.sup ∧
      (s.lockNamed mask c).brk = s.brk ∧ (s.lockNamed mask c).line = s.line ∧ (s.lockNamed mask c).links = s.links ∧
      (s.lockNamed mask c).drive = s.drive ∧ (s.lockNamed mask c).ctl = s.ctl := by
  unfold State.lockNamed
  split <;> simp

theorem State.lockNamed_door (s : State) (mask : Nat) (c : Car) (x : Door) : (s.lockNamed mask c).doors.door x =
    if x.car = c ∧ maskCar mask c = true then (s.doors.door x).lock s.now else s.doors.door x := by
  unfold State.lockNamed
  split
  next h => simp [State.lockCar_doors, h]
  next h => simp [h]

theorem State.locking_door (s : State) (mask : Nat) (x : Door) : (s.locking mask).doors.door x =
    if maskCar mask x.car = true then (s.doors.door x).lock s.now else s.doors.door x := by
  obtain ⟨c, i⟩ := x
  simp only [State.locking, State.lockNamed_door, State.lockNamed_same]
  cases c <;> simp

theorem Doors.carLocked_congr {d d' : Doors} {c : Car} (h : ∀ y : Door, y.car = c → d'.door y = d.door y) :
    d'.carLocked c = d.carLocked c := by
  rw [Bool.eq_iff_iff, Doors.carLocked_iff, Doors.carLocked_iff]
  exact forall₂_congr (fun y hy => by rw [h y hy])

theorem State.lockNamed_side (s : State) (mask : Nat) (c d : Car) : (s.lockNamed mask c).doors.side.get d =
    if d = c ∧ maskCar mask c = true ∧ (s.lockNamed mask c).doors.carLocked c = true then none else s.doors.side.get d := by
  unfold State.lockNamed
  split
  next h =>
    rw [State.lockCar_doors]
    have hlocked : ((s.doors.mapCar c (fun r => r.lock s.now)).returnSide c).carLocked c =
        (s.doors.mapCar c (fun r => r.lock s.now)).carLocked c := Doors.carLocked_congr (fun _ _ => rfl)
    simp only [hlocked, h, true_and]
    by_cases hd : d = c
    · subst hd
      rw [Doors.returnSide_side]
      simp only [true_and]
      rfl
    · simp [Doors.returnSide, Doors.mapCar, hd]
  next h => simp [h]

/-- A car's side after LOCK_DOORS: none where the car is named and all its doors are locked. -/
theorem State.locking_side (s : State) (mask : Nat) (c : Car) : (s.locking mask).doors.side.get c =
    if maskCar mask c = true ∧ (s.locking mask).doors.carLocked c = true then none else s.doors.side.get c := by
  have hA : (s.locking mask).doors.carLocked .A = (s.lockNamed mask .A).doors.carLocked .A :=
    Doors.carLocked_congr (fun y hy => by rw [State.locking, State.lockNamed_door, if_neg (by simp [hy])])
  cases c
  · rw [hA, State.locking, State.lockNamed_side, State.lockNamed_side]
    simp
  · rw [State.locking, State.lockNamed_side, State.lockNamed_side]
    simp

theorem State.lockNamed_gates (s : State) (mask : Nat) (c : Car) : (s.lockNamed mask c).gates.gates =
    s.gates.gates.map (fun g => if maskCar mask c = true ∧ g.station ∈ s.leading c then g.close else g) := by
  unfold State.lockNamed
  split
  next h => simp [State.lockCar_gates, h]
  next h => simp [h]

/-- Each gate of a station in the gate close lead of a named car is closed. -/
theorem State.locking_gates (s : State) (mask : Nat) : (s.locking mask).gates.gates = s.gates.gates.map (fun g =>
    if (maskCar mask .A = true ∧ g.station ∈ s.leading .A) ∨ (maskCar mask .B = true ∧ g.station ∈ s.leading .B)
    then g.close else g) := by
  have hlead : (s.lockNamed mask .A).leading .B = s.leading .B := State.leading_congr (by simp) (by simp) (by simp) (by simp) _
  rw [State.locking, State.lockNamed_gates, State.lockNamed_gates, hlead, List.map_map]
  refine List.map_congr_left (fun g _ => ?_)
  simp only [Function.comp_apply]
  by_cases hA : maskCar mask .A = true ∧ g.station ∈ s.leading .A
  · by_cases hB : maskCar mask .B = true ∧ g.station ∈ s.leading .B <;> simp [hA, hB, Gate.close_station, Gate.close_close]
  · simp [hA]

theorem DoorRec.lock_eq (d : DoorRec) (now : Time) : d.lock now =
    if d.isolated = true then d
    else if d.release = false ∧ d.close.isSome = true then d
    else if d.reported = .locked ∧ d.reopen = none then { d with release := false }
    else { d with release := false, reopen := none, attempts := 0, close := some now } := by
  simp [DoorRec.lock]

theorem Doors.carLocked_iff_atRest (d : Doors) (c : Car) : d.carLocked c = true ↔ ∀ x : Door, x.car = c →
    (d.door x).release = false ∧ ((d.door x).isolated = true ∨ (d.door x).reported = .locked) := by
  simp only [Doors.carLocked_iff, DoorRec.interlocked, Bool.or_eq_true, beq_iff_eq]

/-! ### ISOLATE_DOOR and RESTORE_DOOR -/

theorem Doors.anyFailed_iff (d : Doors) : d.anyFailed = true ↔ ∃ y, (d.door y).failed = true := by
  simp [Doors.anyFailed, Door.mem_all]

theorem Doors.anyIsolated_iff (d : Doors) : d.anyIsolated = true ↔ ∃ y, (d.door y).isolated = true := by
  simp [Doors.anyIsolated, Door.mem_all]

theorem State.isolate_same {x : Door} (h : (s.doors.door x).isolated = true) : s.isolate x = s := if_pos h

theorem State.isolate_eq {x : Door} (h : (s.doors.door x).isolated = false) : s.isolate x =
    ((((s.setDoor x (s.doors.door x).isolate).returnSide x.car).notice .door 5 [.code x.code]).failedCondition).isolatedCondition :=
  if_neg (by simp [h])

theorem State.isolate_spec {x : Door} (h : (s.doors.door x).isolated = false) :
    (s.isolate x).doors = (s.doors.put x (s.doors.door x).isolate).returnSide x.car ∧
      (s.isolate x).line.conds.doorIsolated = (s.isolate x).doors.anyIsolated ∧
      (s.isolate x).line.conds.closeFailed = (s.isolate x).doors.anyFailed := by
  rw [State.isolate_eq h]
  simp [State.isolatedCondition, State.failedCondition, Conditions.put, State.returnSide]

theorem State.restore_same {x : Door} (h : (s.doors.door x).isolated = false) : s.restore x = s := if_neg (by simp [h])

theorem State.restore_eq {x : Door} (h : (s.doors.door x).isolated = true) : s.restore x =
    (((s.setDoor x ((s.doors.door x).restore s.now)).returnSide x.car).notice .door 6 [.code x.code]).isolatedCondition :=
  if_pos h

theorem State.restore_spec {x : Door} (h : (s.doors.door x).isolated = true) :
    (s.restore x).doors = (s.doors.put x ((s.doors.door x).restore s.now)).returnSide x.car ∧
      (s.restore x).line.conds.doorIsolated = (s.restore x).doors.anyIsolated := by
  rw [State.restore_eq h]
  simp [State.isolatedCondition, Conditions.put, State.returnSide]

theorem State.isolationRefusal_key (h : s.line.key = false) : s.isolationRefusal = some .key := if_pos (by simp [h])

theorem State.isolationRefusal_motion (h : s.line.key = true) (h' : s.trk.still = false) : s.isolationRefusal = some .motion := by
  simp [State.isolationRefusal, h, h']

theorem State.isolationRefusal_none (h : s.line.key = true) (h' : s.trk.still = true) : s.isolationRefusal = none := by
  simp [State.isolationRefusal, h, h']

/-- Settles O52: each door record, each side and each gate. -/
theorem doorsLockAndIsolate : Obligations.DoorsLockAndIsolate := by
  unfold Obligations.DoorsLockAndIsolate
  intro lock isolate atRest
  refine ⟨fun h cars s ht => ?_, fun h n s ht => ⟨fun hx => ?_, fun x hx => ⟨fun hkey => ?_, fun hkey hstill => ?_,
    fun hkey hstill hiso => ?_, fun hkey hstill hiso => ?_⟩⟩, fun h n s ht => ⟨fun hx => ?_, fun x hx => ⟨fun hkey => ?_,
    fun hkey hstill => ?_, fun hkey hstill hiso => ?_, fun hkey hstill hiso => ?_⟩⟩⟩
  · obtain ⟨body, hdone⟩ : ∃ body, (s.advance h.dt).lockDoors cars = ((s.advance h.dt).locking cars, ⟨.done, body⟩) := ⟨_, rfl⟩
    have hlead : ∀ g : Gate, (maskCar cars .A = true ∧ g.station ∈ (s.advance h.dt).leading .A) ∨
        (maskCar cars .B = true ∧ g.station ∈ (s.advance h.dt).leading .B) ↔
        ∃ c st, cars.testBit c.code = true ∧ st ∈ s.geo.stations ∧ st.number = g.station ∧
          (s.trk.pos c - st.stopPos).natAbs ≤ 300 ∧ (s.servingOf g.station = some c ∨ s.servingOf g.station = none) := fun g => by
      have hcar : ∀ c, (maskCar cars c = true ∧ g.station ∈ (s.advance h.dt).leading c) ↔
          ∃ st, cars.testBit c.code = true ∧ st ∈ s.geo.stations ∧ st.number = g.station ∧
            (s.trk.pos c - st.stopPos).natAbs ≤ 300 ∧ (s.servingOf g.station = some c ∨ s.servingOf g.station = none) := fun c => by
        rw [show (s.advance h.dt).leading c = s.leading c from rfl, State.mem_leading]
        exact ⟨fun ⟨hc, st, hst⟩ => ⟨st, hc, hst⟩, fun ⟨st, hc, hst⟩ => ⟨hc, st, hst⟩⟩
      rw [hcar, hcar]
      exact ⟨fun hor => hor.elim (fun hA => ⟨_, hA⟩) (fun hB => ⟨_, hB⟩),
        fun ⟨c, hc⟩ => by cases c; exacts [.inl hc, .inr hc]⟩
    refine ⟨_, body, exec_taken_transmit (r := .lockDoors cars) rfl ht hdone, ?_⟩
    intro named leads
    simp only [State.flagged_frame, State.replied_frame]
    refine ⟨fun x hx => ?_, fun x hx => ?_, fun c hc hall => ?_, fun c hc => ?_, ?_, fun i g g' hg hg' => ?_,
      State.replied_ctl (by simp [State.locking]) _ _, ?_⟩
    · rw [State.locking_door, if_pos (by exact hx), DoorRec.lock_eq]
      rfl
    · rw [State.locking_door, if_neg (by exact hx)]
      rfl
    · rw [State.locking_side, if_pos ⟨hc, (Doors.carLocked_iff_atRest _ _).2 hall⟩]
    · rw [State.locking_side, if_neg]
      · rfl
      · rintro ⟨hn, hall⟩
        rcases hc with hno | ⟨x, hx, hrest⟩
        · exact hno hn
        · exact hrest ((Doors.carLocked_iff_atRest _ _).1 hall x hx)
    · rw [State.locking_gates]
      exact List.length_map _
    · rw [State.locking_gates, List.getElem?_map, show (s.advance h.dt).gates.gates[i]? = some g from hg] at hg'
      simp only [Option.map_some, Option.some.injEq] at hg'
      subst hg'
      refine ⟨fun hl hst => ?_, fun hl hst => ?_, fun hno => ?_⟩
      · rw [if_pos ((hlead g).2 hl), Gate.close_opened hst]
      · rw [if_pos ((hlead g).2 hl), Gate.close_passing hst]
      · rcases hno with hl | ⟨hopened, hpassing⟩
        · rw [if_neg (fun hor => hl ((hlead g).1 hor))]
        · rw [Gate.close_of_closed hopened hpassing, ite_self]
    · simp [State.sameMotion, State.locking]
  · exact exec_taken_of_eq (r := .isolateDoor n) rfl ht (by simp only [Request.owner, State.isolateDoor, hx]; rfl)
  · have hrefusal := State.isolationRefusal_key (s := s.advance h.dt) hkey
    exact exec_taken_of_eq (r := .isolateDoor n) rfl ht (by simp only [Request.owner, State.isolateDoor, hx, hrefusal]; rfl)
  · have hrefusal := State.isolationRefusal_motion (s := s.advance h.dt) hkey hstill
    exact exec_taken_of_eq (r := .isolateDoor n) rfl ht (by simp only [Request.owner, State.isolateDoor, hx, hrefusal]; rfl)
  · have hrefusal := State.isolationRefusal_none (s := s.advance h.dt) hkey hstill
    exact exec_taken_of_eq (r := .isolateDoor n) rfl ht
      (by simp only [Request.owner, State.isolateDoor, hx, hrefusal, State.isolate_same (s := s.advance h.dt) hiso]; rfl)
  · have hrefusal := State.isolationRefusal_none (s := s.advance h.dt) hkey hstill
    have hdone : (s.advance h.dt).isolateDoor n = ((s.advance h.dt).isolate x, ⟨.done, []⟩) := by
      simp only [State.isolateDoor, hx, hrefusal]
      rfl
    obtain ⟨hdoors, hisolated, hfailed⟩ := State.isolate_spec (s := s.advance h.dt) hiso
    have hdoor : ∀ y, ((s.advance h.dt).isolate x).doors.door y = if y = x then (s.doors.door x).isolate else s.doors.door y :=
      fun y => by rw [hdoors]; exact Doors.door_put _ _ _ _
    refine ⟨_, exec_taken_transmit (r := .isolateDoor n) rfl ht hdone, ?_⟩
    simp only [State.flagged_frame, State.replied_frame, hisolated, hfailed, Doors.anyIsolated_iff, Doors.anyFailed_iff, hdoor]
    refine ⟨if_pos trivial, fun y hy => if_neg hy, fun hall => ?_, ⟨x, by rw [if_pos rfl]; rfl⟩, trivial,
      State.replied_ctl (by simp) _ _, ?_⟩
    · have hlocked : ((s.advance h.dt).isolate x).doors.carLocked x.car = true :=
        (Doors.carLocked_iff_atRest _ _).2 (fun y hy => by rw [hdoor]; exact hall y hy)
      rw [hdoors] at hlocked ⊢
      rw [Doors.returnSide_side]
      exact if_pos hlocked
    · simp [State.sameMotion]
  · exact exec_taken_of_eq (r := .restoreDoor n) rfl ht (by simp only [Request.owner, State.restoreDoor, hx]; rfl)
  · have hrefusal := State.isolationRefusal_key (s := s.advance h.dt) hkey
    exact exec_taken_of_eq (r := .restoreDoor n) rfl ht (by simp only [Request.owner, State.restoreDoor, hx, hrefusal]; rfl)
  · have hrefusal := State.isolationRefusal_motion (s := s.advance h.dt) hkey hstill
    exact exec_taken_of_eq (r := .restoreDoor n) rfl ht (by simp only [Request.owner, State.restoreDoor, hx, hrefusal]; rfl)
  · have hrefusal := State.isolationRefusal_none (s := s.advance h.dt) hkey hstill
    exact exec_taken_of_eq (r := .restoreDoor n) rfl ht
      (by simp only [Request.owner, State.restoreDoor, hx, hrefusal, State.restore_same (s := s.advance h.dt) hiso]; rfl)
  · have hrefusal := State.isolationRefusal_none (s := s.advance h.dt) hkey hstill
    have hdone : (s.advance h.dt).restoreDoor n = ((s.advance h.dt).restore x, ⟨.done, []⟩) := by
      simp only [State.restoreDoor, hx, hrefusal]
      rfl
    obtain ⟨hdoors, hisolated⟩ := State.restore_spec (s := s.advance h.dt) hiso
    have hdoor : ∀ y, ((s.advance h.dt).restore x).doors.door y =
        if y = x then (s.doors.door x).restore (s.now + h.dt) else s.doors.door y :=
      fun y => by rw [hdoors]; exact Doors.door_put _ _ _ _
    refine ⟨_, exec_taken_transmit (r := .restoreDoor n) rfl ht hdone, ?_⟩
    simp only [State.flagged_frame, State.replied_frame, hisolated, Doors.anyIsolated_iff, hdoor]
    refine ⟨?_, fun y hy => if_neg hy, trivial, State.replied_ctl (by simp) _ _, ?_⟩
    · rw [if_pos trivial, DoorRec.restore, DoorRec.lock_eq]
    · simp [State.sameMotion]

end Machine
end Sys2Proof
end

section
/-! PROOFS. The timers of doors and gates: reopen, close, passage and passback (R120, R127, R129, R154, R156, R169). -/

namespace Sys2Proof
namespace Machine

variable {s : State}

theorem due_iff (span : Nat) (o : Option Time) (now : Time) :
    due span o now = true ↔ ∃ t0, o = some t0 ∧ span ≤ elapsed t0 now := by
  cases o with
  | none => simp [due]
  | some t0 => simp [due_some]

theorem Car.other_ne (c : Car) : c.other ≠ c := by cases c <;> simp [Car.other]

theorem PerCar.set_get_same {α : Type} (p : PerCar α) (c : Car) : p.set c (p.get c) = p := by cases c <;> rfl

/-! ### Door timers -/

theorem Doors.put_returnSide_door (d : Doors) (x y : Door) (r : DoorRec) :
    ((d.put x r).returnSide x.car).door y = if y = x then r else d.door y := Doors.door_put _ _ _ _

/-- The side of the door's car after its record is put and the side returned. -/
theorem Doors.put_returnSide_side (d : Doors) (x : Door) (r : DoorRec) :
    (((d.put x r).returnSide x.car).carLocked x.car = true → ((d.put x r).returnSide x.car).side.get x.car = none) ∧
      (¬((d.put x r).returnSide x.car).carLocked x.car = true →
        ((d.put x r).returnSide x.car).side.get x.car = d.side.get x.car) ∧
      ((d.put x r).returnSide x.car).side.get x.car.other = d.side.get x.car.other := by
  have hlocked : ((d.put x r).returnSide x.car).carLocked x.car = (d.put x r).carLocked x.car :=
    Doors.carLocked_congr (fun _ _ => rfl)
  rw [hlocked, Doors.returnSide_side]
  refine ⟨fun h => if_pos h, fun h => if_neg h, ?_⟩
  obtain ⟨c, i⟩ := x
  cases c <;> rfl

theorem State.reopenExpiry_due {x : Door} (h : due reopenSpan (s.doors.door x).reopen s.now = true) : s.reopenExpiry x =
    { s with doors := (s.doors.put x (s.doors.door x).withdraw).returnSide x.car } := if_pos h

/-- The record of a door at the end of its close timer. -/
def DoorRec.closeOver (d : DoorRec) : DoorRec :=
  { d with close := none, reopen := none, release := false, failed := !decide (d.reported = .locked) }

theorem State.closeExpiry_locked {x : Door} (h : due closeSpan (s.doors.door x).close s.now = true)
    (hrep : (s.doors.door x).reported = .locked) :
    s.closeExpiry x = (s.setDoor x (s.doors.door x).closeOver).closeEnded x := by
  simp only [State.closeExpiry, if_pos h, hrep, DoorRec.closeOver, if_true, decide_true, Bool.not_true]

theorem State.closeExpiry_unlocked {x : Door} (h : due closeSpan (s.doors.door x).close s.now = true)
    (hrep : (s.doors.door x).reported ≠ .locked) :
    s.closeExpiry x = (s.setDoor x (s.doors.door x).closeOver).closeFailed x := by
  simp only [State.closeExpiry, if_pos h, DoorRec.closeOver, if_neg hrep, decide_eq_false hrep, Bool.not_false]

theorem State.closeExpiry_doors {x : Door} (h : due closeSpan (s.doors.door x).close s.now = true) :
    (s.closeExpiry x).doors = (if (s.doors.door x).reported = .locked
      then (s.doors.put x (s.doors.door x).closeOver).returnSide x.car else s.doors.put x (s.doors.door x).closeOver) := by
  split
  next hrep =>
    rw [State.closeExpiry_locked h hrep]
    simp [State.closeEnded, State.failedCondition, State.returnSide]
  next hrep =>
    rw [State.closeExpiry_unlocked h hrep]
    simp [State.closeFailed, State.failedCondition]

theorem State.closeExpiry_condition {x : Door} (h : due closeSpan (s.doors.door x).close s.now = true) :
    (s.closeExpiry x).line.conds.closeFailed = (s.closeExpiry x).doors.anyFailed := by
  by_cases hrep : (s.doors.door x).reported = .locked
  · rw [State.closeExpiry_locked h hrep]
    simp [State.closeEnded, State.failedCondition, Conditions.put, Doors.anyFailed, State.returnSide]
  · rw [State.closeExpiry_unlocked h hrep]
    simp [State.closeFailed, State.failedCondition, Conditions.put]

/-! ### The tests of excess and short (R169) -/

/-- A load record with the tests of R169 made against its departure weigh. -/
def Load.tested (l : Load) (tol : Nat) : Load :=
  { l with
    excess := l.excess || l.departure.any (fun d => decide (l.expected + tol < d))
    short := l.short || l.departure.any (fun d => decide (d + tol < l.admMass)) }

theorem State.weighTests_tally (s : State) (c : Car) :
    (s.weighTests c).tally = s.tally.set c ((s.tally.get c).tested s.geo.tolerance) := by
  simp only [State.weighTests]
  split
  next h =>
    have hsame : (s.tally.get c).tested s.geo.tolerance = s.tally.get c := by
      simp only [Load.tested, h, Option.any_none, Bool.or_false]
      rw [← h]
    rw [hsame, PerCar.set_get_same]
  next d h =>
    have hbool : ∀ a b : Bool, (a || (!a && b)) = (a || b) := by decide
    have htested : (s.tally.get c).tested s.geo.tolerance = { s.tally.get c with
        excess := (s.tally.get c).excess || (!(s.tally.get c).excess && decide ((s.tally.get c).expected + s.geo.tolerance < d))
        short := (s.tally.get c).short || (!(s.tally.get c).short && decide (d + s.geo.tolerance < (s.tally.get c).admMass)) } := by
      simp [Load.tested, h, hbool]
    rw [htested]
    simp only [State.noticeIf_frame]
    split <;> simp

/-- A load record with reserved persons and mass counted aboard (R153). -/
def Load.converted (l : Load) (persons mass : Nat) : Load :=
  { l with
    resPersons := l.resPersons - persons, resMass := l.resMass - mass
    admPersons := l.admPersons + persons, admMass := l.admMass + mass }

theorem State.tallyConvert_tally (s : State) (c : Car) (persons mass : Nat) : (s.tallyConvert c persons mass).tally =
    s.tally.set c (((s.tally.get c).converted persons mass).tested s.geo.tolerance) := by
  simp only [State.tallyConvert, State.weighTests_tally]
  cases c <;> rfl

/-! ### Gate records -/

/-- A gate's record replaced, its address kept. -/
theorem Gates.find?_update (gs : Gates) (a b : Nat) {f : Gate → Gate} (hf : ∀ x, x.address = a → (f x).address = a) :
    (gs.update a f).find? b = if b = a then (gs.find? b).map f else gs.find? b := by
  have hpred : ((fun x : Gate => x.address == b) ∘ fun x => if x.address = a then f x else x) = fun x => x.address == b := by
    funext x
    by_cases hx : x.address = a
    · simp [hx, hf x hx]
    · simp [hx]
  have hmap : (gs.update a f).find? b = (gs.find? b).map (fun x => if x.address = a then f x else x) := by
    simp only [Gates.find?, Gates.update, List.find?_map, hpred]
  rw [hmap]
  cases hx : gs.find? b with
  | none => simp
  | some x =>
    have haddr : x.address = b := by simpa using List.find?_some hx
    by_cases hb : b = a
    · simp [haddr, hb]
    · simp [haddr, hb]

theorem Gate.endPassage_state (o : Bool) (g : Gate) : (Gate.endPassage o g).state =
    if g.enabled = false then .disabled else if g.closePending = false ∧ o = true then .opened else .closed := by
  unfold Gate.endPassage
  cases he : g.enabled <;> cases hc : g.closePending <;> cases o <;> simp [Gate.disable]

theorem putLeaf_mem (c : GateCmd) : ∀ os : List OutCmd, c ∈ (putLeaf c os).map (fun o => o.cmd)
  | [] => by simp [putLeaf]
  | o :: os => by
    unfold putLeaf
    split
    · simp
    · exact List.mem_cons_of_mem _ (putLeaf_mem c os)

/-- A gate whose passage ends and that does not stay open is commanded SHUT. -/
theorem Gate.endPassage_shut (o : Bool) (g : Gate) (h : (Gate.endPassage o g).state ≠ .opened) :
    GateCmd.shut ∈ (Gate.endPassage o g).outbox.map (fun o => o.cmd) := by
  rw [Gate.endPassage_state] at h
  unfold Gate.endPassage
  cases he : g.enabled
  · simp [Gate.disable]
  · cases hstay : (!g.closePending && o)
    · simpa [Gate.leafCmd] using putLeaf_mem .shut g.outbox
    · have hopen : g.closePending = false ∧ o = true := by simpa using hstay
      exact absurd (by rw [he, if_neg (by simp), if_pos hopen]) h

/-- The end of a passage whose outcome did not come in time (R154). -/
theorem State.passageTimeout_gates (s : State) (g : Gate) (x : Admission) (b : Nat) :
    (s.passageTimeout g x).gates.find? b = if b = g.address then (s.gates.find? b).map (fun y =>
      { Gate.endPassage (s.gates.openFor g.station).isSome y with overdue := some (x.ticket, x.car) }) else s.gates.find? b := by
  have hkeep : ∀ y : Gate, (Gate.endPassage (s.gates.openFor g.station).isSome y).address = y.address := fun y =>
    (Gate.endPassage_spec _ y).1
  have hend : (s.passageTimeout g x).gates = ((s.gates.update g.address
      (Gate.endPassage (s.gates.openFor g.station).isSome)).update g.address
        (fun y => { y with overdue := some (x.ticket, x.car) })) := by
    simp [State.passageTimeout, State.endPassage, State.gate]
  rw [hend, Gates.find?_update (f := fun y => { y with overdue := some (x.ticket, x.car) }) _ _ _ (fun _ h => h), Gates.find?_update _ _ _ (fun y h => (hkeep y).trans h)]
  split
  · rw [Option.map_map]
    rfl
  · rfl

theorem State.passageTimeout_tally (s : State) (g : Gate) (x : Admission) : (s.passageTimeout g x).tally =
    s.tally.set x.car (((s.tally.get x.car).converted x.persons x.mass).tested s.geo.tolerance) := by
  simp [State.passageTimeout, State.endPassage, State.tallyConvert_tally]

theorem State.passageExpiry_eq {a : Nat} {g : Gate} {x : Admission} (hg : s.gates.find? a = some g) (hx : g.admission = some x) :
    s.passageExpiry a = if x.span ≤ elapsed x.granted s.now then s.passageTimeout g x else s := by
  simp only [State.passageExpiry, hg, hx]

/-- Settles O53: each timer, due or not. -/
theorem doorAndGateTimersExpire : Obligations.DoorAndGateTimersExpire := by
  unfold Obligations.DoorAndGateTimersExpire
  intro locked
  have hreopen : reopenSpan = 3000 := rfl
  have hclose : closeSpan = 12000 := rfl
  have hlocked : ∀ d c, locked d c ↔ d.carLocked c = true := fun d c => (Doors.carLocked_iff d c).symm
  refine ⟨fun dt x s => ?_, fun dt x s => ?_, fun dt a s hno => ?_, fun dt a g x s hg hx => ⟨fun hold => ?_, fun hearly => ?_⟩,
    fun dt n s => ?_⟩
  · intro d
    refine ⟨fun hdue => ⟨_, exec_ended_of_eq (State.reopenExpiry_due (s := s.advance dt) ?_), ?_⟩,
      fun hno => exec_ended_of_eq (if_neg ?_)⟩
    · rw [due_iff, hreopen]
      exact hdue
    · simp only [hlocked]
      obtain ⟨hnone, hkept, hother⟩ := s.doors.put_returnSide_side x (s.doors.door x).withdraw
      exact ⟨(Doors.put_returnSide_door _ _ _ _).trans (if_pos rfl),
        fun y hy => (Doors.put_returnSide_door _ _ _ _).trans (if_neg hy), hnone, hkept, hother⟩
    · rw [due_iff, hreopen]
      exact hno
  · intro d
    refine ⟨fun hdue => ?_, fun hno => exec_ended_of_eq (if_neg ?_)⟩
    · have hdue' : due closeSpan ((s.advance dt).doors.door x).close (s.advance dt).now = true := by
        rw [due_iff, hclose]
        exact hdue
      have hdoors := State.closeExpiry_doors (s := s.advance dt) hdue'
      have hcond := State.closeExpiry_condition (s := s.advance dt) hdue'
      obtain ⟨hnone, hkept, hother⟩ := s.doors.put_returnSide_side x (s.doors.door x).closeOver
      have heff : effect (.closeTimerExpiry dt x) s = (s.advance dt).closeExpiry x := rfl
      refine ⟨_, exec_transmit_of_eq heff, ?_⟩
      simp only [State.flagged_frame, hcond, Doors.anyFailed_iff, hlocked]
      by_cases hrep : (s.doors.door x).reported = .locked
      · rw [if_pos (by exact hrep)] at hdoors
        rw [hdoors]
        refine ⟨(Doors.put_returnSide_door _ _ _ _).trans (if_pos rfl),
          fun y hy => (Doors.put_returnSide_door _ _ _ _).trans (if_neg hy), fun hne => absurd hrep hne, fun _ => hnone, hkept,
          hother, trivial, ?_⟩
        simp [State.sameMotion]
      · rw [if_neg (by exact hrep)] at hdoors
        rw [hdoors]
        refine ⟨(Doors.door_put _ _ _ _).trans (if_pos rfl), fun y hy => (Doors.door_put _ _ _ _).trans (if_neg hy),
          fun _ _ => rfl, fun heq => absurd heq hrep, fun _ => rfl, rfl, trivial, ?_⟩
        simp [State.sameMotion]
    · rw [due_iff, hclose]
      exact hno
  · have hnone : (s.advance dt).passageExpiry a = s.advance dt := by
      simp only [State.passageExpiry]
      split
      next g hg => rw [hno g hg]
      · rfl
    exact exec_ended_of_eq hnone
  · have heff : effect (.passageTimeout dt a) s = (s.advance dt).passageTimeout g x :=
      (State.passageExpiry_eq (s := s.advance dt) hg hx).trans (if_pos hold)
    have haddr : g.address = a := by simpa using List.find?_some hg
    have hfind := (s.advance dt).passageTimeout_gates g x
    rw [haddr] at hfind
    refine ⟨_, { Gate.endPassage (s.gates.openFor g.station).isSome g with overdue := some (x.ticket, x.car) },
      exec_transmit_of_eq heff, ?_⟩
    simp only [State.flagged_frame, State.passageTimeout_tally]
    obtain ⟨-, hadm, -⟩ := Gate.endPassage_spec (s.gates.openFor g.station).isSome g
    refine ⟨(hfind a).trans ?_, hadm, trivial, Gate.endPassage_state _ _, Gate.endPassage_shut _ _,
      fun b hb => (hfind b).trans (if_neg hb), ?_⟩
    · rw [if_pos rfl]
      exact congrArg (Option.map _) hg
    · simp only [PerCar.get_set, if_true]
      refine ⟨rfl, rfl, rfl, rfl, ⟨rfl, rfl⟩, if_neg (Car.other_ne _), by simp [State.passageTimeout, State.endPassage, State.gate, Gates.update], ?_⟩
      simp [State.sameMotion]
  · refine exec_ended_of_eq ((State.passageExpiry_eq (s := s.advance dt) hg hx).trans (if_neg ?_))
    exact not_le.2 hearly
  · have hsame : expireTicket n s.gates.passbackSpan (s.now + dt) s.gates.recent = s.gates.recent.filter (fun r =>
        decide (r.ticket ≠ n ∨ elapsed r.time (s.now + dt) < s.gates.passback * 60000)) := by
      refine List.filter_congr (fun r _ => ?_)
      by_cases hn : r.ticket = n
      · simp only [hn, Gates.passbackSpan, beq_self_eq_true, Bool.true_and, ne_eq, not_true, false_or]
        exact decide_not.symm.trans (decide_eq_decide.2 not_le)
      · simp [hn]
    rw [← hsame]
    exact exec_ended_of_eq rfl

end Machine
end Sys2Proof
end

section
/-! PROOFS. OPEN_STATION and CLOSE_STATION, and the serving car (R147 to R149). -/

namespace Sys2Proof
namespace Machine

variable {s : State}

/-! ### The serving car -/

theorem State.serves_iff (s : State) (st : Station) (c : Car) : s.serves st c = true ↔
    (s.trk.pos c - st.stopPos).natAbs ≤ 300 ∧ s.trk.still = true ∧ (∀ r, s.plan.run = some r → r.state = .planned) ∧
      (s.tally.get c).window = some st.number := by
  have hrun : s.idleOrPlanned = true ↔ ∀ r, s.plan.run = some r → r.state = .planned := by
    cases hr : s.plan.run <;> simp [State.idleOrPlanned, hr]
  simp only [State.serves, Bool.and_eq_true, within_iff, hrun, beq_iff_eq, and_assoc]

theorem State.serving_iff (s : State) (st : Station) :
    (s.serving st = some .A ↔ s.serves st .A = true) ∧
      (s.serving st = some .B ↔ ¬s.serves st .A = true ∧ s.serves st .B = true) := by
  unfold State.serving
  cases hA : s.serves st .A <;> cases hB : s.serves st .B <;> simp

/-! ### The marks of open stations -/

theorem find?_otherMarks {n m : Nat} (hm : m ≠ n) (xs : List OpenMark) :
    (xs.filter (fun x => x.station != n)).find? (fun x => x.station == m) = xs.find? (fun x => x.station == m) := by
  rw [List.find?_filter]
  refine congrArg (fun p => xs.find? p) (funext fun x => ?_)
  by_cases hx : x.station = m
  · simp [hx, hm]
  · simp [hx]

theorem find?_ownMark (n : Nat) (xs : List OpenMark) :
    (xs.filter (fun x => x.station != n)).find? (fun x => x.station == n) = none := by
  rw [List.find?_eq_none]
  intro x hx
  have hne := (List.mem_filter.1 hx).2
  simpa using hne

theorem Gates.openStation_openFor (g : Gates) (n m : Nat) (c : Car) :
    (g.openStation n c).openFor m = if m = n then some c else g.openFor m := by
  simp only [Gates.openStation, Gates.openFor, List.find?_append]
  by_cases hm : m = n
  · subst hm
    rw [find?_ownMark]
    simp
  · have hlast : ([⟨n, c⟩] : List OpenMark).find? (fun x => x.station == m) = none := by
      simp [Ne.symm hm]
    rw [find?_otherMarks hm, hlast, Option.or_none, if_neg hm]

theorem Gates.close_openFor (g : Gates) (n m : Nat) :
    (g.close n).openFor m = if m = n then none else g.openFor m := by
  simp only [Gates.close, Gates.openFor]
  by_cases hm : m = n
  · subst hm
    rw [find?_ownMark, if_pos rfl]
    rfl
  · rw [find?_otherMarks hm, if_neg hm]

/-! ### The gates of a station -/

theorem Gate.opens_eq (g : Gate) (n : Nat) : (if g.station = n then g.opens else g) =
    if g.station = n ∧ g.state = .closed then { g with state := .opened, outbox := putLeaf .opn g.outbox }
    else if g.station = n ∧ g.state = .passing then { g with closePending := false } else g := by
  by_cases hn : g.station = n
  · cases hst : g.state <;> simp [hn, hst, Gate.opens, Gate.leafCmd]
  · simp [hn]

theorem Gate.close_eq (g : Gate) (n : Nat) : (if g.station = n then g.close else g) =
    if g.station = n ∧ g.state = .opened then { g with state := .closed, outbox := putLeaf .shut g.outbox }
    else if g.station = n ∧ g.state = .passing then { g with closePending := true } else g := by
  by_cases hn : g.station = n
  · cases hst : g.state <;> simp [hn, hst, Gate.close, Gate.leafCmd]
  · simp [hn]

theorem State.openFor_gates (s : State) (n : Nat) (c : Car) : (s.openFor n c).gates = s.gates.openStation n c := by
  simp [State.openFor]

section
variable {n : Nat} {st : Station}

theorem State.openStation_mode (h : s.line.mode ≠ .automatic) : s.openStation n = (s, ⟨.mode, []⟩) := if_pos h

theorem State.openStation_range (h : s.line.mode = .automatic) (hst : s.geo.station? n = none) :
    s.openStation n = (s, ⟨.range, []⟩) := by
  simp only [State.openStation, hst, if_neg (not_not.2 h)]
  rfl

theorem State.openStation_noCar (h : s.line.mode = .automatic) (hst : s.geo.station? n = some st) (hno : s.serving st = none) :
    s.openStation n = (s, ⟨.state, [.code 14]⟩) := by
  simp only [State.openStation, hst, hno, if_neg (not_not.2 h)]
  rfl

theorem State.openStation_done {c : Car} (h : s.line.mode = .automatic) (hst : s.geo.station? n = some st)
    (hc : s.serving st = some c) : s.openStation n = (s.openFor n c, ⟨.done, listF (fun g : Gate => [.num g.address])
      (s.gates.gates.filter (fun g => g.station == n && g.state == .closed)) ++ [.code c.code]⟩) := by
  simp only [State.openStation, hst, hc, if_neg (not_not.2 h)]
  rfl

theorem State.closeStationRequest_range (hst : s.geo.station? n = none) : s.closeStationRequest n = (s, ⟨.range, []⟩) := by
  simp only [State.closeStationRequest, hst]
  rfl

theorem State.closeStationRequest_done (hst : (s.geo.station? n).isSome = true) :
    s.closeStationRequest n = (s.closeStation n .closeStation, ⟨.done, listF (fun g : Gate => [.num g.address])
        (s.gates.gates.filter (fun g => g.station == n && g.state == .opened)) ++
      listF (fun g : Gate => [.num g.address]) (s.gates.gates.filter (fun g => g.station == n && g.state == .passing))⟩) := by
  obtain ⟨st, hst⟩ := Option.isSome_iff_exists.1 hst
  simp only [State.closeStationRequest, hst]
  rfl

end

/-- Settles O55: the serving car, and both requests by their refusals. -/
theorem stationsOpenAndClose : Obligations.StationsOpenAndClose := by
  refine ⟨fun st s => ?_, fun h n s ht => ?_, fun h n s ht => ⟨fun hst => ?_, fun hst => ?_⟩⟩
  · intro serves
    obtain ⟨hA, hB⟩ := s.serving_iff st
    rw [State.serves_iff] at hA hB
    rw [State.serves_iff] at hB
    exact ⟨hA, hB⟩
  · refine ⟨fun hm => exec_taken_of_eq (r := .openStation n) rfl ht (State.openStation_mode (s := s.advance h.dt) hm),
      fun hm hst => exec_taken_of_eq (r := .openStation n) rfl ht (State.openStation_range (s := s.advance h.dt) hm hst),
      fun st hm hst hno => exec_taken_of_eq (r := .openStation n) rfl ht
        (State.openStation_noCar (s := s.advance h.dt) hm hst hno), fun st c hm hst hc => ?_⟩
    refine ⟨_, exec_taken_transmit (r := .openStation n) rfl ht (State.openStation_done (s := s.advance h.dt) hm hst hc), ?_⟩
    simp only [State.flagged_frame, State.replied_frame, State.openFor_gates, Gates.openStation_openFor]
    refine ⟨?_, if_pos trivial, fun m hm => if_neg hm, State.replied_ctl (by simp) _ _, ?_⟩
    · simp only [Gates.openStation, Gate.opens_eq]
      rfl
    · simp [State.sameMotion]
  · exact exec_taken_of_eq (r := .closeStation n) rfl ht (State.closeStationRequest_range (s := s.advance h.dt) hst)
  · refine ⟨_, exec_taken_transmit (r := .closeStation n) rfl ht
      (State.closeStationRequest_done (s := s.advance h.dt) hst), ?_⟩
    simp only [State.flagged_frame, State.replied_frame, State.closeStation_gates, Gates.close_openFor]
    refine ⟨?_, if_pos trivial, fun m hm => if_neg hm, State.replied_ctl (by simp) _ _, ?_⟩
    · simp only [Gates.close, Gate.close_eq]
      rfl
    · simp [State.sameMotion]

end Machine
end Sys2Proof
end

section
/-! PROOFS. The next transaction of the gate bus (R141, R142): the gate it goes to and what it carries. -/

namespace Sys2Proof
namespace Machine

variable {g : Gates}

/-! ### Least elements of an order of addresses -/

theorem find?_least {p : Nat → Bool} {a : Nat} : ∀ {xs : List Nat}, xs.Pairwise (· < ·) → a ∈ xs → p a = true →
    (∀ b ∈ xs, p b = true → a ≤ b) → xs.find? p = some a
  | x :: xs, hs, ha, hp, hmin => by
    obtain ⟨hx, htail⟩ := List.pairwise_cons.1 hs
    by_cases hpx : p x = true
    · have hle := hmin x List.mem_cons_self hpx
      have hxa : x = a := by
        rcases List.mem_cons.1 ha with h | h
        · exact h.symm
        · exact absurd (hx a h) (by omega)
      rw [List.find?_cons_of_pos hpx, hxa]
    · have ha' : a ∈ xs := (List.mem_cons.1 ha).resolve_left (fun h => hpx (h ▸ hp))
      rw [List.find?_cons_of_neg hpx]
      exact find?_least htail ha' hp (fun b hb => hmin b (List.mem_cons_of_mem _ hb))

theorem head?_least {a : Nat} {xs : List Nat} (hs : xs.Pairwise (· < ·)) (ha : a ∈ xs) (hmin : ∀ b ∈ xs, a ≤ b) :
    xs.head? = some a := by
  cases xs with
  | nil => exact absurd ha (List.not_mem_nil)
  | cons x xs =>
    rcases List.mem_cons.1 ha with h | h
    · rw [h]
      rfl
    · exact absurd ((List.pairwise_cons.1 hs).1 a h) (by have := hmin x List.mem_cons_self; omega)

/-! ### The main order -/

theorem Gate.inMain_iff (y : Gate) : y.inMain = true ↔ y.InMainOrder := by
  cases h : y.state <;> simp [Gate.inMain, Gate.InMainOrder, h]

theorem Gates.mem_mainOrder (g : Gates) (a : Nat) :
    a ∈ g.mainOrder ↔ a ≤ 16 ∧ ∃ y, g.find? a = some y ∧ y.InMainOrder := by
  have hany : (g.find? a).any Gate.inMain = true ↔ ∃ y, g.find? a = some y ∧ y.InMainOrder := by
    cases g.find? a <;> simp [Gate.inMain_iff]
  rw [Gates.mainOrder, List.mem_filter, hany, List.mem_range]
  exact and_congr_left' (by omega)

theorem Gates.mainOrder_sorted (g : Gates) : g.mainOrder.Pairwise (· < ·) := List.pairwise_lt_range.filter _

/-- The gate after the last one in the main order is the next (R141). -/
theorem Gates.nextMain_of_next {a : Nat}
    (h : NextInOrder (fun a => ∃ y, g.find? a = some y ∧ y.InMainOrder) g.lastMain a) : g.nextMain = some a := by
  obtain ⟨hle, hmain, hlast⟩ := h
  have ha : a ∈ g.mainOrder := (g.mem_mainOrder a).2 ⟨hle, hmain⟩
  have hs := g.mainOrder_sorted
  have hin : ∀ {b}, b ∈ g.mainOrder → ∃ y, g.find? b = some y ∧ y.InMainOrder := fun hb => ((g.mem_mainOrder _).1 hb).2
  have hbelow : ∀ {b}, b ∈ g.mainOrder → b ≤ 16 := fun hb => ((g.mem_mainOrder _).1 hb).1
  simp only [Gates.nextMain]
  split
  next hnone =>
    rw [hnone] at hlast
    exact head?_least hs ha (fun b hb => not_lt.1 (fun hlt => hlast b hlt (hin hb)))
  next l hl =>
    rw [hl] at hlast
    rcases hlast with ⟨hlt, hbetween⟩ | ⟨-, habove, hfirst⟩
    · rw [find?_least (p := fun a => decide (l < a)) hs ha (decide_eq_true hlt)
        (fun b hb hlb => not_lt.1 (fun hlt => hbetween b (of_decide_eq_true hlb) hlt (hin hb)))]
      rfl
    · have hnone : g.mainOrder.find? (fun a => decide (l < a)) = none := by
        rw [List.find?_eq_none]
        exact fun b hb hlb => habove b (of_decide_eq_true hlb) (hbelow hb) (hin hb)
      rw [hnone, head?_least hs ha (fun b hb => not_lt.1 (fun hlt => hfirst b hlt (hin hb)))]
      rfl

theorem Gates.mem_of_nextMain {a : Nat} (h : g.nextMain = some a) : a ∈ g.mainOrder := by
  simp only [Gates.nextMain] at h
  split at h
  · exact List.mem_of_mem_head? h
  · rcases Option.or_eq_some_iff.1 h with h | ⟨-, h⟩
    · exact List.mem_of_find?_eq_some h
    · exact List.mem_of_mem_head? h

theorem Gates.mainOrder_of_nextMain (h : g.nextMain = none) : g.mainOrder = [] := by
  simp only [Gates.nextMain] at h
  split at h
  · exact List.head?_eq_none_iff.1 h
  · exact List.head?_eq_none_iff.1 (Option.or_eq_none_iff.1 h).2

/-! ### The record a transaction begins with -/

theorem Gate.toSend_eq (y : Gate) : y.toSend = y.carries := by
  cases h : y.state <;> simp [Gate.toSend, Gate.carries, h]

theorem Gate.onSend_eq (y : Gate) : y.onSend = y.begun := by
  cases h : y.state <;> cases h' : y.outbox <;> simp [Gate.onSend, Gate.begun, h, h']

/-- A begun transaction touches the outbox and the retries alone. -/
theorem Gate.begun_same (y : Gate) : y.begun = { y with outbox := y.begun.outbox, retries := y.begun.retries } := by
  unfold Gate.begun
  repeat' split
  all_goals rfl

theorem Gate.begun_address (y : Gate) : y.begun.address = y.address := by rw [Gate.begun_same]

/-- What a transaction that begins makes of the gates. -/
theorem Gates.begin_spec (g : Gates) (now : Time) {a : Nat} {y : Gate} (hy : g.find? a = some y) (inserted : Bool) :
    (g.begin_ now y inserted).trans = some
        { address := a, cmd := y.carries, verify := y.verify && y.state != .disabled, final := y.state == .disabled,
          inserted := inserted, start := now, frame := transactionFrame a y.carries } ∧
      (g.begin_ now y inserted).find? a = some y.begun ∧
      (∀ b, b ≠ a → (g.begin_ now y inserted).find? b = g.find? b) ∧
      (g.begin_ now y inserted).round = g.round ∧ (g.begin_ now y inserted).lastMain = g.lastMain := by
  have haddr : y.address = a := by simpa using List.find?_some hy
  have hfind : ∀ b, (g.begin_ now y inserted).find? b = (g.update y.address Gate.onSend).find? b := fun _ => rfl
  have hkeep : ∀ x : Gate, x.address = y.address → x.onSend.address = y.address := fun x hx => by
    rw [Gate.onSend_eq, Gate.begun_address, hx]
  refine ⟨?_, ?_, fun b hb => ?_, rfl, rfl⟩
  · simp only [Gates.begin_, haddr, Gate.toSend_eq]
    rfl
  · rw [hfind, Gates.find?_update _ _ _ hkeep, if_pos haddr.symm, hy, Option.map_some, Gate.onSend_eq]
  · rw [hfind, Gates.find?_update _ _ _ hkeep, if_neg (haddr ▸ hb)]

/-- The round of inserted transactions goes on at a gate still in PASSING (R141). -/
theorem Gates.passing_of_roundLeft {a : Nat} {rest : List Nat} (h : g.roundLeft = a :: rest) :
    ∃ y, g.find? a = some y ∧ y.state = .passing := by
  have hne : g.roundLeft ≠ [] := by rw [h]; exact List.cons_ne_nil _ _
  have hhead := List.head_dropWhile_not (l := g.round) (fun a => !(g.find? a).any (fun y => y.state == .passing)) (by exact hne)
  have ha : g.roundLeft.head hne = a := by simp only [h, List.head_cons]
  have hpassing : (g.find? a).any (fun y => y.state == .passing) = true := by
    rw [← ha]
    exact Bool.not_eq_false' .. |>.mp hhead
  obtain ⟨y, hy, hst⟩ := (Option.any_eq_true _ _).1 hpassing
  exact ⟨y, hy, by simpa using hst⟩

/-! ### The next transaction -/

section
variable {now : Time} (hbus : g.busReleased = true) (hidle : g.trans = none)

theorem Gates.next_same (h : g.trans.isSome = true ∨ g.busReleased = false) : g.next now = g := by
  refine if_neg ?_
  rcases h with h | h
  · simp [Option.isSome_iff_ne_none.1 h]
  · simp [h]

include hbus hidle

theorem Gates.next_round {a : Nat} {rest : List Nat} {y : Gate} (h : g.roundLeft = a :: rest) (hy : g.find? a = some y) :
    g.next now = ({ g with round := rest }).begin_ now y true := by
  simp only [Gates.next, hbus, hidle, h, hy]
  rfl

theorem Gates.next_main {a : Nat} {y : Gate} (h : g.roundLeft = []) (ha : g.nextMain = some a) (hy : g.find? a = some y) :
    g.next now = ({ g with round := [], lastMain := some a }).begin_ now y false := by
  simp only [Gates.next, hbus, hidle, h, ha, hy]
  rfl

theorem Gates.next_none (h : g.roundLeft = []) (ha : g.nextMain = none) : g.next now = { g with round := [] } := by
  simp only [Gates.next, hbus, hidle, h, ha]
  rfl

/-- On a released bus without a transaction in progress the next one begins (R141, R142). -/
theorem Gates.next_goesOn : (g.next now).GoesOn g.find? g.round g.lastMain now := by
  have hleft : g.round.dropWhile (fun a => !(g.find? a).any (fun y => y.state == .passing)) = g.roundLeft := rfl
  have hbegins : ∀ (u : Gates) a inserted, u.find? = g.find? → ∀ x, g.find? a = some x → ∀ y, g.find? a = some y →
      (u.begin_ now x inserted).trans = some
        { address := a, cmd := y.carries, verify := y.verify && y.state != .disabled, final := y.state == .disabled,
          inserted := inserted, start := now, frame := transactionFrame a y.carries } ∧
      (u.begin_ now x inserted).find? a = some y.begun ∧ ∀ b, b ≠ a → (u.begin_ now x inserted).find? b = g.find? b := by
    intro u a inserted hu x hx y hy
    obtain rfl := Option.some.inj (hx.symm.trans hy)
    obtain ⟨htrans, ha, hb, -, -⟩ := u.begin_spec now (by rw [hu]; exact hx) inserted
    exact ⟨htrans, ha, fun b hne => (hb b hne).trans (congrFun hu b)⟩
  simp only [Gates.GoesOn, hleft]
  split
  next a rest hround =>
    obtain ⟨x, hx, -⟩ := Gates.passing_of_roundLeft hround
    rw [Gates.next_round hbus hidle hround hx]
    obtain ⟨-, -, -, hr, hl⟩ := ({ g with round := rest } : Gates).begin_spec now hx true
    exact ⟨hbegins _ a true rfl x hx, hr, hl⟩
  next hround =>
    cases hnext : g.nextMain with
    | some a =>
      obtain ⟨-, x, hx, -⟩ := (g.mem_mainOrder a).1 (Gates.mem_of_nextMain hnext)
      rw [Gates.next_main hbus hidle hround hnext hx]
      obtain ⟨-, -, -, hr, hl⟩ := ({ g with round := [], lastMain := some a } : Gates).begin_spec now hx false
      refine ⟨hr, fun b hb => ?_, fun hno => ?_⟩
      · obtain rfl : a = b := Option.some.inj (hnext.symm.trans (Gates.nextMain_of_next hb))
        exact ⟨hbegins _ a false rfl x hx, hl⟩
      · obtain ⟨hle, hmain⟩ := (g.mem_mainOrder a).1 (Gates.mem_of_nextMain hnext)
        exact absurd hmain (hno a hle)
    | none =>
      rw [Gates.next_none hbus hidle hround hnext]
      refine ⟨rfl, fun b hb => ?_, fun _ => ⟨hidle, rfl, fun _ => rfl⟩⟩
      rw [Gates.nextMain_of_next hb] at hnext
      cases hnext

end

/-- The next transaction leaves each record, but for the one it begins with. -/
theorem Gates.next_find? (g : Gates) (now : Time) (b : Nat) :
    (g.next now).find? b = g.find? b ∨ (g.next now).find? b = (g.find? b).map Gate.begun := by
  by_cases hgo : g.trans.isSome = true ∨ g.busReleased = false
  · rw [Gates.next_same hgo]
    exact .inl rfl
  · obtain ⟨htrans, hbus⟩ := not_or.1 hgo
    have hidle : g.trans = none := by simpa using htrans
    have hbus' : g.busReleased = true := by simpa using hbus
    have hone : ∀ (u : Gates) a inserted x, u.find? = g.find? → g.find? a = some x →
        (u.begin_ now x inserted).find? b = g.find? b ∨ (u.begin_ now x inserted).find? b = (g.find? b).map Gate.begun := by
      intro u a inserted x hu hx
      obtain ⟨-, ha, hb, -, -⟩ := u.begin_spec now (by rw [hu]; exact hx) inserted
      by_cases hba : b = a
      · subst hba
        exact .inr (by rw [ha, hx]; rfl)
      · exact .inl ((hb b hba).trans (congrFun hu b))
    cases hround : g.roundLeft with
    | cons a rest =>
      obtain ⟨x, hx, -⟩ := Gates.passing_of_roundLeft hround
      rw [Gates.next_round hbus' hidle hround hx]
      exact hone { g with round := rest } a true x rfl hx
    | nil =>
      cases hnext : g.nextMain with
      | none =>
        rw [Gates.next_none hbus' hidle hround hnext]
        exact .inl rfl
      | some a =>
        obtain ⟨-, x, hx, -⟩ := (g.mem_mainOrder a).1 (Gates.mem_of_nextMain hnext)
        rw [Gates.next_main hbus' hidle hround hnext hx]
        exact hone { g with round := [], lastMain := some a } a false x rfl hx

end Machine
end Sys2Proof
end

section
/-! PROOFS. RELEASE_GATE_BUS, SET_GATE, LOAD_CLASSES and SET_PASSBACK (R139, R141, R157, R158, R212). -/

namespace Sys2Proof
namespace Machine

variable {s : State}

/-! ### RELEASE_GATE_BUS -/

theorem State.stateNotices_gates (s : State) (f : Gate → Gate) (e : GateEvent) (gs : List Gate) :
    (s.stateNotices f e gs).gates = s.gates := by simp

/-- The gates as the bus is released. -/
def Gates.released (g : Gates) : Gates := { g with busReleased := true, gates := g.gates.map Gate.busRelease }

theorem Gates.released_find? (g : Gates) (b : Nat) : g.released.find? b = (g.find? b).map Gate.busRelease := by
  have hpred : ((fun x : Gate => x.address == b) ∘ Gate.busRelease) = fun x => x.address == b := by
    funext x
    simp only [Function.comp_apply, (Gate.busRelease_spec x).1]
  simp only [Gates.find?, Gates.released, List.find?_map, hpred]

/-- As the bus is released no gate has a command to be sent. -/
theorem Gate.busRelease_begun (g : Gate) : g.busRelease.begun = g.busRelease := by
  unfold Gate.busRelease
  split <;> rfl

theorem Gate.busRelease_carries (g : Gate) : g.busRelease.carries = none := by
  unfold Gate.busRelease Gate.carries
  split <;> simp

theorem Gate.busRelease_inMain (g : Gate) : g.busRelease.InMainOrder ↔ g.enabled = true := by
  unfold Gate.busRelease Gate.InMainOrder
  split
  next h => simp [h]
  next h => simp [h]

theorem Gates.released_begin (g : Gates) (now : Time) (u : Gates) (hu : u.gates = g.released.gates) (x : Gate) (b : Bool) :
    (u.begin_ now x b).gates = g.released.gates := by
  have hmap : (u.begin_ now x b).gates = u.gates.map (fun y => if y.address = x.address then y.onSend else y) := rfl
  rw [hmap, hu]
  simp only [Gates.released, List.map_map]
  refine List.map_congr_left (fun y _ => ?_)
  simp only [Function.comp_apply, Gate.onSend_eq, Gate.busRelease_begun, ite_self]

theorem Gates.released_roundLeft (g : Gates) : g.released.roundLeft = [] := by
  cases hround : g.released.roundLeft with
  | nil => rfl
  | cons a rest =>
    obtain ⟨y, hy, hst⟩ := Gates.passing_of_roundLeft hround
    rw [Gates.released_find?] at hy
    obtain ⟨z, -, rfl⟩ := Option.map_eq_some_iff.1 hy
    unfold Gate.busRelease at hst
    split at hst <;> cases hst

/-- The first poll as the bus is released. -/
theorem Gates.released_next (g : Gates) (now : Time) (hidle : g.trans = none) :
    (g.released.next now).gates = g.released.gates ∧
      (∀ x, (g.released.next now).trans = some x → x.cmd = none ∧ x.start = now ∧
        ∃ y, g.find? x.address = some y ∧ y.enabled = true) ∧
      ((g.released.next now).trans = none → ∀ a y, a ≤ 16 → g.find? a = some y → y.enabled = false) := by
  have hround := g.released_roundLeft
  cases hnext : g.released.nextMain with
  | none =>
    have horder := Gates.mainOrder_of_nextMain hnext
    rw [Gates.next_none (g := g.released) rfl hidle hround hnext]
    refine ⟨rfl, fun x hx => absurd (hidle.symm.trans hx) (by simp), fun _ a y ha hy => ?_⟩
    have hnot : a ∉ g.released.mainOrder := by rw [horder]; exact List.not_mem_nil
    rw [Gates.mem_mainOrder, Gates.released_find?, hy] at hnot
    simpa [ha, Gate.busRelease_inMain] using hnot
  | some a =>
    obtain ⟨-, x, hx, hin⟩ := (g.released.mem_mainOrder a).1 (Gates.mem_of_nextMain hnext)
    have hx' := hx
    rw [Gates.released_find?] at hx'
    obtain ⟨y, hy, rfl⟩ := Option.map_eq_some_iff.1 hx'
    rw [Gates.next_main (g := g.released) rfl hidle hround hnext hx]
    obtain ⟨htrans, -⟩ := ({ g.released with round := [], lastMain := some a } : Gates).begin_spec now hx false
    refine ⟨g.released_begin now { g.released with round := [], lastMain := some a } rfl _ _, fun z hz => ?_, fun hno => ?_⟩
    · obtain rfl := Option.some.inj (htrans.symm.trans hz)
      exact ⟨y.busRelease_carries, rfl, y, hy, (y.busRelease_inMain).1 hin⟩
    · rw [htrans] at hno
      cases hno

theorem State.releaseBus_gates (s : State) : s.releaseBus.gates = s.gates.released.next s.now := by
  simp [State.releaseBus, State.nextTransaction, State.gateCondition, Gates.released]

theorem State.releaseBus_condition (s : State) :
    s.releaseBus.line.conds.gateOffline = true ↔ ∃ g ∈ s.gates.gates, g.enabled = true := by
  have hcond : s.releaseBus.line.conds.gateOffline = s.gates.released.anyOffline := by
    simp [State.releaseBus, State.gateCondition, Conditions.put, Gates.released]
  have hoffline : ∀ g : Gate, g.busRelease.state = .offline ↔ g.enabled = true := fun g => by
    unfold Gate.busRelease
    split <;> simp [*]
  rw [hcond]
  simp [Gates.anyOffline, Gates.released, hoffline]

/-! ### SET_GATE -/

/-- A gate's record with the settings of SET_GATE, and the state they give it (R139). -/
theorem Gate.settings_eq (e m k v : Nat) (g : Gate) : Gate.settings (e != 0) (m == 1) k (v == 1) g =
    if g.state = .held ∨ g.state = .passing then
      { g with enabled := decide (e ≠ 0), leaf := decide (m = 1), scale := max 1 (min k 32), verify := decide (v = 1) }
    else if e = 0 then
      (if g.state = .disabled then
        { g with enabled := decide (e ≠ 0), leaf := decide (m = 1), scale := max 1 (min k 32), verify := decide (v = 1) }
      else { g with
        enabled := decide (e ≠ 0), leaf := decide (m = 1), scale := max 1 (min k 32), verify := decide (v = 1)
        state := .disabled, outbox := [⟨.shut, false⟩], closePending := false, retries := 0 })
    else if g.state = .disabled then
      { g with
        enabled := decide (e ≠ 0), leaf := decide (m = 1), scale := max 1 (min k 32), verify := decide (v = 1)
        state := .offline, missed := 0, streak := 0, outbox := [] }
    else { g with enabled := decide (e ≠ 0), leaf := decide (m = 1), scale := max 1 (min k 32), verify := decide (v = 1) } := by
  have hm : (m == 1) = decide (m = 1) := rfl
  have hv : (v == 1) = decide (v = 1) := rfl
  have he : (e != 0) = decide (e ≠ 0) := by by_cases h : e = 0 <;> simp [h]
  rw [hm, hv, he]
  by_cases h : e = 0
  · cases hst : g.state <;> simp [Gate.settings, Gate.applyEnabled, Gate.disable, hst, h]
  · cases hst : g.state <;> simp [Gate.settings, Gate.applyEnabled, Gate.enable, hst, h]

/-- What SET_GATE leaves of a record and gives it. -/
theorem Gate.settings_spec (e m k v : Nat) (g : Gate) :
    (Gate.settings (e != 0) (m == 1) k (v == 1) g).enabled = decide (e ≠ 0) ∧
      (Gate.settings (e != 0) (m == 1) k (v == 1) g).leaf = decide (m = 1) ∧
      (Gate.settings (e != 0) (m == 1) k (v == 1) g).scale = max 1 (min k 32) ∧
      (Gate.settings (e != 0) (m == 1) k (v == 1) g).verify = decide (v = 1) ∧
      (Gate.settings (e != 0) (m == 1) k (v == 1) g).admission = g.admission ∧
      (Gate.settings (e != 0) (m == 1) k (v == 1) g).overdue = g.overdue ∧
      (Gate.settings (e != 0) (m == 1) k (v == 1) g).station = g.station ∧
      (Gate.settings (e != 0) (m == 1) k (v == 1) g).compartment = g.compartment ∧
      (Gate.settings (e != 0) (m == 1) k (v == 1) g).state =
        (if g.state = .held ∨ g.state = .passing then g.state
         else if e = 0 then .disabled
         else if g.state = .disabled then .offline else g.state) ∧
      (Gate.settings (e != 0) (m == 1) k (v == 1) g).outbox =
        (if g.state = .held ∨ g.state = .passing then g.outbox
         else if e = 0 then (if g.state = .disabled then g.outbox else [⟨.shut, false⟩])
         else if g.state = .disabled then [] else g.outbox) := by
  rw [Gate.settings_eq]
  split
  · exact ⟨rfl, rfl, rfl, rfl, rfl, rfl, rfl, rfl, rfl, rfl⟩
  · split
    · split
      next h => exact ⟨rfl, rfl, rfl, rfl, rfl, rfl, rfl, rfl, h, rfl⟩
      · exact ⟨rfl, rfl, rfl, rfl, rfl, rfl, rfl, rfl, rfl, rfl⟩
    · split <;> exact ⟨rfl, rfl, rfl, rfl, rfl, rfl, rfl, rfl, rfl, rfl⟩

theorem Gate.settings_address (b l : Bool) (k : Nat) (v : Bool) (g : Gate) : (Gate.settings b l k v g).address = g.address :=
  (Gate.settings_alike b l k v g).1

theorem State.changeGate_gates (s : State) (g : Gate) (f : Gate → Gate) :
    (s.changeGate g f).gates = (s.gates.update g.address f).next s.now := by
  simp [State.changeGate, State.nextTransaction, State.gateCondition, State.gate]

theorem State.setGate_range {a e m k v : Nat} (h : s.gates.find? a = none ∨ 1 < m ∨ 1 < v) :
    s.setGate a e m k v = (s, ⟨.range, []⟩) := by
  simp only [State.setGate]
  split
  · rfl
  next g hg =>
    rw [hg] at h
    exact if_pos (h.resolve_left (by simp))

theorem State.setGate_done {a e m k v : Nat} {g : Gate} (hg : s.gates.find? a = some g) (hm : m ≤ 1) (hv : v ≤ 1) :
    s.setGate a e m k v = (s.changeGate g (Gate.settings (e != 0) (m == 1) k (v == 1)), ⟨.done, []⟩) := by
  simp only [State.setGate, hg]
  exact if_neg (by omega)

/-! ### LOAD_CLASSES and SET_PASSBACK -/

theorem ClassBytes.ok_iff (e : ClassBytes) : ClassBytes.ok_ e = true ↔ e.enabled ≤ 1 ∧ e.persons ≤ 2 ∧ e.mass ≤ 400 ∧ e.stepFree ≤ 1 := by
  simp [ClassBytes.ok_, and_assoc]

theorem State.loadClasses_done {es : List ClassBytes} (h : ∀ e ∈ es, ClassBytes.ok_ e = true) : s.loadClasses es =
    ({ s with gates := { s.gates with classes := es.map classOf } }, ⟨.done, []⟩) := by
  have hnone : badClass es = none := List.findIdx?_eq_none_iff.2 (fun e he => by simp [h e he])
  simp only [State.loadClasses, hnone]
  rfl

theorem State.loadClasses_range {pre post : List ClassBytes} {e : ClassBytes} (h : ∀ x ∈ pre, ClassBytes.ok_ x = true)
    (he : ¬ClassBytes.ok_ e = true) : s.loadClasses (pre ++ e :: post) = (s, ⟨.range, [.num pre.length]⟩) := by
  have hnone : pre.findIdx? (fun e => !ClassBytes.ok_ e) = none :=
    List.findIdx?_eq_none_iff.2 (fun x hx => by simp [h x hx])
  have hbad : badClass (pre ++ e :: post) = some pre.length := by
    simp [badClass, List.findIdx?_append, hnone, List.findIdx?_cons, he]
  simp only [State.loadClasses, hbad]

/-- What SET_GATE makes of the records, before the next transaction. -/
theorem Gates.find?_settings (g : Gates) {a : Nat} {y : Gate} (hy : g.find? a = some y) (b l : Bool) (k : Nat) (v : Bool) :
    (g.update y.address (Gate.settings b l k v)).find? =
      fun c => if c = a then some (Gate.settings b l k v y) else g.find? c := by
  have haddr : y.address = a := by simpa using List.find?_some hy
  funext c
  rw [haddr, Gates.find?_update _ _ _ (fun x hx => (Gate.settings_address b l k v x).trans hx)]
  by_cases hc : c = a
  · rw [if_pos hc, if_pos hc, hc, hy]
    rfl
  · rw [if_neg hc, if_neg hc]

/-- The addressed gate after SET_GATE and the transaction that may begin with it. -/
theorem Gates.settings_next_find? (g : Gates) {a : Nat} {y : Gate} (hy : g.find? a = some y) (b l : Bool) (k : Nat) (v : Bool)
    (now : Time) : ∃ y', ((g.update y.address (Gate.settings b l k v)).next now).find? a = some y' ∧
      (y' = Gate.settings b l k v y ∨ y' = (Gate.settings b l k v y).begun) := by
  have hfound := congrFun (g.find?_settings hy b l k v) a
  rw [if_pos rfl] at hfound
  rcases (g.update y.address (Gate.settings b l k v)).next_find? now a with h | h
  · exact ⟨_, h.trans hfound, .inl rfl⟩
  · rw [hfound] at h
    exact ⟨_, h, .inr rfl⟩

/-- Settles O54: the bus, the settings of a gate, the class table and the passback age. -/
theorem gateSettingsTakeEffect : Obligations.GateSettingsTakeEffect := by
  refine ⟨fun h s ht => ⟨fun hm => ?_, fun hm hbus => ?_, fun hm hbus hidle => ?_⟩, fun h a e m k v s ht =>
    ⟨fun hno => ?_, fun g hg hm hv => ?_⟩, fun h es s ht => ?_, fun h n s ht => ?_⟩
  · exact exec_taken_of_eq (r := .releaseGateBus) rfl ht (if_pos (by exact hm))
  · refine exec_taken_of_eq (r := .releaseGateBus) rfl ht (u := s.advance h.dt) ?_
    exact (if_neg (by exact hm)).trans (if_pos (by exact hbus))
  · have hdone : (s.advance h.dt).releaseGateBus = ((s.advance h.dt).releaseBus, ⟨.done, []⟩) :=
      (if_neg (by exact hm)).trans (if_neg (by simpa using hbus))
    have hidle' : (s.advance h.dt).gates.trans = none := hidle
    obtain ⟨hgates, htrans, hquiet⟩ := s.gates.released_next (s.now + h.dt) hidle
    have hfound : s.gates.released.find? = fun b => (s.gates.find? b).map Gate.busRelease := funext s.gates.released_find?
    have hgoes := Gates.next_goesOn (g := s.gates.released) (now := s.now + h.dt) rfl hidle
    rw [hfound] at hgoes
    refine ⟨_, exec_taken_transmit (r := .releaseGateBus) rfl ht hdone, ?_⟩
    simp only [State.flagged_frame, State.replied_frame, State.releaseBus_gates, State.releaseBus_condition]
    refine ⟨by simp [Gates.released], hgates, htrans, fun hno a y ha hy => hquiet hno a y ha hy, hgoes, Iff.rfl,
      State.replied_ctl (by simp) _ _, ?_⟩
    simp [State.sameMotion, Gates.released]
  · exact exec_taken_of_eq (r := .setGate a e m k v) rfl ht (State.setGate_range (s := s.advance h.dt) hno)
  · have hdone := State.setGate_done (s := s.advance h.dt) (e := e) (k := k) hg hm hv
    obtain ⟨g', hg', hnew⟩ := s.gates.settings_next_find? hg (e != 0) (m == 1) k (v == 1) (s.now + h.dt)
    have hfound := s.gates.find?_settings hg (e != 0) (m == 1) k (v == 1)
    refine ⟨_, g', exec_taken_transmit (r := .setGate a e m k v) rfl ht hdone, ?_⟩
    simp only [State.flagged_frame, State.replied_frame, State.changeGate_gates]
    have hsame : g' = { Gate.settings (e != 0) (m == 1) k (v == 1) g with outbox := g'.outbox, retries := g'.retries } := by
      rcases hnew with rfl | rfl
      · rfl
      · exact Gate.begun_same _
    have hidle : s.gates.trans.isSome = true ∨ s.gates.busReleased = false →
        (s.gates.update g.address (Gate.settings (e != 0) (m == 1) k (v == 1))).next (s.now + h.dt) =
          s.gates.update g.address (Gate.settings (e != 0) (m == 1) k (v == 1)) := fun hgo => Gates.next_same hgo
    have htrans' : s.gates.trans.isSome = true ∨ s.gates.busReleased = false →
        ((s.gates.update g.address (Gate.settings (e != 0) (m == 1) k (v == 1))).next (s.now + h.dt)).trans = s.gates.trans :=
      fun hgo => by rw [hidle hgo]; rfl
    obtain ⟨henabled, hleaf, hscale, hverify, hadm, hoverdue, hstation, hcomp, hstate, houtbox⟩ := Gate.settings_spec e m k v g
    refine ⟨?_, hg', ?_, ?_, ?_, ?_, ?_, ?_, ?_, ?_, ?_, fun hbusy => ?_, fun b y y' hb hy hy' => ?_,
      State.replied_ctl (by simp) _ _, ?_⟩
    · rw [← Gate.settings_eq, ← hfound]
      refine ⟨fun hgo => ?_, fun htrans hbus => Gates.next_goesOn (g := s.gates.update g.address _) hbus htrans⟩
      have hkept := hidle hgo
      exact ⟨htrans' hgo,
        fun b => (congrArg (fun u : Gates => u.find? b) hkept).trans (congrFun hfound b)⟩
    · rw [hsame]; exact henabled
    · rw [hsame]; exact hleaf
    · rw [hsame]; exact hscale
    · rw [hsame]; exact hverify
    · rw [hsame]; exact hadm
    · rw [hsame]; exact hoverdue
    · rw [hsame]; exact hstation
    · rw [hsame]; exact hcomp
    · rw [hsame]; exact hstate
    · have hkept := hidle (.inl hbusy)
      have hset : g' = Gate.settings (e != 0) (m == 1) k (v == 1) g := by
        rw [hkept, hfound] at hg'
        exact (Option.some.inj ((if_pos rfl).symm.trans hg')).symm
      refine ⟨by rw [hset]; exact houtbox, htrans' (.inl hbusy), fun b hb => ?_⟩
      exact (congrArg (fun u : Gates => u.find? b) hkept).trans ((congrFun hfound b).trans (if_neg hb))
    · have hb' := (congrFun hfound b).trans (if_neg hb)
      rcases (s.gates.update g.address (Gate.settings (e != 0) (m == 1) k (v == 1))).next_find? (s.now + h.dt) b with hn | hn
      · have heq := Option.some.inj (hy'.symm.trans (hn.trans (hb'.trans hy)))
        rw [heq]
      · rw [hb', hy] at hn
        have heq := Option.some.inj (hy'.symm.trans hn)
        rw [heq]
        exact Gate.begun_same _
    · simp [State.sameMotion, Gates.update]
  · intro inRange
    refine ⟨fun hall => ?_, fun pre post e hes hpre he => ?_⟩
    · refine exec_taken_of_eq (r := .loadClasses es) rfl ht
        ((State.loadClasses_done (s := s.advance h.dt) (fun e he => (ClassBytes.ok_iff e).2 (hall e he))).trans ?_)
      rfl
    · subst hes
      exact exec_taken_of_eq (r := .loadClasses (pre ++ e :: post)) rfl ht (State.loadClasses_range (s := s.advance h.dt)
        (fun x hx => (ClassBytes.ok_iff x).2 (hpre x hx)) (mt (ClassBytes.ok_iff e).1 he))
  · exact exec_taken_of_eq (r := .setPassback n) rfl ht rfl

end Machine
end Sys2Proof
end

section
/-! PROOFS. The end of a gate transaction (R142 to R146, R150 to R155): what an answer or silence makes of the gate's record, of
the tally and of the recent-ticket list. -/

namespace Sys2Proof
namespace Machine

variable {s w w' : State} {a : Nat} {g y y' : Gate} {ts ts' : PerCar Load} {rs rs' : List Recent}

/-! ### One gate's record replaced -/

/-- From `s` to `w` the gate with address `a` comes to the record `y`, the other records stay, and the tally and the
recent-ticket list are the ones given. -/
def State.Turns (s w : State) (a : Nat) (y : Gate) (ts : PerCar Load) (rs : List Recent) : Prop :=
  (∀ b, w.gates.find? b = if b = a then some y else s.gates.find? b) ∧ w.tally = ts ∧ w.gates.recent = rs

theorem State.Turns.found (h : s.Turns w a y ts rs) : w.gates.find? a = some y := by
  rw [h.1, if_pos rfl]

theorem State.Turns.trans (h : s.Turns w a y ts rs) (h' : w.Turns w' a y' ts' rs') : s.Turns w' a y' ts' rs' := by
  refine ⟨fun b => ?_, h'.2⟩
  rw [h'.1, h.1]
  split <;> rfl

theorem State.Turns.unique (h : s.Turns w a y ts rs) (h' : s.Turns w a y' ts' rs') : y = y' ∧ ts = ts' ∧ rs = rs' :=
  ⟨Option.some.inj (h.found.symm.trans h'.found), h.2.1.symm.trans h'.2.1, h.2.2.symm.trans h'.2.2⟩

theorem State.Turns.refl (hy : s.gates.find? a = some y) : s.Turns s a y s.tally s.gates.recent := by
  refine ⟨fun b => ?_, rfl, rfl⟩
  split
  next h => rw [h, hy]
  · rfl

/-- What leaves the records, the tally and the recent-ticket list as they are goes on as before. -/
theorem State.Turns.of_eq (h : s.Turns w a y ts rs) (hgates : w'.gates.gates = w.gates.gates) (htally : w'.tally = ts')
    (hrecent : w'.gates.recent = rs') : s.Turns w' a y ts' rs' := by
  refine ⟨fun b => ?_, htally, hrecent⟩
  rw [← h.1]
  simp only [Gates.find?, hgates]

theorem State.Turns.of_same (h : s.Turns w a y ts rs) (hgates : w'.gates = w.gates) (htally : w'.tally = w.tally) :
    s.Turns w' a y ts rs :=
  h.of_eq (by rw [hgates]) (htally.trans h.2.1) (by rw [hgates]; exact h.2.2)

theorem State.address_of_find (hy : s.gates.find? a = some y) : y.address = a := by simpa using List.find?_some hy

theorem State.turns_gate (hy : s.gates.find? a = some y) {f : Gate → Gate} (hf : ∀ x, (f x).address = x.address) :
    s.Turns (s.gate a f) a (f y) s.tally s.gates.recent := by
  refine ⟨fun b => ?_, rfl, rfl⟩
  rw [show (s.gate a f).gates.find? b = (s.gates.update a f).find? b from rfl,
    Gates.find?_update _ _ _ (fun x hx => (hf x).trans hx)]
  by_cases hb : b = a
  · rw [if_pos hb, if_pos hb, hb, hy]
    rfl
  · rw [if_neg hb, if_neg hb]

/-! ### The operations of an answer -/

section
variable (hy : s.gates.find? a = some y)
include hy

theorem State.turns_missed (hg : g.address = a) (h : g.missed < 2) :
    s.Turns (s.missed g) a { y with missed := g.missed + 1 } s.tally s.gates.recent := by
  rw [State.missed, if_pos h, hg]
  exact State.turns_gate hy (f := fun x => { x with missed := g.missed + 1 }) (fun _ => rfl)

/-- The tally as an admission held by a gate is counted aboard, where it holds one (R145). -/
def convertedTally (s : State) (o : Option Admission) : PerCar Load :=
  match o with
  | none => s.tally
  | some x => s.tally.set x.car (((s.tally.get x.car).converted x.persons x.mass).tested s.geo.tolerance)

omit hy in
@[simp] theorem State.convertHeld_gates (s : State) (g : Gate) : (s.convertHeld g).gates = s.gates := by
  unfold State.convertHeld
  split <;> simp

omit hy in
theorem State.convertHeld_tally (s : State) (g : Gate) : (s.convertHeld g).tally = convertedTally s g.admission := by
  cases hadm : g.admission with
  | none => simp only [State.convertHeld, hadm, convertedTally]
  | some x => simp only [State.convertHeld, hadm, convertedTally, State.tallyConvert_tally]

theorem State.turns_gateOffline (hg : g.address = a) (c : OfflineCause) :
    s.Turns (s.gateOffline g c) a y.goOffline (convertedTally s g.admission) s.gates.recent := by
  have hstart : s.Turns (s.convertHeld g) a y (convertedTally s g.admission) s.gates.recent :=
    (State.Turns.refl hy).of_eq (by simp) (s.convertHeld_tally g) (by simp)
  have hturn := hstart.trans (State.turns_gate hstart.found (f := Gate.goOffline) (fun x => (Gate.goOffline_spec x).1))
  rw [s.convertHeld_tally, s.convertHeld_gates] at hturn
  refine hturn.of_same ?_ ?_ <;> simp [State.gateOffline, State.gateCondition, hg]

theorem State.turns_refuse (n cls : Nat) (r : TicketRefusal) :
    s.Turns (s.refuse a n cls r) a { y with outbox := y.outbox ++ [⟨.refuse r, false⟩] } s.tally s.gates.recent := by
  refine (State.turns_gate hy (f := fun x => x.answerCmd (.refuse r)) (fun _ => rfl)).of_eq ?_ ?_ ?_ <;> simp [State.refuse]

/-- The record of a gate at a grant (R151). -/
theorem State.turns_grant (hg : g.address = a) (c : Car) (n persons mass : Nat) :
    s.Turns (s.grant g c n persons mass) a
      { y with
        state := .passing, overdue := none, outbox := y.outbox ++ [⟨.admits persons, false⟩]
        admission := some ⟨n, c, persons, mass, g.leaf, s.now, 2000 * g.scale⟩ }
      (s.tallyGrant c persons mass).tally (pushRecent ⟨n, g.address, s.now⟩ s.gates.recent) := by
  refine (State.turns_gate hy (f := fun x => { x.answerCmd (.admits persons) with
    state := .passing, admission := some ⟨n, c, persons, mass, g.leaf, s.now, 2000 * g.scale⟩, overdue := none })
    (fun _ => rfl)).of_eq ?_ ?_ ?_
  · simp [State.grant, hg, State.gate]
  · simp [State.grant, State.gate]
  · simp [State.grant, hg, State.gate, Gates.update]

/-- The end of a passage (R153). -/
theorem State.turns_endPassage (hg : g.address = a) (e : GateEvent) :
    s.Turns (s.endPassage g e) a (Gate.endPassage (s.gates.openFor g.station).isSome y) s.tally s.gates.recent := by
  refine (State.turns_gate hy (f := Gate.endPassage (s.gates.openFor g.station).isSome)
    (fun x => (Gate.endPassage_spec _ x).1)).of_eq ?_ ?_ ?_ <;> simp [State.endPassage, hg]

theorem State.turns_passed (hg : g.address = a) (x : Admission) (e : GateEvent) :
    s.Turns (s.passed g x e) a (Gate.endPassage (s.gates.openFor g.station).isSome y) (convertedTally s (some x)) s.gates.recent := by
  have hgates : (s.tallyConvert x.car x.persons x.mass).gates = s.gates := by simp
  have hstart : s.Turns (s.tallyConvert x.car x.persons x.mass) a y (convertedTally s (some x)) s.gates.recent :=
    (State.Turns.refl hy).of_eq (by rw [hgates]) (State.tallyConvert_tally _ _ _ _) (by rw [hgates])
  have hend := hstart.trans (State.turns_endPassage hstart.found hg e)
  rw [hgates, State.tallyConvert_tally] at hend
  refine State.Turns.of_same hend ?_ ?_ <;> simp [State.passed]

/-- A passage turned back with its leaf not opened wide: its ticket leaves the list, its reservation ends (R153). -/
theorem State.turns_turnedBack (hg : g.address = a) (x : Admission) (hleaf : x.leaf = false) :
    s.Turns (s.turnedBack g x) a (Gate.endPassage (s.gates.openFor g.station).isSome y)
      (s.tallyRelease x.car x.persons x.mass).tally (dropAdmission x g.address s.gates.recent) := by
  have hgates : (s.tallyRelease x.car x.persons x.mass).gates = s.gates := by simp
  have hstart : s.Turns { s.tallyRelease x.car x.persons x.mass with
      gates := { (s.tallyRelease x.car x.persons x.mass).gates with
        recent := dropAdmission x g.address (s.tallyRelease x.car x.persons x.mass).gates.recent } } a y
      (s.tallyRelease x.car x.persons x.mass).tally (dropAdmission x g.address s.gates.recent) :=
    (State.Turns.refl hy).of_eq (by rw [hgates]) rfl (by rw [hgates])
  have hend := hstart.trans (State.turns_endPassage hstart.found hg .turnedBack)
  simp only [hgates] at hend
  refine State.Turns.of_same hend ?_ ?_ <;> simp [State.turnedBack, hleaf]

theorem State.turns_lateOutcome (hg : g.address = a) (p : Passage) :
    s.Turns (s.lateOutcome g p) a (if g.overdue.isSome then { y with overdue := none } else y) s.tally s.gates.recent := by
  cases ho : g.overdue with
  | none =>
    refine (State.Turns.refl hy).of_same ?_ ?_ <;> simp [State.lateOutcome, ho]
  | some o =>
    refine (State.turns_gate hy (f := fun x => { x with overdue := none }) (fun _ => rfl)).of_same ?_ ?_ <;>
      simp [State.lateOutcome, ho, hg]

theorem State.turns_streak (hg : g.address = a) :
    s.Turns (s.streak g) a (if g.streak = 0 then { y with streak := g.streak + 1 } else Gate.online { y with streak := g.streak + 1 })
      s.tally s.gates.recent := by
  have hcount := State.turns_gate hy (f := fun x => { x with streak := g.streak + 1 }) (fun _ => rfl)
  by_cases h : g.streak = 0
  · rw [if_pos h, State.streak, if_pos (by omega), hg]
    exact hcount
  · rw [if_neg h, State.streak, if_neg (by omega), hg]
    have honline := hcount.trans (State.turns_gate hcount.found (f := Gate.online) (fun _ => rfl))
    refine State.Turns.of_same honline ?_ ?_ <;> simp [State.gateCondition]

end

end Machine
end Sys2Proof
end

section
/-! PROOFS. The gate's record at the end of a transaction, case by case: polls, tickets, commands, and an OFFLINE gate. -/

namespace Sys2Proof
namespace Machine

variable {s : State} {a : Nat} {g y : Gate}

/-! ### A ticket (R150, R151) -/

/-- The refusal a ticket meets, if any: the checks of R150 in their order, and then the admission check. -/
def State.ticketVerdict (s : State) (g : Gate) (id k p : Nat) : Option TicketRefusal :=
  match s.gates.openFor g.station, s.gates.classes[takenClass k]? with
  | some car, some f =>
    match s.ticketRefusal g car f id p with
    | some r => some r
    | none =>
      match (s.admissionCheck car (p * f.persons) (p * f.mass)).1 with
      | .grant => none
      | .capacity => some .capacity
      | .margin => some .margin
  | _, _ => some .noService

theorem State.ticketRefusal_eq (s : State) (g : Gate) (c : Car) (f : FareClass) (id p : Nat) : s.ticketRefusal g c f id p =
    if f.enabled = false ∨ p < 1 ∨ 6 < p then some TicketRefusal.cls
    else if f.stepFree = true ∧ s.stepFree c g.compartment = false then some .stepFree
    else if s.gates.recent.any (fun r => r.ticket == id) = true then some .duplicate else none := by
  simp only [State.ticketRefusal, Bool.or_eq_true, Bool.not_eq_true', decide_eq_true_eq, Bool.and_eq_true, or_assoc]

theorem Load.tested_spec (l : Load) (tol : Nat) : (l.tested tol).resPersons = l.resPersons ∧ (l.tested tol).resMass = l.resMass ∧
    (l.tested tol).admPersons = l.admPersons ∧ (l.tested tol).admMass = l.admMass :=
  ⟨rfl, rfl, rfl, rfl⟩

/-- The state with the last admission check of a car recorded. -/
def State.checking (s : State) (c : Car) (persons mass : Nat) : State :=
  s.setLoad c { s.tally.get c with lastCheck := some (s.admissionCheck c persons mass) }

theorem State.turns_checking (hy : s.gates.find? a = some y) (c : Car) (persons mass : Nat) :
    s.Turns (s.checking c persons mass) a y (s.checking c persons mass).tally s.gates.recent :=
  (State.Turns.refl hy).of_eq (by simp [State.checking]) rfl (by simp [State.checking])

theorem State.checking_get (s : State) (c d : Car) (persons mass : Nat) :
    (s.checking c persons mass).tally.get d =
      { s.tally.get d with lastCheck := ((s.checking c persons mass).tally.get d).lastCheck } := by
  simp only [State.checking, State.setLoad_tally, PerCar.get_set]
  split
  next h => rw [h]
  · rfl

/-- A ticket that meets a refusal. -/
theorem State.turns_ticket_refused (hy : s.gates.find? a = some y) (hg : g.address = a) {id k p : Nat} {r : TicketRefusal}
    (h : s.ticketVerdict g id k p = some r) : ∃ ts, s.Turns (s.ticket g id k p) a
      { y with outbox := y.outbox ++ [⟨.refuse r, false⟩] } ts s.gates.recent ∧
      ∀ c, ts.get c = { s.tally.get c with lastCheck := (ts.get c).lastCheck } := by
  have hplain : ∃ ts, s.Turns (s.refuse a id k r) a { y with outbox := y.outbox ++ [⟨.refuse r, false⟩] } ts s.gates.recent ∧
      ∀ c, ts.get c = { s.tally.get c with lastCheck := (ts.get c).lastCheck } :=
    ⟨_, State.turns_refuse hy id k r, fun _ => rfl⟩
  have hlate : ∀ c n m, ∃ ts, s.Turns ((s.checking c n m).refuse a id k r) a
      { y with outbox := y.outbox ++ [⟨.refuse r, false⟩] } ts s.gates.recent ∧
      ∀ d, ts.get d = { s.tally.get d with lastCheck := (ts.get d).lastCheck } := fun c n m => by
    have hcheck := State.turns_checking hy c n m
    have hturn := hcheck.trans (State.turns_refuse hcheck.found id k r)
    exact ⟨_, ⟨hturn.1, hturn.2.1, hturn.2.2.trans hcheck.2.2⟩, fun d => s.checking_get c d n m⟩
  have hnone : some TicketRefusal.noService = some r → ∃ ts, s.Turns (s.refuse a id k .noService) a
      { y with outbox := y.outbox ++ [⟨.refuse r, false⟩] } ts s.gates.recent ∧
      ∀ c, ts.get c = { s.tally.get c with lastCheck := (ts.get c).lastCheck } :=
    fun h => (Option.some.inj h).symm ▸ hplain
  revert h
  simp only [State.ticketVerdict, State.ticket, hg]
  cases s.gates.openFor g.station with
  | none => exact hnone
  | some c =>
    cases s.gates.classes[takenClass k]? with
    | none => exact hnone
    | some f =>
      dsimp only
      cases s.ticketRefusal g c f id p with
      | some r' => exact fun h => Option.some.inj h ▸ hplain
      | none =>
        cases hcheck : (s.admissionCheck c (p * f.persons) (p * f.mass)).1 with
        | grant => exact nofun
        | capacity => exact fun h => Option.some.inj h ▸ hlate c _ _
        | margin => exact fun h => Option.some.inj h ▸ hlate c _ _

/-- A ticket that no refusal meets. -/
theorem State.turns_ticket_granted (hy : s.gates.find? a = some y) (hg : g.address = a) {id k p : Nat} {c : Car} {f : FareClass}
    (hc : s.gates.openFor g.station = some c) (hf : s.gates.classes[takenClass k]? = some f)
    (h : s.ticketVerdict g id k p = none) : ∃ ts, s.Turns (s.ticket g id k p) a
      { y with
        state := .passing, overdue := none, outbox := y.outbox ++ [⟨.admits (p * f.persons), false⟩]
        admission := some ⟨id, c, p * f.persons, p * f.mass, g.leaf, s.now, 2000 * g.scale⟩ } ts
      (pushRecent ⟨id, g.address, s.now⟩ s.gates.recent) ∧
      (ts.get c).resPersons = (s.tally.get c).resPersons + p * f.persons ∧
      (ts.get c).resMass = (s.tally.get c).resMass + p * f.mass ∧
      (ts.get c).admPersons = (s.tally.get c).admPersons ∧ ts.get c.other = s.tally.get c.other := by
  have hgrant : s.ticket g id k p = (s.checking c (p * f.persons) (p * f.mass)).grant g c id (p * f.persons) (p * f.mass) := by
    revert h
    simp only [State.ticketVerdict, State.ticket, hc, hf]
    cases s.ticketRefusal g c f id p with
    | some _ => exact nofun
    | none =>
      cases hcheck : (s.admissionCheck c (p * f.persons) (p * f.mass)).1 with
      | grant => exact fun _ => rfl
      | capacity => exact nofun
      | margin => exact nofun
  have hcheck := State.turns_checking hy c (p * f.persons) (p * f.mass)
  have hturn := hcheck.trans (State.turns_grant hcheck.found hg c id (p * f.persons) (p * f.mass))
  have hnow : (s.checking c (p * f.persons) (p * f.mass)).now = s.now := by simp [State.checking]
  rw [hnow, hcheck.2.2] at hturn
  rw [hgrant]
  refine ⟨_, hturn, ?_⟩
  simp only [State.tallyGrant, State.weighTests_tally, State.setLoad_tally, State.checking]
  cases c <;> exact ⟨rfl, rfl, rfl, rfl⟩

/-! ### A gate that goes OFFLINE, and the end of a passage -/

theorem Gate.goOffline_eq (g : Gate) : g.goOffline =
    { g with
      state := if g.enabled = true then .offline else .disabled
      overdue := (g.admission.map (fun (a : Admission) => (a.ticket, a.car))).or g.overdue
      admission := none, outbox := if g.enabled = true then [] else [⟨.shut, false⟩], closePending := false
      retries := 0, missed := 0, streak := 0 } := by
  unfold Gate.goOffline
  cases g.enabled <;> rfl

theorem Gate.endPassage_eq (o : Bool) (g : Gate) : Gate.endPassage o g =
    if g.enabled = false then
      { g with admission := none, state := .disabled, outbox := [⟨.shut, false⟩], closePending := false, retries := 0 }
    else if g.closePending = false ∧ o = true then { g with admission := none, state := .opened }
    else { g with admission := none, state := .closed, closePending := false, outbox := putLeaf .shut g.outbox } := by
  unfold Gate.endPassage
  cases g.enabled <;> cases g.closePending <;> cases o <;> rfl

theorem convertedTally_some (s : State) (x : Admission) :
    ((convertedTally s (some x)).get x.car).resPersons = (s.tally.get x.car).resPersons - x.persons ∧
    ((convertedTally s (some x)).get x.car).resMass = (s.tally.get x.car).resMass - x.mass ∧
    ((convertedTally s (some x)).get x.car).admPersons = (s.tally.get x.car).admPersons + x.persons ∧
    ((convertedTally s (some x)).get x.car).admMass = (s.tally.get x.car).admMass + x.mass ∧
    (convertedTally s (some x)).get x.car.other = s.tally.get x.car.other := by
  simp only [convertedTally]
  cases x.car <;> exact ⟨rfl, rfl, rfl, rfl, rfl⟩

theorem State.tallyRelease_spec (s : State) (c : Car) (persons mass : Nat) :
    ((s.tallyRelease c persons mass).tally.get c).resPersons = (s.tally.get c).resPersons - persons ∧
    ((s.tallyRelease c persons mass).tally.get c).admPersons = (s.tally.get c).admPersons := by
  simp only [State.tallyRelease, State.weighTests_tally, State.setLoad_tally]
  cases c <;> exact ⟨rfl, rfl⟩

/-! ### An answer in service -/

section
variable {x : Transaction} {ans : Option Answer} (hy : s.gates.find? x.address = some g)
include hy

theorem State.takeAnswer_of_kept (h : x.final = true ∨ g.state = .held ∨ g.state = .disabled) : s.takeAnswer x ans = s := by
  simp only [State.takeAnswer, hy]
  rcases h with h | h | h <;> simp [h]

theorem State.takeAnswer_of_offline (hf : x.final = false) (h : g.state = .offline) :
    s.takeAnswer x ans = s.answerOffline g ans := by
  simp [State.takeAnswer, hy, hf, h]

theorem State.takeAnswer_of_service (hf : x.final = false) (h : g.state = .closed ∨ g.state = .opened ∨ g.state = .passing) :
    s.takeAnswer x ans = s.answerInService x g ans := by
  rcases h with h | h | h <;> simp [State.takeAnswer, hy, hf, h]

/-- A missed poll (R145), whatever else the event has written to the record. -/
theorem State.turns_missedPoll (z : Gate) (hz : z.address = x.address) (hmissed : z.missed = g.missed)
    (hadm : z.admission = g.admission) :
    (g.missed < 2 → s.Turns (s.missed z) x.address { g with missed := g.missed + 1 } s.tally s.gates.recent) ∧
    (2 ≤ g.missed → s.Turns (s.missed z) x.address g.goOffline (convertedTally s g.admission) s.gates.recent) := by
  refine ⟨fun h => ?_, fun h => ?_⟩
  · have := State.turns_missed (g := z) hy hz (by omega)
    rwa [hmissed] at this
  · rw [State.missed, if_neg (by omega), ← hadm]
    exact State.turns_gateOffline hy hz _

theorem State.turns_answered :
    s.Turns (s.gate g.address Gate.answered) x.address { g with missed := 0 } s.tally s.gates.recent := by
  simpa only [State.address_of_find hy, Gate.answered] using State.turns_gate hy (f := Gate.answered) (fun _ => rfl)

/-- The state in which a poll's answer is read: the gate's missed polls are 0. -/
theorem State.turns_poll {u : State} {z : Gate} {ts : PerCar Load} {rs : List Recent}
    (h : (s.gate g.address Gate.answered).Turns u x.address z ts rs) : s.Turns u x.address z ts rs :=
  (State.turns_answered hy).trans h

theorem State.poll_found : (s.gate g.address Gate.answered).gates.find? x.address = some { g with missed := 0 } :=
  (State.turns_answered hy).found

/-- A ticket, in a gate that is not OPEN or with a refusal (R150). -/
theorem State.turns_poll_refused {id k p : Nat} {r : TicketRefusal}
    (h : s.ticketVerdict g id k p = some r) (ho : g.state = .opened) : ∃ ts,
      s.Turns ((s.gate g.address Gate.answered).pollAnswer g (.ticket id k p)) x.address
        { g with missed := 0, outbox := g.outbox ++ [⟨.refuse r, false⟩] } ts s.gates.recent ∧
      ∀ c, ts.get c = { s.tally.get c with lastCheck := (ts.get c).lastCheck } := by
  obtain ⟨ts, hturn, hts⟩ := State.turns_ticket_refused (State.poll_found hy) (State.address_of_find hy)
    (g := g) (show (s.gate g.address Gate.answered).ticketVerdict g id k p = some r from h)
  refine ⟨ts, State.turns_poll hy ?_, hts⟩
  simp only [State.pollAnswer, if_pos ho]
  exact hturn

end

end Machine
end Sys2Proof
end

section
/-! PROOFS. The answer to a poll, the answer to a command and the answers of an OFFLINE gate, each as what becomes of the record. -/

namespace Sys2Proof
namespace Machine

variable {s : State} {g : Gate} {x : Transaction} {ans : Option Answer}

theorem Gate.late_eq (o : Option (Nat × Car)) (y : Gate) (h : y.overdue = o) :
    (if o.isSome then { y with overdue := none } else y) = { y with overdue := none } := by
  split
  · rfl
  next hnone => rw [← Option.not_isSome_iff_eq_none.1 hnone, ← h]

theorem Gate.goOffline_missed (g : Gate) (n : Nat) : Gate.goOffline { g with missed := n } = g.goOffline := by
  simp only [Gate.goOffline_eq]

theorem Gate.goOffline_retries (g : Gate) (n : Nat) : Gate.goOffline { g with retries := n } = g.goOffline := by
  simp only [Gate.goOffline_eq]

section
variable (hy : s.gates.find? x.address = some g) (hf : x.final = false)
  (hst : g.state = .closed ∨ g.state = .opened ∨ g.state = .passing)
include hy hf hst

/-! ### Polls (R143) -/

theorem State.takeAnswer_poll (hcmd : x.cmd = none) : s.takeAnswer x ans =
    match ans with
    | none => s.missed g
    | some (.echo _ _) => s.missed g
    | some z => (s.gate g.address Gate.answered).pollAnswer g z := by
  rw [State.takeAnswer_of_service hy hf hst, State.answerInService.eq_def, hcmd] <;> rfl

section
variable (hcmd : x.cmd = none)
include hcmd

theorem State.turns_take_idle : s.Turns (s.takeAnswer x (some .idle)) x.address { g with missed := 0 } s.tally s.gates.recent := by
  rw [State.takeAnswer_poll hy hf hst hcmd]
  exact State.turns_answered hy

theorem State.take_missed (h : ans = none ∨ ∃ k n, ans = some (.echo k n)) : s.takeAnswer x ans = s.missed g := by
  rw [State.takeAnswer_poll hy hf hst hcmd]
  rcases h with rfl | ⟨k, n, rfl⟩ <;> rfl

theorem State.turns_take_fault (n : Nat) : s.Turns (s.takeAnswer x (some (.fault n))) x.address g.goOffline
    (convertedTally s g.admission) s.gates.recent := by
  rw [State.takeAnswer_poll hy hf hst hcmd]
  refine State.turns_poll hy ?_
  have hstart := (State.Turns.refl (State.poll_found hy)).of_same
    (w' := (s.gate g.address Gate.answered).notice .gate 1 [.num g.address, .num n]) (by simp) (by simp)
  have hoff := hstart.trans (State.turns_gateOffline hstart.found (State.address_of_find hy) (.fault n))
  rw [Gate.goOffline_missed] at hoff
  have htally : convertedTally ((s.gate g.address Gate.answered).notice .gate 1 [.num g.address, .num n]) g.admission =
      convertedTally s g.admission := by
    cases g.admission with
    | none => simp [convertedTally]
    | some a => simp [convertedTally]
  rw [htally] at hoff
  exact ⟨hoff.1, hoff.2.1, hoff.2.2.trans (by simp [State.gate, Gates.update])⟩

/-- A ticket in a gate that is not OPEN is refused (R150). -/
theorem State.turns_take_shut (ho : g.state ≠ .opened) (id k p : Nat) : s.Turns (s.takeAnswer x (some (.ticket id k p))) x.address
    { g with missed := 0, outbox := g.outbox ++ [⟨.refuse .noService, false⟩] } s.tally s.gates.recent := by
  rw [State.takeAnswer_poll hy hf hst hcmd]
  refine State.turns_poll hy ?_
  simp only [State.pollAnswer, if_neg ho]
  rw [State.address_of_find hy]
  have hfound := State.poll_found hy
  rw [State.address_of_find hy] at hfound
  exact State.turns_refuse hfound id k .noService

theorem State.turns_take_refused (ho : g.state = .opened) {id k p : Nat} {r : TicketRefusal}
    (h : s.ticketVerdict g id k p = some r) : ∃ ts, s.Turns (s.takeAnswer x (some (.ticket id k p))) x.address
      { g with missed := 0, outbox := g.outbox ++ [⟨.refuse r, false⟩] } ts s.gates.recent ∧
      ∀ c, ts.get c = { s.tally.get c with lastCheck := (ts.get c).lastCheck } := by
  rw [State.takeAnswer_poll hy hf hst hcmd]
  exact State.turns_poll_refused hy h ho

theorem State.turns_take_granted (ho : g.state = .opened) {id k p : Nat} {c : Car} {f : FareClass}
    (hc : s.gates.openFor g.station = some c) (hclass : s.gates.classes[takenClass k]? = some f)
    (h : s.ticketVerdict g id k p = none) : ∃ ts, s.Turns (s.takeAnswer x (some (.ticket id k p))) x.address
      { g with
        missed := 0, state := .passing, overdue := none, outbox := g.outbox ++ [⟨.admits (p * f.persons), false⟩]
        admission := some ⟨id, c, p * f.persons, p * f.mass, g.leaf, s.now, 2000 * g.scale⟩ } ts
      (pushRecent ⟨id, g.address, s.now⟩ s.gates.recent) ∧
      (ts.get c).resPersons = (s.tally.get c).resPersons + p * f.persons ∧
      (ts.get c).resMass = (s.tally.get c).resMass + p * f.mass ∧
      (ts.get c).admPersons = (s.tally.get c).admPersons ∧ ts.get c.other = s.tally.get c.other := by
  rw [State.takeAnswer_poll hy hf hst hcmd]
  obtain ⟨ts, hturn, hts⟩ := State.turns_ticket_granted (State.poll_found hy) (State.address_of_find hy) (g := g)
    (by exact hc) (by exact hclass) (show (s.gate g.address Gate.answered).ticketVerdict g id k p = none from h)
  refine ⟨ts, State.turns_poll hy ?_, hts⟩
  simp only [State.pollAnswer, if_pos ho]
  exact hturn

/-- PASSED, or TURNED_BACK with the leaf opened wide, for a held admission (R152, R153). -/
theorem State.turns_take_passed {a : Admission} (ha : g.admission = some a)
    (h : ans = some .passed ∨ (ans = some .turnedBack ∧ a.leaf = true)) : s.Turns (s.takeAnswer x ans) x.address
      (Gate.endPassage (s.gates.openFor g.station).isSome { g with missed := 0 }) (convertedTally s (some a)) s.gates.recent := by
  rw [State.takeAnswer_poll hy hf hst hcmd]
  refine State.turns_poll hy ?_
  have hpass : ∀ e, (s.gate g.address Gate.answered).Turns ((s.gate g.address Gate.answered).passed g a e) x.address
      (Gate.endPassage (s.gates.openFor g.station).isSome { g with missed := 0 }) (convertedTally s (some a)) s.gates.recent :=
    fun e => State.turns_passed (State.poll_found hy) (State.address_of_find hy) a e
  rcases h with rfl | ⟨rfl, hleaf⟩
  · simp only [State.pollAnswer, ha]
    exact hpass _
  · simp only [State.pollAnswer, ha, State.turnedBack, if_pos hleaf]
    exact hpass _

theorem State.turns_take_turnedBack {a : Admission} (ha : g.admission = some a) (hleaf : a.leaf = false) :
    s.Turns (s.takeAnswer x (some .turnedBack)) x.address
      (Gate.endPassage (s.gates.openFor g.station).isSome { g with missed := 0 })
      (s.tallyRelease a.car a.persons a.mass).tally (dropAdmission a g.address s.gates.recent) := by
  rw [State.takeAnswer_poll hy hf hst hcmd]
  refine State.turns_poll hy ?_
  simp only [State.pollAnswer, ha]
  have hturn := State.turns_turnedBack (State.poll_found hy) (State.address_of_find hy) a hleaf
  refine ⟨hturn.1, hturn.2.1.trans ?_, hturn.2.2⟩
  simp only [State.tallyRelease, State.weighTests_tally, State.setLoad_tally]
  simp

/-- A passage outcome in a gate that holds no admission (R155). -/
theorem State.turns_take_stray (ha : g.admission = none) (h : ans = some .passed ∨ ans = some .turnedBack) :
    s.Turns (s.takeAnswer x ans) x.address { g with missed := 0, overdue := none } s.tally s.gates.recent := by
  rw [State.takeAnswer_poll hy hf hst hcmd]
  refine State.turns_poll hy ?_
  have hlate : ∀ p, (s.gate g.address Gate.answered).Turns ((s.gate g.address Gate.answered).lateOutcome g p) x.address
      { g with missed := 0, overdue := none } s.tally s.gates.recent := fun p => by
    have := State.turns_lateOutcome (State.poll_found hy) (State.address_of_find hy) p
    rwa [Gate.late_eq g.overdue { g with missed := 0 } rfl] at this
  have hpoll : ∀ u : State, u.pollAnswer g .passed = u.lateOutcome g .passed ∧
      u.pollAnswer g .turnedBack = u.lateOutcome g .turnedBack := fun u => by simp only [State.pollAnswer, ha, and_self]
  rcases h with rfl | rfl
  · dsimp only
    rw [(hpoll _).1]
    exact hlate .passed
  · dsimp only
    rw [(hpoll _).2]
    exact hlate .turnedBack

end

/-! ### Commands (R142, R144) -/

section
variable {c : GateCmd} (hcmd : x.cmd = some c)
include hcmd

theorem State.takeAnswer_command : s.takeAnswer x ans =
    if x.verify then
      if ans = some (.echo c.kind c.arg) then s.gate g.address Gate.echoed else s.mismatch g c ans.isSome
    else if ans.isSome then s.gate g.address Gate.answered else s.missed g := by
  rw [State.takeAnswer_of_service hy hf hst, State.answerInService.eq_def, hcmd]

theorem State.turns_take_unverified (hv : x.verify = false) (h : ans.isSome = true) :
    s.Turns (s.takeAnswer x ans) x.address { g with missed := 0 } s.tally s.gates.recent := by
  rw [State.takeAnswer_command hy hf hst hcmd, if_neg (by simp [hv]), if_pos h]
  exact State.turns_answered hy

theorem State.take_unverified_none (hv : x.verify = false) : s.takeAnswer x none = s.missed g := by
  rw [State.takeAnswer_command hy hf hst hcmd, if_neg (by simp [hv])]
  rfl

theorem State.turns_take_echo (hv : x.verify = true) : s.Turns (s.takeAnswer x (some (.echo c.kind c.arg))) x.address
    { g with missed := 0, outbox := g.outbox.drop 1, retries := 0 } s.tally s.gates.recent := by
  rw [State.takeAnswer_command hy hf hst hcmd, if_pos hv, if_pos rfl]
  simpa only [State.address_of_find hy, Gate.echoed, Gate.answered] using
    State.turns_gate hy (f := Gate.echoed) (fun _ => rfl)

theorem State.take_mismatch (hv : x.verify = true) (hne : ans ≠ some (.echo c.kind c.arg)) :
    s.takeAnswer x ans = s.mismatch g c ans.isSome := by
  rw [State.takeAnswer_command hy hf hst hcmd, if_pos hv, if_neg hne]

end
end

section
variable (hy : s.gates.find? x.address = some g)
include hy

theorem State.turns_retry : s.Turns (s.gate g.address (fun z => { z with retries := g.retries + 1 })) x.address
    { g with retries := g.retries + 1 } s.tally s.gates.recent := by
  simpa only [State.address_of_find hy] using
    State.turns_gate hy (f := fun z => { z with retries := g.retries + 1 }) (fun _ => rfl)

theorem State.turns_mismatch_answered (c : GateCmd) (h : g.retries < 2) : s.Turns (s.mismatch g c true) x.address
    { g with missed := 0, retries := g.retries + 1 } s.tally s.gates.recent := by
  simp only [State.mismatch, if_pos h]
  exact (State.turns_retry hy).trans (State.turns_answered (State.turns_retry hy).found)

/-- A command without its echo and without an answer is a missed poll too (R144, R145). -/
theorem State.turns_mismatch_silent (c : GateCmd) (h : g.retries < 2) :
    (g.missed < 2 → s.Turns (s.mismatch g c false) x.address
      { g with missed := g.missed + 1, retries := g.retries + 1 } s.tally s.gates.recent) ∧
    (2 ≤ g.missed → s.Turns (s.mismatch g c false) x.address g.goOffline (convertedTally s g.admission) s.gates.recent) := by
  have hretry := State.turns_retry hy
  obtain ⟨hfew, hmany⟩ := State.turns_missedPoll hretry.found { g with retries := g.retries + 1 }
    (State.address_of_find hy :) rfl rfl
  simp only [State.mismatch, if_pos h, Bool.false_eq_true, if_false]
  refine ⟨fun hm => hretry.trans (hfew hm), fun hm => ?_⟩
  have hoff := hretry.trans (hmany hm)
  rw [Gate.goOffline_retries] at hoff
  exact hoff

theorem State.turns_mismatch_offline (c : GateCmd) (answered : Bool) (h : 2 ≤ g.retries) :
    s.Turns (s.mismatch g c answered) x.address g.goOffline (convertedTally s g.admission) s.gates.recent := by
  simp only [State.mismatch, if_neg (Nat.not_lt.2 h)]
  have hstart := (State.Turns.refl hy).of_same
    (w' := s.notice .gate 2 [.num g.address, .code c.kind, .num c.arg]) (by simp) (by simp)
  have hoff := hstart.trans (State.turns_gateOffline hstart.found (State.address_of_find hy) .verify)
  have htally : convertedTally (s.notice .gate 2 [.num g.address, .code c.kind, .num c.arg]) g.admission =
      convertedTally s g.admission := by
    cases g.admission <;> simp [convertedTally]
  rw [htally] at hoff
  exact ⟨hoff.1, hoff.2.1, hoff.2.2.trans (by simp)⟩

/-! ### An OFFLINE gate (R146) -/

section
variable (hf : x.final = false) (hst : g.state = .offline)
include hf hst

/-- An answer that counts toward the return, of a gate with no passage outcome in it. -/
theorem State.turns_take_sign (h : ans = some .idle ∨ ∃ id k p, ans = some (.ticket id k p)) :
    s.Turns (s.takeAnswer x ans) x.address
      (if g.streak = 0 then { g with streak := g.streak + 1 } else Gate.online { g with streak := g.streak + 1 })
      s.tally s.gates.recent := by
  have htake : s.takeAnswer x ans = s.streak g := by
    rw [State.takeAnswer_of_offline hy hf hst]
    rcases h with rfl | ⟨id, k, p, rfl⟩ <;> rfl
  rw [htake]
  exact State.turns_streak hy (State.address_of_find hy)

/-- A late passage outcome counts toward the return too, and ends the wait for it (R146, R155). -/
theorem State.turns_take_late (h : ans = some .passed ∨ ans = some .turnedBack) :
    s.Turns (s.takeAnswer x ans) x.address
      (if g.streak = 0 then { g with overdue := none, streak := g.streak + 1 } else
        Gate.online { g with overdue := none, streak := g.streak + 1 })
      s.tally s.gates.recent := by
  have hlate : ∀ p, s.Turns ((s.lateOutcome g p).streak g) x.address
      (if g.streak = 0 then { g with overdue := none, streak := g.streak + 1 } else
        Gate.online { g with overdue := none, streak := g.streak + 1 }) s.tally s.gates.recent := fun p => by
    have hturn := State.turns_lateOutcome hy (State.address_of_find hy) p
    rw [Gate.late_eq g.overdue g rfl] at hturn
    have hboth := hturn.trans (State.turns_streak hturn.found (State.address_of_find hy))
    rw [hturn.2.1, hturn.2.2] at hboth
    exact hboth
  rw [State.takeAnswer_of_offline hy hf hst]
  rcases h with rfl | rfl
  · exact hlate .passed
  · exact hlate .turnedBack

/-- Silence, a fault and an echo end the count toward the return. -/
theorem State.turns_take_noReturn (h : ans = none ∨ (∃ n, ans = some (.fault n)) ∨ ∃ k n, ans = some (.echo k n)) :
    s.Turns (s.takeAnswer x ans) x.address { g with streak := 0 } s.tally s.gates.recent := by
  have htake : s.takeAnswer x ans = s.gate g.address (fun z => { z with streak := 0 }) := by
    rw [State.takeAnswer_of_offline hy hf hst]
    rcases h with rfl | ⟨n, rfl⟩ | ⟨k, n, rfl⟩ <;> rfl
  rw [htake]
  simpa only [State.address_of_find hy] using State.turns_gate hy (f := fun z => { z with streak := 0 }) (fun _ => rfl)

end

/-! ### Every transaction -/

theorem State.missed_turns (z : Gate) (hz : z.address = x.address) : ∃ y ts rs, s.Turns (s.missed z) x.address y ts rs := by
  by_cases hm : z.missed < 2
  · exact ⟨_, _, _, State.turns_missed hy hz hm⟩
  · rw [State.missed, if_neg hm]
    exact ⟨_, _, _, State.turns_gateOffline hy hz _⟩

theorem State.mismatch_turns (c : GateCmd) (answered : Bool) : ∃ y ts rs, s.Turns (s.mismatch g c answered) x.address y ts rs := by
  by_cases hr : g.retries < 2
  · cases answered
    · by_cases hm : g.missed < 2
      · exact ⟨_, _, _, (State.turns_mismatch_silent hy c hr).1 hm⟩
      · exact ⟨_, _, _, (State.turns_mismatch_silent hy c hr).2 (Nat.not_lt.1 hm)⟩
    · exact ⟨_, _, _, State.turns_mismatch_answered hy c hr⟩
  · exact ⟨_, _, _, State.turns_mismatch_offline hy c answered (Nat.not_lt.1 hr)⟩

theorem State.ticketTake_turns (hf : x.final = false) (hst : g.state = .closed ∨ g.state = .opened ∨ g.state = .passing)
    (hcmd : x.cmd = none) (id k p : Nat) : ∃ y ts rs, s.Turns (s.takeAnswer x (some (.ticket id k p))) x.address y ts rs := by
  by_cases ho : g.state = .opened
  · cases hv : s.ticketVerdict g id k p with
    | some r =>
      obtain ⟨ts, hturn, -⟩ := State.turns_take_refused hy hf hst hcmd ho hv
      exact ⟨_, _, _, hturn⟩
    | none =>
      obtain ⟨c, f, hc, hclass⟩ : ∃ c f, s.gates.openFor g.station = some c ∧ s.gates.classes[takenClass k]? = some f := by
        revert hv
        simp only [State.ticketVerdict]
        cases s.gates.openFor g.station <;> cases s.gates.classes[takenClass k]? <;> simp
      obtain ⟨ts, hturn, -⟩ := State.turns_take_granted hy hf hst hcmd ho hc hclass hv
      exact ⟨_, _, _, hturn⟩
  · exact ⟨_, _, _, State.turns_take_shut hy hf hst hcmd ho id k p⟩

theorem State.outcomeTake_turns (hf : x.final = false) (hst : g.state = .closed ∨ g.state = .opened ∨ g.state = .passing)
    (hcmd : x.cmd = none) (h : ans = some .passed ∨ ans = some .turnedBack) :
    ∃ y ts rs, s.Turns (s.takeAnswer x ans) x.address y ts rs := by
  cases ha : g.admission with
  | none => exact ⟨_, _, _, State.turns_take_stray hy hf hst hcmd ha h⟩
  | some a =>
    rcases h with rfl | rfl
    · exact ⟨_, _, _, State.turns_take_passed hy hf hst hcmd ha (.inl rfl)⟩
    · cases hleaf : a.leaf
      · exact ⟨_, _, _, State.turns_take_turnedBack hy hf hst hcmd ha hleaf⟩
      · exact ⟨_, _, _, State.turns_take_passed hy hf hst hcmd ha (.inr ⟨rfl, hleaf⟩)⟩

theorem State.serviceTake_turns (hf : x.final = false) (hst : g.state = .closed ∨ g.state = .opened ∨ g.state = .passing) :
    ∃ y ts rs, s.Turns (s.takeAnswer x ans) x.address y ts rs := by
  cases hcmd : x.cmd with
  | none =>
    match ans with
    | none => exact State.take_missed hy hf hst hcmd (.inl rfl) ▸ State.missed_turns hy g (State.address_of_find hy)
    | some (.echo k n) =>
      exact State.take_missed hy hf hst hcmd (.inr ⟨k, n, rfl⟩) ▸ State.missed_turns hy g (State.address_of_find hy)
    | some .idle => exact ⟨_, _, _, State.turns_take_idle hy hf hst hcmd⟩
    | some (.fault n) => exact ⟨_, _, _, State.turns_take_fault hy hf hst hcmd n⟩
    | some (.ticket id k p) => exact State.ticketTake_turns hy hf hst hcmd id k p
    | some .passed => exact State.outcomeTake_turns hy hf hst hcmd (.inl rfl)
    | some .turnedBack => exact State.outcomeTake_turns hy hf hst hcmd (.inr rfl)
  | some c =>
    cases hv : x.verify with
    | false =>
      cases ans with
      | none => exact State.take_unverified_none hy hf hst hcmd hv ▸ State.missed_turns hy g (State.address_of_find hy)
      | some z => exact ⟨_, _, _, State.turns_take_unverified hy hf hst hcmd hv rfl⟩
    | true =>
      by_cases he : ans = some (.echo c.kind c.arg)
      · rw [he]
        exact ⟨_, _, _, State.turns_take_echo hy hf hst hcmd hv⟩
      · exact State.take_mismatch hy hf hst hcmd hv he ▸ State.mismatch_turns hy c _

/-- The end of every transaction changes the record of its gate alone. -/
theorem State.takeAnswer_turns : ∃ y ts rs, s.Turns (s.takeAnswer x ans) x.address y ts rs := by
  have hkept : x.final = true ∨ g.state = .held ∨ g.state = .disabled → ∃ y ts rs, s.Turns (s.takeAnswer x ans) x.address y ts rs :=
    fun h => ⟨_, _, _, (State.Turns.refl hy).of_same (by rw [State.takeAnswer_of_kept hy h]) (by rw [State.takeAnswer_of_kept hy h])⟩
  cases hf : x.final with
  | true => exact hkept (.inl hf)
  | false =>
    cases hst : g.state with
    | held => exact hkept (.inr (.inl hst))
    | disabled => exact hkept (.inr (.inr hst))
    | closed => exact State.serviceTake_turns hy hf (.inl hst)
    | opened => exact State.serviceTake_turns hy hf (.inr (.inl hst))
    | passing => exact State.serviceTake_turns hy hf (.inr (.inr hst))
    | offline =>
      match ans with
      | none => exact ⟨_, _, _, State.turns_take_noReturn hy hf hst (.inl rfl)⟩
      | some (.fault n) => exact ⟨_, _, _, State.turns_take_noReturn hy hf hst (.inr (.inl ⟨n, rfl⟩))⟩
      | some (.echo k n) => exact ⟨_, _, _, State.turns_take_noReturn hy hf hst (.inr (.inr ⟨k, n, rfl⟩))⟩
      | some .idle => exact ⟨_, _, _, State.turns_take_sign hy hf hst (.inl rfl)⟩
      | some (.ticket id k p) => exact ⟨_, _, _, State.turns_take_sign hy hf hst (.inr ⟨id, k, p, rfl⟩)⟩
      | some .passed => exact ⟨_, _, _, State.turns_take_late hy hf hst (.inl rfl)⟩
      | some .turnedBack => exact ⟨_, _, _, State.turns_take_late hy hf hst (.inr rfl)⟩

end

end Machine
end Sys2Proof
end

section
/-! PROOFS. The end of a gate transaction (R141 to R146, R150 to R155). -/

namespace Sys2Proof
namespace Machine

/-- The state with no transaction on the gate bus. -/
def State.busIdle (s : State) : State := { s with gates := { s.gates with trans := none } }

/-- What a transaction's end makes of its gate's record, and the transaction that begins next. -/
theorem State.endTransaction_spec {s : State} {x : Transaction} {g : Gate} (hy : s.gates.find? x.address = some g)
    (ans : Option Answer) : ∃ g1,
      s.busIdle.Turns (s.busIdle.takeAnswer x ans) x.address g1 (s.endTransaction x ans).tally (s.endTransaction x ans).gates.recent ∧
      (s.gates.busReleased = false → (s.endTransaction x ans).gates.trans = none ∧
        ∀ b, (s.endTransaction x ans).gates.find? b = if b = x.address then some g1 else s.gates.find? b) ∧
      (s.gates.busReleased = true → (s.endTransaction x ans).gates.GoesOn
        (fun b => if b = x.address then some g1 else s.gates.find? b)
        (if x.inserted = true then s.gates.round else (List.range 17).filter
          (fun b => (if b = x.address then some g1 else s.gates.find? b).any (fun y => y.state == .passing)))
        s.gates.lastMain s.now) := by
  obtain ⟨g1, ts, rs, hturn⟩ := State.takeAnswer_turns (s := s.busIdle) (ans := ans) hy
  have hfound : (s.busIdle.takeAnswer x ans).gates.find? = fun b => if b = x.address then some g1 else s.gates.find? b :=
    funext hturn.1
  have hpassing : (s.busIdle.takeAnswer x ans).gates.passing = (List.range 17).filter
      (fun b => (if b = x.address then some g1 else s.gates.find? b).any (fun y => y.state == .passing)) := by
    simp only [Gates.passing, hturn.1]
    rfl
  have hgates : (s.endTransaction x ans).gates = ({ (s.busIdle.takeAnswer x ans).gates with
      round := if x.inserted then (s.busIdle.takeAnswer x ans).gates.round else (s.busIdle.takeAnswer x ans).gates.passing } : Gates).next
        (s.busIdle.takeAnswer x ans).now := rfl
  obtain ⟨hnow, htrans, hbus, hround, hlast⟩ : (s.busIdle.takeAnswer x ans).now = s.now ∧
      (s.busIdle.takeAnswer x ans).gates.trans = none ∧ (s.busIdle.takeAnswer x ans).gates.busReleased = s.gates.busReleased ∧
      (s.busIdle.takeAnswer x ans).gates.round = s.gates.round ∧ (s.busIdle.takeAnswer x ans).gates.lastMain = s.gates.lastMain := by
    simp [State.busIdle]
  refine ⟨g1, ⟨hturn.1, rfl, by rw [hgates]; simp⟩, fun hno => ?_, fun hyes => ?_⟩
  · rw [hgates, Gates.next_same (.inr (by exact hbus.trans hno))]
    exact ⟨htrans, fun b => congrFun hfound b⟩
  · have hgo := Gates.next_goesOn (now := (s.busIdle.takeAnswer x ans).now) (g := { (s.busIdle.takeAnswer x ans).gates with
      round := if x.inserted then (s.busIdle.takeAnswer x ans).gates.round else (s.busIdle.takeAnswer x ans).gates.passing })
      (by exact hbus.trans hyes) (by exact htrans)
    rw [← hgates] at hgo
    simp only [hround, hpassing, hlast, hnow] at hgo
    rw [← hfound]
    exact hgo

/-- A gate that went OFFLINE (R145). -/
theorem Gate.offline_spec {s : State} {g g1 : Gate} {ts : PerCar Load} (hg : g1 = g.goOffline)
    (hts : ts = convertedTally s g.admission) :
    g1 = { g with
      state := if g.enabled = true then .offline else .disabled
      overdue := (g.admission.map (fun (a : Admission) => (a.ticket, a.car))).or g.overdue
      admission := none, outbox := if g.enabled = true then [] else [⟨.shut, false⟩], closePending := false
      retries := 0, missed := 0, streak := 0 } ∧
    (g.admission = none → ts = s.tally) ∧
    (∀ a, g.admission = some a →
      (ts.get a.car).resPersons = (s.tally.get a.car).resPersons - a.persons ∧
      (ts.get a.car).resMass = (s.tally.get a.car).resMass - a.mass ∧
      (ts.get a.car).admPersons = (s.tally.get a.car).admPersons + a.persons ∧
      (ts.get a.car).admMass = (s.tally.get a.car).admMass + a.mass ∧
      ts.get a.car.other = s.tally.get a.car.other) := by
  refine ⟨hg.trans g.goOffline_eq, fun ha => ?_, fun a ha => ?_⟩
  · rw [hts, ha]
    rfl
  · rw [hts, ha]
    exact convertedTally_some s a

theorem State.ticketVerdict_eq (s : State) (g : Gate) (id k p : Nat) : s.ticketVerdict g id k p =
    match s.gates.openFor g.station, s.gates.classes[if 7 < k then 0 else k]? with
    | some car, some f =>
      if f.enabled = false ∨ p < 1 ∨ 6 < p then some TicketRefusal.cls
      else if f.stepFree = true ∧ s.stepFree car g.compartment = false then some .stepFree
      else if s.gates.recent.any (fun r => r.ticket == id) = true then some .duplicate
      else match (s.admissionCheck car (p * f.persons) (p * f.mass)).1 with
        | .grant => none
        | .capacity => some .capacity
        | .margin => some .margin
    | _, _ => some .noService := by
  simp only [State.ticketVerdict, State.ticketRefusal_eq, takenClass]
  cases s.gates.openFor g.station with
  | none => rfl
  | some c =>
    cases s.gates.classes[if 7 < k then 0 else k]? with
    | none => rfl
    | some f =>
      dsimp only
      split_ifs <;> rfl

/-- Settles O56: the record of the gate by the state it is in and what the transaction carried, and the transaction that follows
from what that record has become. -/
theorem gateTransactionsEnd : Obligations.GateTransactionsEnd := by
  refine ⟨fun dt s => ⟨fun bytes hnone => ?_, fun hno => ?_⟩, ?_⟩
  · exact exec_ended_of_eq (by simp only [effect, State.gateAnswer, show (s.advance dt).gates.trans = none from hnone])
  · refine exec_ended_of_eq (u := s.advance dt) ?_
    simp only [effect, State.gateSilence]
    rcases hno with hnone | ⟨x, hx, hearly⟩
    · simp only [show (s.advance dt).gates.trans = none from hnone]
    · simp only [show (s.advance dt).gates.trans = some x from hx]
      exact if_neg (Nat.not_le.2 hearly)
  · intro c dt ans x g s htrans hg hc inService poll shut isOpen ended refusal
    have heff : effect c s = (s.advance dt).endTransaction x ans := by
      rcases hc with ⟨bytes, rfl, rfl⟩ | ⟨rfl, hdue, rfl⟩
      · simp only [effect, State.gateAnswer, show (s.advance dt).gates.trans = some x from htrans]
      · simp only [effect, State.gateSilence, show (s.advance dt).gates.trans = some x from htrans]
        exact if_pos hdue
    obtain ⟨g1, hturn, hstays, hgoes⟩ := State.endTransaction_spec (s := s.advance dt) hg ans
    refine ⟨_, g1, exec_transmit_of_eq heff, ?_⟩
    have hg' : (s.advance dt).busIdle.gates.find? x.address = some g := hg
    have haddr : g.address = x.address := State.address_of_find hg
    have hended : Gate.endPassage ((s.advance dt).busIdle.gates.openFor g.station).isSome { g with missed := 0 } = ended :=
      Gate.endPassage_eq _ _
    have hverdict : ∀ id k p, (s.advance dt).busIdle.ticketVerdict g id k p = refusal id k p :=
      fun id k p => State.ticketVerdict_eq _ g id k p
    intro found passing same offline missedPoll
    have hkept : ∀ {y}, (s.advance dt).busIdle.Turns ((s.advance dt).busIdle.takeAnswer x ans) x.address y s.tally s.gates.recent →
        g1 = y ∧ same := fun h => hturn.unique h
    have hoff : (s.advance dt).busIdle.Turns ((s.advance dt).busIdle.takeAnswer x ans) x.address g.goOffline
        (convertedTally (s.advance dt).busIdle g.admission) s.gates.recent → offline := fun h => by
      obtain ⟨hg1, hts, hrs⟩ := hturn.unique h
      obtain ⟨heq, hnone, hsome⟩ := Gate.offline_spec hg1 hts
      exact ⟨heq, hnone, hsome, hrs⟩
    have hmissed : ∀ {z}, z.address = x.address → z.missed = g.missed → z.admission = g.admission →
        (s.advance dt).busIdle.takeAnswer x ans = (s.advance dt).busIdle.missed z → missedPoll g :=
      fun hz hm ha htake => by
        obtain ⟨hfew, hmany⟩ := State.turns_missedPoll hg' _ hz hm ha
        exact ⟨fun h => hkept (htake ▸ hfew h), fun h => hoff (htake ▸ hmany h)⟩
    refine ⟨hstays, hgoes, fun h => ?kept, fun hp h => ?idle, fun hp h => ?silent, fun n hp h => ?fault, fun id k p hp h => ?ticket,
      fun a hp hst ha => ?passage, fun hp ha h => ?stray, fun k hs hk hv => ?plain, fun k hs hk hv => ?verified,
      fun hf hst => ?offline, ?_⟩
    case kept =>
      refine hkept ?_
      rw [State.takeAnswer_of_kept hg' h]
      exact State.Turns.refl hg'
    case idle => exact hkept (h ▸ State.turns_take_idle hg' hp.1.1 hp.1.2 hp.2)
    case silent => exact hmissed haddr rfl rfl (State.take_missed hg' hp.1.1 hp.1.2 hp.2 h)
    case fault => exact hoff (h ▸ State.turns_take_fault hg' hp.1.1 hp.1.2 hp.2 n)
    case ticket =>
      subst h
      refine ⟨fun ho => hkept (State.turns_take_shut hg' hp.1.1 hp.1.2 hp.2 ho id k p), fun r ho hr => ?_,
        fun car f ho hcar hclass hr => ?_⟩
      · obtain ⟨ts, hts, hload⟩ := State.turns_take_refused hg' hp.1.1 hp.1.2 hp.2 ho ((hverdict id k p).trans hr)
        obtain ⟨hg1, htally, hrecent⟩ := hturn.unique hts
        exact ⟨hg1, hrecent, htally ▸ hload⟩
      · obtain ⟨ts, hts, hload⟩ := State.turns_take_granted hg' hp.1.1 hp.1.2 hp.2 ho hcar hclass ((hverdict id k p).trans hr)
        obtain ⟨hg1, htally, hrecent⟩ := hturn.unique hts
        refine ⟨hg1, hrecent.trans ?_, htally ▸ hload⟩
        simp only [pushRecent, List.drop_one]
        rfl
    case passage =>
      refine ⟨fun h => ?_, fun h hleaf => ?_⟩
      · obtain ⟨hg1, htally, hrecent⟩ := hturn.unique (State.turns_take_passed hg' hp.1.1 hp.1.2 hp.2 ha h)
        obtain ⟨hres, -, hadm, -⟩ := convertedTally_some (s.advance dt).busIdle a
        rw [← htally] at hres hadm
        exact ⟨hg1.trans hended, hres, hadm, hrecent⟩
      · subst h
        obtain ⟨hg1, htally, hrecent⟩ := hturn.unique (State.turns_take_turnedBack hg' hp.1.1 hp.1.2 hp.2 ha hleaf)
        obtain ⟨hres, hadm⟩ := State.tallyRelease_spec (s.advance dt).busIdle a.car a.persons a.mass
        rw [← htally] at hres hadm
        refine ⟨hg1.trans hended, hres, hadm, hrecent.trans ?_⟩
        exact List.filter_congr (fun r _ => Bool.eq_iff_iff.2 (by simp))
    case stray => exact hkept (State.turns_take_stray hg' hp.1.1 hp.1.2 hp.2 ha h)
    case plain =>
      refine ⟨fun h => hkept (State.turns_take_unverified hg' hs.1 hs.2 hk hv h), fun h => ?_⟩
      subst h
      exact hmissed haddr rfl rfl (State.take_unverified_none hg' hs.1 hs.2 hk hv)
    case verified =>
      refine ⟨fun h => hkept (h ▸ State.turns_take_echo hg' hs.1 hs.2 hk hv), fun hne hr => ?_, fun hne hr => ?_⟩
      · have htake := State.take_mismatch hg' hs.1 hs.2 hk hv hne
        refine ⟨fun h => hkept ?_, fun h => ?_⟩
        · rw [htake, h]
          exact State.turns_mismatch_answered hg' k hr
        · subst h
          obtain ⟨hfew, hmany⟩ := State.turns_mismatch_silent hg' k hr
          exact ⟨fun hm => hkept (htake ▸ hfew hm), fun hm => hoff (htake ▸ hmany hm)⟩
      · refine hoff ?_
        rw [State.take_mismatch hg' hs.1 hs.2 hk hv hne]
        exact State.turns_mismatch_offline hg' k _ hr
    case offline =>
      intro late kept
      refine ⟨fun h => ?_, fun h => hkept (State.turns_take_noReturn hg' hf hst h)⟩
      have hreturn : (s.advance dt).busIdle.Turns ((s.advance dt).busIdle.takeAnswer x ans) x.address
          (if g.streak = 0 then { g with streak := g.streak + 1, overdue := kept } else
            Gate.online { g with streak := g.streak + 1, overdue := kept }) s.tally s.gates.recent := by
        rcases h with hlate | h
        · rw [show kept = none from if_pos hlate]
          exact State.turns_take_late hg' hf hst hlate
        · have hkeep : kept = g.overdue := if_neg (by rcases h with rfl | ⟨id, k, p, rfl⟩ <;> exact nofun)
          rw [hkeep]
          exact State.turns_take_sign hg' hf hst h
      obtain ⟨hg1, hsame⟩ := hkept hreturn
      refine ⟨fun h0 => ?_, fun h1 => ?_, hsame⟩
      · rw [hg1, if_pos h0, h0]
      · rw [hg1, if_neg (by omega)]
        rfl
    simp [State.sameMotion, State.flagged]

end Machine
end Sys2Proof
end

section
/-! PROOFS. Marker reports (R28 to R33): expected markers, corrections of the position, and the reports that lose it. -/

namespace Sys2Proof
namespace Machine

variable {s : State}

/-! ### The expected marker (R33) -/

/-- The marker lies beyond `x` on the car's rail, in the sense of the travel. -/
def AheadOf (c : Car) (up : Bool) (x : Int) (m : Marker) : Prop :=
  (m.track = 0 ∨ m.track = (match c with | .A => 1 | .B => 2)) ∧ (if up then x < m.pos else m.pos < x)

theorem seen_beyond_iff (m : Marker) (c : Car) (up : Bool) (x : Int) :
    (seenBy m c && beyond up x m.pos) = true ↔ AheadOf c up x m := by
  cases c <;> cases up <;> simp [seenBy, beyond, AheadOf]

theorem expects_iff (ms : List Marker) (c : Car) (up : Bool) (x : Int) (o : Option Expected) : Expects ms c up x o ↔
    (∀ e, o = some e → e.increasing = up ∧ ∃ m ∈ ms, m.id = e.id ∧ m.pos = e.pos ∧ AheadOf c up x m ∧
      ∀ k ∈ ms, AheadOf c up x k → if up then m.pos ≤ k.pos else k.pos ≤ m.pos) ∧
    (o = none → ∀ m ∈ ms, ¬AheadOf c up x m) := Iff.rfl

/-- The nearer of the expectation so far and a marker, where that lies ahead. -/
def nearerOf (c : Car) (up : Bool) (x : Int) (o : Option Expected) (m : Marker) : Option Expected :=
  if seenBy m c && beyond up x m.pos then
    match o with
    | none => some ⟨m.id, m.pos, up⟩
    | some b => if beyond up m.pos b.pos then some ⟨m.id, m.pos, up⟩ else o
  else o

theorem nextMarker_eq (ms : List Marker) (c : Car) (up : Bool) (x : Int) :
    nextMarker ms c up x = ms.foldl (nearerOf c up x) none := rfl

/-- One marker more in the table. -/
theorem Expects.concat {ms : List Marker} {c : Car} {up : Bool} {x : Int} {o : Option Expected} (h : Expects ms c up x o)
    (m : Marker) : Expects (ms ++ [m]) c up x (nearerOf c up x o m) := by
  rw [expects_iff] at h ⊢
  unfold nearerOf
  obtain ⟨hsome, hnone⟩ := h
  have hmem : ∀ P : Marker → Prop, (∀ k ∈ ms ++ [m], P k) ↔ (∀ k ∈ ms, P k) ∧ P m := fun P => by
    simp [or_imp, forall_and]
  split
  next hahead =>
    rw [seen_beyond_iff] at hahead
    have hm : m ∈ ms ++ [m] := by simp
    cases o with
    | none =>
      refine ⟨fun e he => ?_, nofun⟩
      obtain rfl := Option.some.inj he
      exact ⟨rfl, m, hm, rfl, rfl, hahead,
        (hmem _).2 ⟨fun k hk hka => absurd hka (hnone rfl k hk), fun _ => by split <;> exact le_rfl⟩⟩
    | some b =>
      obtain ⟨hup, k, hk, hid, hpos, hka, hleast⟩ := hsome b rfl
      refine ⟨fun e he => ?_, fun hno => ?_⟩
      · dsimp only at he
        split at he
        next hnear =>
          obtain rfl := Option.some.inj he
          refine ⟨rfl, m, hm, rfl, rfl, hahead, (hmem _).2 ⟨fun j hj hja => ?_, fun _ => by split <;> exact le_rfl⟩⟩
          have hj' := hleast j hj hja
          cases up <;> simp [beyond] at hnear hj' ⊢ <;> omega
        next hfar =>
          obtain rfl := Option.some.inj he
          refine ⟨hup, k, by simp [hk], hid, hpos, hka, (hmem _).2 ⟨hleast, fun _ => ?_⟩⟩
          cases up <;> simp [beyond] at hfar ⊢ <;> omega
      · dsimp only at hno
        split at hno <;> cases hno
  next hnot =>
    rw [seen_beyond_iff] at hnot
    refine ⟨fun e he => ?_, fun hno => (hmem _).2 ⟨hnone hno, hnot⟩⟩
    obtain ⟨hup, k, hk, hid, hpos, hka, hleast⟩ := hsome e he
    exact ⟨hup, k, by simp [hk], hid, hpos, hka, (hmem _).2 ⟨hleast, fun hma => absurd hma hnot⟩⟩

/-- The marker the look-ahead names is the nearest one ahead. -/
theorem nextMarker_expects (ms : List Marker) (c : Car) (up : Bool) (x : Int) : Expects ms c up x (nextMarker ms c up x) := by
  induction ms using List.reverseRecOn with
  | nil => exact ⟨nofun, fun _ m hm => nomatch hm⟩
  | append_singleton ms m ih =>
    rw [nextMarker_eq, List.foldl_concat, ← nextMarker_eq]
    exact ih.concat m

theorem Tracker.expectation_expects {t : Tracker} (hconf : t.conf.noRuns = false) {d : Dir} (hd : t.lastDir = some d)
    (ms : List Marker) (c : Car) (x : Int) : Expects ms c (d.increases c) x (t.expectation ms c x) := by
  simp only [Tracker.expectation, hd, hconf]
  exact nextMarker_expects ms c _ x

/-! ### Reports that are used (R28) -/

/-- The state with the position computed from the count as it stands. -/
def State.placed (s : State) : State := { s with trk := s.trk.place s.geo.length (s.trk.freshX s.geo.scale) }

theorem otherRail_iff (m : Marker) (c : Car) : otherRail m c = true ↔ m.track = (match c with | .A => 2 | .B => 1) := by
  cases c <;> simp [otherRail]

theorem State.usesMarker_iff (s : State) (c : Car) (m : Marker) : s.usesMarker c m ↔
    s.trk.conf ≠ .unknown ∧ s.trk.conf ≠ .lost ∧ ¬(s.geo.inLoop (s.reportedAt c) = true ∧ otherRail m c = true) ∧
      ¬(s.trk.lastMarker.get c = some m.id ∧ (s.trk.expected.get c).map (fun e => e.id) ≠ some m.id) := by
  rw [otherRail_iff]
  exact Iff.rfl

theorem State.placed_pos (s : State) (c : Car) : s.placed.trk.pos c = s.reportedAt c := by cases c <;> rfl

theorem State.reportUsed_iff (s : State) (c : Car) (m : Marker) : s.reportUsed s.placed.trk c m = true ↔ s.usesMarker c m := by
  have hruns : (!s.placed.trk.conf.noRuns) = true ↔ s.trk.conf ≠ .unknown ∧ s.trk.conf ≠ .lost := by
    simp only [show s.placed.trk.conf = s.trk.conf from rfl]
    cases s.trk.conf <;> simp [Confidence.noRuns]
  have hagain : (!(s.placed.trk.lastMarker.get c == some m.id && (s.placed.trk.expected.get c).map (fun x => x.id) != some m.id))
      = true ↔ ¬(s.trk.lastMarker.get c = some m.id ∧ (s.trk.expected.get c).map (fun e => e.id) ≠ some m.id) := by
    rw [Bool.not_eq_true', ← Bool.not_eq_true, Bool.and_eq_true, beq_iff_eq, bne_iff_ne]
    exact Iff.rfl
  rw [State.usesMarker_iff, State.reportUsed, Bool.and_eq_true, Bool.and_eq_true, hruns, hagain, State.placed_pos,
    Bool.not_eq_true', ← Bool.not_eq_true, Bool.and_eq_true, and_assoc, and_assoc]

/-! ### Corrections (R29 to R31) -/

/-- What a correction of the position leaves alone. -/
def State.SameElsewhere (s t : State) : Prop :=
  t.geo = s.geo ∧ t.sup = s.sup ∧ t.brk = s.brk ∧ t.doors = s.doors ∧ t.gates = s.gates ∧ t.tally = s.tally ∧
    t.drive = s.drive ∧ t.ctl = s.ctl

theorem State.confEvent_sameElsewhere {c : Confidence} (hc : c ≠ .lost) (k : PosCause) (car : Option Car) (id : Option Nat)
    (value : Option Int) : s.SameElsewhere (s.confEvent c k car id value).evalAtStop := by
  rw [State.confEvent_of_not_lost (.inr hc)]
  simp [State.SameElsewhere]

theorem State.confQuiet_sameElsewhere {c : Confidence} (hc : c ≠ .lost) (k : PosCause) (car : Option Car) (id : Option Nat)
    (value : Option Int) : s.SameElsewhere (s.confQuiet c k car id value).evalAtStop := by
  unfold State.confQuiet
  split
  · simp [State.SameElsewhere]
  · exact State.confEvent_sameElsewhere hc k car id value

theorem Tracker.enter_degraded (t : Tracker) (h : t.good = 0) :
    (if t.conf = .degraded then t else t.enter .degraded) = { t with conf := .degraded } := by
  split
  next hc => rw [← hc]
  · simp only [Tracker.enter, ← h]

/-- The outcome of a good report, entered where it is a new one (R29). -/
theorem goodOutcome_entered {t : Tracker} (hu : t.conf ≠ .unknown) (hl : t.conf ≠ .lost) {n : Nat}
    (hn : t.good = (goodOutcome t.conf n).2) :
    ∃ k g, (if t.conf = (goodOutcome t.conf n).1 then t else t.enter (goodOutcome t.conf n).1) = { t with conf := k, good := g } ∧
      (goodOutcome t.conf n).1 ≠ .lost ∧
      if t.conf = .degraded ∧ n = 0 then k = .degraded ∧ g = 1 else k = .confirmed := by
  cases hc : t.conf with
  | unknown => exact absurd hc hu
  | lost => exact absurd hc hl
  | referenced => exact ⟨.confirmed, 0, by simp [goodOutcome, Tracker.enter], by simp [goodOutcome], by simp⟩
  | confirmed => exact ⟨.confirmed, t.good, by simp only [goodOutcome, ← hc, if_true], by simp [goodOutcome], by simp⟩
  | degraded =>
    rw [hc] at hn
    have hself : ∀ g, t.good = g → t = { t with conf := .degraded, good := g } := fun g hg => by rw [← hc, ← hg]
    by_cases h0 : n = 0
    · subst h0
      exact ⟨.degraded, 1, (if_pos rfl).trans (hself 1 hn), by simp [goodOutcome], by simp⟩
    · have hout : goodOutcome .degraded n = (.confirmed, 0) := if_pos (by omega)
      rw [hout]
      exact ⟨.confirmed, 0, by simp [Tracker.enter], by simp, by simp [h0]⟩

theorem State.confQuiet_trk (c : Confidence) (k : PosCause) (car : Option Car) (id : Option Nat) (value : Option Int) :
    (s.confQuiet c k car id value).trk = if s.trk.conf = c then s.trk else s.trk.enter c := by
  unfold State.confQuiet
  split
  · rfl
  next h => rw [State.confEvent_trk, State.setConf_trk, if_neg h]

/-- A report of car A in the good or the middle window. -/
theorem State.reportA_near {m : Marker} (hu : s.trk.conf ≠ .unknown) (hl : s.trk.conf ≠ .lost)
    (h : (s.trk.xA - m.pos).natAbs ≤ 1500) : ∃ k n,
      (s.reportA m).trk = { (s.trk.correct s.geo.length m.pos).accept s.geo.markers .A m with conf := k, good := n } ∧
      (if 300 < (s.trk.xA - m.pos).natAbs then k = .degraded ∧ n = 0
        else if s.trk.conf = .degraded ∧ s.trk.good = 0 then k = .degraded ∧ n = 1 else k = .confirmed) ∧
      (s.reportA m).line.atStop = (s.reportA m).findAtStop ∧ s.SameElsewhere (s.reportA m) := by
  by_cases hgood : (s.trk.xA - m.pos).natAbs ≤ 300
  · have hreport : s.reportA m = State.evalAtStop (State.confQuiet
        { s with trk := { (s.trk.correct s.geo.length m.pos).accept s.geo.markers .A m with
          good := (goodOutcome s.trk.conf s.trk.good).2 } }
        (goodOutcome s.trk.conf s.trk.good).1 .markerGood (some .A) (some m.id) (some (s.trk.xA - m.pos))) := if_pos hgood
    obtain ⟨k, n, htrk, hlost, hkn⟩ := goodOutcome_entered (n := s.trk.good)
      (t := { (s.trk.correct s.geo.length m.pos).accept s.geo.markers .A m with good := (goodOutcome s.trk.conf s.trk.good).2 })
      hu hl rfl
    rw [hreport]
    refine ⟨k, n, ?_, by rw [if_neg (Nat.not_lt.2 hgood)]; exact hkn, State.findAtStop_evalAtStop _, State.confQuiet_sameElsewhere (by exact hlost) _ _ _ _⟩
    simp only [State.evalAtStop_frame, State.confQuiet_trk]
    exact htrk
  · have hreport : s.reportA m = State.evalAtStop (State.confEvent
        { s with trk := { (s.trk.correct s.geo.length m.pos).accept s.geo.markers .A m with good := 0 } }
        .degraded .markerOff (some .A) (some m.id) (some (s.trk.xA - m.pos))) := (if_neg hgood).trans (if_pos h)
    rw [hreport]
    refine ⟨.degraded, 0, ?_, by simp [Nat.not_le.1 hgood], State.findAtStop_evalAtStop _, State.confEvent_sameElsewhere (by simp) _ _ _ _⟩
    simp only [State.evalAtStop_frame, State.confEvent_trk, State.setConf_trk]
    exact Tracker.enter_degraded { (s.trk.correct s.geo.length m.pos).accept s.geo.markers .A m with good := 0 } rfl

/-- The tracker with the rope's measure as car B's marker gives it (R31). -/
def Tracker.slackened (t : Tracker) (sig p : Int) : Tracker := { t with sigma := sig, xB := p }

/-- A report of car B within the stretch bound, in the good or the middle window. -/
theorem State.reportB_near {m : Marker}
    (hbound : (m.pos + s.trk.xA - s.geo.length).natAbs ≤ s.geo.stretchBound)
    (h : (m.pos + s.trk.xA - s.geo.length - s.trk.sigma).natAbs ≤ 1500) : ∃ k n,
      (s.reportB m).trk = { (s.trk.slackened (m.pos + s.trk.xA - s.geo.length) m.pos).accept s.geo.markers .B m with conf := k, good := n } ∧
      (if (m.pos + s.trk.xA - s.geo.length - s.trk.sigma).natAbs ≤ 300 then k = s.trk.conf ∧ n = s.trk.good
        else k = .degraded ∧ n = 0) ∧
      (s.reportB m).line.atStop = (s.reportB m).findAtStop ∧ s.SameElsewhere (s.reportB m) := by
  by_cases hgood : (m.pos + s.trk.xA - s.geo.length - s.trk.sigma).natAbs ≤ 300
  · have hreport : s.reportB m = State.evalAtStop { s with trk :=
        (s.trk.slackened (m.pos + s.trk.xA - s.geo.length) m.pos).accept s.geo.markers .B m } :=
      (if_neg (Nat.not_lt.2 hbound)).trans (if_pos hgood)
    rw [hreport]
    exact ⟨s.trk.conf, s.trk.good, rfl, by simp [hgood], State.findAtStop_evalAtStop _, by simp [State.SameElsewhere]⟩
  · have hreport : s.reportB m = State.evalAtStop (State.confEvent { s with trk :=
        { (s.trk.slackened (m.pos + s.trk.xA - s.geo.length) m.pos).accept s.geo.markers .B m with good := 0 } }
        .degraded .markerOff (some .B) (some m.id) (some (m.pos + s.trk.xA - s.geo.length))) :=
      (if_neg (Nat.not_lt.2 hbound)).trans ((if_neg hgood).trans (if_pos h))
    rw [hreport]
    refine ⟨.degraded, 0, ?_, by simp [hgood], State.findAtStop_evalAtStop _, State.confEvent_sameElsewhere (by simp) _ _ _ _⟩
    simp only [State.evalAtStop_frame, State.confEvent_trk, State.setConf_trk]
    exact Tracker.enter_degraded
      { (s.trk.slackened (m.pos + s.trk.xA - s.geo.length) m.pos).accept s.geo.markers .B m with good := 0 } rfl

/-! ### The position lost by a report (R31, R32, R36) -/

theorem State.found_of_stretch {c : Cause} (h : s.trk.stretch = true) : s.found c ≠ [] := by simp [State.found, h]

/-- An emergency with the rope stretched applies the track brakes (R111, R112). -/
theorem State.raise_stretched {c : Cause} (h : s.trk.stretch = true) {x : TripRec} (hx : (s.raise c).sup.trip = some x) :
    x.highest.isSome = true ∧ (s.sup.trip = none → x.track = true) ∧ (s.raise c).brk.watch = none ∧
      ∀ k : Car, ((s.raise c).brk.track.get k).cmd = .apply := by
  have hfound := State.found_of_stretch (c := c) h
  refine ⟨State.raise_highest hfound hx, fun hnone => ?_, by rw [State.raise_watch, if_neg hfound], State.raise_cmd s hfound⟩
  rw [State.raise_trip_of_none hnone] at hx
  rw [← Option.some.inj hx]
  simp [hfound]

/-- The position lost, in motion with the rope stretched too. -/
theorem State.confEvent_lost_stretched (h : s.trk.conf ≠ .lost) (k : PosCause) (car : Option Car) (id : Option Nat)
    (value : Option Int) (hmoving : s.carsMoving = true) : (s.confEvent .lost k car id value).brk.dropped ∧
      ∃ x, (s.confEvent .lost k car id value).sup.trip = some x ∧ (s.sup.trip = none → x.cause = .positionLost) ∧
        (s.trk.stretch = true → x.highest.isSome = true ∧ (s.sup.trip = none → x.track = true) ∧
          (s.confEvent .lost k car id value).brk.watch = none ∧
          ∀ j : Car, ((s.confEvent .lost k car id value).brk.track.get j).cmd = .apply) := by
  have htrk := State.losing_trk h k car id value
  have hsup : (s.losing k car id value).sup = s.sup := by simp
  rw [State.confEvent_lost_eq h, if_pos hmoving]
  obtain ⟨x, hx, hcause⟩ := (s.losing k car id value).raise_trip .positionLost
  rw [hsup] at hcause
  refine ⟨State.raise_dropped _ _, x, hx, hcause, fun hs => ?_⟩
  have := State.raise_stretched (c := .positionLost) (by rw [htrk]; exact hs) hx
  rwa [hsup] at this

/-- The state in which a far report loses the position: the rope marked as stretched where its measure says so. -/
def State.stretching (s : State) (b : Bool) : State := { s with trk := { s.trk with stretch := s.trk.stretch || b } }

theorem State.reportA_far {m : Marker} (h : 1500 < (s.trk.xA - m.pos).natAbs) :
    s.reportA m = (s.stretching false).confEvent .lost .markerFar (some .A) (some m.id) (some (s.trk.xA - m.pos)) := by
  have hsame : s.stretching false = s := by simp [State.stretching]
  have h300 : ¬(s.trk.xA - m.pos).natAbs ≤ 300 := by omega
  rw [hsame]
  exact (if_neg h300).trans (if_neg (Nat.not_le.2 h))

theorem State.reportB_far {m : Marker} (h : s.geo.stretchBound < (m.pos + s.trk.xA - s.geo.length).natAbs ∨
    1500 < (m.pos + s.trk.xA - s.geo.length - s.trk.sigma).natAbs) : ∃ k v,
    s.reportB m = (s.stretching (decide (s.geo.stretchBound < (m.pos + s.trk.xA - s.geo.length).natAbs))).confEvent .lost k
      (some .B) (some m.id) v := by
  by_cases hb : s.geo.stretchBound < (m.pos + s.trk.xA - s.geo.length).natAbs
  · refine ⟨.stretch, some (m.pos + s.trk.xA - s.geo.length), (if_pos hb).trans ?_⟩
    simp only [State.stretching, hb, decide_true, Bool.or_true]
  · have hsame : s.stretching false = s := by simp [State.stretching]
    have h1500 := h.resolve_left hb
    have h300 : ¬(m.pos + s.trk.xA - s.geo.length - s.trk.sigma).natAbs ≤ 300 := by omega
    rw [decide_eq_false hb, hsame]
    exact ⟨.markerFar, some (m.pos + s.trk.xA - s.geo.length), (if_neg hb).trans ((if_neg h300).trans (if_neg (Nat.not_le.2 h1500)))⟩

end Machine
end Sys2Proof
end

section
/-! PROOFS. MARKER_REPORT settled from the reports' lemmas. -/

namespace Sys2Proof
namespace Machine

variable {s : State}

theorem State.markerReport_of_unused {c : Car} {m : Marker} (hm : s.geo.marker? m.id = some m) (h : ¬s.usesMarker c m) :
    s.markerReport c m.id = s := by
  simp only [State.markerReport, hm]
  exact if_neg (fun hu => h ((s.reportUsed_iff c m).1 hu))

theorem State.markerReport_A {m : Marker} (hm : s.geo.marker? m.id = some m) (h : s.usesMarker .A m) :
    s.markerReport .A m.id = s.placed.reportA m := by
  simp only [State.markerReport, hm]
  exact if_pos ((s.reportUsed_iff .A m).2 h)

theorem State.markerReport_B {m : Marker} (hm : s.geo.marker? m.id = some m) (h : s.usesMarker .B m) :
    s.markerReport .B m.id = s.placed.reportB m := by
  simp only [State.markerReport, hm]
  exact if_pos ((s.reportUsed_iff .B m).2 h)

/-- A record whose expected marker has just been formed beyond an accepted one (R33). -/
theorem Tracker.accept_formed {t : Tracker} (hu : t.conf ≠ .unknown) (hl : t.conf ≠ .lost) (ms : List Marker) (c : Car) (m : Marker) :
    (∀ d, t.lastDir = some d → Expects ms c (d.increases c) m.pos ((t.accept ms c m).expected.get c)) ∧
      (t.accept ms c m).expected.get c.other = t.expected.get c.other := by
  have hruns : t.conf.noRuns = false := by cases h : t.conf <;> simp_all [Confidence.noRuns]
  refine ⟨fun d hd => ?_, by cases c <;> rfl⟩
  have hget : (t.accept ms c m).expected.get c = t.expectation ms c m.pos := by cases c <;> rfl
  rw [hget]
  exact Tracker.expectation_expects hruns hd ms c m.pos

/-- A far report: the position is lost, and the track brakes are applied where the rope is stretched. -/
theorem State.markerReport_far {c : Car} {m : Marker} (hm : s.geo.marker? m.id = some m) : s.usesMarker c m →
    (match c with
      | .A => 1500 < (s.reportedAt .A - m.pos).natAbs
      | .B => s.geo.stretchBound < (m.pos + s.reportedAt .A - s.geo.length).natAbs ∨
          1500 < (m.pos + s.reportedAt .A - s.geo.length - s.trk.sigma).natAbs) → ∃ k v,
    s.markerReport c m.id = (s.placed.stretching
      (c == Car.B && decide (s.geo.stretchBound < (m.pos + s.reportedAt .A - s.geo.length).natAbs))).confEvent .lost k (some c)
        (some m.id) v := by
  intro h hfar
  cases c with
  | A => exact ⟨_, _, (State.markerReport_A hm h).trans (State.reportA_far (s := s.placed) hfar)⟩
  | B =>
    rw [State.markerReport_B hm h]
    exact State.reportB_far (s := s.placed) hfar

/-- Settles O26: a report is not used, corrects the position in its windows, or loses it beyond them. -/
theorem markerReportsCorrectPosition : Obligations.MarkerReportsCorrectPosition := by
  refine ⟨fun dt c id s hno => ?_, fun dt c m s hm => ?_⟩
  · have heff : effect (.markerReport dt c id) s =
        ((s.advance dt).setLink c ((s.links.get c).takeMarker id)).posNotice .unknownId (some c) (some id) none s.trk.conf := by
      simp only [effect, State.takeMarkerReport, State.markerReport,
        show ((s.advance dt).setLink c (((s.advance dt).links.get c).takeMarker id)).geo.marker? id = none from hno]
      rfl
    exact ⟨_, exec_ended_of_eq heff⟩
  · intro formed
    have hm' : ((s.advance dt).setLink c ((s.links.get c).takeMarker m.id)).geo.marker? m.id = some m := hm
    have hkeep : ∀ u : State, (u.flagged s.pending).trk = u.trk := fun _ => rfl
    refine ⟨fun h => ?_, fun hc h hnear => ?_, fun hc h => ?_, fun h hfar => ?_⟩
    · exact exec_ended_of_eq (State.markerReport_of_unused hm' (by exact h))
    · subst hc
      have heff := State.markerReport_A hm' (by exact h)
      obtain ⟨k, n, htrk, hkn, hstop, hgeo, hsup, hbrk, hdoors, hgates, htally, hdrive, hctl⟩ := State.reportA_near (m := m)
        (s := ((s.advance dt).setLink .A ((s.links.get .A).takeMarker m.id)).placed) h.1 h.2.1 hnear
      have hformed := Tracker.accept_formed
        (t := (((s.advance dt).setLink .A ((s.links.get .A).takeMarker m.id)).placed).trk.correct s.geo.length m.pos)
        (by exact h.1) (by exact h.2.1) s.geo.markers .A m
      refine ⟨_, exec_transmit_of_eq heff, ?_⟩
      simp only [formed, hkeep, htrk]
      exact ⟨rfl, rfl, rfl, rfl, rfl, rfl, rfl, rfl, rfl, hkn, hformed, rfl, rfl, rfl, hstop, hgeo, hsup, hbrk, hdoors, hgates,
        htally, hdrive, hctl⟩
    · subst hc
      intro sig hbound hnear
      have heff := State.markerReport_B hm' (by exact h)
      obtain ⟨k, n, htrk, hkn, hstop, hgeo, hsup, hbrk, hdoors, hgates, htally, hdrive, hctl⟩ := State.reportB_near (m := m)
        (s := ((s.advance dt).setLink .B ((s.links.get .B).takeMarker m.id)).placed) hbound hnear
      have hformed := Tracker.accept_formed
        (t := (((s.advance dt).setLink .B ((s.links.get .B).takeMarker m.id)).placed).trk.slackened sig m.pos)
        (by exact h.1) (by exact h.2.1) s.geo.markers .B m
      refine ⟨_, exec_transmit_of_eq heff, ?_⟩
      simp only [formed, hkeep, htrk]
      exact ⟨rfl, rfl, rfl, rfl, rfl, rfl, rfl, rfl, rfl, hkn, hformed, rfl, rfl, rfl, hstop, hgeo, hsup, hbrk, hdoors, hgates,
        htally, hdrive, hctl⟩
    · obtain ⟨k, v, heff⟩ := State.markerReport_far hm' (by exact h) hfar
      have hne : (((s.advance dt).setLink c ((s.links.get c).takeMarker m.id)).placed.stretching
          (c == Car.B && decide (s.geo.stretchBound < (m.pos + s.reportedAt .A - s.geo.length).natAbs))).trk.conf ≠ .lost := h.2.1
      obtain ⟨htrk, -⟩ := State.confEvent_lost_spec hne k (some c) (some m.id) v
      refine ⟨_, exec_transmit_of_eq heff, ?_⟩
      simp only [hkeep]
      refine ⟨congrArg (·.conf) htrk, congrArg (·.xA) htrk, congrArg (·.sigma) htrk, congrArg (·.xBase) htrk, congrArg (·.window) htrk,
        congrArg (·.expected) htrk, congrArg (·.misses) htrk, congrArg (·.lastMarker) htrk, congrArg (·.stretch) htrk,
        fun hmoving => ?_⟩
      obtain ⟨hdropped, x, hx, hcause, hstretched⟩ := State.confEvent_lost_stretched hne k (some c) (some m.id) v hmoving
      exact ⟨hdropped, x, hx, hcause, fun hs => hstretched ((congrArg (·.stretch) htrk).symm.trans hs)⟩

end Machine
end Sys2Proof
end

section
/-! PROOFS. The arrival of control frames (R187, R199 to R202). -/

namespace Sys2Proof
namespace Machine

variable {s : State}

/-! ### Authority (R187, R201) -/

theorem keyLevel_iff (r : Request) : keyLevel r = true ↔ r.kind ∈ [0x10, 0x1B, 0x1F, 0x20] := by
  cases r <;> simp [keyLevel, Request.kind]

theorem portMaySend_iff (r : Request) : portMaySend r = true ↔
    r.kind ∈ [0x0B, 0x0F, 0x11, 0x19, 0x1C, 0x21, 0x28, 0x29, 0x14, 0x1D, 0x1E, 0x24, 0x25] ∨
      ∃ port x, r = .setThreshold port x ∧ port ≠ 0 := by
  cases r <;> simp [portMaySend, Request.kind]

theorem authorised_of_keyLevel {k : Port} {key : Bool} {r : Request} (h : r.kind ∈ [0x10, 0x1B, 0x1F, 0x20]) :
    authorised k key r = key := if_pos ((keyLevel_iff r).2 h)

theorem authorised_iff {k : Port} {key : Bool} {r : Request} (h : r.kind ∉ [0x10, 0x1B, 0x1F, 0x20]) :
    authorised k key r = true ↔ k = .C ∨ portMaySend r = true := by
  have hplain : authorised k key r = match k with
      | .C => true
      | .S => portMaySend r := if_neg (mt (keyLevel_iff r).1 h)
  rw [hplain]
  cases k <;> simp

/-! ### Frames and their contents -/

theorem ofBytes_bytes16 {n : Nat} (h : n < 65536) : ofBytes (bytes16 (BitVec.ofNat 16 n)) = n := by
  simp only [bytes16, ofBytes, BitVec.extractLsb'_toNat, BitVec.toNat_ofNat, Nat.shiftRight_eq_div_pow]
  omega

theorem bytes16_eq_pair (w : BitVec 16) : bytes16 w = [w.extractLsb' 0 8, w.extractLsb' 8 8] := rfl

theorem crcBytes_length (bs : List Byte) : (crcBytes bs).length = 2 := rfl

/-- A frame's content is read back from it. -/
theorem unframe_frame (start : Byte) {content : List Byte} (h : content.length < 65536) :
    unframe start (frame start content) = some content := by
  have hn := ofBytes_bytes16 h
  have hread : unframe start (frame start content) =
      if start = start ∧ (content ++ crcBytes (bytes16 (BitVec.ofNat 16 content.length) ++ content)).length =
          ofBytes (bytes16 (BitVec.ofNat 16 content.length)) + 2 ∧
        (content ++ crcBytes (bytes16 (BitVec.ofNat 16 content.length) ++ content)).drop
          (ofBytes (bytes16 (BitVec.ofNat 16 content.length))) = crcBytes (bytes16 (BitVec.ofNat 16 content.length) ++
            (content ++ crcBytes (bytes16 (BitVec.ofNat 16 content.length) ++ content)).take
              (ofBytes (bytes16 (BitVec.ofNat 16 content.length))))
      then some ((content ++ crcBytes (bytes16 (BitVec.ofNat 16 content.length) ++ content)).take
        (ofBytes (bytes16 (BitVec.ofNat 16 content.length)))) else none := rfl
  rw [hread, hn]
  simp [crcBytes_length]

theorem readControl_frame {content : List Byte} (hmin : 3 ≤ content.length) (hmax : content.length ≤ 243) :
    readControl (frame 0xA5#8 content) = ControlFrame.ofContent content := by
  have hlength : goodLength (ofBytes (((frame 0xA5#8 content).drop 1).take 2)) = true := by
    rw [show ((frame 0xA5#8 content).drop 1).take 2 = bytes16 (BitVec.ofNat 16 content.length) from rfl,
      ofBytes_bytes16 (by omega)]
    simp [goodLength, hmin, hmax]
  rw [readControl, if_pos hlength, unframe_frame _ (by omega), Option.bind_some]

theorem fixedBody_ok {n : Nat} {r : Request} (h : bodyLengthOk r = true) (bs : List Byte) :
    ∀ x ∈ fixedBody n r bs, bodyLengthOk x = true := by
  unfold fixedBody
  split
  · simpa using h
  · exact nofun

theorem loadBody_ok {α : Type} {size : Nat} {f : List Byte → α} {mk : Nat → Nat → List α → Request}
    (h : ∀ a b xs, bodyLengthOk (mk a b xs) = true) (bs : List Byte) : ∀ x ∈ loadBody size f mk bs, bodyLengthOk x = true := by
  simp only [loadBody]
  split
  · simpa using h _ _ _
  · exact nofun

theorem loadSegmentsBody_ok (bs : List Byte) : ∀ x ∈ loadSegmentsBody bs, bodyLengthOk x = true := by
  simp only [loadSegmentsBody]
  repeat' split
  · simp [bodyLengthOk]
  · exact nofun
  next hi _ => simp [bodyLengthOk, hi]
  · exact nofun

/-- A request that can be read has the length its kind has. -/
theorem readRequest_ok (kind : Nat) (bs : List Byte) : ∀ x ∈ readRequest kind bs, bodyLengthOk x = true := by
  unfold readRequest
  split
  · exact loadSegmentsBody_ok bs
  iterate 7 exact loadBody_ok (fun _ _ _ => rfl) bs
  iterate 35 exact fixedBody_ok rfl bs
  exact nofun

/-! ### The entry that joins (R200 to R202) -/

theorem State.judgeFrame_eq (s : State) (k : Port) (f : ControlFrame) : s.judgeFrame k f =
    if f.kind < 1 ∨ 0x2B < f.kind then .refuse ⟨.malformed, [.code 0, .num f.kind]⟩
    else
      match readRequest f.kind f.body with
      | none => .refuse ⟨.malformed, [.code 1]⟩
      | some r =>
        if 15 < f.guard then .refuse ⟨.malformed, [.code 2]⟩
        else if authorised k s.line.key r = false then .refuse ⟨.authority, []⟩ else .pass r := by
  have hknown : knownKind f.kind = true ↔ ¬(f.kind < 1 ∨ 0x2B < f.kind) := by
    simp only [knownKind, Bool.and_eq_true, decide_eq_true_eq]
    omega
  by_cases h : f.kind < 1 ∨ 0x2B < f.kind
  · rw [if_pos h, State.judgeFrame, if_neg (mt hknown.1 (not_not.2 h))]
    rfl
  · rw [if_neg h, State.judgeFrame, if_pos (hknown.2 h)]
    cases hr : readRequest f.kind f.body with
    | none => rfl
    | some r =>
      have hbody := readRequest_ok f.kind f.body r hr
      simp only [State.judgeRequest, hbody]
      cases authorised k s.line.key r <;> simp <;> rfl

/-- The state of the entry a judgement gives: a refusal is ready, a request waits while there is room for it. -/
def Judgement.entry (j : Judgement) (p : PortState) (guard : Nat) : EntryState :=
  match j with
  | .refuse r => .ready r
  | .pass r => if 4 ≤ p.waiting.length then .ready ⟨.busy, []⟩ else .waiting guard r

theorem State.joinArrival_eq (s : State) (k : Port) (tag : Byte) (kind guard : Nat) (j : Judgement) :
    s.joinArrival k tag kind guard j = if 16 ≤ (s.ctl.get k).replies.length then s
      else s.joinReplies k ⟨tag, kind, j.entry (s.ctl.get k) guard⟩ := by
  unfold State.joinArrival
  refine ite_congr rfl (fun _ => rfl) (fun _ => ?_)
  cases j with
  | refuse r => rfl
  | pass r =>
    simp only [Judgement.entry]
    by_cases hw : requestRoom ≤ (s.ctl.get k).waiting.length
    · rw [if_pos hw, if_pos (by exact hw)]
      rfl
    · rw [if_neg hw, if_neg (by exact hw)]

theorem State.judgeFrame_entry (s : State) (k : Port) (f : ControlFrame) (p : PortState) :
    (s.judgeFrame k f).entry p f.guard =
      if f.kind < 1 ∨ 0x2B < f.kind then .ready ⟨.malformed, [.code 0, .num f.kind]⟩
      else
        match readRequest f.kind f.body with
        | none => .ready ⟨.malformed, [.code 1]⟩
        | some r =>
          if 15 < f.guard then .ready ⟨.malformed, [.code 2]⟩
          else if authorised k s.line.key r = false then .ready ⟨.authority, []⟩
          else if 4 ≤ p.waiting.length then .ready ⟨.busy, []⟩
          else .waiting f.guard r := by
  rw [State.judgeFrame_eq]
  by_cases h : f.kind < 1 ∨ 0x2B < f.kind
  · rw [if_pos h, if_pos h]
    rfl
  · rw [if_neg h, if_neg h]
    cases readRequest f.kind f.body with
    | none => rfl
    | some r =>
      dsimp only
      split_ifs with hg ha hw
      · rfl
      · rfl
      · exact if_pos hw
      · exact if_neg hw

theorem State.receiveTimeout_eq (s : State) (k : Port) : s.receiveTimeout k = s.setPort k { s.ctl.get k with
    rx := match (s.ctl.get k).rx.since with
      | some t0 => if 50 ≤ elapsed t0 s.now then .hunting else (s.ctl.get k).rx
      | none => (s.ctl.get k).rx } := by
  simp only [State.receiveTimeout]
  cases (s.ctl.get k).rx.since with
  | none => rfl
  | some t0 =>
    have hdue : due frameSpan (some t0) s.now = true ↔ 50 ≤ elapsed t0 s.now := due_some _ _ _
    simp only [hdue]

/-- Settles O12: who may send what, the entry of a frame with a good check, and the timeout of one under way. -/
theorem controlFrameArrival : Obligations.ControlFrameArrival := by
  refine ⟨fun k key r => ?_, fun dt k kind tag guard body s hbody => ?_, fun dt k bytes s hbad => ?_, fun dt k s => ?_⟩
  · intro keyLevel openToS
    exact ⟨authorised_of_keyLevel, fun h => (authorised_iff h).trans (or_congr Iff.rfl (portMaySend_iff r))⟩
  · intro p x
    have hread : readControl (frame 0xA5#8 (kind :: tag :: guard :: body)) = some ⟨kind.toNat, tag, guard.toNat, body⟩ :=
      readControl_frame (by simp) (by simp only [List.length_cons]; omega)
    have hx : ((s.advance dt).judgeFrame k ⟨kind.toNat, tag, guard.toNat, body⟩).entry ((s.advance dt).ctl.get k) guard.toNat = x :=
      State.judgeFrame_entry _ k ⟨kind.toNat, tag, guard.toNat, body⟩ _
    refine exec_ended_of_eq ?_
    simp only [effect, State.controlFrame, hread, State.arriveFrame, State.joinArrival_eq, hx]
    rfl
  · exact exec_ended_of_eq (by simp only [effect, State.controlFrame, hbad])
  · exact exec_ended_of_eq ((s.advance dt).receiveTimeout_eq k)

end Machine
end Sys2Proof
end

section
/-! PROOFS. Control bytes (R199): one byte moves the receiver, and the bytes of a frame make the frame. -/

namespace Sys2Proof
namespace Machine

variable {s : State} {k : Port}

/-- The state with a port's receiver moved. -/
def State.receiver (s : State) (k : Port) (rx : Receiver) : State := s.setPort k { s.ctl.get k with rx := rx }

theorem State.controlByte_of_moves {rx : Receiver} {b : Byte}
    (h : ((s.ctl.get k).rx.late s.now).take s.now b = (rx, none)) : s.controlByte k b = s.receiver k rx := by
  simp only [State.controlByte, h]
  rfl

theorem State.controlByte_of_completes {rx : Receiver} {b : Byte} {bytes : List Byte}
    (h : ((s.ctl.get k).rx.late s.now).take s.now b = (rx, some bytes)) :
    s.controlByte k b = (s.receiver k rx).controlFrame k bytes := by
  simp only [State.controlByte, h]
  rfl

theorem Receiver.late_of_late {x : Receiver} {now : Time} (h : ∃ t0, x.since = some t0 ∧ 50 < elapsed t0 now) :
    x.late now = .hunting := by
  obtain ⟨t0, hsince, hlate⟩ := h
  simp only [Receiver.late, hsince]
  exact if_pos hlate

theorem Receiver.late_of_not_late {x : Receiver} {now : Time} (h : ¬∃ t0, x.since = some t0 ∧ 50 < elapsed t0 now) :
    x.late now = x := by
  unfold Receiver.late
  split
  next t0 hsince => exact if_neg (fun hlate => h ⟨t0, hsince, hlate⟩)
  · rfl

theorem PerPort.set_get {α : Type} (x : PerPort α) (k : Port) : x.set k (x.get k) = x := by cases k <;> rfl

/-- A frame's arrival changes its port's reply list alone. -/
theorem State.controlFrame_port (s : State) (k : Port) (bytes : List Byte) : ∃ p, s.controlFrame k bytes = s.setPort k p ∧
    p.tx = (s.ctl.get k).tx ∧ p.rx = (s.ctl.get k).rx ∧
      (p.replies = (s.ctl.get k).replies ∨ ∃ e, p.replies = (s.ctl.get k).replies ++ [e]) := by
  have hsame : s = s.setPort k (s.ctl.get k) := by rw [State.setPort, PerPort.set_get]
  unfold State.controlFrame
  split
  next f _ =>
    rw [State.arriveFrame, State.joinArrival_eq]
    split
    · exact ⟨_, hsame, rfl, rfl, .inl rfl⟩
    · exact ⟨_, rfl, rfl, rfl, .inr ⟨_, rfl⟩⟩
  · exact ⟨_, hsame, rfl, rfl, .inl rfl⟩

theorem goodLength_iff (n : Nat) : goodLength n = true ↔ 3 ≤ n ∧ n ≤ 243 := by simp [goodLength]

theorem State.controlByte_port (s : State) (k : Port) (b : Byte) : ∃ p, s.controlByte k b = s.setPort k p ∧
    p.tx = (s.ctl.get k).tx ∧ (p.replies = (s.ctl.get k).replies ∨ ∃ e, p.replies = (s.ctl.get k).replies ++ [e]) := by
  cases h : ((s.ctl.get k).rx.late s.now).take s.now b with
  | mk rx o =>
    cases o with
    | none => exact ⟨_, State.controlByte_of_moves h, rfl, .inl rfl⟩
    | some bytes =>
      obtain ⟨p, hp, htx, -, hreplies⟩ := (s.receiver k rx).controlFrame_port k bytes
      have hget : (s.receiver k rx).ctl.get k = { s.ctl.get k with rx := rx } := by
        rw [State.receiver, State.setPort, PerPort.get_set, if_pos rfl]
      rw [hget] at htx hreplies
      refine ⟨p, ?_, htx, hreplies⟩
      rw [State.controlByte_of_completes h, hp]
      cases k <;> rfl

theorem Receiver.take_length {t0 t1 now : Time} {low b : Byte} :
    (3 ≤ low.toNat + 256 * b.toNat → low.toNat + 256 * b.toNat ≤ 243 →
      (Receiver.lengthLow t0 low t1).take now b = (.body t0 (low.toNat + 256 * b.toNat) [], none)) ∧
    (low.toNat + 256 * b.toNat < 3 ∨ 243 < low.toNat + 256 * b.toNat →
      (Receiver.lengthLow t0 low t1).take now b = (if low = 0xA5#8 then .lengthLow t1 b now else Receiver.hunt now b, none)) := by
  have hn : ofBytes [low, b] = low.toNat + 256 * b.toNat := by simp [ofBytes]
  rw [← hn]
  refine ⟨fun hmin hmax => if_pos ((goodLength_iff _).2 ⟨hmin, hmax⟩), fun hbad => ?_⟩
  have hnot : ¬goodLength (ofBytes [low, b]) = true := fun h => by
    have := (goodLength_iff _).1 h
    omega
  refine (if_neg hnot).trans ?_
  by_cases hlow : low = 0xA5#8
  · rw [if_pos hlow, Receiver.hunt, if_pos hlow]
  · rw [if_neg hlow, Receiver.hunt, if_neg hlow]

/-! ### A frame byte by byte -/

theorem State.ask_of_ok (h : s.TransmittersOk) (k : Port) : s.ask k = s := by
  unfold State.ask
  split
  · rfl
  next hfree =>
    obtain ⟨hwaits, hnone⟩ := h k hfree
    simp only [State.sendNext]
    split
    next hempty => simp only [State.sendNotice, hnone hempty]
    next e es hreplies =>
      have hw := hwaits e es hreplies
      simp only [ReplyEntry.isWaiting] at hw
      split
      next hready => simp [hready] at hw
      · rfl

theorem State.transmit_of_ok (h : s.TransmittersOk) : s.transmit = s := by
  rw [State.transmit, State.ask_of_ok h, State.ask_of_ok h]

/-- The state under way in a frame: `d` ms on, the receiver at `rx`, the flags handed over. -/
def State.underWay (s : State) (d : Time) (k : Port) (rx : Receiver) : State := ((s.advance d).receiver k rx).flagged s.pending

theorem State.underWay_transmittersOk (h : s.TransmittersOk) (d : Time) (k : Port) (rx : Receiver) :
    (s.underWay d k rx).TransmittersOk := by
  intro j hj
  have hport : ((s.underWay d k rx).ctl.get j).tx = (s.ctl.get j).tx ∧
      ((s.underWay d k rx).ctl.get j).replies = (s.ctl.get j).replies := by
    have hget : (s.underWay d k rx).ctl.get j = if j = k then { s.ctl.get k with rx := rx } else s.ctl.get j := by
      simp only [State.underWay, State.receiver, State.setPort, State.flagged_frame, PerPort.get_set]
      rfl
    rw [hget]
    split
    next hjk => rw [hjk]; exact ⟨rfl, rfl⟩
    · exact ⟨rfl, rfl⟩
  rw [hport.1] at hj
  rw [hport.2]
  exact h j hj

theorem State.underWay_rx (s : State) (d : Time) (k : Port) (rx : Receiver) : ((s.underWay d k rx).ctl.get k).rx = rx := by
  simp only [State.underWay, State.receiver, State.setPort, State.flagged_frame, PerPort.get_set, if_true]

theorem exec_byte_first {dt : Time} {b : Byte} {rx : Receiver} (hok : s.TransmittersOk)
    (h : ((s.ctl.get k).rx.late (s.now + dt)).take (s.now + dt) b = (rx, none)) :
    exec (.controlByteReceived dt k b) s = .next (s.underWay dt k rx) := by
  have heff : effect (.controlByteReceived dt k b) s = (s.advance dt).receiver k rx :=
    State.controlByte_of_moves (s := s.advance dt) h
  rw [exec_transmit_of_eq heff]
  exact congrArg Host.Outcome.next (State.transmit_of_ok (State.underWay_transmittersOk hok dt k rx))

/-- One byte more of a frame under way. -/
theorem exec_byte_underWay {d dt : Time} {b : Byte} {rx rx' : Receiver} (hok : s.TransmittersOk)
    (h : (rx.late (s.now + (d + dt))).take (s.now + (d + dt)) b = (rx', none)) :
    exec (.controlByteReceived dt k b) (s.underWay d k rx) = .next (s.underWay (d + dt) k rx') := by
  have hnow : (s.underWay d k rx).now + dt = s.now + (d + dt) := add_assoc ..
  have hsame : (s.underWay d k rx).underWay dt k rx' = s.underWay (d + dt) k rx' :=
    calc (s.underWay d k rx).underWay dt k rx'
        = (({ s with now := s.now + d + dt } : State).receiver k rx').flagged s.pending := by cases k <;> rfl
      _ = s.underWay (d + dt) k rx' := by rw [add_assoc]; rfl
  rw [← hsame]
  refine exec_byte_first (State.underWay_transmittersOk hok d k rx) ?_
  rw [hnow, State.underWay_rx]
  exact h

/-! ### The last byte -/

/-- A state with its line flags replaced. -/
def State.withFlags (s : State) (f : Flags) : State := { s with line := { s.line with flags := f } }

theorem State.withFlags_controlFrame (s : State) (f : Flags) (k : Port) (bytes : List Byte) :
    (s.withFlags f).controlFrame k bytes = (s.controlFrame k bytes).withFlags f := by
  unfold State.controlFrame
  split
  next x _ =>
    have hjudge : (s.withFlags f).judgeFrame k x = s.judgeFrame k x := rfl
    rw [State.arriveFrame, State.arriveFrame, State.joinArrival_eq, State.joinArrival_eq, hjudge]
    by_cases h : 16 ≤ (s.ctl.get k).replies.length
    · rw [if_pos h, if_pos (by exact h)]
    · rw [if_neg h, if_neg (by exact h)]
      rfl
  · rfl

theorem State.receiver_same {rx : Receiver} (h : (s.ctl.get k).rx = rx) : s.receiver k rx = s := by
  have hport : ({ s.ctl.get k with rx := rx } : PortState) = s.ctl.get k := by rw [← h]
  rw [State.receiver, State.setPort, hport, PerPort.set_get]

/-- The byte that completes a frame is the arrival of the whole frame, the time of its bytes passed. -/
theorem exec_byte_last {d dt : Time} {b : Byte} {rx : Receiver} {bytes : List Byte} (hrx : (s.ctl.get k).rx = .hunting)
    (h : (rx.late (s.now + (d + dt))).take (s.now + (d + dt)) b = (.hunting, some bytes)) :
    exec (.controlByteReceived dt k b) (s.underWay d k rx) = exec (.controlFrameReceived (d + dt) k bytes) s := by
  have hdone : ((((s.underWay d k rx).advance dt).ctl.get k).rx.late ((s.underWay d k rx).advance dt).now).take
      ((s.underWay d k rx).advance dt).now b = (.hunting, some bytes) := by
    rw [show ((s.underWay d k rx).advance dt).ctl.get k = (s.underWay d k rx).ctl.get k from rfl, State.underWay_rx,
      show ((s.underWay d k rx).advance dt).now = s.now + (d + dt) from add_assoc ..]
    exact h
  have hback : ((s.underWay d k rx).advance dt).receiver k .hunting =
      (s.advance (d + dt)).withFlags ((s.advance d).receiver k rx).flagsNow :=
    calc ((s.underWay d k rx).advance dt).receiver k .hunting
        = (({ s with now := s.now + d + dt } : State).receiver k .hunting).withFlags ((s.advance d).receiver k rx).flagsNow := by
          cases k <;> rfl
      _ = (s.advance (d + dt)).withFlags ((s.advance d).receiver k rx).flagsNow := by
          rw [State.receiver_same (by exact hrx), add_assoc]
          rfl
  have heff : effect (.controlByteReceived dt k b) (s.underWay d k rx) =
      ((s.advance (d + dt)).controlFrame k bytes).withFlags ((s.advance d).receiver k rx).flagsNow := by
    rw [← State.withFlags_controlFrame, ← hback]
    exact State.controlByte_of_completes hdone
  have heff' : effect (.controlFrameReceived (d + dt) k bytes) s = (s.advance (d + dt)).controlFrame k bytes := rfl
  rw [exec_transmit_of_eq heff, exec_transmit_of_eq heff']
  rfl

theorem elapsed_add_le (t0 now dt : Time) : elapsed t0 (now + dt) ≤ elapsed t0 now + dt.toNat := by
  simp only [elapsed]
  bv_omega

theorem Receiver.late_of_elapsed {x : Receiver} {t0 now : Time} (hx : x.since = some t0) (h : elapsed t0 now ≤ 50) :
    x.late now = x := by
  refine Receiver.late_of_not_late (fun ⟨t1, ht1, hlate⟩ => ?_)
  obtain rfl := Option.some.inj (hx.symm.trans ht1)
  omega

/-- The bytes that follow the length make the frame. -/
theorem runAll_body (hok : s.TransmittersOk) (hrx : (s.ctl.get k).rx = .hunting) {t0 : Time} {n : Nat} {t : State} :
    ∀ (bs : List Byte) (dts : List Time) (got : List Byte) (d : Time), bs ≠ [] → dts.length = bs.length →
      got.length + bs.length = n + 2 → elapsed t0 (s.now + d) + (dts.map (fun d => d.toNat)).sum ≤ 50 →
      exec (.controlFrameReceived (d + dts.sum) k (0xA5#8 :: (bytes16 (BitVec.ofNat 16 n) ++ (got ++ bs)))) s = .next t →
      runAll (List.zipWith (fun d b => Instr.controlByteReceived d k b) dts bs) (s.underWay d k (.body t0 n got)) = some t := by
  intro bs
  induction bs with
  | nil => exact fun _ _ _ h => absurd rfl h
  | cons b bs ih =>
    intro dts got d _ hdts hlen htime hexec
    cases dts with
    | nil => simp at hdts
    | cons dt dts =>
      simp only [List.length_cons, Nat.add_right_cancel_iff] at hdts
      simp only [List.map_cons, List.sum_cons] at htime hexec
      have hearly : elapsed t0 (s.now + (d + dt)) ≤ elapsed t0 (s.now + d) + dt.toNat := by
        rw [← add_assoc]
        exact elapsed_add_le _ _ _
      have hlate : (Receiver.body t0 n got).late (s.now + (d + dt)) = .body t0 n got :=
        Receiver.late_of_elapsed rfl (by omega)
      simp only [List.zipWith_cons_cons, runAll]
      cases bs with
      | nil =>
        obtain rfl : dts = [] := List.length_eq_zero_iff.1 hdts
        have hlast : (Receiver.body t0 n got).take (s.now + (d + dt)) b =
            (.hunting, some (0xA5#8 :: (bytes16 (BitVec.ofNat 16 n) ++ (got ++ [b])))) := if_pos (by simpa using hlen)
        rw [exec_byte_last hrx (by rw [hlate]; exact hlast)]
        simp only [List.sum_nil, add_zero] at hexec
        rw [hexec]
        rfl
      | cons b' bs =>
        have hnext : (Receiver.body t0 n got).take (s.now + (d + dt)) b = (.body t0 n (got ++ [b]), none) :=
          if_neg (by simp at hlen ⊢; omega)
        rw [exec_byte_underWay hok (by rw [hlate]; exact hnext)]
        refine ih dts (got ++ [b]) (d + dt) (by simp) hdts (by simp at hlen ⊢; omega) (by omega) ?_
        rw [List.append_assoc, add_assoc]
        exact hexec

/-- Settles O13: the receiver's moves byte by byte, and the whole frame by induction on the bytes after its length. -/
theorem bytesOfFrameMakeFrame : Obligations.BytesOfFrameMakeFrame := by
  refine ⟨fun dt k b s => ?_, ?_⟩
  · intro now p late placed moves hunt
    have hmoves : ∀ {rx}, (p.rx.late now).take now b = (rx, none) → moves rx := fun h =>
      exec_ended_of_eq (State.controlByte_of_moves (s := s.advance dt) h)
    refine ⟨?_, fun h => ?_, fun t0 hrx hlate => ?_, fun t0 low t1 hrx hlate => ?_, fun t0 n got hrx hlate => ?_⟩
    · obtain ⟨p', hp, htx, hreplies⟩ := (s.advance dt).controlByte_port k b
      exact ⟨p', exec_ended_of_eq hp, htx, hreplies⟩
    · have hhunt : p.rx.late now = .hunting := by
        by_cases hlate : late
        · exact Receiver.late_of_late hlate
        · exact (Receiver.late_of_not_late hlate).trans (h.resolve_right hlate)
      exact hmoves (by rw [hhunt]; rfl)
    · exact hmoves (by rw [Receiver.late_of_not_late hlate, hrx]; rfl)
    · have htake : p.rx.late now = .lengthLow t0 low t1 := (Receiver.late_of_not_late hlate).trans hrx
      intro n
      exact ⟨fun hmin hmax => hmoves (by rw [htake]; exact Receiver.take_length.1 hmin hmax),
        fun hbad => hmoves (by rw [htake]; exact Receiver.take_length.2 hbad)⟩
    · have htake : p.rx.late now = .body t0 n got := (Receiver.late_of_not_late hlate).trans hrx
      refine ⟨fun hne => hmoves (by rw [htake]; exact if_neg (by simpa using hne)), fun heq => ?_⟩
      have hdone : (p.rx.late now).take now b = (.hunting, some (0xA5#8 :: bytes16 (BitVec.ofNat 16 n) ++ got ++ [b])) := by
        rw [htake, List.append_assoc]
        exact if_pos (by simpa using heq)
      rw [exec_eq_ended, exec_eq_ended]
      exact congrArg (fun u : State => Host.Outcome.next (u.ended s.pending))
        (State.controlByte_of_completes (s := s.advance dt) hdone)
  · intro k content dt dts s t hmin hmax hrx hdts htime hok hexec
    have hframe : frame 0xA5#8 content = 0xA5#8 :: (bytes16 (BitVec.ofNat 16 content.length) ++
        (content ++ crcBytes (bytes16 (BitVec.ofNat 16 content.length) ++ content))) := by
      simp [frame]
    obtain ⟨d1, d2, dts, rfl⟩ : ∃ d1 d2 rest, dts = d1 :: d2 :: rest := by
      match dts, hdts with
      | [], h => simp at h
      | [_], h => simp at h
      | d1 :: d2 :: rest, _ => exact ⟨d1, d2, rest, rfl⟩
    have hlength := Receiver.take_length (t0 := s.now + dt) (t1 := s.now + (dt + d1)) (now := s.now + (dt + d1 + d2))
      (low := (BitVec.ofNat 16 content.length).extractLsb' 0 8) (b := (BitVec.ofNat 16 content.length).extractLsb' 8 8)
    have hn : ((BitVec.ofNat 16 content.length).extractLsb' 0 8).toNat +
        256 * ((BitVec.ofNat 16 content.length).extractLsb' 8 8).toNat = content.length := by
      have hboth := ofBytes_bytes16 (n := content.length) (by omega)
      simpa only [bytes16, ofBytes, mul_zero, add_zero] using hboth
    rw [hn] at hlength
    rw [hframe] at hexec ⊢
    simp only [List.map_cons, List.sum_cons] at htime hexec
    simp only [List.length_cons, Nat.add_right_cancel_iff] at hdts
    have hstart : elapsed (s.now + dt) (s.now + dt) = 0 := by simp [elapsed]
    have hfirst : elapsed (s.now + dt) (s.now + (dt + d1)) ≤ d1.toNat := by
      have := elapsed_add_le (s.now + dt) (s.now + dt) d1
      rw [hstart, add_assoc] at this
      omega
    have hsecond : elapsed (s.now + dt) (s.now + (dt + d1 + d2)) ≤ d1.toNat + d2.toNat := by
      have := elapsed_add_le (s.now + dt) (s.now + (dt + d1)) d2
      rw [add_assoc] at this
      omega
    have hstarted : exec (.controlByteReceived dt k 0xA5#8) s = .next (s.underWay dt k (.started (s.now + dt))) :=
      exec_byte_first hok (by rw [hrx]; rfl)
    have hlow : exec (.controlByteReceived d1 k ((BitVec.ofNat 16 content.length).extractLsb' 0 8))
        (s.underWay dt k (.started (s.now + dt))) = .next (s.underWay (dt + d1) k
          (.lengthLow (s.now + dt) ((BitVec.ofNat 16 content.length).extractLsb' 0 8) (s.now + (dt + d1)))) :=
      exec_byte_underWay hok (by rw [Receiver.late_of_elapsed rfl (by omega)]; rfl)
    have hhigh : exec (.controlByteReceived d2 k ((BitVec.ofNat 16 content.length).extractLsb' 8 8))
        (s.underWay (dt + d1) k
          (.lengthLow (s.now + dt) ((BitVec.ofNat 16 content.length).extractLsb' 0 8) (s.now + (dt + d1)))) =
        .next (s.underWay (dt + d1 + d2) k (.body (s.now + dt) content.length [])) :=
      exec_byte_underWay hok (by rw [Receiver.late_of_elapsed rfl (by omega)]; exact hlength.1 hmin hmax)
    simp only [bytes16_eq_pair, List.cons_append, List.nil_append, List.zipWith_cons_cons, runAll, hstarted, hlow, hhigh]
    refine runAll_body hok hrx _ dts [] (dt + d1 + d2) (List.ne_nil_of_length_pos (by simp [crcBytes_length])) ?_ (by simp [crcBytes_length]) (by omega) ?_
    · simp [crcBytes_length]
      omega
    · rw [show dt + d1 + d2 + dts.sum = dt + (d1 + (d2 + dts.sum)) by simp only [add_assoc]]
      exact hexec

end Machine
end Sys2Proof
end

section
/-! PROOFS. Watches (R90, R93, R94): the record replaced, and what the change makes of the run's stop point. -/

namespace Sys2Proof
namespace Machine

variable {s : State} {r : Run} {i : Ix4}

/-! ### The records -/

theorem Ix4.ofIndex?_index (n : Ix4) : Ix4.ofIndex? n.index = some n := by cases n <;> rfl

theorem Ix4.ofIndex?_eq_none {n : Nat} (h : 3 < n) : Ix4.ofIndex? n = none := by
  match n, h with
  | n + 4, _ => rfl

theorem WatchSense.ofCode?_code (y : WatchSense) : WatchSense.ofCode? y.code = some y := by cases y <;> rfl

theorem WatchSense.ofCode?_eq_none {n : Nat} (h : 2 < n) : WatchSense.ofCode? n = none := by
  match n, h with
  | n + 3, _ => rfl

/-- A watch record with a field out of range. -/
theorem watchOf_eq_none {length : Int} {w : WatchBytes}
    (h : 1 < w.car ∨ w.pos < 0 ∨ length < w.pos ∨ 2 < w.sense ∨ 1 < w.action ∨ 1 < w.keep) : watchOf length w = none := by
  unfold watchOf
  split
  next y hy =>
    have hsense : ¬2 < w.sense := fun hs => by simp [WatchSense.ofCode?_eq_none hs] at hy
    refine if_neg (fun hok => ?_)
    simp only [between, Bool.and_eq_true, decide_eq_true_eq] at hok
    omega
  · rfl

theorem watchOf_eq_some {length : Int} {w : WatchBytes} {y : WatchSense} (hcar : w.car ≤ 1) (hlow : 0 ≤ w.pos)
    (hhigh : w.pos ≤ length) (hsense : w.sense = y.code) (haction : w.action ≤ 1) (hkeep : w.keep ≤ 1) :
    watchOf length w = some ⟨true, if w.car = 0 then .A else .B, w.pos, y, w.action == 1, w.keep == 1⟩ := by
  simp only [watchOf, hsense, WatchSense.ofCode?_code]
  exact if_pos ⟨hcar, by simp [between, hlow, hhigh], haction, hkeep⟩

theorem State.setWatch_range {n : Nat} {w : WatchBytes} (hmode : s.line.mode ≠ .unconfigured)
    (h : 3 < n ∨ 1 < w.car ∨ w.pos < 0 ∨ s.geo.length < w.pos ∨ 2 < w.sense ∨ 1 < w.action ∨ 1 < w.keep) :
    s.setWatch n w = (s, .range) := by
  rw [State.setWatch, if_neg hmode]
  rcases h with hn | hrest
  · rw [Ix4.ofIndex?_eq_none hn]
  · rw [watchOf_eq_none hrest]
    split
    next hnone => cases hnone
    · rfl

theorem Watch.holds_iff (w : Watch) : w.holds = true ↔ w.enabled = true ∧ w.hold = true := by
  simp [Watch.holds]

/-! ### What a change makes of the stop point (R93, R94) -/

theorem State.watchChanged_of_apart (h : ∀ r, s.plan.run = some r → r.state = .planned ∨ r.state = .holding ∨ r.state = .tripped)
    (n : Ix4) (old w : Watch) : s.watchChanged n old w = s := by
  unfold State.watchChanged
  split
  · rfl
  next r hr =>
    rcases h r hr with hst | hst | hst <;> simp [hst, RunState.moving]

theorem State.watchChanged_of_starting (hr : s.plan.run = some r) (hst : r.state = .starting) (n : Ix4) (old w : Watch) :
    s.watchChanged n old w = if (old.holds || w.holds) = true then
      (s.setRun (some { r with stop := s.formStop r (causeWatch (r.leaving.bind (fun l => l.cause))) })).holdSetNotice
        (s.formStop r (causeWatch (r.leaving.bind (fun l => l.cause)))) else s := by
  simp only [State.watchChanged, hr, hst]
  simp [RunState.moving]

theorem State.watchChanged_of_asap (hr : s.plan.run = some r) (hst : r.state.moving = true) (hasap : r.stop.isAsap = true)
    (n : Ix4) (old w : Watch) : s.watchChanged n old w = s := by
  simp only [State.watchChanged, hr, hst, hasap, if_true]

theorem State.watchChanged_of_moving (hr : s.plan.run = some r) (hst : r.state.moving = true) (hasap : r.stop.isAsap = false)
    (n : Ix4) (old w : Watch) : s.watchChanged n old w =
      (s.cancelWatch r n old).1.newWatch (s.cancelWatch r n old).2 n w := by
  simp only [State.watchChanged, hr, hst, hasap]
  simp

theorem StopPoint.isWatch_iff (p : StopPoint) (n : Ix4) : p.isWatch n = true ↔ ∃ x, p = .watch n x := by
  cases p <;> simp [StopPoint.isWatch]

/-- The whole service stopping distance is the least one that fits. -/
theorem State.stoppingDistance_eq {d : RunDyn} {sd : Nat} (hdyn : r.dyn = some d) (h : s.StopsIn d.aSvc sd) :
    s.stoppingDistance r = sd := by
  obtain ⟨hpos, hfits, hleast⟩ := h
  simp only [State.stoppingDistance, hdyn, ceilDiv, mag]
  refine (Nat.div_eq_iff (by omega)).2 ⟨?_, ?_⟩
  · rcases hleast with rfl | hleast
    · omega
    · obtain _ | n := sd
      · omega
      · rw [Nat.succ_sub_one] at hleast
        rw [Nat.mul_comm, Nat.mul_succ]
        omega
  · rw [Nat.mul_comm sd]
    omega

/-- A watch replaced: what it makes of the run that stops at it. -/
theorem State.cancelWatch_spec (s : State) (r : Run) (hr : s.plan.run = some r) (n : Ix4) (old : Watch) :
    (s.cancelWatch r n old).2 = { r with stop := (s.cancelWatch r n old).2.stop } ∧
      (s.cancelWatch r n old).1.plan = { s.plan with run := some (s.cancelWatch r n old).2 } ∧
      ((∀ x, r.stop ≠ .watch n x) → (s.cancelWatch r n old).2 = r) ∧
      ((∃ x, r.stop = .watch n x) → (s.cancelWatch r n old).2.stop = s.stopWithout r n) ∧
      (s.cancelWatch r n old).1.geo = s.geo ∧ (s.cancelWatch r n old).1.trk = s.trk ∧ (s.cancelWatch r n old).1.sup = s.sup ∧
      (s.cancelWatch r n old).1.brk = s.brk ∧ (s.cancelWatch r n old).1.drive = s.drive ∧
      (s.cancelWatch r n old).1.ctl = s.ctl ∧ (s.cancelWatch r n old).1.now = s.now := by
  have hself : s.plan = { s.plan with run := some r } := by rw [← hr]
  unfold State.cancelWatch
  by_cases h : r.stop.isWatch n = true
  · rw [if_pos h]
    exact ⟨rfl, by simp; rfl, fun hno => absurd ((StopPoint.isWatch_iff _ _).1 h) (not_exists.2 hno), fun _ => rfl,
      by simp, by simp, by simp, by simp, by simp, by simp, by simp⟩
  · rw [if_neg h]
    exact ⟨rfl, hself, fun _ => rfl, fun hx => absurd ((StopPoint.isWatch_iff _ _).2 hx) h, rfl, rfl, rfl, rfl, rfl, rfl, rfl⟩

theorem State.newWatch_none {w : Watch} (h : s.candidate r w = none) (n : Ix4) : s.newWatch r n w = s := by
  simp only [State.newWatch, h]

/-- A new candidate: nearer and beyond the service stopping distance it is the stop point, within that distance a hold. -/
theorem State.newWatch_spec {r1 : Run} (hr : s.plan.run = some r1) (hasap : r1.stop.isAsap = false) (n : Ix4) (w : Watch) :
    ∃ r2, (s.newWatch r1 n w).plan = { s.plan with run := some r2 } ∧
      ((∀ x, ¬s.WatchAt r1 w x) → r2 = r1) ∧
      (∀ x, s.WatchAt r1 w x →
        ((s.stoppingDistance r1 : Int) < (x - s.trk.xA) * r1.dir.sign →
          (x - s.trk.xA) * r1.dir.sign < (stopPosition r1.pA r1.stop - s.trk.xA) * r1.dir.sign →
          r2 = { r1 with stop := .watch n x }) ∧
        ((s.stoppingDistance r1 : Int) < (x - s.trk.xA) * r1.dir.sign →
          (stopPosition r1.pA r1.stop - s.trk.xA) * r1.dir.sign ≤ (x - s.trk.xA) * r1.dir.sign → r2 = r1) ∧
        ((x - s.trk.xA) * r1.dir.sign ≤ s.stoppingDistance r1 → r2 = r1.held (.watch n) (mag s.trk.v) s.now)) ∧
      (s.newWatch r1 n w).geo = s.geo ∧ (s.newWatch r1 n w).trk = s.trk ∧ (s.newWatch r1 n w).sup = s.sup ∧
      (s.newWatch r1 n w).brk = s.brk ∧ (s.newWatch r1 n w).drive = s.drive ∧ (s.newWatch r1 n w).ctl = s.ctl := by
  have hself : s.plan = { s.plan with run := some r1 } := by rw [← hr]
  have hcand := s.candidate_iff r1 w
  unfold State.newWatch
  cases hc : s.candidate r1 w with
  | none =>
    rw [hc] at hcand
    exact ⟨r1, hself, fun _ => rfl, fun x hx => (nomatch (hcand x).2 hx), rfl, rfl, rfl, rfl, rfl, rfl⟩
  | some x =>
    rw [hc] at hcand
    have hat : s.WatchAt r1 w x := (hcand x).1 rfl
    have honly : ∀ y, s.WatchAt r1 w y → y = x := fun y hy => (Option.some.inj ((hcand y).2 hy)).symm
    dsimp only
    by_cases hbeyond : (s.stoppingDistance r1 : Int) < (x - s.trk.xA) * r1.dir.sign
    · rw [if_pos hbeyond]
      by_cases hnear : (x - s.trk.xA) * r1.dir.sign < (stopPosition r1.pA r1.stop - s.trk.xA) * r1.dir.sign
      · rw [if_pos hnear]
        refine ⟨{ r1 with stop := .watch n x }, by simp; rfl, fun hno => absurd hat (hno x), fun y hy => ?_, by simp, by simp, by simp,
          by simp, by simp, by simp⟩
        obtain rfl := honly y hy
        exact ⟨fun _ _ => rfl, fun _ hle => absurd hnear (not_lt.2 hle), fun hle => absurd hbeyond (not_lt.2 hle)⟩
      · rw [if_neg hnear]
        refine ⟨r1, hself, fun _ => rfl, fun y hy => ?_, rfl, rfl, rfl, rfl, rfl, rfl⟩
        obtain rfl := honly y hy
        exact ⟨fun _ hlt => absurd hlt hnear, fun _ _ => rfl, fun hle => absurd hbeyond (not_lt.2 hle)⟩
    · rw [if_neg hbeyond]
      refine ⟨r1.held (.watch n) (mag s.trk.v) s.now, by simp [State.takeHold_plan hasap], fun hno => absurd hat (hno x), fun y hy => ?_,
        by simp, by simp, by simp, by simp, by simp, by simp⟩
      obtain rfl := honly y hy
      exact ⟨fun hlt => absurd hlt hbeyond, fun hlt => absurd hlt hbeyond, fun _ => rfl⟩

theorem stopOf_not_asap (o : Option (Ix4 × Int)) : (stopOf o).isAsap = false := by
  cases o <;> rfl

/-- A watch changed in a moving phase whose stop point is not ASAP. -/
theorem State.watchChanged_moving {d : RunDyn} {sd : Nat} (hr : s.plan.run = some r) (hst : r.state.moving = true)
    (hasap : r.stop.isAsap = false) (hdyn : r.dyn = some d) (hsd : s.StopsIn d.aSvc sd) (old w : Watch) :
    ∃ r1 r2, (s.watchChanged i old w).plan = { s.plan with run := some r2 } ∧
      r1 = { r with stop := r1.stop } ∧
      ((∀ x, r.stop ≠ .watch i x) → r1 = r) ∧
      (∀ x, r.stop = .watch i x →
        s.NearestStop r (fun m y => m ≠ i ∧ (sd : Int) < (y - s.trk.xA) * r.dir.sign) r1.stop) ∧
      ((∀ x, ¬s.WatchAt r w x) → r2 = r1) ∧
      (∀ x, s.WatchAt r w x →
        ((sd : Int) < (x - s.trk.xA) * r.dir.sign →
          (x - s.trk.xA) * r.dir.sign < (stopPosition r.pA r1.stop - s.trk.xA) * r.dir.sign →
          r2 = { r1 with stop := .watch i x }) ∧
        ((sd : Int) < (x - s.trk.xA) * r.dir.sign →
          (stopPosition r.pA r1.stop - s.trk.xA) * r.dir.sign ≤ (x - s.trk.xA) * r.dir.sign → r2 = r1) ∧
        ((x - s.trk.xA) * r.dir.sign ≤ sd → r2 = r1.held (.watch i) (mag s.trk.v) s.now)) ∧
      (s.watchChanged i old w).geo = s.geo ∧ (s.watchChanged i old w).trk = s.trk ∧ (s.watchChanged i old w).sup = s.sup ∧
      (s.watchChanged i old w).brk = s.brk ∧ (s.watchChanged i old w).drive = s.drive ∧
      (s.watchChanged i old w).ctl = s.ctl := by
  rw [State.watchChanged_of_moving hr hst hasap]
  obtain ⟨hr1, hplan, hkept, hformed, hgeo, htrk, hsup, hbrk, hdrive, hctl, hnow⟩ := s.cancelWatch_spec r hr i old
  have hdist := State.stoppingDistance_eq hdyn hsd
  have hnearest := s.nearestStop_stopOf r (fun m x => m != i && decide ((s.stoppingDistance r : Int) < (x - s.trk.xA) * r.dir.sign))
  generalize (s.cancelWatch r i old).1 = u at hplan hgeo htrk hsup hbrk hdrive hctl hnow ⊢
  generalize (s.cancelWatch r i old).2 = r1 at hr1 hplan hkept hformed ⊢
  have hasap1 : r1.stop.isAsap = false := by
    by_cases hx : ∃ x, r.stop = .watch i x
    · rw [hformed hx]
      exact stopOf_not_asap _
    · rw [hkept (not_exists.1 hx)]
      exact hasap
  obtain ⟨r2, hplan2, hnone, hsome, hgeo2, htrk2, hsup2, hbrk2, hdrive2, hctl2⟩ :=
    State.newWatch_spec (s := u) (by rw [hplan]) hasap1 i w
  have hdist1 : u.stoppingDistance r1 = sd := by
    rw [← hdist, hr1]
    simp only [State.stoppingDistance, htrk]
  have hat : ∀ x, u.WatchAt r1 w x ↔ s.WatchAt r w x := fun x => by
    rw [hr1]
    simp only [State.WatchAt, hgeo, htrk]
  have hdir : r1.dir = r.dir := by rw [hr1]
  have hpA : r1.pA = r.pA := by rw [hr1]
  refine ⟨r1, r2, by rw [hplan2, hplan], hr1, hkept, fun x hx => ?_,
    by simpa only [hat] using hnone, by simpa only [hat, hdist1, hdir, hpA, htrk, hnow] using hsome, hgeo2.trans hgeo, htrk2.trans htrk,
    hsup2.trans hsup, hbrk2.trans hbrk, hdrive2.trans hdrive, hctl2.trans hctl⟩
  rw [hformed ⟨x, hx⟩, State.stopWithout]
  simpa only [Bool.and_eq_true, bne_iff_ne, decide_eq_true_eq, hdist] using hnearest

end Machine
end Sys2Proof
end

section
/-! PROOFS. A sample at rest leaves the run out of motion; a sample's NOTIFY watches (R91). -/

namespace Sys2Proof
namespace Machine

variable {u v : State}

/-! ### Out of motion through a sample's tests -/

theorem State.runInMotion_of_states (h : v.plan.run.map (fun r => r.state) = u.plan.run.map (fun r => r.state)) :
    v.runInMotion = u.runInMotion := by
  unfold State.runInMotion
  cases hv : v.plan.run <;> cases hu : u.plan.run <;> simp_all

theorem State.runInMotion_of_run (h : v.plan.run = u.plan.run) : v.runInMotion = u.runInMotion :=
  State.runInMotion_of_states (by rw [h])

theorem State.runInMotion_of_none (h : v.plan.run = none) : v.runInMotion = false := by
  unfold State.runInMotion
  rw [h]
  rfl

theorem State.runInMotion_of_trip (h : v.plan.run = u.plan.run.map Run.trip) : v.runInMotion = false := by
  unfold State.runInMotion
  rw [h]
  cases u.plan.run with
  | none => rfl
  | some r => simp [r.trip_state, RunState.inMotion]

@[simp] theorem State.emergency_atRest (c : Cause) (f : Figures) : (u.emergency c f).runInMotion = false :=
  State.runInMotion_of_trip (u := u) (by simp)

@[simp] theorem State.raise_atRest (c : Cause) : (u.raise c).runInMotion = false := State.runInMotion_of_trip (u := u) (by simp)

theorem State.closePlanned_atRest (h : u.runInMotion = false) (y : CloseReason) : (u.closePlanned y).runInMotion = false := by
  unfold State.closePlanned
  split
  · split
    · exact State.runInMotion_of_none (by simp)
    · exact h
  · exact h

theorem State.hold_atRest (h : u.runInMotion = false) (c : HoldCause) : (u.hold c).runInMotion = false := by
  rwa [State.hold_of_not_inMotion h]

theorem State.lowerCruise_inMotion : u.lowerCruise.runInMotion = u.runInMotion := by
  refine State.runInMotion_of_states ?_
  simp only [State.lowerCruise, Option.map_map]
  congr 1
  funext r
  simp only [Function.comp_apply]
  split <;> rfl

theorem State.setConf_inMotion (c : Confidence) : (u.setConf c).runInMotion = u.runInMotion := by
  simp only [State.setConf]
  split
  · rfl
  · rw [State.lowerCruise_inMotion]
    exact State.runInMotion_of_run (by simp)

theorem State.confEvent_atRest (h : u.runInMotion = false) (c : Confidence) (k : PosCause) (car : Option Car) (id : Option Nat)
    (value : Option Int) : (u.confEvent c k car id value).runInMotion = false := by
  have hset : ((u.setConf c).posNotice k car id value u.trk.conf).runInMotion = false :=
    (State.runInMotion_of_run (by simp)).trans ((State.setConf_inMotion c).trans h)
  simp only [State.confEvent, State.lostEffects]
  split
  · split
    · simp
    · exact State.closePlanned_atRest hset _
  · exact hset

theorem State.missTest_atRest (h : u.runInMotion = false) (c : Car) : (u.missTest c).runInMotion = false := by
  simp only [State.missTest]
  split
  · exact h
  · split
    · exact State.confEvent_atRest (by exact h) _ _ _ _ _
    · exact h

theorem State.measured_atRest (h : u.runInMotion = false) : u.measured.runInMotion = false := by
  have hsample : u.trackSample.runInMotion = false := (State.runInMotion_of_run (by simp)).trans h
  have hmiss := State.missTest_atRest (State.missTest_atRest hsample .A) .B
  exact (State.runInMotion_of_run (by simp [State.measured, State.tracker])).trans hmiss

theorem State.motionTest_atRest (h : u.runInMotion = false) (x : Door) : (u.motionTest x).runInMotion = false := by
  simp only [State.motionTest]
  split
  · exact h
  · split
    · exact h
    · exact State.hold_atRest ((State.runInMotion_of_run (by simp [State.inMotionNotice])).trans h) _
    · simp

theorem State.linkTest_atRest (h : u.runInMotion = false) (c : Car) : (u.linkTest c).runInMotion = false := by
  unfold State.linkTest
  split
  · exact h
  · split
    · exact State.hold_atRest h _
    · exact h
  · split
    · exact h
    · simp

theorem State.stillTests_atRest (h : u.runInMotion = false) : u.stillTests.runInMotion = false := by
  have htests : ∀ (ds : List Door) (w : State), w.runInMotion = false →
      (ds.foldl (fun w x => w.motionTest x) w).runInMotion = false := by
    intro ds
    induction ds with
    | nil => exact fun _ hw => hw
    | cons d ds ih => exact fun w hw => ih _ (State.motionTest_atRest hw d)
  have hdoors : (if u.plan.run.isNone then u.withdrawDoors else u).runInMotion = false := by
    split
    · exact (State.runInMotion_of_run (by simp)).trans h
    · exact h
  exact State.linkTest_atRest (State.linkTest_atRest (htests _ _ hdoors) .A) .B

theorem State.motionSeen_atRest (h : u.runInMotion = false) : u.motionSeen.runInMotion = false := by
  unfold State.motionSeen
  split
  · exact State.stillTests_atRest (State.measured_atRest h)
  · exact State.measured_atRest h

theorem State.raiseHighest_inMotion (b : Band) : (u.raiseHighest b).runInMotion = u.runInMotion := by
  unfold State.raiseHighest
  split
  · exact State.runInMotion_of_states (by simp [Option.map_map, Function.comp_def])
  · rfl

theorem State.updateWarning_inMotion (w : Option Source) : (u.updateWarning w).runInMotion = u.runInMotion := by
  simp only [State.updateWarning]
  split <;> exact State.runInMotion_of_run (by simp [State.interventionNotice])

theorem State.combineBands_atRest (h : u.runInMotion = false) (r : Run) : (u.combineBands r).runInMotion = false := by
  simp only [State.combineBands]
  generalize State.findBands _ _ = f
  generalize hbase : State.updateWarning _ _ = w
  have hwarned : w.runInMotion = false := by
    rw [← hbase, State.updateWarning_inMotion, State.raiseHighest_inMotion]
    exact (State.runInMotion_of_run (by simp)).trans h
  generalize hlatch : (if (f.level.atLeast .service && u.sup.band.latch.isNone) = true then w.setLatch f.latchSource else w) = x
  have hlatched : x.runInMotion = false := by
    rw [← hlatch]
    split
    · exact (State.runInMotion_of_run (by simp [State.setLatch])).trans hwarned
    · exact hwarned
  have hjudged : (if f.level = .emergency then x.bandEmergency f.cause else x).runInMotion = false := by
    split
    · exact State.emergency_atRest _ _
    · exact hlatched
  split
  · exact State.hold_atRest hjudged _
  · exact hjudged

theorem State.bands_atRest (h : u.runInMotion = false) : u.bands.runInMotion = false := by
  unfold State.bands
  split
  · split
    · exact State.combineBands_atRest h _
    · exact (State.runInMotion_of_run (by simp)).trans h
  · exact (State.runInMotion_of_run (by simp)).trans h

theorem State.motionCheck_atRest (h : u.runInMotion = false) : u.motionCheck.runInMotion = false := by
  simp only [State.motionCheck]
  split
  · split
    · exact (State.runInMotion_of_run (by simp)).trans h
    · simp
  · exact (State.runInMotion_of_run (by simp)).trans h

theorem State.watched_atRest (h : u.runInMotion = false) : u.watched.runInMotion = false :=
  (State.runInMotion_of_run (by simp [State.watched, State.supervised])).trans
    (State.motionCheck_atRest (State.bands_atRest (State.motionSeen_atRest h)))

/-! ### NOTIFY watches (R91) -/

theorem Watch.hit_iff (w : Watch) (y0 y1 : Int) : w.hit y0 y1 = true ↔ w.enabled = true ∧ w.hold = false ∧
    (y0 < w.pos ∧ w.pos ≤ y1 ∧ w.sense ≠ .down ∨ w.pos < y0 ∧ y1 ≤ w.pos ∧ w.sense ≠ .up) := by
  unfold Watch.hit
  cases w.sense <;> simp [and_assoc]

/-- A watch as the samples at `prev` and now leave it. -/
def Watch.noticed (w : Watch) (prev : Int × Int) (t : Tracker) : Watch :=
  if w.hit (match w.car with | .A => prev.1 | .B => prev.2) (t.pos w.car) then w.spend else w

theorem State.notifyWatch_get (prev : Int × Int) (m n : Ix4) : (u.notifyWatch prev m).plan.watches.get n =
    if n = m then (u.plan.watches.get n).noticed prev u.trk else u.plan.watches.get n := by
  by_cases hhit : (u.plan.watches.get m).hit (match (u.plan.watches.get m).car with | .A => prev.1 | .B => prev.2)
      (u.trk.pos (u.plan.watches.get m).car) = true
  · have hset : (u.notifyWatch prev m).plan.watches = u.plan.watches.set m (u.plan.watches.get m).spend :=
      congrArg (fun x : State => x.plan.watches) (if_pos hhit)
    rw [hset, Quad.get_set]
    refine ite_congr rfl (fun hnm => ?_) (fun _ => rfl)
    rw [hnm, Watch.noticed, if_pos hhit]
  · have hsame : u.notifyWatch prev m = u := if_neg hhit
    rw [hsame]
    split
    next hnm => rw [hnm, Watch.noticed, if_neg hhit]
    · rfl

theorem State.notifyWatch_foldl_get (prev : Int × Int) (n : Ix4) : ∀ (ns : List Ix4) (u : State), ns.Nodup →
    (ns.foldl (fun s m => s.notifyWatch prev m) u).plan.watches.get n =
      if n ∈ ns then (u.plan.watches.get n).noticed prev u.trk else u.plan.watches.get n
  | [], _, _ => rfl
  | m :: ns, u, hns => by
    obtain ⟨hm, hns⟩ := List.nodup_cons.1 hns
    rw [List.foldl_cons, State.notifyWatch_foldl_get prev n ns _ hns, State.notifyWatch_get]
    by_cases hnm : n = m
    · subst hnm
      simp [hm]
    · simp [hnm]

/-- Each watch as the samples' positions leave it. -/
theorem State.notifyWatches_get (n : Ix4) : u.notifyWatches.plan.watches.get n =
    match u.plan.prev with
    | some p => (u.plan.watches.get n).noticed p u.trk
    | none => u.plan.watches.get n := by
  simp only [State.notifyWatches]
  cases u.plan.prev with
  | none => rfl
  | some p =>
    have hall : n ∈ Ix4.all := by cases n <;> decide
    exact (State.notifyWatch_foldl_get p n Ix4.all u (by decide)).trans (if_pos hall)

theorem Watch.spend_spend (w : Watch) : w.spend.spend = w.spend := by simp [Watch.spend]

/-! ### The planner's part -/

/-- From `u` to `v` no watch changes but for one that is spent. -/
def State.SpendsOne (u v : State) : Prop :=
  v.plan.watches = u.plan.watches ∨ ∃ n, v.plan.watches = u.plan.watches.set n (u.plan.watches.get n).spend

theorem State.SpendsOne.of_eq {w w' : State} (h : u.SpendsOne v) (hu : w.plan.watches = u.plan.watches)
    (hv : w'.plan.watches = v.plan.watches) : w.SpendsOne w' := by
  rw [State.SpendsOne, hu, hv]
  exact h

theorem State.SpendsOne.get {n : Ix4} (h : u.SpendsOne v) :
    v.plan.watches.get n = u.plan.watches.get n ∨ v.plan.watches.get n = (u.plan.watches.get n).spend := by
  rcases h with h | ⟨m, h⟩
  · exact .inl (by rw [h])
  · rw [h, Quad.get_set]
    split
    next hnm => exact .inr (by rw [hnm])
    · exact .inl rfl

theorem State.enterHolding_spendsOne (r : Run) (c : Option HoldCause) : u.SpendsOne (u.enterHolding r c) := by
  cases c with
  | none => exact .inl (by simp [State.enterHolding])
  | some c =>
    cases c with
    | watch n => exact .inr ⟨n, State.enterHolding_watches u r n⟩
    | _ => exact .inl (by simp [State.enterHolding, State.holdReachedBy])

theorem State.stopComplete_spendsOne : u.SpendsOne u.stopComplete := by
  unfold State.stopComplete
  repeat' split
  · exact .inl (by simp)
  · exact State.enterHolding_spendsOne _ _
  · exact .inl (by simp)
  · exact State.enterHolding_spendsOne _ _
  · exact .inl rfl
  · exact .inl rfl

theorem State.settleApply_spendsOne : u.SpendsOne u.settleApply := by
  unfold State.settleApply
  split
  · exact .inl (by simp)
  · split
    · split
      · exact State.stopComplete_spendsOne.of_eq (by simp) rfl
      · exact .inl (by simp)
      · exact .inl rfl
    · exact .inl rfl

theorem State.stopSequence_spendsOne : u.SpendsOne u.stopSequence := State.settleApply_spendsOne.of_eq (by simp) rfl

theorem State.drivePhase_spendsOne (t : Tables) (r : Run) (found : StopPoint) (d : RunDyn) :
    u.SpendsOne (u.drivePhase t r found d) := by
  simp only [State.drivePhase]
  split
  · split
    · exact State.stopSequence_spendsOne.of_eq (by simp) rfl
    · exact .inl (by simp)
  · exact .inl (by simp)

theorem State.leavePlanned_watches (t : Tables) (r : Run) : (u.leavePlanned t r).plan.watches = u.plan.watches := by
  simp only [State.leavePlanned]
  split <;> simp [State.depart]

theorem State.planRun_spendsOne (found : Option StopPoint) : u.SpendsOne (u.planRun found) := by
  unfold State.planRun
  split
  · split
    · dsimp only
      split
      · exact .inl (by rw [State.leavePlanned_watches]; simp)
      · exact .inl (by simp)
    · split
      · split
        · exact State.drivePhase_spendsOne _ _ _ _
        · exact .inl (by simp)
      · exact .inl (by simp)
  · exact .inl (by simp)

/-- A run out of motion leaves the planner's part with no watch spent. -/
theorem State.planRun_watches_atRest (h : u.runInMotion = false) (found : Option StopPoint) :
    (u.planRun found).plan.watches = u.plan.watches := by
  unfold State.planRun
  split
  next r t hr _ =>
    have hst : r.state.moving = false := by
      simp only [State.runInMotion, hr, Option.any_some] at h
      cases hs : r.state <;> simp_all [RunState.inMotion, RunState.moving]
    rw [if_neg (by simp [hst] : ¬r.state.moving = true)]
    split
    · dsimp only
      split
      · rw [State.leavePlanned_watches]
        simp
      · simp
    · simp
  · simp

end Machine
end Sys2Proof
end

section
/-! PROOFS. ANNOUNCE_RUN and the watches settled. -/

namespace Sys2Proof
namespace Machine

/-- What SET_WATCH and CLEAR_WATCH do with a record they take. -/
theorem State.setWatch_done {s : State} {i : Ix4} {b : WatchBytes} {y : WatchSense} (hmode : s.line.mode ≠ .unconfigured)
    (hcar : b.car ≤ 1) (hlow : 0 ≤ b.pos) (hhigh : b.pos ≤ s.geo.length) (hsense : b.sense = y.code) (haction : b.action ≤ 1)
    (hkeep : b.keep ≤ 1) : s.setWatch i.index b =
      (s.replaceWatch i ⟨true, if b.car = 0 then .A else .B, b.pos, y, b.action == 1, b.keep == 1⟩, .done []) := by
  rw [State.setWatch, if_neg hmode, Ix4.ofIndex?_index, watchOf_eq_some hcar hlow hhigh hsense haction hkeep]

theorem State.clearWatch_done (s : State) (i : Ix4) :
    s.clearWatch i.index = (s.replaceWatch i { s.plan.watches.get i with enabled := false }, .done []) := by
  rw [State.clearWatch, Ix4.ofIndex?_index]

theorem State.watched_watches (s : State) (n : Ix4) : s.watched.plan.watches.get n =
    match s.plan.prev with
    | some p => (s.plan.watches.get n).noticed p s.watched.trk
    | none => s.plan.watches.get n := by
  have hwatches : s.supervised.plan.watches = s.plan.watches := by
    simp [State.supervised, State.motionSeen, State.measured, apply_ite]
  have hprev : s.supervised.plan.prev = s.plan.prev := by
    simp [State.supervised, State.motionSeen, State.measured, apply_ite]
  have htrk : s.watched.trk = s.supervised.trk := by simp [State.watched]
  rw [State.watched, State.notifyWatches_get, hwatches, hprev]
  cases s.plan.prev with
  | none => rfl
  | some p => simp

theorem stopPosition_eq (pA : Int) (p : StopPoint) : stopPosition pA p = match p with
    | .watch _ x => x
    | _ => pA := by cases p <;> rfl

/-- A watch hit is disabled when it is ONCE. -/
theorem Watch.spend_of_enabled {w : Watch} (h : w.enabled = true) : w.spend = { w with enabled := w.keep } := by
  simp [Watch.spend, h]

theorem State.sample_prev (s : State) : s.sample.plan.prev = some (s.sample.trk.xA, s.sample.trk.xB) := by
  rw [State.sample_eq]
  simp [State.watched, State.notifyWatches]

/-- Settles O33: the records, what their change makes of the stop point, and the NOTIFY watches of a sample. -/
theorem announceAndWatchRecords : Obligations.AnnounceAndWatchRecords := by
  refine ⟨fun h halt s ht hmode hall => ?_, fun h n s ht hmode hno => ?_, fun h n w s ht => ⟨fun hmode => ?_, fun hmode hbad => ?_⟩,
    fun h n s ht hn => ?_, fun c h q i w s ht hc => ?_, fun dt n s => ?_⟩
  · refine exec_taken_of_eq (r := .announceRun halt) rfl ht ?_
    have hmode' : ¬(s.advance h.dt).line.mode = .unconfigured := hmode
    cases halt with
    | none => exact if_neg hmode'
    | some n => exact (if_neg hmode').trans (if_pos (hall n rfl))
  · have hmode' : ¬(s.advance h.dt).line.mode = .unconfigured := hmode
    have hno' : ¬((s.advance h.dt).geo.halt? n).isSome = true := by
      rw [show (s.advance h.dt).geo.halt? n = none from hno]
      exact Bool.false_ne_true
    exact exec_taken_of_eq (r := .announceRun (some n)) rfl ht ((if_neg hmode').trans (if_neg hno'))
  · exact exec_taken_of_eq (r := .setWatch n w) rfl ht (if_pos (by exact hmode))
  · exact exec_taken_of_eq (r := .setWatch n w) rfl ht (State.setWatch_range (s := s.advance h.dt) hmode hbad)
  · exact exec_taken_of_eq (r := .clearWatch n) rfl ht (by
      show (s.advance h.dt).clearWatch n = _
      rw [State.clearWatch, Ix4.ofIndex?_eq_none hn]; rfl)
  · intro u old holds
    have hreq : c.request = some (h, q) := by
      rcases hc with ⟨b, y, rfl, rfl, -⟩ | ⟨rfl, rfl, -⟩ <;> rfl
    have hown : q.owner (s.advance h.dt) = (u.watchChanged i old w, ⟨.done, []⟩) := by
      rcases hc with ⟨b, y, rfl, rfl, hmode, hcar, hlow, hhigh, hsense, haction, hkeep, rfl⟩ | ⟨rfl, rfl, rfl⟩
      · exact State.setWatch_done (s := s.advance h.dt) hmode hcar hlow hhigh hsense haction hkeep
      · exact State.clearWatch_done (s.advance h.dt) i
    refine ⟨fun hrest => ?_, fun r hr hst => ⟨fun hold hw => ?_, fun hany => ?_⟩, fun r hr hst hasap => ?_,
      fun r d sd hr hst hasap hdyn hsd => ?_⟩
    · rw [exec_taken_of_eq hreq ht hown, State.watchChanged_of_apart (s := u) hrest]
    · have hnone : ¬(old.holds || w.holds) = true := by
        rw [Bool.or_eq_true, Watch.holds_iff, Watch.holds_iff]
        exact not_or.2 ⟨hold, hw⟩
      rw [exec_taken_of_eq hreq ht hown, State.watchChanged_of_starting (s := u) hr hst, if_neg hnone]
    · have hsome : (old.holds || w.holds) = true := by
        rw [Bool.or_eq_true, Watch.holds_iff, Watch.holds_iff]
        exact hany
      rw [State.watchChanged_of_starting (s := u) hr hst, if_pos hsome] at hown
      refine ⟨_, u.formStop r (causeWatch (r.leaving.bind (fun l => l.cause))), exec_taken_transmit hreq ht hown, ?_⟩
      simp only [State.flagged_frame, State.replied_frame]
      refine ⟨by simp; rfl, ?_, State.replied_ctl (by simp) _ _, ?_⟩
      · exact (u.formStop_nearest r (r.leaving.bind (fun l => l.cause))).of_eq (by simp) (by simp) (by simp) rfl rfl
      · simp [u]
    · rw [exec_taken_of_eq hreq ht hown, State.watchChanged_of_asap (s := u) hr hst hasap]
    · obtain ⟨r1, r2, hplan, hr1, hkept, hnear, hnone, hsome, hgeo, htrk, hsup, hbrk, hdrive, hctl⟩ :=
        State.watchChanged_moving (s := u) (i := i) hr hst hasap hdyn hsd old w
      refine ⟨_, r1, r2, exec_taken_transmit hreq ht hown, hplan, hr1, hkept,
        fun x hx => (hnear x hx).of_eq hgeo htrk (congrArg (·.watches) hplan) rfl rfl, ?_, State.replied_ctl hctl _ _,
        hgeo, htrk, hsup, hbrk, hdrive⟩
      intro stopAt
      have hstop : stopPosition r.pA r1.stop = stopAt := stopPosition_eq r.pA r1.stop
      have hat : ∀ x, (((u.watchChanged i old w).replied h.port ⟨.done, []⟩).flagged s.pending).WatchAt r w x ↔ u.WatchAt r w x :=
        fun x => by simp only [State.WatchAt, State.flagged_frame, State.replied_frame, hgeo, htrk]
      refine ⟨fun hno => hnone (fun x hx => hno x ((hat x).2 hx)), fun x hx => ?_⟩
      have := hsome x ((hat x).1 hx)
      rw [hstop] at this
      exact this
  · refine ⟨_, exec_transmit_of_eq (c := .positionSample dt) (u := (s.advance dt).sample) rfl, ?_, ?_⟩
    · exact (s.advance dt).sample_prev
    · intro w
      obtain ⟨-, -, -, hwatches, -, -, -, htrk, -, -⟩ := (s.advance dt).flagged_sample_frame s.pending
      have hseen := (s.advance dt).watched_watches n
      have hrest : s.runInMotion = false → ((s.advance dt).sample.flagged s.pending).plan.watches.get n =
          (s.advance dt).watched.plan.watches.get n := fun hstill => by
        rw [hwatches, State.planRun_watches_atRest (State.watched_atRest (u := s.advance dt) hstill)]
      refine ⟨fun hprev hstill => ?_, fun a b hprev => ?_⟩
      · rw [hrest hstill, hseen, show (s.advance dt).plan.prev = none from hprev]
        rfl
      intro y0 y1 hit
      rw [show (s.advance dt).plan.prev = some (a, b) from hprev] at hseen
      have hiff : w.hit y0 y1 = true ↔ hit := Watch.hit_iff w y0 y1
      have hy1 : y1 = (s.advance dt).watched.trk.pos w.car := congrArg (fun k : Tracker => k.pos w.car) htrk
      refine ⟨fun hhit => ?_, fun hmiss hstill => ?_⟩
      · have hspent : (s.advance dt).watched.plan.watches.get n = w.spend := by
          rw [hseen]
          exact if_pos (hy1 ▸ hiff.2 hhit)
        rw [hwatches, ← Watch.spend_of_enabled hhit.1]
        have hplanned := (State.planRun_spendsOne (u := (s.advance dt).watched) (s.advance dt).stopPoint).get (n := n)
        rwa [hspent, Watch.spend_spend, or_self] at hplanned
      · rw [hrest hstill, hseen]
        exact if_neg (hy1 ▸ mt hiff.1 hmiss)

end Machine
end Sys2Proof
end

section
/-! PROOFS. O60 fails: the RUN notice of a failed start can give way to the GATE notices of the same event. -/

namespace Sys2Proof
namespace Machine

/-- Notice settings with RUN the lowest and GATE the highest priority. -/
def crowdedSettings : Settings :=
  (State.reset.notices.settings.put .run ⟨true, 1, true, true⟩).put .gate ⟨true, 15, true, true⟩

/-- A transmitter that is sending, with no reply owed. -/
def sendingPort : PortState := ⟨.hunting, [], some ⟨[], false⟩⟩

/-- A run to halt 1 in STARTING that left PLANNED. -/
def startedRun : Run where
  id := 1
  origin := some 0
  target := 1
  pA := 1800000
  dir := .up
  requested := 0
  cruise := 12000
  dyn := none
  stop := .target
  resumeTarget := none
  holdCause := none
  pendingStop := none
  highest := .none
  releaseTime := none
  planTime := 0
  state := .starting
  leaving := none

/-- An open gate of station 1 at an address. -/
def openGate (n : Nat) : Gate where
  address := n
  station := 1
  compartment := 1
  enabled := true
  leaf := false
  scale := 1
  verify := true
  state := .opened
  admission := none
  overdue := none
  closePending := false
  outbox := []
  missed := 0
  streak := 0
  retries := 0

/-- A start in TORQUE_WAIT with no door locked and half the notice queue taken, where the sixteen gates of a station
are open for a car that does not serve it; both transmitters are sending. -/
def crowded : State :=
  { State.reset with
    plan := { State.reset.plan with run := some startedRun }
    brk := { State.reset.brk with ten := true, seq := .torqueWait, torque := some 0 }
    gates := { State.reset.gates with gates := (List.range 16).map openGate, openMarks := [⟨1, .A⟩] }
    notices := { State.reset.notices with
      settings := crowdedSettings, entries := List.replicate 16 ⟨.door, 0, 0, [], 15, true, true, true, true⟩ }
    ctl := ⟨sendingPort, sendingPort⟩ }

/-- A drive status frame with torque on and no fault. -/
def torqueOnFrame : List Byte := frame 0x5A#8 [0x32#8, 0x03#8]

/-- With both transmitters sending, asking them changes nothing. -/
theorem State.transmit_of_sending {t : State} (hctl : t.ctl = ⟨sendingPort, sendingPort⟩) : t.transmit = t := by
  have hask : ∀ k : Port, t.ask k = t := by
    intro k
    cases k <;> simp [State.ask, hctl, PerPort.get, sendingPort]
  rw [State.transmit, hask, hask]

theorem effect_driveStatusFrame (dt : Time) (bytes : List Byte) (s : State) :
    effect (.driveStatusFrame dt bytes) s = (s.advance dt).driveFrameArrives bytes := rfl

/-- The start fails, and no RUN notice is left of it. -/
theorem crowded_noRunNotice :
    ∀ n ∈ ((crowded.advance 0).driveFrameArrives torqueOnFrame).notices.entries, n.cls ≠ .run := by
  decide +kernel

/-- Refutes O60: the RUN notice of a start that fails on a door waits in a queue of at most 16 entries only until the
sixteen GATE notices of the same event, of higher priority, fill the queue and make it give way (R208). -/
theorem not_silenceMovesLinksAndDrive : ¬ Obligations.SilenceMovesLinksAndDrive := by
  unfold Obligations.SilenceMovesLinksAndDrive
  rintro ⟨-, -, hstatus, -⟩
  obtain ⟨t, hexec, -, -, -, -, -, -, hfail, -, -, -, -, -, hctl⟩ :=
    (hstatus 0 torqueOnFrame crowded).2 ⟨true, true, false⟩ (by decide +kernel)
  obtain ⟨-, -, -, -, -, -, -, hnotice⟩ :=
    hfail startedRun rfl rfl rfl (by decide) rfl rfl
  obtain ⟨n, hn, hcls, -⟩ := hnotice rfl (by decide)
  rw [State.transmit_of_sending hctl, exec_transmit_of_eq (effect_driveStatusFrame 0 torqueOnFrame crowded)] at hexec
  have ht := Host.Outcome.next.inj hexec
  rw [State.transmit_of_sending (by simp <;> rfl)] at ht
  rw [← ht] at hn
  exact crowded_noRunNotice n (by simpa using hn) hcls

end Machine
end Sys2Proof
end

section
/-! PROOFS. What the report of one door does: to its record, to the release side, and to a run under way. -/

namespace Sys2Proof
namespace Machine

variable {s : State} {x y : Door} {r : DoorState}

/-! ### The record -/

/-- A report changes what a door that is not isolated reported before. -/
abbrev DoorRec.Changed (d : DoorRec) (r : DoorState) : Prop := d.isolated = false ∧ d.reported ≠ r

/-- The record with a report written, and nothing that follows from it. -/
def DoorRec.reporting (d : DoorRec) (r : DoorState) : DoorRec := { d with reported := r }

/-- What an obstruction makes of a record: an attempt of its close operation. -/
def DoorRec.obstructed (d : DoorRec) (again : Bool) (now : Time) : DoorRec :=
  if d.close.isSome && d.reopen.isNone then d.attempt (decide (d.attempts < 2) && again) now else d

/-- The record after a changed report. -/
def DoorRec.answering (d : DoorRec) (r : DoorState) (again : Bool) (now : Time) : DoorRec :=
  match r with
  | .locked => d.lockedReport
  | .obstructed => d.obstructed again now
  | .unknown | .released | .opened | .fault => d

/-- The record after a report. -/
def DoorRec.told (d : DoorRec) (r : DoorState) (again : Bool) (now : Time) : DoorRec :=
  if d.Changed r then (d.reporting r).answering r again now else d.reporting r

theorem DoorRec.lockedReport_of_not_ends {d : DoorRec} (h : d.lockedEnds = false) : d.lockedReport = d := by
  unfold DoorRec.lockedReport
  split
  · rfl
  · obtain ⟨_, _, _, _, close, _, failed⟩ := d
    cases close <;> simp_all [DoorRec.lockedEnds]

theorem State.reportLocked_doors (s : State) (x : Door) :
    (s.reportLocked x).doors = (s.doors.put x (s.doors.door x).lockedReport).returnSide x.car := by
  unfold State.reportLocked
  by_cases h : (s.doors.door x).lockedEnds = true
  · rw [if_pos h]
    simp [State.closeEnded, State.failedCondition, State.returnSide, State.setDoor]
  · rw [if_neg h, DoorRec.lockedReport_of_not_ends (by simpa using h), Doors.door_put_self]
    rfl

theorem State.reportObstructed_doors (s : State) (x : Door) :
    (s.reportObstructed x).doors = s.doors.put x ((s.doors.door x).obstructed (s.mayReopen x.car) s.now) := by
  unfold State.reportObstructed DoorRec.obstructed
  by_cases h : ((s.doors.door x).close.isSome && (s.doors.door x).reopen.isNone) = true
  · rw [if_pos h, if_pos h]
    dsimp only
    split <;> simp [State.closeFailed, State.failedCondition, State.setDoor]
  · rw [if_neg h, if_neg h, Doors.door_put_self]

theorem State.reportActs_door (s : State) (x y : Door) (r : DoorState) : (s.reportActs x r).doors.door y =
    if y = x then (s.doors.door x).answering r (s.mayReopen x.car) s.now else s.doors.door y := by
  have hself : s.doors.door y = if y = x then s.doors.door x else s.doors.door y := by split <;> simp_all
  cases r with
  | locked => simp [State.reportActs, State.reportLocked_doors, DoorRec.answering]
  | obstructed => simp [State.reportActs, State.reportObstructed_doors, DoorRec.answering]
  | unknown => exact hself
  | released => exact hself
  | opened => exact hself
  | fault => exact hself

theorem State.reportActs_side (hr : r ≠ .locked) (s : State) : (s.reportActs x r).doors.side = s.doors.side := by
  cases r with
  | locked => exact absurd rfl hr
  | obstructed => simp [State.reportActs, State.reportObstructed_doors, Doors.put]
  | unknown => rfl
  | released => rfl
  | opened => rfl
  | fault => rfl

/-! ### The report of a door -/

theorem State.doorReport_of_same (h : ¬(s.doors.door x).Changed r) :
    s.doorReport x r = s.setDoor x ((s.doors.door x).reporting r) := by
  unfold State.doorReport
  by_cases hr : (s.doors.door x).reported = r
  · rw [if_pos hr, ← hr]
    exact (congrArg (fun d => { s with doors := d }) (s.doors.door_put_self x)).symm
  · rw [if_neg hr]
    have hiso : (s.doors.door x).isolated = true := by
      by_contra hiso
      exact h ⟨by simpa using hiso, hr⟩
    exact if_pos hiso

theorem State.doorReport_of_changed (h : (s.doors.door x).Changed r) : s.doorReport x r =
    ((s.setDoor x ((s.doors.door x).reporting r)).reportActs x r).motionTest x := by
  obtain ⟨hiso, hr⟩ := h
  exact (if_neg hr).trans (if_neg (by simp [hiso]))

theorem State.doorReport_door (s : State) (x y : Door) (r : DoorState) : (s.doorReport x r).doors.door y =
    if y = x then (s.doors.door x).told r (s.mayReopen x.car) s.now else s.doors.door y := by
  unfold DoorRec.told
  by_cases h : (s.doors.door x).Changed r
  · rw [State.doorReport_of_changed h, if_pos h]
    simp only [State.motionTest_frame, State.reportActs_door, State.setDoor, Doors.door_put, if_true]
    split <;> rfl
  · rw [State.doorReport_of_same h, if_neg h]
    simp [State.setDoor]

theorem State.doorReport_other (h : y ≠ x) : (s.doorReport x r).doors.door y = s.doors.door y := by
  rw [State.doorReport_door, if_neg h]

/-! ### The release side -/

theorem State.doorReport_side (h : ¬((s.doors.door x).Changed r ∧ r = .locked)) :
    (s.doorReport x r).doors.side = s.doors.side := by
  by_cases hc : (s.doors.door x).Changed r
  · rw [State.doorReport_of_changed hc]
    simp only [State.motionTest_frame]
    rw [State.reportActs_side (fun hr => h ⟨hc, hr⟩)]
    rfl
  · rw [State.doorReport_of_same hc]
    rfl

/-- A changed LOCKED report gives the side back where the whole car is then locked. -/
theorem State.doorReport_locked (h : (s.doors.door x).Changed .locked) : (s.doorReport x .locked).doors.side =
    s.doors.side.set x.car (if (s.doorReport x .locked).doors.carLocked x.car then none else s.doors.side.get x.car) := by
  have hdoors : (s.doorReport x .locked).doors = ((s.setDoor x ((s.doors.door x).reporting .locked)).reportLocked x).doors := by
    rw [State.doorReport_of_changed h]
    simp [State.reportActs]
  rw [hdoors, State.reportLocked_doors]
  rfl

theorem State.doorReport_side_other (s : State) (x : Door) (r : DoorState) :
    (s.doorReport x r).doors.side.get x.car.other = s.doors.side.get x.car.other := by
  by_cases h : (s.doors.door x).Changed r ∧ r = .locked
  · obtain ⟨h, rfl⟩ := h
    rw [State.doorReport_locked h, PerCar.get_set, if_neg (Car.other_ne _)]
  · rw [State.doorReport_side h]

/-- While a door of the car is not locked, no report of another gives the side back. -/
theorem State.doorReport_side_of_unlocked (hy : y ≠ x) (hcar : y.car = x.car) (hd : (s.doors.door y).interlocked = false) :
    (s.doorReport x r).doors.side = s.doors.side := by
  by_cases h : (s.doors.door x).Changed r ∧ r = .locked
  · obtain ⟨h, rfl⟩ := h
    have hopen : ¬(s.doorReport x .locked).doors.carLocked x.car = true := by
      rw [Doors.carLocked_iff]
      intro hall
      have hlock := (hall y hcar).2
      rw [State.doorReport_other hy, hd] at hlock
      exact Bool.false_ne_true hlock
    rw [State.doorReport_locked h, if_neg hopen, PerCar.set_get_same]
  · exact State.doorReport_side h

end Machine
end Sys2Proof
end

section
/-! PROOFS. What the report of one door does to a run under way, to the outputs and to the conditions. -/

namespace Sys2Proof
namespace Machine

variable {s : State} {x y : Door} {r : DoorState}

/-! ### Motion with a door not locked -/

/-- What follows from what the motion test finds of a door. -/
def State.motionActs (s : State) (x : Door) : MotionFinding → State
  | .none => s
  | .stop => (s.inMotionNotice x).hold .door
  | .emergency => (s.inMotionNotice x).raise (.doorOpen x)

theorem State.motionTest_eq (hiso : (s.doors.door x).isolated = false) : s.motionTest x =
    s.motionActs x (motionFinding (s.doors.door x).reported s.stillCleared s.trk.still s.runInMotion) := by
  unfold State.motionTest
  rw [if_neg (by simp [hiso])]
  generalize motionFinding (s.doors.door x).reported s.stillCleared s.trk.still s.runInMotion = f
  cases f <;> rfl

/-- What a report asks of the state is what the motion test finds after the report is acted on. -/
theorem State.reporting_door (h : (s.doors.door x).Changed r) :
    ((((s.setDoor x ((s.doors.door x).reporting r)).reportActs x r).doors.door x).isolated = false ∧
      (((s.setDoor x ((s.doors.door x).reporting r)).reportActs x r).doors.door x).reported = r) := by
  obtain ⟨hiso, -⟩ := h
  rw [State.reportActs_door, if_pos rfl]
  cases r <;> simp only [State.setDoor, Doors.door_put, if_true, DoorRec.answering]
  case locked =>
    unfold DoorRec.lockedReport
    split <;> exact ⟨hiso, rfl⟩
  case obstructed =>
    unfold DoorRec.obstructed DoorRec.attempt
    (repeat' split) <;> exact ⟨hiso, rfl⟩
  all_goals exact ⟨hiso, rfl⟩

/-- The state the motion test of a changed report finds. -/
def State.acted (s : State) (x : Door) (r : DoorState) : State :=
  ((s.setDoor x ((s.doors.door x).reporting r)).reportActs x r).inMotionNotice x

/-- What the motion test finds of a door that reports `r`. -/
def State.findingOf (s : State) (r : DoorState) : MotionFinding :=
  motionFinding r s.stillCleared s.trk.still s.runInMotion

/-- What the acts of a report leave alone. -/
structure State.ActedAlike (s t : State) : Prop where
  now : t.now = s.now
  trk : t.trk = s.trk
  plan : t.plan = s.plan
  brk : t.brk = s.brk
  sup : t.sup = s.sup
  tally : t.tally = s.tally

theorem State.acted_alike (s : State) (x : Door) (r : DoorState) : s.ActedAlike (s.acted x r) := by
  constructor <;> simp [State.acted, State.inMotionNotice, State.setDoor]

theorem State.doorReport_eq (h : (s.doors.door x).Changed r) : s.doorReport x r =
    ((s.setDoor x ((s.doors.door x).reporting r)).reportActs x r).motionActs x (s.findingOf r) := by
  obtain ⟨hiso, hrep⟩ := State.reporting_door h
  rw [State.doorReport_of_changed h, State.motionTest_eq hiso, hrep]
  simp [State.findingOf, State.stillCleared, State.runInMotion, State.setDoor]

theorem State.doorReport_of_none (h : (s.doors.door x).Changed r) (hf : s.findingOf r = .none) :
    s.doorReport x r = (s.setDoor x ((s.doors.door x).reporting r)).reportActs x r := by
  rw [State.doorReport_eq h, hf]
  rfl

theorem State.doorReport_of_stop (h : (s.doors.door x).Changed r) (hf : s.findingOf r = .stop) :
    s.doorReport x r = (s.acted x r).hold .door := by
  rw [State.doorReport_eq h, hf]
  rfl

theorem State.doorReport_of_emergency (h : (s.doors.door x).Changed r) (hf : s.findingOf r = .emergency) :
    s.doorReport x r = (s.acted x r).raise (.doorOpen x) := by
  rw [State.doorReport_eq h, hf]
  rfl

theorem State.findingOf_emergency (h : s.findingOf r = .emergency) : r = .opened ∧ s.stillCleared = true := by
  unfold State.findingOf at h
  cases r <;> simp only [motionFinding] at h <;> (repeat' split at h) <;> simp_all

theorem State.findingOf_stop (h : s.runInMotion = true) (hlock : r ≠ .locked) (hopen : r ≠ .opened) :
    s.findingOf r = .stop := by
  unfold State.findingOf
  cases r <;> simp_all [motionFinding]

/-- A report that says nothing new, or LOCKED, leaves the run, the brakes, the trip record and the tally alone. -/
theorem State.doorReport_calm (h : (s.doors.door x).Changed r → r = .locked) : s.ActedAlike (s.doorReport x r) := by
  by_cases hc : (s.doors.door x).Changed r
  · obtain rfl := h hc
    rw [State.doorReport_of_none hc rfl]
    constructor <;> simp [State.setDoor]
  · rw [State.doorReport_of_same hc]
    constructor <;> rfl

/-- Unless the door is found OPEN in motion, a report moves no brake and records no trip. -/
theorem State.doorReport_unopened (h : (s.doors.door x).Changed r → r = .opened → s.stillCleared = false) :
    (s.doorReport x r).brk = s.brk ∧ (s.doorReport x r).sup = s.sup := by
  by_cases hc : (s.doors.door x).Changed r
  · have ha := s.acted_alike x r
    cases hf : s.findingOf r with
    | none => rw [State.doorReport_of_none hc hf]; simp [State.setDoor]
    | stop =>
      rw [State.doorReport_of_stop hc hf]
      exact ⟨by simp [ha.brk], by simp [ha.sup]⟩
    | emergency =>
      obtain ⟨hr, hstill⟩ := State.findingOf_emergency hf
      rw [h hc hr] at hstill
      exact absurd hstill Bool.false_ne_true
  · rw [State.doorReport_of_same hc]
    exact ⟨rfl, rfl⟩

theorem State.takeHold_isSome (s : State) (z : Run) (c : HoldCause) (vh : Nat) :
    (s.takeHold z c vh).plan.run.isSome = true := by
  cases h : z.stop.isAsap with
  | true => rw [State.takeHold_of_asap h]; rfl
  | false => rw [State.takeHold_plan h]; rfl

theorem State.hold_isNone (s : State) (c : HoldCause) : (s.hold c).plan.run.isNone = s.plan.run.isNone := by
  unfold State.hold
  split
  next z hz =>
    split <;> simp [State.takeHold_isSome, hz, State.setRun]
  next hz => simp [hz]

/-- A hold leaves the conditions as they are. -/
theorem State.hold_line (s : State) (c : HoldCause) : (s.hold c).line = s.line := by
  unfold State.hold
  split
  · split <;> simp [State.setRun]
  · rfl

/-- A report never ends a run, nor starts one. -/
theorem State.doorReport_isNone (s : State) (x : Door) (r : DoorState) :
    (s.doorReport x r).plan.run.isNone = s.plan.run.isNone := by
  by_cases hc : (s.doors.door x).Changed r
  · have ha := s.acted_alike x r
    cases hf : s.findingOf r with
    | none => rw [State.doorReport_of_none hc hf]; simp [State.setDoor]
    | stop => rw [State.doorReport_of_stop hc hf]; exact (State.hold_isNone _ _).trans (by rw [ha.plan])
    | emergency => rw [State.doorReport_of_emergency hc hf]; simp [ha.plan]
  · rw [State.doorReport_of_same hc]
    rfl

/-! ### A door found OPEN in motion -/

theorem State.doorReport_opened (hstill : s.stillCleared = true) (h : (s.doors.door x).Changed .opened) :
    (s.doorReport x .opened).brk.dropped ∧ ∃ z, (s.doorReport x .opened).sup.trip = some z ∧
      (s.sup.trip = none → z.cause = .doorOpen x) := by
  have hf : s.findingOf .opened = .emergency := if_pos hstill
  rw [State.doorReport_of_emergency h hf]
  obtain ⟨z, hz, hcause⟩ := (s.acted x .opened).raise_trip (.doorOpen x)
  exact ⟨State.raise_dropped _ _, z, hz, fun hnone => hcause (by rw [(s.acted_alike x .opened).sup, hnone])⟩

/-- Dropped outputs stay so, and a trip record keeps its cause. -/
theorem State.doorReport_keeps_trip (hd : s.brk.dropped) {z : TripRec} (hz : s.sup.trip = some z) :
    (s.doorReport x r).brk.dropped ∧ ∃ z', (s.doorReport x r).sup.trip = some z' ∧ z'.cause = z.cause := by
  by_cases h : (s.doors.door x).Changed r → r = .opened → s.stillCleared = false
  · obtain ⟨hbrk, hsup⟩ := State.doorReport_unopened h
    exact ⟨hbrk ▸ hd, z, by rw [hsup, hz], rfl⟩
  · push Not at h
    obtain ⟨hc, rfl, hstill⟩ := h
    have hf : s.findingOf .opened = .emergency := if_pos (by simpa using hstill)
    rw [State.doorReport_of_emergency hc hf]
    refine ⟨State.raise_dropped _ _, _, State.raise_trip_of_some (x := z) (by rw [(s.acted_alike x .opened).sup, hz]), ?_⟩
    exact (TripRec.same_escalateAll _ _).cause

/-! ### A door not locked in motion -/

/-- A run that moves and has not been held is held by a report that is neither LOCKED nor OPEN. -/
theorem State.doorReport_holds {z : Run} (h : (s.doors.door x).Changed r) (hlock : r ≠ .locked) (hopen : r ≠ .opened)
    (hz : s.plan.run = some z) (hst : z.state.moving = true) (hasap : z.stop.isAsap = false) :
    (s.doorReport x r).plan.run = some (z.held .door (mag s.trk.v) s.now) := by
  have ha := s.acted_alike x r
  have hmot : s.runInMotion = true := by
    cases hs : z.state <;> simp_all [State.runInMotion, RunState.moving, RunState.inMotion]
  rw [State.doorReport_of_stop h (State.findingOf_stop hmot hlock hopen)]
  rw [State.hold_of_moving (r := z) (by rw [ha.plan, hz]) hst, State.takeHold_plan hasap, ha.trk, ha.now]

/-- A report that finds no door OPEN leaves a run that brakes for a hold as it is. -/
theorem State.doorReport_held {z : Run} (h : (s.doors.door x).Changed r → r ≠ .opened)
    (hz : s.plan.run = some z) (hst : z.state.moving = true) (hasap : z.stop.isAsap = true) :
    (s.doorReport x r).plan.run = some z := by
  by_cases hc : (s.doors.door x).Changed r
  · have ha := s.acted_alike x r
    cases hf : s.findingOf r with
    | none => rw [State.doorReport_of_none hc hf]; simp [State.setDoor, hz]
    | stop =>
      rw [State.doorReport_of_stop hc hf]
      rw [State.hold_of_moving (r := z) (by rw [ha.plan, hz]) hst, State.takeHold_of_asap hasap]
      rfl
    | emergency => exact absurd (State.findingOf_emergency hf).1 (h hc)
  · rw [State.doorReport_of_same hc]
    exact hz

/-! ### CLOSE_FAILED -/

theorem State.reportObstructed_fails (hclose : (s.doors.door x).close.isSome = true) (hreopen : (s.doors.door x).reopen = none)
    (h : 2 ≤ (s.doors.door x).attempts) : (s.reportObstructed x).line.conds.closeFailed = true := by
  have hfails : ((s.doors.door x).attempt false s.now).failed = true := by
    rw [DoorRec.attempt, if_neg (by omega)]
  have hlate : decide ((s.doors.door x).attempts < 2) = false := decide_eq_false (by omega)
  unfold State.reportObstructed
  rw [if_pos (by simp [hclose, hreopen])]
  dsimp only
  rw [hlate, Bool.false_and, if_pos (by simp [hfails])]
  simp only [State.closeFailed, State.failedCondition, State.handOver_conds, Conditions.put, Doors.anyFailed_iff]
  exact ⟨x, by simpa [State.setDoor] using hfails⟩

/-- The condition stands as long as a door failed. -/
theorem State.reportActs_failed (hy : (s.doors.door y).failed = true) (hxy : y ≠ x) (hcond : s.line.conds.closeFailed = true) :
    (s.reportActs x r).line.conds.closeFailed = true := by
  have hstays : ∀ d : DoorRec, (s.setDoor x d).doors.anyFailed = true := fun d =>
    (Doors.anyFailed_iff _).2 ⟨y, by simpa [State.setDoor, hxy] using hy⟩
  cases r with
  | locked =>
    simp only [State.reportActs, State.reportLocked]
    split
    · simp only [State.closeEnded, State.noticeIf_frame, State.returnSide, State.failedCondition, State.handOver_conds, Conditions.put]
      exact hstays _
    · exact hcond
  | obstructed =>
    simp only [State.reportActs, State.reportObstructed]
    (repeat' split)
    · simp only [State.closeFailed, State.failedCondition, State.handOver_conds, Conditions.put, State.notice_frame]
      exact hstays _
    · simpa [State.setDoor] using hcond
    · exact hcond
  | fault => simpa [State.reportActs] using hcond
  | unknown => exact hcond
  | released => exact hcond
  | opened => exact hcond

theorem State.motionTest_failed (s : State) (x : Door) :
    (s.motionTest x).line.conds.closeFailed = s.line.conds.closeFailed := by
  cases hiso : (s.doors.door x).isolated with
  | true => rw [State.motionTest, if_pos hiso]
  | false =>
    rw [State.motionTest_eq hiso]
    unfold State.motionActs
    split
    · rfl
    · rw [State.hold_line]
      rfl
    · obtain ⟨b, k, h⟩ := (s.inMotionNotice x).raise_conds (.doorOpen x)
      rw [h]
      rfl

theorem State.doorReport_failed (hy : (s.doors.door y).failed = true) (hxy : y ≠ x) (hcond : s.line.conds.closeFailed = true) :
    (s.doorReport x r).line.conds.closeFailed = true := by
  by_cases hc : (s.doors.door x).Changed r
  · rw [State.doorReport_of_changed hc, State.motionTest_failed]
    exact State.reportActs_failed (y := y) (by simpa [State.setDoor, hxy] using hy) hxy hcond
  · rw [State.doorReport_of_same hc]
    exact hcond

/-- The third obstruction of a close operation fails it (R128). -/
theorem State.doorReport_fails (hc : (s.doors.door x).Changed .obstructed) (hclose : (s.doors.door x).close.isSome = true)
    (hreopen : (s.doors.door x).reopen = none) (h : 2 ≤ (s.doors.door x).attempts) :
    (s.doorReport x .obstructed).line.conds.closeFailed = true := by
  rw [State.doorReport_of_changed hc, State.motionTest_failed]
  exact State.reportObstructed_fails (by simpa [State.setDoor, DoorRec.reporting] using hclose)
    (by simpa [State.setDoor, DoorRec.reporting] using hreopen) (by simpa [State.setDoor, DoorRec.reporting] using h)

end Machine
end Sys2Proof
end

section
/-! PROOFS. What the four door reports of a car's frame do, taken one after the other. -/

namespace Sys2Proof
namespace Machine

variable {s : State} {c : Car} {q : Quad DoorState} {l : List Ix4} {i : Ix4}

/-- The reports of some compartments of a car, taken in order. -/
def State.heard (s : State) (c : Car) (q : Quad DoorState) (l : List Ix4) : State :=
  l.foldl (fun s i => s.doorReport ⟨c, i⟩ (q.get i)) s

theorem State.doorReports_eq_heard (s : State) (c : Car) (q : Quad DoorState) : s.doorReports c q = s.heard c q Ix4.all := rfl

theorem Ix4.mem_all (i : Ix4) : i ∈ Ix4.all := by cases i <;> decide

theorem Ix4.all_nodup : Ix4.all.Nodup := by decide

/-- The report of a door of the car is new. -/
abbrev State.News (s : State) (c : Car) (q : Quad DoorState) (i : Ix4) : Prop := (s.doors.door ⟨c, i⟩).Changed (q.get i)

theorem Door.ne_of_comp {i j : Ix4} (h : i ≠ j) : (⟨c, i⟩ : Door) ≠ ⟨c, j⟩ := fun he => h (congrArg Door.comp he)

theorem DoorRec.told_reported (d : DoorRec) (r : DoorState) (again : Bool) (now : Time) : (d.told r again now).reported = r := by
  unfold DoorRec.told DoorRec.reporting
  cases r <;> simp only [DoorRec.answering, DoorRec.lockedReport, DoorRec.obstructed, DoorRec.attempt] <;> (repeat' split) <;> rfl

theorem DoorRec.told_isolated (d : DoorRec) (r : DoorState) (again : Bool) (now : Time) :
    (d.told r again now).isolated = d.isolated := by
  unfold DoorRec.told DoorRec.reporting
  cases r <;> simp only [DoorRec.answering, DoorRec.lockedReport, DoorRec.obstructed, DoorRec.attempt] <;> (repeat' split) <;> rfl

/-! ### What holds of every report holds of all of them -/

theorem State.heard_door (h : i ∉ l) : (s.heard c q l).doors.door ⟨c, i⟩ = s.doors.door ⟨c, i⟩ := by
  induction l generalizing s with
  | nil => rfl
  | cons j l ih =>
    rw [List.mem_cons, not_or] at h
    obtain ⟨hj, hl⟩ := h
    exact (ih hl).trans (State.doorReport_other (Door.ne_of_comp hj))

/-- A relation that each report keeps, in a state where the record of its door is as it was found. -/
theorem State.heard_rel {R : State → State → Prop} {C : DoorRec → DoorState → Prop} (hrefl : ∀ u, R u u)
    (htrans : ∀ u v w, R u v → R v w → R u w)
    (hstep : ∀ (u : State), ∀ i ∈ l, C (u.doors.door ⟨c, i⟩) (q.get i) → R u (u.doorReport ⟨c, i⟩ (q.get i)))
    (hnodup : l.Nodup) (h : ∀ i ∈ l, C (s.doors.door ⟨c, i⟩) (q.get i)) : R s (s.heard c q l) := by
  induction l generalizing s with
  | nil => exact hrefl s
  | cons j l ih =>
    obtain ⟨hj, hl⟩ := List.nodup_cons.1 hnodup
    refine htrans _ _ _ (hstep s j List.mem_cons_self (h j List.mem_cons_self))
      (ih (fun u i hi => hstep u i (List.mem_cons_of_mem _ hi)) hl (fun i hi => ?_))
    rw [State.doorReport_other (Door.ne_of_comp (ne_of_mem_of_not_mem hi hj))]
    exact h i (List.mem_cons_of_mem _ hi)

/-- A relation that each report keeps. -/
theorem State.heard_rel_all {R : State → State → Prop} (hrefl : ∀ u, R u u) (htrans : ∀ u v w, R u v → R v w → R u w)
    (hstep : ∀ (u : State) (i : Ix4), R u (u.doorReport ⟨c, i⟩ (q.get i))) : R s (s.heard c q l) := by
  induction l generalizing s with
  | nil => exact hrefl s
  | cons j l ih => exact htrans _ _ _ (hstep s j) ih

@[simp] theorem State.heard_now (s : State) (c : Car) (q : Quad DoorState) (l : List Ix4) : (s.heard c q l).now = s.now :=
  State.heard_rel_all (R := fun u v => v.now = u.now) (fun _ => rfl) (fun _ _ _ h g => g.trans h) (by simp)

@[simp] theorem State.heard_trk (s : State) (c : Car) (q : Quad DoorState) (l : List Ix4) : (s.heard c q l).trk = s.trk :=
  State.heard_rel_all (R := fun u v => v.trk = u.trk) (fun _ => rfl) (fun _ _ _ h g => g.trans h) (by simp)

theorem State.heard_isNone (s : State) (c : Car) (q : Quad DoorState) (l : List Ix4) :
    (s.heard c q l).plan.run.isNone = s.plan.run.isNone :=
  State.heard_rel_all (R := fun u v => v.plan.run.isNone = u.plan.run.isNone) (fun _ => rfl) (fun _ _ _ h g => g.trans h)
    (fun u i => u.doorReport_isNone ⟨c, i⟩ (q.get i))

theorem State.heard_other (s : State) (c : Car) (q : Quad DoorState) (l : List Ix4) {y : Door} (hy : y.car ≠ c) :
    (s.heard c q l).doors.door y = s.doors.door y :=
  State.heard_rel_all (R := fun u v => v.doors.door y = u.doors.door y) (fun _ => rfl) (fun _ _ _ h g => g.trans h)
    (fun _ _ => State.doorReport_other (fun he => hy (congrArg Door.car he)))

theorem State.heard_side_other (s : State) (c : Car) (q : Quad DoorState) (l : List Ix4) :
    (s.heard c q l).doors.side.get c.other = s.doors.side.get c.other :=
  State.heard_rel_all (R := fun u v => v.doors.side.get c.other = u.doors.side.get c.other) (fun _ => rfl)
    (fun _ _ _ h g => g.trans h) (fun u i => u.doorReport_side_other ⟨c, i⟩ (q.get i))

/-- At standstill no report moves a brake. -/
theorem State.heard_brk_of_still (hstill : s.trk.still = true) : (s.heard c q l).brk = s.brk :=
  (State.heard_rel_all (R := fun u v => v.trk = u.trk ∧ (u.trk.still = true → v.brk = u.brk)) (s := s) (l := l) (q := q) (c := c)
    (fun _ => ⟨rfl, fun _ => rfl⟩)
    (fun u v w h g => ⟨g.1.trans h.1, fun hu => (g.2 (by rw [h.1, hu])).trans (h.2 hu)⟩)
    (fun u i => ⟨by simp, fun hu => (State.doorReport_unopened (fun _ _ => by simp [State.stillCleared, hu])).1⟩)).2 hstill

theorem State.heard_calm (hnodup : l.Nodup) (h : ∀ i ∈ l, s.News c q i → q.get i = .locked) : s.ActedAlike (s.heard c q l) :=
  State.heard_rel (R := State.ActedAlike) (C := fun d r => d.Changed r → r = .locked) (fun _ => ⟨rfl, rfl, rfl, rfl, rfl, rfl⟩)
    (fun _ _ _ h g => ⟨g.now.trans h.now, g.trk.trans h.trk, g.plan.trans h.plan, g.brk.trans h.brk, g.sup.trans h.sup,
      g.tally.trans h.tally⟩)
    (fun _ _ _ hc => State.doorReport_calm hc) hnodup h

theorem State.heard_unopened (hnodup : l.Nodup) (h : ∀ i ∈ l, s.News c q i → q.get i ≠ .opened) :
    (s.heard c q l).brk = s.brk ∧ (s.heard c q l).sup = s.sup :=
  State.heard_rel (R := fun u v => v.brk = u.brk ∧ v.sup = u.sup) (C := fun d r => d.Changed r → r ≠ .opened)
    (fun _ => ⟨rfl, rfl⟩) (fun _ _ _ h g => ⟨g.1.trans h.1, g.2.trans h.2⟩)
    (fun _ _ _ hc => State.doorReport_unopened (fun hn hr => absurd hr (hc hn))) hnodup h

theorem State.heard_side (hnodup : l.Nodup) (h : ∀ i ∈ l, s.News c q i → q.get i ≠ .locked) :
    (s.heard c q l).doors.side = s.doors.side :=
  State.heard_rel (R := fun u v => v.doors.side = u.doors.side) (C := fun d r => d.Changed r → r ≠ .locked)
    (fun _ => rfl) (fun _ _ _ h g => g.trans h)
    (fun _ _ _ hc => State.doorReport_side (fun hn => hc hn.1 hn.2)) hnodup h

/-- The side stays while a door that is not heard is not locked. -/
theorem State.heard_side_of_unlocked (hi : i ∉ l) (hd : (s.doors.door ⟨c, i⟩).interlocked = false) :
    (s.heard c q l).doors.side = s.doors.side := by
  induction l generalizing s with
  | nil => rfl
  | cons j l ih =>
    rw [List.mem_cons, not_or] at hi
    obtain ⟨hj, hl⟩ := hi
    have hne : (⟨c, i⟩ : Door) ≠ ⟨c, j⟩ := Door.ne_of_comp hj
    exact (ih hl (by rw [State.doorReport_other hne, hd])).trans (State.doorReport_side_of_unlocked hne rfl hd)

/-! ### The record of a door -/

/-- The report of a door is taken where those before it are taken. -/
theorem State.doorReports_split (s : State) (c : Car) (q : Quad DoorState) (i : Ix4) : ∃ pre post : List Ix4,
    i ∉ pre ∧ pre.Nodup ∧ i ∉ post ∧ post.Nodup ∧
      s.doorReports c q = ((s.heard c q pre).doorReport ⟨c, i⟩ (q.get i)).heard c q post := by
  obtain ⟨pre, post, hall⟩ := List.append_of_mem (Ix4.mem_all i)
  have hnodup := Ix4.all_nodup
  rw [hall, List.nodup_append] at hnodup
  obtain ⟨hpre, hpost, hdisj⟩ := hnodup
  refine ⟨pre, post, fun h => hdisj i h i List.mem_cons_self rfl, hpre, (List.nodup_cons.1 hpost).1, (List.nodup_cons.1 hpost).2, ?_⟩
  rw [State.doorReports_eq_heard, hall, State.heard, List.foldl_append]
  rfl

/-- The car may have a door reopened by an obstruction: the conditions of R128. -/
theorem State.mayReopen_iff (s : State) (c : Car) : s.mayReopen c = true ↔
    s.plan.run = none ∧ s.trk.still = true ∧ s.brk.ten = false ∧ (s.doors.side.get c).isSome = true := by
  simp [State.mayReopen, and_assoc]

theorem State.heard_mayReopen (hside : (s.heard c q l).doors.side = s.doors.side) : (s.heard c q l).mayReopen c = s.mayReopen c := by
  have hrun := s.heard_isNone c q l
  unfold State.mayReopen
  rw [hside, hrun, State.heard_trk]
  cases hstill : s.trk.still with
  | true => rw [State.heard_brk_of_still hstill]
  | false => simp

/-- The record of a door after the reports, with the question of a reopening as it stands at its own report. -/
theorem State.doorReports_door (s : State) (c : Car) (q : Quad DoorState) (i : Ix4) : ∃ again : Bool,
    (s.doorReports c q).doors.door ⟨c, i⟩ = (s.doors.door ⟨c, i⟩).told (q.get i) again s.now ∧
      ((s.doors.door ⟨c, i⟩).interlocked = false ∨ (∀ j, s.News c q j → q.get j ≠ .locked) → again = s.mayReopen c) := by
  obtain ⟨pre, post, hpre, hnodup, hpost, -, hsplit⟩ := s.doorReports_split c q i
  refine ⟨(s.heard c q pre).mayReopen c, ?_, ?_⟩
  · rw [hsplit, State.heard_door hpost, State.doorReport_door, if_pos rfl, State.heard_door hpre, State.heard_now]
  · rintro (hd | hnews)
    · exact State.heard_mayReopen (State.heard_side_of_unlocked hpre hd)
    · exact State.heard_mayReopen (State.heard_side hnodup (fun j _ => hnews j))

/-- The third obstruction of a close operation leaves the condition, whatever the other doors report. -/
theorem State.doorReports_fails (hnews : s.News c q i) (hr : q.get i = .obstructed)
    (hclose : (s.doors.door ⟨c, i⟩).close.isSome = true) (hreopen : (s.doors.door ⟨c, i⟩).reopen = none)
    (h : 2 ≤ (s.doors.door ⟨c, i⟩).attempts) : (s.doorReports c q).line.conds.closeFailed = true := by
  obtain ⟨pre, post, hpre, -, hpost, hnodup, hsplit⟩ := s.doorReports_split c q i
  have hdoor : (s.heard c q pre).doors.door ⟨c, i⟩ = s.doors.door ⟨c, i⟩ := State.heard_door hpre
  rw [hsplit, hr]
  have hnow : ((s.heard c q pre).doors.door ⟨c, i⟩).Changed .obstructed := by rw [hdoor, ← hr]; exact hnews
  have hcond := State.doorReport_fails hnow (by rw [hdoor, hclose]) (by rw [hdoor, hreopen]) (by rw [hdoor]; exact h)
  have hfailed : (((s.heard c q pre).doorReport ⟨c, i⟩ .obstructed).doors.door ⟨c, i⟩).failed = true := by
    rw [State.doorReport_door, if_pos rfl, hdoor, DoorRec.told, if_pos (by rw [← hr]; exact hnews)]
    simp [DoorRec.answering, DoorRec.obstructed, DoorRec.reporting, DoorRec.attempt, hclose, hreopen, Nat.not_lt.2 h]
  exact (State.heard_rel (R := fun u v => (u.doors.door ⟨c, i⟩).failed = true ∧ u.line.conds.closeFailed = true →
      (v.doors.door ⟨c, i⟩).failed = true ∧ v.line.conds.closeFailed = true) (C := fun _ _ => True)
    (fun _ h => h) (fun _ _ _ h g hu => g (h hu)) (fun u j hj _ ⟨hf, hc⟩ => by
      have hne : (⟨c, i⟩ : Door) ≠ ⟨c, j⟩ := Door.ne_of_comp (fun he => hpost (he ▸ hj))
      exact ⟨by rw [State.doorReport_other hne, hf], State.doorReport_failed hf hne hc⟩)
    hnodup (fun _ _ => trivial) ⟨hfailed, hcond⟩).2

/-! ### The release side after the reports -/

/-- The last new report of a car that is locked then is LOCKED, and gives the side back (R120). -/
theorem State.heard_returns (hnodup : l.Nodup) (hnews : ∃ i ∈ l, s.News c q i)
    (hlock : (s.heard c q l).doors.carLocked c = true) : (s.heard c q l).doors.side.get c = none := by
  induction l using List.reverseRecOn with
  | nil => exact absurd hnews (by simp)
  | append_singleton l j ih =>
    obtain ⟨hl, -, hdisj⟩ := List.nodup_append.1 hnodup
    have hj : j ∉ l := fun h => hdisj j h j (by simp) rfl
    have hlast : s.heard c q (l ++ [j]) = (s.heard c q l).doorReport ⟨c, j⟩ (q.get j) := by
      simp [State.heard, List.foldl_append]
    have hdoor : (s.heard c q l).doors.door ⟨c, j⟩ = s.doors.door ⟨c, j⟩ := State.heard_door hj
    rw [hlast] at hlock ⊢
    by_cases hn : ((s.heard c q l).doors.door ⟨c, j⟩).Changed (q.get j)
    · have hr : q.get j = .locked := by
        have h := ((Doors.carLocked_iff _ _).1 hlock ⟨c, j⟩ rfl).2
        rw [State.doorReport_door, if_pos rfl] at h
        simpa [DoorRec.interlocked, DoorRec.told_isolated, DoorRec.told_reported, hn.1] using h
      rw [hr] at hn hlock ⊢
      rw [State.doorReport_locked hn, PerCar.get_set, if_pos rfl, if_pos hlock]
    · have hsame := State.doorReport_of_same hn
      have hback : (s.heard c q l).doors.carLocked c = true := by
        rw [Doors.carLocked_iff] at hlock ⊢
        intro y hy
        have h := hlock y hy
        rw [State.doorReport_door] at h
        split at h
        next hyj =>
          subst hyj
          rw [DoorRec.told, if_neg hn] at h
          by_cases hiso : ((s.heard c q l).doors.door ⟨c, j⟩).isolated = true
          · exact ⟨h.1, by simp [DoorRec.interlocked, hiso]⟩
          · have hrep : ((s.heard c q l).doors.door ⟨c, j⟩).reported = q.get j := by
              by_contra hrep
              exact hn ⟨by simpa using hiso, hrep⟩
            rw [DoorRec.reporting, ← hrep] at h
            exact h
        next => exact h
      have hbefore : ∃ i ∈ l, s.News c q i := by
        obtain ⟨i, hi, hnew⟩ := hnews
        rcases List.mem_append.1 hi with hi | hi
        · exact ⟨i, hi, hnew⟩
        · obtain rfl := List.mem_singleton.1 hi
          exact absurd (hdoor ▸ hnew) hn
      rw [hsame]
      exact ih hl hbefore hback

/-! ### A door found OPEN, and a run that is held -/

/-- A door found OPEN in motion trips the line, whatever the other doors report. -/
theorem State.heard_opened (hnodup : l.Nodup) (hstill : s.stillCleared = true)
    (hopen : ∃ i ∈ l, s.News c q i ∧ q.get i = .opened) : (s.heard c q l).brk.dropped ∧
      ∃ z, (s.heard c q l).sup.trip = some z ∧
        (s.sup.trip = none → ∃ j, j ∈ l ∧ z.cause = .doorOpen ⟨c, j⟩ ∧ s.News c q j ∧ q.get j = .opened) := by
  induction l generalizing s with
  | nil => exact absurd hopen (by simp)
  | cons j l ih =>
    obtain ⟨hj, hl⟩ := List.nodup_cons.1 hnodup
    have hrest : s.heard c q (j :: l) = (s.doorReport ⟨c, j⟩ (q.get j)).heard c q l := rfl
    have hdoor : ∀ i ∈ l, (s.doorReport ⟨c, j⟩ (q.get j)).doors.door ⟨c, i⟩ = s.doors.door ⟨c, i⟩ := fun i hi =>
      State.doorReport_other (Door.ne_of_comp (ne_of_mem_of_not_mem hi hj))
    rw [hrest]
    by_cases hfirst : s.News c q j ∧ q.get j = .opened
    · obtain ⟨hnew, hr⟩ := hfirst
      rw [hr]
      obtain ⟨hd, z, hz, hcause⟩ := State.doorReport_opened hstill (show (s.doors.door ⟨c, j⟩).Changed .opened from hr ▸ hnew)
      obtain ⟨hd', z', hz', hkept⟩ := State.heard_rel_all (c := c) (q := q) (l := l)
        (R := fun u v => u.brk.dropped → ∀ z, u.sup.trip = some z → v.brk.dropped ∧ ∃ z', v.sup.trip = some z' ∧ z'.cause = z.cause)
        (fun _ hd z hz => ⟨hd, z, hz, rfl⟩)
        (fun _ _ _ h g hd z hz => by
          obtain ⟨hd', z', hz', hc⟩ := h hd z hz
          obtain ⟨hd'', z'', hz'', hc'⟩ := g hd' z' hz'
          exact ⟨hd'', z'', hz'', hc'.trans hc⟩)
        (fun _ _ hd _ hz => State.doorReport_keeps_trip hd hz) hd z hz
      exact ⟨hd', z', hz', fun hnone => ⟨j, List.mem_cons_self, hkept.trans (hcause hnone), hnew, hr⟩⟩
    · obtain ⟨-, hsup⟩ := State.doorReport_unopened (s := s) (x := ⟨c, j⟩) (r := q.get j)
        (fun hn hr => absurd ⟨hn, hr⟩ hfirst)
      obtain ⟨i, hi, hnew, hr⟩ := hopen
      have hil : i ∈ l := by
        rcases List.mem_cons.1 hi with rfl | hil
        · exact absurd ⟨hnew, hr⟩ hfirst
        · exact hil
      obtain ⟨hd, z, hz, hcause⟩ := ih (s := s.doorReport ⟨c, j⟩ (q.get j)) hl (by simpa [State.stillCleared] using hstill)
        ⟨i, hil, by rw [State.News, hdoor i hil]; exact hnew, hr⟩
      refine ⟨hd, z, hz, fun hnone => ?_⟩
      obtain ⟨k, hk, hkcause, hknew, hkr⟩ := hcause (by rw [hsup, hnone])
      rw [State.News, hdoor k hk] at hknew
      exact ⟨k, List.mem_cons_of_mem _ hk, hkcause, hknew, hkr⟩

/-- A moving run that is not held yet is held by a door that is not locked, unless one is found OPEN. -/
theorem State.heard_holds {z : Run} (hnodup : l.Nodup) (hunopened : ∀ i ∈ l, s.News c q i → q.get i ≠ .opened)
    (hnews : ∃ i ∈ l, s.News c q i ∧ q.get i ≠ .locked) (hz : s.plan.run = some z) (hst : z.state.moving = true)
    (hasap : z.stop.isAsap = false) : (s.heard c q l).plan.run = some (z.held .door (mag s.trk.v) s.now) := by
  induction l generalizing s with
  | nil => exact absurd hnews (by simp)
  | cons j l ih =>
    obtain ⟨hj, hl⟩ := List.nodup_cons.1 hnodup
    have hrest : s.heard c q (j :: l) = (s.doorReport ⟨c, j⟩ (q.get j)).heard c q l := rfl
    have hdoor : ∀ i ∈ l, (s.doorReport ⟨c, j⟩ (q.get j)).doors.door ⟨c, i⟩ = s.doors.door ⟨c, i⟩ := fun i hi =>
      State.doorReport_other (Door.ne_of_comp (ne_of_mem_of_not_mem hi hj))
    have hlater : ∀ i ∈ l, (s.doorReport ⟨c, j⟩ (q.get j)).News c q i → q.get i ≠ .opened := fun i hi hn =>
      hunopened i (List.mem_cons_of_mem _ hi) (by rw [State.News, hdoor i hi] at hn; exact hn)
    rw [hrest]
    by_cases hfirst : s.News c q j ∧ q.get j ≠ .locked
    · obtain ⟨hnew, hr⟩ := hfirst
      have hheld := State.doorReport_holds hnew hr (hunopened j List.mem_cons_self hnew) hz hst hasap
      exact State.heard_rel (c := c) (q := q)
        (R := fun u v => ∀ z : Run, u.plan.run = some z → z.state.moving = true → z.stop.isAsap = true → v.plan.run = some z)
        (C := fun d r => d.Changed r → r ≠ .opened) (fun _ _ h _ _ => h)
        (fun _ _ _ h g z hz hst hasap => g z (h z hz hst hasap) hst hasap)
        (fun _ _ _ hc _ hz hst hasap => State.doorReport_held hc hz hst hasap) hl hlater _ hheld rfl rfl
    · have hcalm := State.doorReport_calm (s := s) (x := ⟨c, j⟩) (r := q.get j)
        (fun hn => by by_contra hr; exact hfirst ⟨hn, hr⟩)
      obtain ⟨i, hi, hnew, hr⟩ := hnews
      have hil : i ∈ l := by
        rcases List.mem_cons.1 hi with rfl | hil
        · exact absurd ⟨hnew, hr⟩ hfirst
        · exact hil
      rw [ih (s := s.doorReport ⟨c, j⟩ (q.get j)) hl hlater ⟨i, hil, by rw [State.News, hdoor i hil]; exact hnew, hr⟩
        (by rw [hcalm.plan, hz]), hcalm.trk, hcalm.now]

end Machine
end Sys2Proof
end

section
/-! PROOFS. The other parts of a car frame: the link it moves, the track brake, the reading and its weighs, the fault and the markers. -/

namespace Sys2Proof
namespace Machine

variable {s : State} {c : Car} {q : Quad DoorState}

/-! ### The link -/

/-- A link that keeps its state or becomes LIVE moves nothing but itself and its conditions. -/
theorem State.moveLink_live {l : CarLink} (h : l.state = (s.links.get c).state ∨ l.state = .live) :
    s.ActedAlike (s.moveLink c l) ∧ (s.moveLink c l).doors = s.doors ∧
      (s.moveLink c l).links = s.links.set c { l with invalid := if l.state = (s.links.get c).state then l.invalid else 0 } := by
  unfold State.moveLink
  by_cases hsame : l.state = (s.links.get c).state
  · rw [if_pos hsame, if_pos hsame]
    exact ⟨⟨rfl, rfl, rfl, rfl, rfl, rfl⟩, rfl, rfl⟩
  · have hlive : l.state = .live := h.resolve_left hsame
    rw [if_neg hsame, if_neg hsame]
    simp only [State.linkChanged, State.setLink_links, PerCar.get_set, if_true, hlive]
    exact ⟨by constructor <;> simp, by simp, by simp [PerCar.set_set]⟩

theorem CarLink.valid_state (l : CarLink) (now : Time) : (l.valid now).state = l.state ∨ (l.valid now).state = .live := by
  simp only [CarLink.valid]
  split
  · exact .inr rfl
  · split
    · exact .inr rfl
    · exact .inl rfl

/-- The link after a valid frame, before its fault and markers. -/
theorem CarLink.valid_eq (l : CarLink) (now : Time) :
    { l.valid now with invalid := if (l.valid now).state = l.state then (l.valid now).invalid else 0 } = { l with
      since := now, took300 := false, took1000 := false
      state := if 2 ≤ l.streak then .live else l.state
      streak := if l.state = LinkState.live then 3 else min (l.streak + 1) 3
      invalid := if l.state ≠ LinkState.live ∧ 2 ≤ l.streak then 0 else l.invalid } := by
  simp only [CarLink.valid]
  by_cases hlive : l.state = .live
  · simp [hlive]
  · by_cases hstreak : 2 ≤ l.streak
    · have hmin : min (l.streak + 1) 3 = 3 := by omega
      simp [hlive, hstreak, Ne.symm hlive]
    · have hmin : min (l.streak + 1) 3 ≠ 3 := by omega
      simp [hlive, hstreak, hmin]

/-! ### The track brake -/

/-- The cars' own application of a track brake, in motion and not commanded (R111). -/
def State.ownApply (s : State) (c : Car) (b : Bool) : Bool := b && (s.brk.track.get c).cmd == .hold && s.carsMovingSeen

/-- The state with a track brake report recorded. -/
def State.trackTold (s : State) (c : Car) (b : Bool) : State :=
  (s.setTrack c ((s.brk.track.get c).report b)).trackCondition

theorem State.trackReport_eq (s : State) (c : Car) (b : Bool) : s.trackReport c b =
    if s.ownApply c b = true then (s.trackTold c b).raise (.carTrackBrake c) else s.trackTold c b := rfl

theorem State.trackTold_brk (s : State) (c : Car) (b : Bool) :
    (s.trackTold c b).brk = { s.brk with track := s.brk.track.set c ((s.brk.track.get c).report b) } := by
  simp [State.trackTold, State.trackCondition, State.setTrack]

theorem Brakes.trackAlarm_iff (b : Brakes) : b.trackAlarm = true ↔
    ∃ j : Car, (b.track.get j).cmd = .apply ∨ (b.track.get j).state = some .applied := by
  simp only [Brakes.trackAlarm, Bool.or_eq_true, beq_iff_eq]
  constructor
  · rintro (((h | h) | h) | h)
    · exact ⟨.A, .inl h⟩
    · exact ⟨.A, .inr h⟩
    · exact ⟨.B, .inl h⟩
    · exact ⟨.B, .inr h⟩
  · rintro ⟨_ | _, h | h⟩
    · exact .inl (.inl (.inl h))
    · exact .inl (.inl (.inr h))
    · exact .inl (.inr h)
    · exact .inr h

theorem State.trackTold_condition (s : State) (c : Car) (b : Bool) :
    (s.trackTold c b).line.conds.trackBrake = (s.trackTold c b).brk.trackAlarm := by
  simp [State.trackTold, State.trackCondition, Conditions.put]

theorem State.found_carTrackBrake (s : State) (c : Car) : s.found (.carTrackBrake c) ≠ [] := by simp [State.found]

theorem TrackRec.report_cmd_apply {t : TrackRec} (h : t.cmd = .apply) (b : Bool) : (t.report b).cmd = .apply := by
  unfold TrackRec.report
  rw [h]
  cases b with
  | true => rfl
  | false =>
    dsimp only
    split <;> rfl

/-! ### Emergencies that escalate -/

theorem State.raise_slack (s : State) (k : Cause) : (s.raise k).sheaveSlack = s.sheaveSlack := by
  have h : ((s.brk.dropAll s.now).sheave.state == .failed) = s.sheaveSlack := s.brk.dropRecord_failed s.now
  rw [← h, State.sheaveSlack, State.raise_eq, State.emergency_brk]
  rfl

/-- An emergency of a door OPEN has applied the track brakes, and every further one would (R111, R112). -/
structure State.Escalated (s : State) : Prop where
  dropped : s.brk.dropped
  watch : s.brk.watch = none
  applied : ∀ j : Car, (s.brk.track.get j).cmd = .apply
  highest : ∃ x, s.sup.trip = some x ∧ x.highest.isSome = true
  again : s.sheaveSlack = true ∨ s.trk.stretch = true

theorem State.found_doorOpen (s : State) (x : Door) : s.found (.doorOpen x) ≠ [] ↔ s.sheaveSlack = true ∨ s.trk.stretch = true := by
  unfold State.found
  cases s.sheaveSlack <;> cases s.trk.stretch <;> simp

theorem State.raise_escalated {x : Door} (h : s.sheaveSlack = true ∨ s.trk.stretch = true) : (s.raise (.doorOpen x)).Escalated := by
  have hfound := (s.found_doorOpen x).2 h
  obtain ⟨z, hz, -⟩ := s.raise_trip (.doorOpen x)
  exact ⟨State.raise_dropped _ _, by rw [State.raise_watch, if_neg hfound], State.raise_cmd s hfound,
    ⟨z, hz, State.raise_highest hfound hz⟩, by rw [State.raise_slack]; simpa using h⟩

/-- A door report leaves the track brakes alone unless it escalates, and nothing takes an escalation back. -/
theorem State.doorReport_escalated (s : State) (x : Door) (r : DoorState) : (s.Escalated → (s.doorReport x r).Escalated) ∧
    ((s.doorReport x r).brk.track = s.brk.track ∨ (s.doorReport x r).Escalated) := by
  by_cases h : (s.doors.door x).Changed r → r = .opened → s.stillCleared = false
  · obtain ⟨hbrk, hsup⟩ := State.doorReport_unopened h
    refine ⟨fun he => ⟨hbrk ▸ he.dropped, hbrk ▸ he.watch, hbrk ▸ he.applied, hsup ▸ he.highest, ?_⟩, .inl (by rw [hbrk])⟩
    have hagain := he.again
    simpa [State.sheaveSlack, hbrk] using hagain
  · push Not at h
    obtain ⟨hc, rfl, hstill⟩ := h
    have hf : s.findingOf .opened = .emergency := if_pos (by simpa using hstill)
    have ha := s.acted_alike x .opened
    have hagain : ((s.acted x .opened).sheaveSlack = true ∨ (s.acted x .opened).trk.stretch = true) ↔
        (s.sheaveSlack = true ∨ s.trk.stretch = true) := by
      rw [State.sheaveSlack, ha.brk, ha.trk]
      rfl
    rw [State.doorReport_of_emergency hc hf]
    refine ⟨fun he => State.raise_escalated (hagain.2 he.again), ?_⟩
    by_cases hfound : s.sheaveSlack = true ∨ s.trk.stretch = true
    · exact .inr (State.raise_escalated (hagain.2 hfound))
    · refine .inl (Eq.trans (State.raise_track_of_none _ ?_) (by rw [ha.brk]))
      by_contra hne
      exact hfound (hagain.1 ((State.found_doorOpen _ _).1 hne))

theorem State.doorReports_escalated (s : State) (c : Car) (q : Quad DoorState) :
    (s.doorReports c q).brk.track = s.brk.track ∨ (s.doorReports c q).Escalated :=
  (State.heard_rel_all (s := s) (c := c) (q := q) (l := Ix4.all)
    (R := fun u v => (u.Escalated → v.Escalated) ∧ (v.brk.track = u.brk.track ∨ v.Escalated))
    (fun _ => ⟨id, .inl rfl⟩)
    (fun u v w h g => ⟨fun he => g.1 (h.1 he), by
      rcases g.2 with hw | hw
      · rcases h.2 with hv | hv
        · exact .inl (hw.trans hv)
        · exact .inr (g.1 hv)
      · exact .inr hw⟩)
    (fun u i => u.doorReport_escalated ⟨c, i⟩ (q.get i))).2

theorem State.takeHold_inMotion {z : Run} (h : z.state.inMotion = true) (k : HoldCause) (vh : Nat) :
    (s.takeHold z k vh).runInMotion = true := by
  cases hasap : z.stop.isAsap with
  | true =>
    rw [State.takeHold_of_asap hasap]
    exact h
  | false =>
    rw [State.runInMotion, State.takeHold_plan hasap]
    rfl

theorem State.hold_inMotion (h : s.runInMotion = true) (k : HoldCause) : (s.hold k).runInMotion = true := by
  unfold State.hold
  split
  next z hz =>
    have hmot : z.state.inMotion = true := by simpa [State.runInMotion, hz] using h
    split
    next hst => simp [State.runInMotion, State.setRun, hst, RunState.inMotion]
    next hst => exact State.takeHold_inMotion hmot _ _
    next hst => exact State.takeHold_inMotion hmot _ _
    next hst => exact State.takeHold_inMotion hmot _ _
    all_goals exact h
  next hz => exact h

theorem State.doorReport_inMotion {x : Door} {r : DoorState} (hstill : s.stillCleared = false) (h : s.runInMotion = true) :
    (s.doorReport x r).runInMotion = true := by
  by_cases hc : (s.doors.door x).Changed r
  · have ha := s.acted_alike x r
    cases hf : s.findingOf r with
    | none => rw [State.doorReport_of_none hc hf]; simpa [State.runInMotion, State.setDoor] using h
    | stop =>
      rw [State.doorReport_of_stop hc hf]
      exact State.hold_inMotion (by rw [State.runInMotion, ha.plan]; exact h) _
    | emergency => exact absurd hstill (by simp [(State.findingOf_emergency hf).2])
  · rw [State.doorReport_of_same hc]
    exact h

/-- The cars still count as moving after the door reports. -/
theorem State.doorReports_moving (h : s.carsMovingSeen = true) : (s.doorReports c q).carsMovingSeen = true := by
  have htrk : (s.doorReports c q).trk = s.trk := by simp
  cases hstill : s.stillCleared with
  | true =>
    have hboth : (!s.trk.still && s.trk.stillSeen) = true := hstill
    rw [State.carsMovingSeen, htrk, hboth, Bool.true_or]
  | false =>
    have hboth : (!s.trk.still && s.trk.stillSeen) = false := hstill
    rw [State.carsMovingSeen, hboth, Bool.false_or] at h
    have hmot := (State.heard_rel_all (s := s) (c := c) (q := q) (l := Ix4.all)
      (R := fun u v => v.trk = u.trk ∧ (u.stillCleared = false → u.runInMotion = true → v.runInMotion = true))
      (fun _ => ⟨rfl, fun _ h => h⟩)
      (fun u v w h g => ⟨g.1.trans h.1, fun hs hm => g.2 (by rw [State.stillCleared, h.1]; exact hs) (h.2 hs hm)⟩)
      (fun u i => ⟨by simp, State.doorReport_inMotion⟩)).2 hstill h
    rw [State.carsMovingSeen, State.doorReports_eq_heard, hmot, Bool.or_true]

/-! ### The reading -/

theorem State.weighTests_condition {d : Nat} (hd : (s.tally.get c).departure = some d) (hbefore : (s.tally.get c).excess = false)
    (hover : (s.tally.get c).expected + s.geo.tolerance < d) : (s.weighTests c).line.conds.excess.get c = true := by
  have htest : (!(s.tally.get c).excess && decide ((s.tally.get c).expected + s.geo.tolerance < d)) = true := by simp [hbefore, hover]
  simp only [State.weighTests, hd, htest, if_true]
  simp [Conditions.put]

/-- The record with a reading. -/
def Load.read (l : Load) (kg : Nat) (settled : Bool) : Load := { l with reading := some (kg, settled) }

/-- The record with the arrival weigh of a fresh stop window (R165). -/
def Load.arrived (l : Load) (terminal : Bool) (kg : Nat) : Load :=
  if l.window.isSome && !l.released && l.arrival.isNone then
    { l with arrival := some kg, carryMass := if terminal then l.carryMass else kg,
             carryPersons := if terminal then l.carryPersons else massPersons kg }
  else l

theorem State.arrivalWeigh_tally (s : State) (c : Car) (kg : Nat) :
    (s.arrivalWeigh c kg).tally = s.tally.set c ((s.tally.get c).arrived (s.windowTerminal c) kg) := by
  unfold State.arrivalWeigh Load.arrived
  dsimp only
  split
  · simp
  · rw [PerCar.set_get_same]

theorem State.departureWeigh_of_none {kg : Nat} (h : (s.tally.get c).departure = none) : (s.departureWeigh c kg).tally =
      s.tally.set c (({ s.tally.get c with departure := some kg } : Load).tested s.geo.tolerance) ∧
    ((s.tally.get c).excess = false → (s.tally.get c).expected + s.geo.tolerance < kg →
      (s.departureWeigh c kg).line.conds.excess.get c = true) := by
  unfold State.departureWeigh
  rw [if_pos (by simp [h])]
  refine ⟨?_, fun hbefore hover => ?_⟩
  · rw [State.weighTests_tally]
    simp [PerCar.set_set]
  · exact State.weighTests_condition (d := kg) (by simp) (by simpa using hbefore) (by simpa [Load.expected] using hover)

/-- The state with a reading recorded. -/
def State.withReading (s : State) (c : Car) (kg : Nat) (settled : Bool) : State :=
  s.setLoad c ((s.tally.get c).read (min kg 65000) settled)

theorem State.reading_of_weighs {kg : Nat} (h : s.mayWeigh c = true) : s.reading c kg true =
    ((s.withReading c kg true).arrivalWeigh c (min kg 65000)).departureWeigh c (min kg 65000) := by
  have hmay : (true && (s.withReading c kg true).mayWeigh c) = true := by
    rw [Bool.true_and, ← h]
    simp [State.mayWeigh, State.withReading, Load.read]
  exact if_pos hmay

theorem Load.arrived_reading (l : Load) (b : Bool) (kg : Nat) : (l.arrived b kg).reading = l.reading := by
  unfold Load.arrived
  split <;> rfl

theorem Load.arrived_departure (l : Load) (b : Bool) (kg : Nat) : (l.arrived b kg).departure = l.departure := by
  unfold Load.arrived
  split <;> rfl

theorem Load.arrived_excess (l : Load) (b : Bool) (kg : Nat) : (l.arrived b kg).excess = l.excess := by
  unfold Load.arrived
  split <;> rfl

theorem Load.arrived_read (l : Load) (b settled : Bool) (kg k : Nat) :
    (l.read k settled).arrived b kg = (l.arrived b kg).read k settled := by
  unfold Load.arrived Load.read
  dsimp only
  split <;> rfl

theorem State.reading_reading (s : State) (c : Car) (kg : Nat) (settled : Bool) :
    ((s.reading c kg settled).tally.get c).reading = some (min kg 65000, settled) := by
  have hread : ((s.withReading c kg settled).tally.get c).reading = some (min kg 65000, settled) := by
    simp [State.withReading, Load.read]
  have harrive : (((s.withReading c kg settled).arrivalWeigh c (min kg 65000)).tally.get c).reading =
      some (min kg 65000, settled) := by
    rw [State.arrivalWeigh_tally, PerCar.get_set, if_pos rfl, Load.arrived_reading, hread]
  cases hmay : settled && (s.withReading c kg settled).mayWeigh c with
  | false =>
    have heq : s.reading c kg settled = s.withReading c kg settled := if_neg (by rw [Bool.not_eq_true]; exact hmay)
    rw [heq, hread]
  | true =>
    have heq : s.reading c kg settled =
        ((s.withReading c kg settled).arrivalWeigh c (min kg 65000)).departureWeigh c (min kg 65000) := if_pos hmay
    rw [heq]
    cases hdep : (((s.withReading c kg settled).arrivalWeigh c (min kg 65000)).tally.get c).departure with
    | none =>
      rw [(State.departureWeigh_of_none hdep).1, PerCar.get_set, if_pos rfl]
      exact harrive
    | some d =>
      have hkeep : ((s.withReading c kg settled).arrivalWeigh c (min kg 65000)).departureWeigh c (min kg 65000) =
          (s.withReading c kg settled).arrivalWeigh c (min kg 65000) := if_neg (by simp [hdep])
      rw [hkeep, harrive]

/-- What a reading that weighs makes of a load record without a departure weigh. -/
theorem State.reading_weighed {kg : Nat} (h : s.mayWeigh c = true) (hnone : (s.tally.get c).departure = none) :
    (s.reading c kg true).tally.get c = ({ ((s.tally.get c).arrived (s.windowTerminal c) (min kg 65000)).read
        (min kg 65000) true with departure := some (min kg 65000) } : Load).tested s.geo.tolerance ∧
      ((s.tally.get c).excess = false →
        ((s.tally.get c).arrived (s.windowTerminal c) (min kg 65000)).expected + s.geo.tolerance < min kg 65000 →
        (s.reading c kg true).line.conds.excess.get c = true) := by
  have hload : (s.withReading c kg true).tally.get c = (s.tally.get c).read (min kg 65000) true := by
    simp [State.withReading]
  have hterm : (s.withReading c kg true).windowTerminal c = s.windowTerminal c := by
    simp [State.windowTerminal, State.withReading, Load.read]
  have harrive : ((s.withReading c kg true).arrivalWeigh c (min kg 65000)).tally.get c =
      ((s.tally.get c).arrived (s.windowTerminal c) (min kg 65000)).read (min kg 65000) true := by
    rw [State.arrivalWeigh_tally, PerCar.get_set, if_pos rfl, hload, hterm, Load.arrived_read]
  have hgeo : ((s.withReading c kg true).arrivalWeigh c (min kg 65000)).geo = s.geo := by simp [State.withReading]
  obtain ⟨htally, hcond⟩ := State.departureWeigh_of_none (s := (s.withReading c kg true).arrivalWeigh c (min kg 65000))
    (c := c) (kg := min kg 65000) (by rw [harrive]; exact (Load.arrived_departure _ _ _).trans hnone)
  rw [State.reading_of_weighs h, htally, PerCar.get_set, if_pos rfl, harrive, hgeo]
  refine ⟨rfl, fun hbefore hover => hcond ?_ ?_⟩
  · rw [harrive]
    exact (Load.arrived_excess _ _ _).trans hbefore
  · rw [harrive, hgeo]
    exact hover

/-! ### Fault and markers -/

/-- The end of a car frame: its fault and its markers. -/
theorem State.carFault_queueMarkers (s : State) (c : Car) (code : Nat) (ids : List Nat) :
    ((s.carFault c code).queueMarkers c ids).links = s.links.set c { s.links.get c with
      fault := code, markers := (s.links.get c).markers ++ ids } := by
  have hfault : (s.carFault c code).links = s.links.set c { s.links.get c with fault := code } := by
    unfold State.carFault
    dsimp only
    split
    next h =>
      rw [← h]
      exact (PerCar.set_get_same s.links c).symm
    next => simp
  simp [State.queueMarkers, hfault, PerCar.set_set]

end Machine
end Sys2Proof
end

section
/-! PROOFS. CAR_FRAME_RECEIVED: what a valid frame leaves behind. -/

namespace Sys2Proof
namespace Machine

variable {s : State} {c : Car} {r : CarReport} {i : Ix4}

/-! ### The parts of a valid frame -/

/-- The state after the link of a valid frame is moved and its doors are told. -/
def State.doorsTold (s : State) (c : Car) (r : CarReport) : State :=
  (s.moveLink c ((s.links.get c).valid s.now)).doorReports c r.doors

/-- The same after the track brake report. -/
def State.brakesTold (s : State) (c : Car) (r : CarReport) : State := (s.doorsTold c r).trackBrakeReport c r.track

theorem State.takeReports_eq (s : State) (c : Car) (r : CarReport) : s.takeReports c r =
    (((s.brakesTold c r).reading c r.kg r.settled).carFault c r.fault).queueMarkers c r.markers := rfl

/-- What the parts after the brakes leave alone. -/
theorem State.takeReports_rest (s : State) (c : Car) (r : CarReport) :
    (s.takeReports c r).doors = (s.brakesTold c r).doors ∧ (s.takeReports c r).brk = (s.brakesTold c r).brk ∧
      (s.takeReports c r).sup = (s.brakesTold c r).sup ∧ (s.takeReports c r).plan = (s.brakesTold c r).plan ∧
      (s.takeReports c r).tally = ((s.brakesTold c r).reading c r.kg r.settled).tally ∧
      (s.takeReports c r).line = ((s.brakesTold c r).reading c r.kg r.settled).line := by
  rw [State.takeReports_eq]
  refine ⟨?_, ?_, ?_, ?_, ?_, ?_⟩
  all_goals simp [State.queueMarkers]

/-- The link's part of a valid frame leaves the rest as it was. -/
theorem State.linkMoved (s : State) (c : Car) : s.ActedAlike (s.moveLink c ((s.links.get c).valid s.now)) ∧
    (s.moveLink c ((s.links.get c).valid s.now)).doors = s.doors := by
  obtain ⟨halike, hdoors, -⟩ := State.moveLink_live (s := s) (c := c) (CarLink.valid_state (s.links.get c) s.now)
  exact ⟨halike, hdoors⟩

theorem State.brakesTold_doors (s : State) (c : Car) (r : CarReport) : (s.brakesTold c r).doors = (s.doorsTold c r).doors := by
  unfold State.brakesTold State.trackBrakeReport
  split <;> simp

theorem State.takeReports_doors (s : State) (c : Car) (r : CarReport) : (s.takeReports c r).doors = (s.doorsTold c r).doors :=
  (s.takeReports_rest c r).1.trans (s.brakesTold_doors c r)

theorem State.takeReports_links (s : State) (c : Car) (r : CarReport) : let l := s.links.get c
    (s.takeReports c r).links.get c = { l with
      since := s.now, took300 := false, took1000 := false
      state := if 2 ≤ l.streak then .live else l.state
      streak := if l.state = LinkState.live then 3 else min (l.streak + 1) 3
      invalid := if l.state ≠ LinkState.live ∧ 2 ≤ l.streak then 0 else l.invalid
      fault := r.fault, markers := l.markers ++ r.markers } ∧
    (s.takeReports c r).links.get c.other = s.links.get c.other := by
  intro l
  obtain ⟨-, -, hlink⟩ := State.moveLink_live (s := s) (c := c) (CarLink.valid_state (s.links.get c) s.now)
  have hbrakes : ((s.brakesTold c r).reading c r.kg r.settled).links =
      (s.moveLink c ((s.links.get c).valid s.now)).links := by
    simp only [State.reading_frame, State.brakesTold, State.trackBrakeReport]
    split <;> simp [State.doorsTold]
  rw [State.takeReports_eq, State.carFault_queueMarkers, hbrakes, hlink, CarLink.valid_eq]
  refine ⟨by rw [PerCar.get_set, if_pos rfl, PerCar.get_set, if_pos rfl], ?_⟩
  rw [PerCar.get_set, if_neg (Car.other_ne c), PerCar.get_set, if_neg (Car.other_ne c)]

/-! ### The doors -/

theorem Quad.ext_get {α : Type} {p q : Quad α} (h : ∀ i, p.get i = q.get i) : p = q := by
  obtain ⟨p1, p2, p3, p4⟩ := p
  obtain ⟨q1, q2, q3, q4⟩ := q
  obtain rfl : p1 = q1 := h .i1
  obtain rfl : p2 = q2 := h .i2
  obtain rfl : p3 = q3 := h .i3
  obtain rfl : p4 = q4 := h .i4
  rfl

theorem State.doorsTold_door (s : State) (c : Car) (r : CarReport) (i : Ix4) : ∃ again : Bool,
    (s.doorsTold c r).doors.door ⟨c, i⟩ = (s.doors.door ⟨c, i⟩).told (r.doors.get i) again s.now ∧
      ((s.doors.door ⟨c, i⟩).interlocked = false ∨ (∀ j, s.News c r.doors j → r.doors.get j ≠ .locked) →
        again = s.mayReopen c) := by
  obtain ⟨ha, hdoors⟩ := s.linkMoved c
  obtain ⟨again, hdoor, hagain⟩ := (s.moveLink c ((s.links.get c).valid s.now)).doorReports_door c r.doors i
  have hmay : (s.moveLink c ((s.links.get c).valid s.now)).mayReopen c = s.mayReopen c := by
    unfold State.mayReopen
    rw [ha.plan, ha.trk, ha.brk, hdoors]
  rw [hdoors, ha.now] at hdoor
  simp only [State.News, hdoors, hmay] at hagain
  exact ⟨again, hdoor, hagain⟩

theorem DoorRec.told_of_same {d : DoorRec} {x : DoorState} (h : ¬d.Changed x) (again : Bool) (now : Time) :
    d.told x again now = d.reporting x := if_neg h

theorem DoorRec.told_locked {d : DoorRec} (h : d.Changed .locked) (again : Bool) (now : Time) : d.told .locked again now =
    if d.release = true then d.reporting .locked else { d.reporting .locked with close := none, failed := false } := if_pos h

theorem DoorRec.told_plain {d : DoorRec} {x : DoorState} (hlock : x ≠ .locked)
    (h : x ≠ .obstructed ∨ d.close = none ∨ d.reopen.isSome = true) (again : Bool) (now : Time) :
    d.told x again now = d.reporting x := by
  unfold DoorRec.told
  split
  · cases x with
    | locked => exact absurd rfl hlock
    | obstructed =>
      refine if_neg ?_
      rcases h with h | h | h
      · exact absurd rfl h
      · simp [DoorRec.reporting, h]
      · simp [DoorRec.reporting, Option.isNone_eq_false_iff.2 h]
    | unknown => rfl
    | released => rfl
    | opened => rfl
    | fault => rfl
  · rfl

/-- An obstruction of a close operation counts an attempt, or ends the operation at the third (R128). -/
theorem DoorRec.told_obstructed {d : DoorRec} (h : d.Changed .obstructed) (hrel : d.release = false)
    (hclose : d.close.isSome = true) (hreopen : d.reopen = none) (again : Bool) (now : Time) :
    (d.attempts < 2 → again = true → d.told .obstructed again now =
      { d.reporting .obstructed with attempts := d.attempts + 1, release := true, reopen := some now }) ∧
    (d.attempts < 2 → again = false → d.told .obstructed again now =
      { d.reporting .obstructed with attempts := d.attempts + 1 }) ∧
    (2 ≤ d.attempts → d.told .obstructed again now =
      { d.reporting .obstructed with attempts := 3, failed := true, close := none }) := by
  have htold : d.told .obstructed again now = (d.reporting .obstructed).attempt (decide (d.attempts < 2) && again) now :=
    (if_pos h).trans (if_pos (by simp [DoorRec.reporting, hclose, hreopen]))
  rw [htold]
  refine ⟨fun hlow hagain => ?_, fun hlow hagain => ?_, fun hhigh => ?_⟩
  · rw [hagain, decide_eq_true hlow]
    exact if_pos hlow
  · rw [hagain, Bool.and_false]
    exact (if_pos hlow).trans (by simp [DoorRec.reporting, hrel, hreopen])
  · exact if_neg (Nat.not_lt.2 hhigh)

/-- What a valid frame makes of the records of its car. -/
theorem State.takeReports_door (s : State) (c : Car) (r : CarReport) (i : Ix4) : let d := s.doors.door ⟨c, i⟩
    let new := r.doors.get i
    let plain := { d with reported := new }
    (¬s.News c r.doors i → (s.takeReports c r).doors.door ⟨c, i⟩ = plain) ∧
    (s.News c r.doors i → new = .locked → (s.takeReports c r).doors.door ⟨c, i⟩ =
      if d.release = true then plain else { plain with close := none, failed := false }) ∧
    (s.News c r.doors i → new ≠ .locked → new ≠ .obstructed ∨ d.close = none ∨ d.reopen.isSome = true →
      (s.takeReports c r).doors.door ⟨c, i⟩ = plain) ∧
    (s.News c r.doors i → new = .obstructed →
      (d.reported ≠ .locked ∨ ∀ j, s.News c r.doors j → r.doors.get j ≠ .locked) → d.release = false →
      d.close.isSome = true → d.reopen = none →
      let again := s.plan.run = none ∧ s.trk.still = true ∧ s.brk.ten = false ∧ (s.doors.side.get c).isSome = true
      (d.attempts < 2 → again → (s.takeReports c r).doors.door ⟨c, i⟩ =
        { plain with attempts := d.attempts + 1, release := true, reopen := some s.now }) ∧
      (d.attempts < 2 → ¬again → (s.takeReports c r).doors.door ⟨c, i⟩ = { plain with attempts := d.attempts + 1 }) ∧
      (2 ≤ d.attempts →
        (s.takeReports c r).doors.door ⟨c, i⟩ = { plain with attempts := 3, failed := true, close := none } ∧
        (s.doorsTold c r).line.conds.closeFailed = true)) := by
  intro d new plain
  obtain ⟨again, hdoor, hagain⟩ := s.doorsTold_door c r i
  rw [State.takeReports_doors, hdoor]
  refine ⟨fun h => DoorRec.told_of_same h _ _, fun h hnew => ?_, fun _ hlock hplain => DoorRec.told_plain hlock hplain _ _,
    fun h hnew hunlocked hrel hclose hreopen => ?_⟩
  · have hnew' : r.doors.get i = .locked := hnew
    rw [State.News, hnew'] at h
    rw [hnew', DoorRec.told_locked h]
    simp only [plain, new, hnew']
    rfl
  · have hnew' : r.doors.get i = .obstructed := hnew
    have hchanged : (s.doors.door ⟨c, i⟩).Changed .obstructed := hnew' ▸ h
    obtain ⟨hreopened, hcounted, hfailed⟩ := DoorRec.told_obstructed hchanged hrel hclose hreopen again s.now
    have hmay : again = s.mayReopen c := hagain (hunlocked.imp_left (fun hd => by
      simpa [DoorRec.interlocked, hchanged.1] using hd))
    simp only [plain, new, hnew']
    refine ⟨fun hlow hyes => hreopened hlow (by rw [hmay, State.mayReopen_iff]; exact hyes),
      fun hlow hno => hcounted hlow ?_, fun hhigh => ⟨hfailed hhigh, ?_⟩⟩
    · rw [hmay, ← Bool.not_eq_true, State.mayReopen_iff]
      exact hno
    · obtain ⟨-, hdoors⟩ := s.linkMoved c
      exact State.doorReports_fails (by simpa [State.News, hdoors] using h) hnew' (by rw [hdoors]; exact hclose)
        (by rw [hdoors]; exact hreopen) (by rw [hdoors]; exact hhigh)

end Machine
end Sys2Proof
end

section
/-! PROOFS. CAR_FRAME_RECEIVED: release side, trips, holds, track brake and weighs, and the frames sent; CAR_FRAME settled. -/

namespace Sys2Proof
namespace Machine

variable {s : State} {c : Car} {r : CarReport} {i : Ix4}

/-! ### The conditions -/

theorem State.weighTests_conds (s : State) (c : Car) : ∃ x, (s.weighTests c).line.conds = { s.line.conds with excess := x } := by
  simp only [State.weighTests]
  split
  · exact ⟨_, rfl⟩
  · simp only [State.noticeIf_frame]
    split
    · exact ⟨_, by simp [Conditions.put]; rfl⟩
    · exact ⟨_, rfl⟩

theorem State.reading_conds (s : State) (c : Car) (kg : Nat) (b : Bool) :
    ∃ x, (s.reading c kg b).line.conds = { s.line.conds with excess := x } := by
  have harrive : ∀ u : State, (u.arrivalWeigh c (min kg 65000)).line = u.line := fun u => by
    simp only [State.arrivalWeigh]
    split <;> simp
  unfold State.reading
  dsimp only
  split
  · unfold State.departureWeigh
    dsimp only
    split
    · obtain ⟨x, hx⟩ := State.weighTests_conds _ c
      refine ⟨x, hx.trans ?_⟩
      simp
    · exact ⟨_, by rw [harrive]; rfl⟩
  · exact ⟨_, rfl⟩

theorem State.takeReports_closeFailed (s : State) (c : Car) (r : CarReport) :
    (s.takeReports c r).line.conds.closeFailed = (s.doorsTold c r).line.conds.closeFailed := by
  obtain ⟨-, -, -, -, -, hline⟩ := s.takeReports_rest c r
  obtain ⟨x, hx⟩ := (s.brakesTold c r).reading_conds c r.kg r.settled
  rw [hline, hx]
  unfold State.brakesTold State.trackBrakeReport
  split
  next b _ =>
    have htold : ((s.doorsTold c r).trackTold c b).line.conds.closeFailed = (s.doorsTold c r).line.conds.closeFailed := by
      simp [State.trackTold, State.trackCondition, Conditions.put]
    rw [State.trackReport_eq]
    split
    · obtain ⟨y, k, h⟩ := ((s.doorsTold c r).trackTold c b).raise_conds (.carTrackBrake c)
      rw [h, ← htold]
    · exact htold
  next => rfl

/-! ### The release side -/

theorem State.linkMoved_news (s : State) (c : Car) (q : Quad DoorState) (i : Ix4) :
    (s.moveLink c ((s.links.get c).valid s.now)).News c q i ↔ s.News c q i := by
  simp only [State.News, (s.linkMoved c).2]

theorem State.takeReports_returns (hnews : ∃ i, s.News c r.doors i)
    (hlock : ∀ i, ((s.takeReports c r).doors.door ⟨c, i⟩).release = false ∧
      ((s.takeReports c r).doors.door ⟨c, i⟩).interlocked = true) : (s.takeReports c r).doors.side.get c = none := by
  rw [State.takeReports_doors] at hlock ⊢
  obtain ⟨i, hi⟩ := hnews
  refine State.heard_returns Ix4.all_nodup ⟨i, Ix4.mem_all i, (s.linkMoved_news c r.doors i).2 hi⟩ ?_
  rw [Doors.carLocked_iff]
  rintro ⟨_, j⟩ rfl
  exact hlock j

theorem State.takeReports_side (h : ∀ i, s.News c r.doors i → r.doors.get i ≠ .locked) :
    (s.takeReports c r).doors.side.get c = s.doors.side.get c := by
  rw [State.takeReports_doors, ← (s.linkMoved c).2]
  exact congrArg (fun p : PerCar (Option Side) => p.get c)
    (State.heard_side Ix4.all_nodup (fun j _ hj => h j ((s.linkMoved_news c r.doors j).1 hj)))

theorem State.takeReports_other (s : State) (c : Car) (r : CarReport) :
    (s.takeReports c r).doors.recs.get c.other = s.doors.recs.get c.other ∧
      (s.takeReports c r).doors.side.get c.other = s.doors.side.get c.other := by
  rw [State.takeReports_doors, ← (s.linkMoved c).2]
  exact ⟨Quad.ext_get (fun j => State.heard_other (y := ⟨c.other, j⟩) _ c r.doors Ix4.all (Car.other_ne c)),
    State.heard_side_other _ c r.doors Ix4.all⟩

/-! ### What the doors leave of the run, the brakes and the trip record -/

/-- New reports that are all LOCKED leave them alone. -/
theorem State.doorsTold_calm (h : ∀ i, s.News c r.doors i → r.doors.get i = .locked) : s.ActedAlike (s.doorsTold c r) := by
  obtain ⟨ha, -⟩ := s.linkMoved c
  have hcalm := State.heard_calm Ix4.all_nodup (fun j _ hj => h j ((s.linkMoved_news c r.doors j).1 hj))
  exact ⟨hcalm.now.trans ha.now, hcalm.trk.trans ha.trk, hcalm.plan.trans ha.plan, hcalm.brk.trans ha.brk,
    hcalm.sup.trans ha.sup, hcalm.tally.trans ha.tally⟩

theorem State.doorsTold_unopened (h : ∀ i, s.News c r.doors i → r.doors.get i ≠ .opened) :
    (s.doorsTold c r).brk = s.brk ∧ (s.doorsTold c r).sup = s.sup := by
  obtain ⟨ha, -⟩ := s.linkMoved c
  obtain ⟨hbrk, hsup⟩ := State.heard_unopened Ix4.all_nodup (fun j _ hj => h j ((s.linkMoved_news c r.doors j).1 hj))
  exact ⟨hbrk.trans ha.brk, hsup.trans ha.sup⟩

theorem State.doorsTold_trk (s : State) (c : Car) (r : CarReport) : (s.doorsTold c r).trk = s.trk := by simp [State.doorsTold]

theorem State.doorsTold_escalated (s : State) (c : Car) (r : CarReport) :
    (s.doorsTold c r).brk.track = s.brk.track ∨ (s.doorsTold c r).Escalated := by
  rw [← (s.linkMoved c).1.brk]
  exact State.doorReports_escalated _ c r.doors

theorem State.doorsTold_moving (h : s.carsMovingSeen = true) : (s.doorsTold c r).carsMovingSeen = true := by
  obtain ⟨ha, -⟩ := s.linkMoved c
  refine State.doorReports_moving ?_
  rw [State.carsMovingSeen, State.runInMotion, ha.plan, ha.trk]
  exact h

/-! ### The track brake report -/

/-- The car's own application, as the frame finds it. -/
abbrev State.OwnApplied (s : State) (c : Car) (r : CarReport) : Prop :=
  r.track = some true ∧ (s.brk.track.get c).cmd = .hold ∧ s.carsMovingSeen = true

theorem State.brakesTold_of_none (h : r.track = none) : s.brakesTold c r = s.doorsTold c r := by
  rw [State.brakesTold, h]
  rfl

theorem State.brakesTold_of_some {b : Bool} (h : r.track = some b) : s.brakesTold c r = (s.doorsTold c r).trackReport c b := by
  rw [State.brakesTold, h]
  rfl

theorem State.ownApply_iff (s : State) (c : Car) (b : Bool) : s.ownApply c b = true ↔
    b = true ∧ (s.brk.track.get c).cmd = .hold ∧ s.carsMovingSeen = true := by
  simp [State.ownApply, and_assoc]

/-- A trip record keeps its cause under a track brake report, and dropped outputs stay so. -/
theorem State.brakesTold_keeps_trip (hd : (s.doorsTold c r).brk.dropped) {z : TripRec} (hz : (s.doorsTold c r).sup.trip = some z) :
    (s.brakesTold c r).brk.dropped ∧ ∃ z', (s.brakesTold c r).sup.trip = some z' ∧ z'.cause = z.cause := by
  cases h : r.track with
  | none =>
    rw [State.brakesTold_of_none h]
    exact ⟨hd, z, hz, rfl⟩
  | some b =>
    have hsup : ((s.doorsTold c r).trackTold c b).sup = (s.doorsTold c r).sup := by simp [State.trackTold, State.trackCondition]
    rw [State.brakesTold_of_some h, State.trackReport_eq]
    split
    · exact ⟨State.raise_dropped _ _, _, State.raise_trip_of_some (x := z) (by rw [hsup, hz]), (TripRec.same_escalateAll _ _).cause⟩
    · refine ⟨?_, z, by rw [hsup, hz], rfl⟩
      rw [State.trackTold_brk]
      exact hd

/-- A door found OPEN in motion (R135). -/
theorem State.takeReports_opened (hstill : s.stillCleared = true) (hnews : s.News c r.doors i) (hopen : r.doors.get i = .opened) :
    (s.takeReports c r).brk.dropped ∧ ∃ x, (s.takeReports c r).sup.trip = some x ∧
      (s.sup.trip = none → ∃ j, x.cause = .doorOpen ⟨c, j⟩ ∧ s.News c r.doors j ∧ r.doors.get j = .opened) := by
  obtain ⟨ha, -⟩ := s.linkMoved c
  obtain ⟨-, hbrk, hsup, -, -, -⟩ := s.takeReports_rest c r
  rw [hbrk, hsup]
  obtain ⟨hd, z, hz, hcause⟩ := State.heard_opened (c := c) (q := r.doors) (s := s.moveLink c ((s.links.get c).valid s.now))
    Ix4.all_nodup (by rw [State.stillCleared, ha.trk]; exact hstill)
    ⟨i, Ix4.mem_all i, (s.linkMoved_news c r.doors i).2 hnews, hopen⟩
  obtain ⟨hd', z', hz', hkept⟩ := State.brakesTold_keeps_trip (s := s) (c := c) (r := r) hd hz
  refine ⟨hd', z', hz', fun hnone => ?_⟩
  obtain ⟨j, -, hj, hjnews, hjopen⟩ := hcause (by rw [ha.sup, hnone])
  exact ⟨j, hkept.trans hj, (s.linkMoved_news c r.doors j).1 hjnews, hjopen⟩

/-- A door found not locked in motion, and none OPEN (R134). -/
theorem State.takeReports_holds {x : Run} (hunopened : ∀ j, s.News c r.doors j → r.doors.get j ≠ .opened)
    (hown : ¬s.OwnApplied c r) (hnews : s.News c r.doors i) (hlock : r.doors.get i ≠ .locked) (hx : s.plan.run = some x)
    (hst : x.state.moving = true) (hasap : x.stop.isAsap = false) :
    (s.takeReports c r).plan.run = some (x.held .door (mag s.trk.v) s.now) := by
  obtain ⟨ha, -⟩ := s.linkMoved c
  obtain ⟨-, -, -, hplan, -, -⟩ := s.takeReports_rest c r
  have hheld : (s.doorsTold c r).plan.run = some (x.held .door (mag s.trk.v) s.now) := by
    have hheard := State.heard_holds (s := s.moveLink c ((s.links.get c).valid s.now)) Ix4.all_nodup
      (fun j _ hj => hunopened j ((s.linkMoved_news c r.doors j).1 hj))
      ⟨i, Ix4.mem_all i, (s.linkMoved_news c r.doors i).2 hnews, hlock⟩ (by rw [ha.plan, hx]) hst hasap
    rw [ha.trk, ha.now] at hheard
    exact hheard
  rw [hplan, ← hheld]
  cases h : r.track with
  | none => rw [State.brakesTold_of_none h]
  | some b =>
    have hno : ¬(s.doorsTold c r).ownApply c b = true := by
      rw [State.ownApply_iff, (State.doorsTold_unopened hunopened).1]
      rintro ⟨rfl, hcmd, -⟩
      refine hown ⟨h, hcmd, ?_⟩
      cases hs : x.state <;> simp_all [State.carsMovingSeen, State.runInMotion, RunState.moving, RunState.inMotion]
    rw [State.brakesTold_of_some h, State.trackReport_eq, if_neg hno]
    simp [State.trackTold, State.trackCondition]

/-- Without a track brake state the track brakes stay, unless a door was found OPEN. -/
theorem State.takeReports_untracked (h : r.track = none) :
    (s.takeReports c r).brk.track = s.brk.track ∨ ∃ i, s.News c r.doors i ∧ r.doors.get i = .opened := by
  obtain ⟨-, hbrk, -, -, -, -⟩ := s.takeReports_rest c r
  by_cases hopen : ∃ i, s.News c r.doors i ∧ r.doors.get i = .opened
  · exact .inr hopen
  · rw [hbrk, State.brakesTold_of_none h, (State.doorsTold_unopened (fun j hj ho => hopen ⟨j, hj, ho⟩)).1]
    exact .inl rfl

/-- The track brake report is recorded (R100). -/
theorem State.takeReports_track {b : Bool} (h : r.track = some b) (hcalm : ∀ i, s.News c r.doors i → r.doors.get i = .locked)
    (hown : ¬s.OwnApplied c r) :
    (s.takeReports c r).brk.track = s.brk.track.set c ((s.brk.track.get c).report b) ∧
      (s.takeReports c r).sup.trip = s.sup.trip ∧
      (s.takeReports c r).line.conds.trackBrake = (s.takeReports c r).brk.trackAlarm := by
  have ha := State.doorsTold_calm hcalm
  obtain ⟨-, hbrk, hsup, -, -, hline⟩ := s.takeReports_rest c r
  have hno : ¬(s.doorsTold c r).ownApply c b = true := by
    rw [State.ownApply_iff, State.carsMovingSeen, State.runInMotion, ha.brk, ha.trk, ha.plan]
    rintro ⟨rfl, hcmd, hmoving⟩
    exact hown ⟨h, hcmd, hmoving⟩
  have htold : s.brakesTold c r = (s.doorsTold c r).trackTold c b := by
    rw [State.brakesTold_of_some h, State.trackReport_eq, if_neg hno]
  rw [hbrk, hsup, hline, htold]
  refine ⟨by rw [State.trackTold_brk, ha.brk], ?_, ?_⟩
  · have hkeep : ((s.doorsTold c r).trackTold c b).sup = (s.doorsTold c r).sup := by simp [State.trackTold, State.trackCondition]
    rw [hkeep, ha.sup]
  · obtain ⟨x, hx⟩ := ((s.doorsTold c r).trackTold c b).reading_conds c r.kg r.settled
    rw [hx]
    exact State.trackTold_condition _ _ _

/-- A car's own application in motion trips the line to the track brakes (R111). -/
theorem State.takeReports_own (h : s.OwnApplied c r) :
    (s.takeReports c r).brk.dropped ∧ (s.takeReports c r).brk.watch = none ∧
      (∀ j : Car, ((s.takeReports c r).brk.track.get j).cmd = .apply) ∧
      ∃ x, (s.takeReports c r).sup.trip = some x ∧ x.highest.isSome = true ∧
        (s.sup.trip = none → (∀ i, s.News c r.doors i → r.doors.get i = .locked) →
          x.cause = .carTrackBrake c ∧ x.track = true) := by
  obtain ⟨htrack, hcmd, hmoving⟩ := h
  obtain ⟨-, hbrk, hsup, -, -, -⟩ := s.takeReports_rest c r
  rw [hbrk, hsup, State.brakesTold_of_some htrack, State.trackReport_eq]
  have hkeep : ((s.doorsTold c r).trackTold c true).sup = (s.doorsTold c r).sup := by simp [State.trackTold, State.trackCondition]
  have hfound := ((s.doorsTold c r).trackTold c true).found_carTrackBrake c
  by_cases hown : (s.doorsTold c r).ownApply c true = true
  · rw [if_pos hown]
    obtain ⟨x, hx, -⟩ := ((s.doorsTold c r).trackTold c true).raise_trip (.carTrackBrake c)
    refine ⟨State.raise_dropped _ _, by rw [State.raise_watch, if_neg hfound], State.raise_cmd _ hfound, x, hx,
      State.raise_highest hfound hx, fun hnone hcalm => ?_⟩
    have hnew := State.raise_trip_of_none (s := (s.doorsTold c r).trackTold c true) (c := .carTrackBrake c)
      (by rw [hkeep, (State.doorsTold_calm hcalm).sup, hnone])
    obtain rfl := Option.some.inj (hx.symm.trans hnew)
    exact ⟨rfl, by simpa using hfound⟩
  · have hescalated : (s.doorsTold c r).Escalated := by
      refine (s.doorsTold_escalated c r).resolve_left (fun hsame => hown ?_)
      rw [State.ownApply_iff, hsame]
      exact ⟨rfl, hcmd, State.doorsTold_moving hmoving⟩
    rw [if_neg hown]
    obtain ⟨x, hx, hhigh⟩ := hescalated.highest
    refine ⟨?_, ?_, fun j => ?_, x, by rw [hkeep, hx], hhigh, fun _ hcalm => ?_⟩
    · rw [State.trackTold_brk]
      exact hescalated.dropped
    · rw [State.trackTold_brk]
      exact hescalated.watch
    · rw [State.trackTold_brk]
      dsimp only
      rw [PerCar.get_set]
      split
      · exact TrackRec.report_cmd_apply (hescalated.applied c) true
      · exact hescalated.applied j
    · have hcmd' := hescalated.applied c
      rw [(State.doorsTold_calm hcalm).brk, hcmd] at hcmd'
      exact absurd hcmd' (by decide)

/-! ### The weighs -/

/-- The record after a reading that is the departure weigh, and the arrival weigh in a fresh stop window (R165, R166, R169). -/
def Load.weighed (l : Load) (terminal : Bool) (kg tol : Nat) : Load :=
  ({ (l.arrived terminal kg).read kg true with departure := some kg } : Load).tested tol

theorem Load.arrived_eq (l : Load) (terminal : Bool) (kg : Nat) : l.arrived terminal kg = { l with
    arrival := (l.arrived terminal kg).arrival
    carryMass := (l.arrived terminal kg).carryMass
    carryPersons := (l.arrived terminal kg).carryPersons } := by
  unfold Load.arrived
  split <;> rfl

theorem Load.weighed_spec (l : Load) (terminal : Bool) (kg tol : Nat) : let w := l.weighed terminal kg tol
    w.departure = some kg ∧ w.admMass = l.admMass ∧ w.resMass = l.resMass ∧
      w.expected = (l.arrived terminal kg).expected ∧
      (w.excess = true ↔ l.excess = true ∨ w.carryMass + w.admMass + w.resMass + tol < kg) ∧
      (w.short = true ↔ l.short = true ∨ kg + tol < w.admMass) := by
  intro w
  have hexpected : (l.arrived terminal kg).expected = (l.arrived terminal kg).carryMass + l.admMass + l.resMass := by
    rw [Load.expected, Load.arrived_eq]
  have hold : (l.arrived terminal kg).excess = l.excess ∧ (l.arrived terminal kg).short = l.short := by
    rw [Load.arrived_eq]
    exact ⟨rfl, rfl⟩
  have hmasses : (l.arrived terminal kg).admMass = l.admMass ∧ (l.arrived terminal kg).resMass = l.resMass := by
    rw [Load.arrived_eq]
    exact ⟨rfl, rfl⟩
  refine ⟨rfl, hmasses.1, hmasses.2, rfl, ?_, ?_⟩
  · simp [w, Load.weighed, Load.tested, Load.read, Load.expected, hold]
  · simp [w, Load.weighed, Load.tested, Load.read, hold]

theorem Load.weighed_arrival {l : Load} (hwindow : l.window.isSome = true) (hreleased : l.released = false)
    (harrival : l.arrival = none) (terminal : Bool) (kg tol : Nat) : (l.weighed terminal kg tol).arrival = some kg ∧
      (terminal = true → (l.weighed terminal kg tol).carryMass = l.carryMass) ∧
      (terminal = false → (l.weighed terminal kg tol).carryMass = kg ∧
        (l.weighed terminal kg tol).carryPersons = (kg + 74) / 75) := by
  have harrived : l.arrived terminal kg = { l with
      arrival := some kg, carryMass := if terminal then l.carryMass else kg,
      carryPersons := if terminal then l.carryPersons else massPersons kg } :=
    if_pos (by simp [hwindow, hreleased, harrival])
  simp only [Load.weighed, Load.tested, Load.read, harrived]
  refine ⟨trivial, fun h => if_pos h, fun h => ⟨if_neg (by simp [h]), (if_neg (by simp [h])).trans ?_⟩⟩
  rfl

/-- A settled reading at standstill behind locked doors is the departure weigh. -/
theorem State.takeReports_weighed (hown : ¬s.OwnApplied c r) (hsettled : r.settled = true) (hstill : s.trk.still = true)
    (hfrozen : (s.tally.get c).frozen = none) (hdep : (s.tally.get c).departure = none)
    (hlock : ∀ i : Ix4, (s.doors.door ⟨c, i⟩).isolated = true ∨ r.doors.get i = .locked) :
    (s.takeReports c r).tally.get c = (s.tally.get c).weighed (s.windowTerminal c) (min r.kg 65000) s.geo.tolerance ∧
      ((s.tally.get c).excess = false →
        ((s.tally.get c).arrived (s.windowTerminal c) (min r.kg 65000)).expected + s.geo.tolerance < min r.kg 65000 →
        (s.takeReports c r).line.conds.excess.get c = true) := by
  have hcalm : ∀ i, s.News c r.doors i → r.doors.get i = .locked := fun i hi =>
    (hlock i).resolve_left (by simp [hi.1])
  have ha := State.doorsTold_calm hcalm
  obtain ⟨-, -, -, -, htally, hline⟩ := s.takeReports_rest c r
  have hdoors := s.brakesTold_doors c r
  have hsame : (s.brakesTold c r).tally = s.tally ∧ (s.brakesTold c r).trk = s.trk ∧ (s.brakesTold c r).geo = s.geo := by
    cases htrack : r.track with
    | none =>
      rw [State.brakesTold_of_none htrack]
      exact ⟨ha.tally, ha.trk, by simp [State.doorsTold]⟩
    | some b =>
      have hno : ¬(s.doorsTold c r).ownApply c b = true := by
        rw [State.ownApply_iff, State.carsMovingSeen, State.runInMotion, ha.brk, ha.trk, ha.plan]
        rintro ⟨rfl, hcmd, hmoving⟩
        exact hown ⟨htrack, hcmd, hmoving⟩
      rw [State.brakesTold_of_some htrack, State.trackReport_eq, if_neg hno, ← ha.tally, ← ha.trk]
      refine ⟨?_, ?_, ?_⟩
      all_goals simp [State.trackTold, State.trackCondition, State.doorsTold]
  obtain ⟨htally', htrk', hgeo'⟩ := hsame
  have hmay : (s.brakesTold c r).mayWeigh c = true := by
    have hlocked : (s.brakesTold c r).doors.carReportedLocked c = true := by
      have hall : ∀ i, ((s.doorsTold c r).doors.door ⟨c, i⟩).interlocked = true := fun i => by
        obtain ⟨again, hdoor, -⟩ := s.doorsTold_door c r i
        rw [hdoor, DoorRec.interlocked, DoorRec.told_isolated, DoorRec.told_reported]
        simpa using hlock i
      rw [hdoors]
      simp only [Doors.carReportedLocked, Quad.toList, List.all_cons, List.all_nil, Bool.and_true, Bool.and_eq_true]
      exact ⟨hall .i1, hall .i2, hall .i3, hall .i4⟩
    simp [State.mayWeigh, htrk', hstill, htally', hfrozen, hlocked]
  have hterm : (s.brakesTold c r).windowTerminal c = s.windowTerminal c := by
    unfold State.windowTerminal
    rw [htally', hgeo']
  obtain ⟨hload, hcond⟩ := State.reading_weighed (kg := r.kg) hmay (by rw [htally', hdep])
  rw [htally', hterm, hgeo'] at hload hcond
  rw [htally, hline, hsettled]
  exact ⟨hload, hcond⟩

end Machine
end Sys2Proof
end

section
/-! PROOFS. CAR_FRAME_SEND, and CAR_FRAME settled. -/

namespace Sys2Proof
namespace Machine

variable {s : State} {c : Car} {r : CarReport}

theorem pushSent_eq (x : Byte) (l : List Byte) : pushSent x l = (if l.length < 4 then l else l.tail) ++ [x] := by
  rw [pushSent, List.drop_one]

/-- The frame and the link of a car after CAR_FRAME_SEND. -/
def State.sentLink (s : State) (c : Car) : CarLink := (s.links.get c).sending (s.frameFor c)

theorem State.sendFrames_eq (s : State) :
    (s.sendFrame .A).sendFrame .B = { s with links := ⟨s.sentLink .A, s.sentLink .B⟩ } := rfl

theorem State.movingFlag_iff (s : State) : s.movingFlag = true ↔ s.brk.ten = true ∨ s.trk.still = false := by
  simp [State.movingFlag]

/-- What CAR_FRAME_SEND sends, byte by byte (R189). -/
theorem State.sentLink_eq (s : State) (c : Car) :
    let l := s.links.get c
    let bit := fun (b : Bool) (n : Nat) => if b then n else 0
    let d := fun i : Ix4 => (s.doors.door ⟨c, i⟩).release
    let mask := bit (d .i1) 1 + bit (d .i2) 2 + bit (d .i3) 4 + bit (d .i4) 8
    let side : Nat := match s.doors.side.get c with
      | none => 0
      | some .left => 1
      | some .right => 2
      | some .both => 3
    let cmd : Nat := match (s.brk.track.get c).cmd with
      | .hold => 0
      | .apply => 1
      | .release => 2
    s.sentLink c = { l with
      nextSeq := l.nextSeq + 1
      sent := (if l.sent.length < 4 then l.sent else l.sent.tail) ++ [l.nextSeq]
      lastFrame := frame 0x5A#8 [0x01#8, l.nextSeq, BitVec.ofNat 8 mask, BitVec.ofNat 8 side, BitVec.ofNat 8 cmd,
        if s.brk.ten = true ∨ s.trk.still = false then 1 else 0] } := by
  intro l bit d mask side cmd
  have hside : sideCode (s.doors.side.get c) = side := by
    simp only [side]
    cases s.doors.side.get c with
    | none => rfl
    | some x => cases x <;> rfl
  have hcmd : (s.brk.track.get c).cmd.code = cmd := by
    simp only [cmd]
    cases (s.brk.track.get c).cmd <;> rfl
  have hmoving : (if s.movingFlag then 1 else 0 : Byte) = if s.brk.ten = true ∨ s.trk.still = false then 1 else 0 :=
    if_congr s.movingFlag_iff rfl rfl
  rw [State.sentLink, CarLink.sending, pushSent_eq, State.frameFor, carFrame, hside, hcmd, hmoving]
  rfl

theorem CarLink.judge_eq_some {l : CarLink} {bytes : List Byte} (hr : readCarFrame bytes = some r) (hecho : r.echo ∈ l.sent) :
    l.judge bytes = some r := by
  rw [CarLink.judge, hr]
  exact if_pos (by simpa using hecho)

theorem CarLink.judge_eq_none {l : CarLink} {bytes : List Byte} (h : ∀ r, readCarFrame bytes = some r → r.echo ∉ l.sent) :
    l.judge bytes = none := by
  unfold CarLink.judge
  split
  next r hr => exact if_neg (by simpa using h r hr)
  next => rfl

/-- The frame of a car that is not valid counts, and moves nothing else (R190). -/
theorem State.carFrame_invalid {bytes : List Byte} (h : ∀ r, readCarFrame bytes = some r → r.echo ∉ (s.links.get c).sent) :
    s.carFrameArrives c bytes = { s with links := s.links.set c { s.links.get c with
      invalid := if (s.links.get c).invalid < 255 then (s.links.get c).invalid + 1 else 255
      streak := if (s.links.get c).state = LinkState.live then (s.links.get c).streak else 0 } } := by
  rw [State.carFrameArrives, CarLink.judge_eq_none h]
  rfl

theorem State.carFrame_valid {bytes : List Byte} (hr : readCarFrame bytes = some r) (hecho : r.echo ∈ (s.links.get c).sent) :
    s.carFrameArrives c bytes = s.takeReports c r := by
  rw [State.carFrameArrives, CarLink.judge_eq_some hr hecho]

theorem State.takeReports_reading (s : State) (c : Car) (r : CarReport) :
    ((s.takeReports c r).tally.get c).reading = some (min r.kg 65000, r.settled) := by
  obtain ⟨-, -, -, -, htally, -⟩ := s.takeReports_rest c r
  rw [htally]
  exact State.reading_reading _ c r.kg r.settled

theorem State.takeReports_same (s : State) (c : Car) (r : CarReport) :
    (s.takeReports c r).geo = s.geo ∧ (s.takeReports c r).trk = s.trk ∧ (s.takeReports c r).ctl = s.ctl := by simp

/-- The record of a track brake after a report, as R100 tabulates it. -/
theorem TrackRec.report_eq (k : TrackRec) (b : Bool) :
    let seen : BrakeState := if b = true then .applied else .released
    let seenNot : BrakeState := if b = true then .released else .applied
    k.report b = (match k.cmd, b with
      | .hold, _ => { k with state := some seen }
      | .apply, true => { k with state := some .applied, timer := none }
      | .release, false => ⟨.hold, some .released, none⟩
      | .apply, false => { k with
          state := if k.state = some seenNot then some .failed else k.state.or (some seen) }
      | .release, true => { k with
          state := if k.state = some seenNot then some .failed else k.state.or (some seen) }) := by
  obtain ⟨cmd, state, timer⟩ := k
  cases cmd with
  | hold => cases b <;> rfl
  | apply =>
    cases b with
    | true => rfl
    | false =>
      simp only [TrackRec.report]
      split <;> simp_all
  | release =>
    cases b with
    | true =>
      simp only [TrackRec.report]
      split <;> simp_all
    | false => rfl

end Machine

open Machine

/-- Settles O59, the reports of a frame taken one after the other. -/
theorem carFramesAreTaken : Obligations.CarFramesAreTaken := by
  unfold Obligations.CarFramesAreTaken
  refine ⟨fun dt s => ?_, fun dt c bytes s => ?_⟩
  · intro send
    have hA := (s.advance dt).sentLink_eq .A
    have hB := (s.advance dt).sentLink_eq .B
    have hsend : effect (.carFrameSend dt) s = { s.advance dt with links := ⟨send .A, send .B⟩ } :=
      ((s.advance dt).sendFrames_eq).trans (by rw [hA, hB]; rfl)
    exact exec_ended_of_eq hsend
  · intro l
    refine ⟨fun h => exec_ended_of_eq (State.carFrame_invalid (s := s.advance dt) h), fun r hr hecho => ?_⟩
    intro changed own
    have heff : effect (.carFrameReceived dt c bytes) s = (s.advance dt).takeReports c r :=
      State.carFrame_valid (s := s.advance dt) hr hecho
    obtain ⟨hlink, hlinks⟩ := (s.advance dt).takeReports_links c r
    obtain ⟨hrecs, hside⟩ := (s.advance dt).takeReports_other c r
    have hdoor := (s.advance dt).takeReports_door c r
    refine ⟨_, exec_transmit_of_eq heff, hlink, hlinks, fun i => ?_, hrecs, hside, fun i => ?_, ?_⟩
    · obtain ⟨again, htold, -⟩ := (s.advance dt).doorsTold_door c r i
      have hrep : (((s.advance dt).takeReports c r).doors.door ⟨c, i⟩).reported = r.doors.get i := by
        rw [State.takeReports_doors, htold, DoorRec.told_reported]
      exact hrep
    · obtain ⟨hsame, hlocked, hplain, hobstructed⟩ := hdoor i
      refine ⟨hsame, hlocked, hplain, fun h hnew hun hrel hclose hreopen => ?_⟩
      obtain ⟨hagain, hnot, hfails⟩ := hobstructed h hnew hun hrel hclose hreopen
      refine ⟨hagain, hnot, fun hhigh => ?_⟩
      obtain ⟨hrec, hcond⟩ := hfails hhigh
      exact ⟨hrec, ((s.advance dt).takeReports_closeFailed c r).trans hcond⟩
    · refine ⟨fun ⟨i, hi, _⟩ hlock => State.takeReports_returns ⟨i, hi⟩ hlock, fun h => State.takeReports_side h,
        fun i hseen hstill hi hopen => State.takeReports_opened (by simp [State.stillCleared, hseen, hstill]) hi hopen,
        fun i x hun hown hi hlock hx hst hasap =>
          ⟨_, State.takeReports_holds hun hown hi hlock hx hst hasap, rfl, rfl, rfl⟩,
        fun h => State.takeReports_untracked h, fun b hb hcalm hown => ?_, fun hown => State.takeReports_own hown,
        (s.advance dt).takeReports_reading c r, fun hown hsettled hstill hfrozen hdep hlock => ?_, (s.advance dt).takeReports_same c r⟩
      · intro k seen seenNot
        obtain ⟨htrack, htrip, hcond⟩ := State.takeReports_track (s := s.advance dt) hb hcalm hown
        have hown' : ((s.advance dt).takeReports c r).brk.track.get c = k.report b := by
          rw [htrack, PerCar.get_set, if_pos rfl]
          rfl
        have hother : ((s.advance dt).takeReports c r).brk.track.get c.other = s.brk.track.get c.other := by
          rw [htrack, PerCar.get_set, if_neg (Car.other_ne c)]
          rfl
        exact ⟨hown'.trans (k.report_eq b), hother, htrip,
          (Bool.eq_iff_iff.1 hcond).trans (Brakes.trackAlarm_iff _)⟩
      · obtain ⟨hload, hcond⟩ := State.takeReports_weighed (s := s.advance dt) hown hsettled hstill hfrozen hdep hlock
        obtain ⟨hdep', hadm, hres, hexpected, hexcess, hshort⟩ := ((s.advance dt).tally.get c).weighed_spec
          ((s.advance dt).windowTerminal c) (min r.kg 65000) (s.advance dt).geo.tolerance
        rw [← hload] at hdep' hadm hres hexpected hexcess hshort
        refine ⟨hdep', ⟨hadm, hres, hexcess, hshort, fun hover hbefore => hcond hbefore ?_⟩,
          fun hwindow hreleased harrival => ?_⟩
        · rw [← hexpected]
          exact hover
        · have harrived := Load.weighed_arrival hwindow hreleased harrival
            ((s.advance dt).windowTerminal c) (min r.kg 65000) s.geo.tolerance
          exact hload ▸ harrived

end Sys2Proof
end

section
/-! PROOFS. A validation that fails: at which table, and by which check. -/

namespace Sys2Proof
namespace Machine

variable {g : Geometry} {k : Nat} {α β : Type} {f : Failure}

/-! ### Where a table is taken from -/

/-- A table is neither PARTIAL nor missing. -/
def Geometry.Held (g : Geometry) (k : Nat) : Prop := ¬g.Partial k ∧ ¬g.Missing k

/-- The source of a table is what the staging counts and the committed copy say. -/
def Source_.Stands (x : Source_ α) (g : Geometry) (k : Nat) : Prop :=
  match x with
  | .incomplete => g.Partial k ∧ ¬g.Missing k
  | .missing => g.Missing k ∧ ¬g.Partial k
  | .held _ => g.Held k

theorem Source_.Stands.held {x : Source_ α} (h : x.Stands g k) {a : α} (hx : x = .held a) : g.Held k := by
  subst hx
  exact h

theorem Geometry.partial_iff {staged : Option (Nat × Nat)} (hk : g.staging.counts[k]? = some staged) :
    g.Partial k ↔ ∃ x, staged = some x ∧ x.2 ≠ x.1 := by
  unfold Geometry.Partial
  rw [hk]
  constructor
  · rintro ⟨d, n, h, hne⟩
    exact ⟨(d, n), Option.some.inj h, hne⟩
  · rintro ⟨x, rfl, hne⟩
    exact ⟨x.1, x.2, rfl, hne⟩

theorem Geometry.missing_iff {staged : Option (Nat × Nat)} (hk : g.staging.counts[k]? = some staged) :
    g.Missing k ↔ staged = none ∧ g.committed = none ∧ k ≠ 1 ∧ k ≠ 4 ∧ k ≠ 7 := by
  unfold Geometry.Missing
  rw [hk, Option.some_inj]

/-- A part staged stands for the table: PARTIAL where it is not complete. -/
theorem Geometry.staged_stands {declared received : Nat} (hk : g.staging.counts[k]? = some (some (declared, received))) :
    (received = declared → g.Held k) ∧ (received ≠ declared → g.Partial k ∧ ¬g.Missing k) := by
  have hmissing : ¬g.Missing k := fun h => by simpa using ((Geometry.missing_iff hk).1 h).1
  refine ⟨fun heq => ⟨fun h => ?_, hmissing⟩, fun hne => ⟨(Geometry.partial_iff hk).2 ⟨_, rfl, hne⟩, hmissing⟩⟩
  obtain ⟨x, hx, hne⟩ := (Geometry.partial_iff hk).1 h
  exact hne ((Option.some.inj hx) ▸ heq)

theorem Geometry.unstaged_not_partial (hk : g.staging.counts[k]? = some none) : ¬g.Partial k := fun h => by
  obtain ⟨x, hx, -⟩ := (Geometry.partial_iff hk).1 h
  exact absurd hx (by simp)

theorem pick_stands (staged : Option (Part α)) (sel : Tables → List α) (mayBeEmpty : Bool)
    (hk : g.staging.counts[k]? = some (staged.map (fun p => (p.declared, p.entries.length))))
    (hreq : mayBeEmpty = true ↔ ¬(k ≠ 1 ∧ k ≠ 4 ∧ k ≠ 7)) :
    (pick staged (g.committed.map sel) mayBeEmpty).Stands g k := by
  cases staged with
  | some p =>
    obtain ⟨heq, hne⟩ := Geometry.staged_stands hk
    cases hc : p.complete with
    | true =>
      have hx : pick (some p) (g.committed.map sel) mayBeEmpty = .held p.entries := if_pos hc
      rw [hx]
      exact heq (by simpa [Part.complete] using hc)
    | false =>
      have hx : pick (some p) (g.committed.map sel) mayBeEmpty = .incomplete := if_neg (by simp [hc])
      rw [hx]
      exact hne (by simpa [Part.complete] using hc)
  | none =>
    have hpart := Geometry.unstaged_not_partial hk
    have hmissing := Geometry.missing_iff hk
    cases hcom : g.committed with
    | some t => exact ⟨hpart, fun h => by simpa [hcom] using (hmissing.1 h).2.1⟩
    | none =>
      cases mayBeEmpty with
      | true => exact ⟨hpart, fun h => hreq.1 rfl (hmissing.1 h).2.2⟩
      | false => exact ⟨hmissing.2 ⟨rfl, hcom, by_contra fun h => Bool.false_ne_true (hreq.2 h)⟩, hpart⟩

theorem pickSegments_stands (g : Geometry) : (pickSegments g).Stands g 0 := by
  unfold pickSegments
  cases hseg : g.staging.segments with
  | some p =>
    have hk : g.staging.counts[0]? = some (some (p.part.declared, p.part.entries.length)) := by simp [Staging.counts, hseg]
    obtain ⟨heq, hne⟩ := Geometry.staged_stands hk
    dsimp only
    split
    next hc => exact heq (by simpa [Part.complete] using hc)
    next hc => exact hne (by simpa [Part.complete] using hc)
  | none =>
    have hk : g.staging.counts[0]? = some none := by simp [Staging.counts, hseg]
    have hpart := Geometry.unstaged_not_partial hk
    have hmissing := Geometry.missing_iff hk
    cases hcom : g.committed with
    | some t => exact ⟨hpart, fun h => by simpa [hcom] using (hmissing.1 h).2.1⟩
    | none => exact ⟨hmissing.2 ⟨rfl, hcom, by decide⟩, hpart⟩

/-! ### Checks fail with a check of their own -/

/-- A check that is neither that of a PARTIAL nor that of a missing table. -/
abbrev Check.OfEntries (c : Check) : Prop := c ≠ .incomplete ∧ c ≠ .missing

/-- A failure of the checks of a table. -/
def Failure.OfChecks (f : Failure) (k : Nat) : Prop := f.table = k ∧ f.check.OfEntries

theorem firstCheck_ofEntries {c : Check} : ∀ {xs : List (Bool × Check)}, (∀ x ∈ xs, x.2.OfEntries) →
    firstCheck xs = some c → c.OfEntries
  | [], _, h => absurd h (by simp [firstCheck])
  | (true, d) :: xs, hall, h => firstCheck_ofEntries (fun x hx => hall x (List.mem_cons_of_mem _ hx)) h
  | (false, d) :: xs, hall, h => Option.some.inj h ▸ hall _ List.mem_cons_self

theorem checkEntries_ofChecks {h : List α → α → Option Check} (hall : ∀ earlier e c, h earlier e = some c → c.OfEntries) :
    ∀ {es earlier : List α}, checkEntries k h earlier es = some f → f.OfChecks k
  | [], _, hf => absurd hf (by simp [checkEntries])
  | e :: es, earlier, hf => by
    unfold checkEntries at hf
    split at hf
    next c hc => exact Option.some.inj hf ▸ ⟨rfl, hall _ _ _ hc⟩
    next => exact checkEntries_ofChecks hall hf

theorem checkCount_ofChecks {lo hi n : Nat} (h : checkCount k lo hi n = some f) : f.OfChecks k := by
  unfold checkCount at h
  split at h
  · exact absurd h (by simp)
  · exact Option.some.inj h ▸ ⟨rfl, nofun, nofun⟩

theorem or_ofChecks {a b : Option Failure} (ha : ∀ f, a = some f → f.OfChecks k) (hb : ∀ f, b = some f → f.OfChecks k)
    (h : a.or b = some f) : f.OfChecks k := by
  rcases Option.or_eq_some_iff.1 h with h | ⟨-, h⟩
  · exact ha f h
  · exact hb f h

theorem checkSegments_ofChecks {x : LineRecord × List Segment} (h : checkSegments x = some f) : f.OfChecks 0 := by
  unfold checkSegments at h
  split at h
  next c hc => exact Option.some.inj h ▸ ⟨rfl, firstCheck_ofEntries (by simp [Check.OfEntries]) hc⟩
  next =>
    exact or_ofChecks (fun _ => checkCount_ofChecks)
      (fun _ => checkEntries_ofChecks (fun _ _ _ hc => firstCheck_ofEntries (by simp [Check.OfEntries]) hc)) h

theorem checkHalts_ofChecks {length : Int} {ps : List Station} {hs : List Halt} (h : checkHalts length ps hs = some f) :
    f.OfChecks 3 := by
  unfold checkHalts at h
  refine or_ofChecks (fun _ => or_ofChecks (fun _ => checkCount_ofChecks)
    (fun _ => checkEntries_ofChecks (fun _ _ _ hc => firstCheck_ofEntries (by simp [Check.OfEntries]) hc))) (fun f hf => ?_) h
  split at hf
  · exact absurd hf (by simp)
  · exact Option.some.inj hf ▸ ⟨rfl, by decide⟩

/-! ### The stages of a validation that fails -/

/-- What R4 says of a validation that fails: a PARTIAL or missing table ends it at its place, without an entry. -/
structure Failure.Fits (f : Failure) (g : Geometry) : Prop where
  incomplete : f.check = .incomplete ↔ g.Partial f.table
  missing : f.check = .missing ↔ g.Missing f.table
  entry : f.check = .incomplete ∨ f.check = .missing → f.entry = none
  before : ∀ k, k < f.table → g.Held k

theorem Failure.OfChecks.fits (hf : f.OfChecks k) (hheld : ∀ j, j ≤ k → g.Held j) : f.Fits g := by
  obtain ⟨rfl, hinc, hmis⟩ := hf
  obtain ⟨hpart, hmissing⟩ := hheld _ le_rfl
  exact ⟨iff_of_false hinc hpart, iff_of_false hmis hmissing, fun h => (h.elim hinc hmis).elim, fun j hj => hheld j hj.le⟩

/-- One table of a validation that fails: its source, its checks, or what comes after it. -/
theorem stage_fits {x : Source_ α} {check : α → Option Failure} {rest : α → Except Failure β} (hx : x.Stands g k)
    (hbefore : ∀ j, j < k → g.Held j) (hcheck : ∀ a f, check a = some f → f.OfChecks k)
    (hrest : ∀ a, (∀ j, j < k + 1 → g.Held j) → rest a = .error f → f.Fits g)
    (h : (x.open k >>= fun a => failIf (check a) >>= fun _ => rest a) = .error f) : f.Fits g := by
  cases x with
  | incomplete =>
    obtain ⟨hpart, hmissing⟩ := hx
    obtain rfl := Except.error.inj h
    exact ⟨iff_of_true rfl hpart, iff_of_false nofun hmissing, fun _ => rfl, hbefore⟩
  | missing =>
    obtain ⟨hmissing, hpart⟩ := hx
    obtain rfl := Except.error.inj h
    exact ⟨iff_of_false nofun hpart, iff_of_true rfl hmissing, fun _ => rfl, hbefore⟩
  | held a =>
    have hheld : ∀ j, j < k + 1 → g.Held j := fun j hj => (Nat.lt_succ_iff_lt_or_eq.1 hj).elim (hbefore j) (fun he => he ▸ hx)
    cases hc : check a with
    | some f' =>
      have hf : (failIf (some f') >>= fun _ => rest a) = .error f := hc ▸ h
      obtain rfl := Except.error.inj hf
      exact (hcheck a _ hc).fits (fun j hj => hheld j (Nat.lt_succ_of_le hj))
    | none =>
      have hf : (failIf none >>= fun _ => rest a) = .error f := hc ▸ h
      exact hrest a hheld hf

theorem fits_of_validate (h : validate g = .error f) : f.Fits g := by
  refine stage_fits (pickSegments_stands g) (by simp) (fun _ _ => checkSegments_ofChecks) (fun seg h0 h => ?_) h
  refine stage_fits (pick_stands g.staging.zones (fun t => t.zones) true rfl (by decide)) h0
    (fun _ _ => checkEntries_ofChecks (fun _ _ _ hc => firstCheck_ofEntries (by simp [Check.OfEntries]) hc)) (fun zones h1 h => ?_) h
  refine stage_fits (pick_stands g.staging.stations (fun t => t.stations) false rfl (by decide)) h1
    (fun _ _ => or_ofChecks (fun _ => checkCount_ofChecks)
      (fun _ => checkEntries_ofChecks (fun _ _ _ hc => firstCheck_ofEntries (by simp [Check.OfEntries]) hc))) (fun ps h2 h => ?_) h
  refine stage_fits (pick_stands g.staging.halts (fun t => t.halts) false rfl (by decide)) h2
    (fun _ _ => checkHalts_ofChecks) (fun hs h3 h => ?_) h
  refine stage_fits (pick_stands g.staging.markers (fun t => t.markers) true rfl (by decide)) h3
    (fun _ _ => checkEntries_ofChecks (fun _ _ _ hc => firstCheck_ofEntries (by simp [Check.OfEntries]) hc)) (fun ms h4 h => ?_) h
  refine stage_fits (pick_stands g.staging.cars (fun t => [t.cars.a, t.cars.b]) false rfl (by decide)) h4
    (fun _ _ => or_ofChecks (fun _ => checkCount_ofChecks)
      (fun _ => checkEntries_ofChecks (fun _ _ _ hc => firstCheck_ofEntries (by simp [Check.OfEntries]) hc))) (fun cars h5 h => ?_) h
  refine stage_fits (pick_stands g.staging.braking (fun t => [t.braking]) false rfl (by decide)) h5
    (fun _ _ => or_ofChecks (fun _ => checkCount_ofChecks)
      (fun _ => checkEntries_ofChecks (fun _ _ _ hc => firstCheck_ofEntries (by simp [Check.OfEntries]) hc))) (fun brakes h6 h => ?_) h
  refine stage_fits (pick_stands g.staging.gates (fun t => t.gates) true rfl (by decide)) h6
    (fun _ _ => checkEntries_ofChecks (fun _ _ _ hc => firstCheck_ofEntries (by simp [Check.OfEntries]) hc)) (fun gates h7 h => ?_) h
  have hfive : ∀ j, j ≤ 5 → g.Held j := fun j hj => h7 j (by omega)
  split at h
  · exact absurd h (by simp)
  · exact Except.error.inj h ▸ Failure.OfChecks.fits (k := 5) ⟨rfl, by decide⟩ hfive

/-- A validation that passes found every table. -/
theorem held_of_validate {t : Tables} (h : validate g = .ok t) (k : Nat) : g.Held k := by
  have hp := passes_of_validate h
  match k with
  | 0 => exact (pickSegments_stands g).held hp.segments.1
  | 1 => exact (pick_stands (k := 1) g.staging.zones (fun t => t.zones) true rfl (by decide)).held hp.zones.1
  | 2 => exact (pick_stands (k := 2) g.staging.stations (fun t => t.stations) false rfl (by decide)).held hp.stations.1
  | 3 => exact (pick_stands (k := 3) g.staging.halts (fun t => t.halts) false rfl (by decide)).held hp.halts.1
  | 4 => exact (pick_stands (k := 4) g.staging.markers (fun t => t.markers) true rfl (by decide)).held hp.markers.1
  | 5 => exact (pick_stands (k := 5) g.staging.cars (fun t => [t.cars.a, t.cars.b]) false rfl (by decide)).held hp.cars.1
  | 6 => exact (pick_stands (k := 6) g.staging.braking (fun t => [t.braking]) false rfl (by decide)).held hp.braking.1
  | 7 => exact (pick_stands (k := 7) g.staging.gates (fun t => t.gates) true rfl (by decide)).held hp.gates.1
  | k + 8 =>
    have hk : g.staging.counts[k + 8]? = none := by simp [Staging.counts]
    refine ⟨fun ⟨d, n, h, _⟩ => ?_, fun ⟨h, _⟩ => ?_⟩
    · rw [hk] at h
      exact absurd h (by simp)
    · rw [hk] at h
      exact absurd h (by simp)

end Machine
end Sys2Proof
end

section
/-! PROOFS. COMMIT_GEOMETRY settled: its refusals, and what a commit replaces. -/

namespace Sys2Proof
namespace Machine

variable {s : State}

/-! ### The refusals -/

theorem State.commitGeometry_mode (h : ¬s.configurable) : s.commitGeometry = (s, ⟨.mode, []⟩) :=
  if_neg (fun hc => h (s.configurable_iff.2 hc))

theorem State.commitGeometry_refused (h : s.configurable) {x : Reason} (hx : s.commitRefusal = some x) :
    s.commitGeometry = (s, .reason x) := by
  rw [State.commitGeometry, if_pos (s.configurable_iff.1 h), hx]

theorem State.commitRefusal_eq_none (h : s.line.mode = .locked → s.plan.run = none ∧ s.trk.still = true ∧ s.gates.shut = true) :
    s.commitRefusal = none := by
  unfold State.commitRefusal
  split
  next hmode =>
    obtain ⟨hrun, hstill, hshut⟩ := h hmode
    simp [hrun, hstill, hshut]
  next => rfl

theorem State.commitGeometry_failed (hc : s.configurable) (h : s.commitRefusal = none) {f : Failure}
    (hf : validate s.geo = .error f) : s.commitGeometry = (s, f.reply) := by
  rw [State.commitGeometry, if_pos (s.configurable_iff.1 hc), h, hf]

theorem State.commitGeometry_passed (hc : s.configurable) (h : s.commitRefusal = none) {tb : Tables}
    (ht : validate s.geo = .ok tb) : s.commitGeometry = (s.commit tb, .done (stationList tb.noRelease)) := by
  rw [State.commitGeometry, if_pos (s.configurable_iff.1 hc), h, ht]

theorem Gates.shut_iff (g : Gates) : g.shut = true ↔ ¬∃ x ∈ g.gates, x.state = .opened ∨ x.state = .passing := by
  simp [Gates.shut, Gate.openOrPassing]

/-! ### The position -/

theorem State.commitPosition_trk (s : State) :
    s.commitPosition.trk = { s.trk.commit s.geo.length with conf := .unknown } := by
  rw [State.commitPosition_eq]
  split
  next h =>
    rw [← h]
    simp
    rfl
  next h =>
    have hne : (s.trk.commit s.geo.length).conf ≠ .unknown := h
    simp [State.setConf_trk, hne]
    rfl

theorem State.commitPosition_plan (s : State) : s.commitPosition.plan = s.plan := by
  rw [State.commitPosition_eq]
  split <;> simp [State.setConf_plan]

theorem State.commitPosition_elsewhere (s : State) : s.commitPosition.sup = s.sup ∧ s.commitPosition.brk = s.brk ∧
    s.commitPosition.tally = s.tally ∧ s.commitPosition.drive = s.drive := by
  rw [State.commitPosition_eq]
  split <;> simp

/-! ### The gate records -/

/-- What beginning a transaction changes of a gate's record. -/
def Gate.SentAlike (x y : Gate) : Prop := y = { x with outbox := y.outbox, retries := y.retries }

theorem Gate.SentAlike.fields {x y : Gate} (h : x.SentAlike y) : y.address = x.address ∧ y.station = x.station ∧
    y.compartment = x.compartment ∧ y.enabled = x.enabled ∧ y.leaf = x.leaf ∧ y.scale = x.scale ∧ y.verify = x.verify ∧
    y.state = x.state :=
  ⟨(congrArg Gate.address h :), (congrArg Gate.station h :), (congrArg Gate.compartment h :), (congrArg Gate.enabled h :),
    (congrArg Gate.leaf h :), (congrArg Gate.scale h :), (congrArg Gate.verify h :), (congrArg Gate.state h :)⟩

theorem Gates.next_records (g : Gates) (now : Time) :
    ∃ f : Gate → Gate, (g.next now).gates = g.gates.map f ∧ ∀ x : Gate, x.SentAlike (f x) := by
  have hkeep : ∃ f : Gate → Gate, g.gates = g.gates.map f ∧ ∀ x : Gate, x.SentAlike (f x) := ⟨id, by simp, fun _ => rfl⟩
  have hbegin : ∀ (u : Gates) (x : Gate) (b : Bool), u.gates = g.gates →
      ∃ f : Gate → Gate, (u.begin_ now x b).gates = g.gates.map f ∧ ∀ x : Gate, x.SentAlike (f x) := by
    intro u x b hu
    refine ⟨fun y => if y.address = x.address then y.onSend else y, by rw [← hu]; rfl, fun y => ?_⟩
    simp only [Gate.SentAlike]
    split
    · rw [Gate.onSend_eq]
      exact y.begun_same
    · rfl
  unfold Gates.next
  split
  · split
    · split
      · exact hbegin _ _ _ rfl
      · exact hkeep
    · split
      · split
        · exact hbegin _ _ _ rfl
        · exact hkeep
      · exact hkeep
  · exact hkeep

/-- The record a commit makes for an entry of the gate table. -/
def Gates.rebuilt (g : Gates) (e : GateEntry) : Gate :=
  match g.find? e.address with
  | some x => { x with
      station := e.station, compartment := e.compartment, state := if g.busReleased then x.state else .held }
  | none => Gate.make e (if g.busReleased then .offline else .held)

theorem Gates.rebuilt_address (g : Gates) (e : GateEntry) : (g.rebuilt e).address = e.address := by
  unfold Gates.rebuilt
  split
  next x hx => simpa using List.find?_some hx
  next => rfl

/-- What R14 says of the record of an entry. -/
theorem Gates.rebuilt_spec (g : Gates) (e : GateEntry) :
    (g.rebuilt e).station = e.station ∧ (g.rebuilt e).compartment = e.compartment ∧
    (g.busReleased = false → (g.rebuilt e).state = .held) ∧
    (∀ x, g.find? e.address = some x →
      (g.rebuilt e).enabled = x.enabled ∧ (g.rebuilt e).leaf = x.leaf ∧ (g.rebuilt e).scale = x.scale ∧
      (g.rebuilt e).verify = x.verify ∧ (g.busReleased = true → (g.rebuilt e).state = x.state)) ∧
    (g.find? e.address = none →
      (g.rebuilt e).enabled = true ∧ (g.rebuilt e).leaf = false ∧ (g.rebuilt e).scale = 1 ∧
      (g.rebuilt e).verify = false ∧ (g.busReleased = true → (g.rebuilt e).state = .offline)) := by
  cases hx : g.find? e.address with
  | some x =>
    have hr : g.rebuilt e = { x with
        station := e.station, compartment := e.compartment, state := if g.busReleased then x.state else .held } := by
      rw [Gates.rebuilt, hx]
    rw [hr]
    refine ⟨rfl, rfl, fun h => by simp [h], fun y hy => ?_, nofun⟩
    obtain rfl := Option.some.inj hy
    exact ⟨rfl, rfl, rfl, rfl, fun h => by simp [h]⟩
  | none =>
    have hr : g.rebuilt e = Gate.make e (if g.busReleased then .offline else .held) := by rw [Gates.rebuilt, hx]
    rw [hr]
    exact ⟨rfl, rfl, fun h => by simp [h, Gate.make], nofun, fun _ => ⟨rfl, rfl, rfl, rfl, fun h => by simp [h, Gate.make]⟩⟩

/-- The records after a commit, the transaction that may begin included. -/
theorem State.commit_gates (s : State) (tb : Tables) : ∃ f : Gate → Gate,
    (s.commit tb).gates.gates = tb.gates.map (fun e => f (s.gates.rebuilt e)) ∧ ∀ x : Gate, x.SentAlike (f x) := by
  obtain ⟨f, hmap, halike⟩ := (s.gates.rebuild tb.gates).next_records s.now
  refine ⟨f, ?_, halike⟩
  have hgates : (s.commit tb).gates = (s.gates.rebuild tb.gates).next s.now := by
    have hcommit : (s.commit tb).gates = ((s.committing tb).gates.rebuild tb.gates).next (s.committing tb).now := by
      simp [State.commit, State.committing, State.nextTransaction, State.gateCondition]
    have hnow : (s.committing tb).now = s.now := by simp [State.committing]
    rw [hcommit, State.committing_gates, hnow]
  rw [hgates, hmap, Gates.rebuild, List.map_map]
  rfl

/-- What R14 says of the records of a commit. -/
theorem State.commit_records (s : State) (tb : Tables) :
    (s.commit tb).gates.gates.map (fun g => (g.address, g.station, g.compartment)) =
      tb.gates.map (fun e => (e.address, e.station, e.compartment)) ∧
    (s.gates.busReleased = false → ∀ g ∈ (s.commit tb).gates.gates, g.state = .held) ∧
    ∀ g' ∈ (s.commit tb).gates.gates,
      (∀ g, s.gates.find? g'.address = some g →
        g'.enabled = g.enabled ∧ g'.leaf = g.leaf ∧ g'.scale = g.scale ∧ g'.verify = g.verify ∧
        (s.gates.busReleased = true → g'.state = g.state)) ∧
      (s.gates.find? g'.address = none →
        g'.enabled = true ∧ g'.leaf = false ∧ g'.scale = 1 ∧ g'.verify = false ∧
        (s.gates.busReleased = true → g'.state = .offline)) := by
  obtain ⟨f, hgates, halike⟩ := s.commit_gates tb
  have hfields := fun e : GateEntry => (halike (s.gates.rebuilt e)).fields
  rw [hgates, List.map_map]
  refine ⟨List.map_congr_left (fun e _ => ?_), fun hbus => ?_, ?_⟩
  · obtain ⟨haddr, hst, hcomp, -⟩ := hfields e
    obtain ⟨hst', hcomp', -⟩ := s.gates.rebuilt_spec e
    simp only [Function.comp, haddr, hst, hcomp, hst', hcomp', Gates.rebuilt_address]
  · simp only [List.forall_mem_map]
    intro e _
    obtain ⟨-, -, -, -, -, -, -, hstate⟩ := hfields e
    obtain ⟨-, -, hheld, -⟩ := s.gates.rebuilt_spec e
    rw [hstate, hheld hbus]
  · simp only [List.forall_mem_map]
    intro e _
    obtain ⟨haddr, -, -, hen, hleaf, hscale, hver, hstate⟩ := hfields e
    obtain ⟨-, -, -, hold, hnew⟩ := s.gates.rebuilt_spec e
    rw [haddr, Gates.rebuilt_address, hen, hleaf, hscale, hver, hstate]
    exact ⟨hold, hnew⟩

theorem Planner.commit_watches (p : Planner) (length : Int) (n : Ix4) : (p.commit length).watches.get n =
    { p.watches.get n with
      enabled := (p.watches.get n).enabled && decide (0 ≤ (p.watches.get n).pos ∧ (p.watches.get n).pos ≤ length) } := by
  simp only [Planner.commit, Quad.get_map, Watch.within, between, Bool.decide_and]

theorem stationList_eq (ns : List Nat) : stationList ns = .count ns.length :: ns.map (fun n => .num n) := by
  rw [stationList, listF, List.map_eq_flatMap]

theorem State.commit_elsewhere (s : State) (tb : Tables) : (s.commit tb).geo = ⟨some tb, Staging.empty⟩ ∧
    (s.commit tb).line.mode = s.line.mode.afterCommit ∧
    (s.commit tb).trk = { s.trk.commit tb.line.length with conf := .unknown } ∧
    (s.commit tb).plan = s.plan.commit tb.line.length ∧ (s.commit tb).sup = s.sup ∧ (s.commit tb).brk = s.brk ∧
    (s.commit tb).doors = s.doors ∧ (s.commit tb).tally = s.tally ∧ (s.commit tb).links = s.links ∧
    (s.commit tb).drive = s.drive ∧ (s.commit tb).ctl = s.ctl := by
  obtain ⟨hsup, hbrk, htally, hdrive⟩ := State.commitPosition_elsewhere
    (State.changeMode { s with geo := ⟨some tb, Staging.empty⟩ } s.line.mode.afterCommit .commit)
  have htrk := State.commitPosition_trk
    (State.changeMode { s with geo := ⟨some tb, Staging.empty⟩ } s.line.mode.afterCommit .commit)
  have hplan := State.commitPosition_plan
    (State.changeMode { s with geo := ⟨some tb, Staging.empty⟩ } s.line.mode.afterCommit .commit)
  have hmode := s.committing_mode tb
  simp only [State.changeMode_frame] at hsup hbrk htally hdrive htrk hplan
  refine ⟨?_, ?_, ?_, ?_, ?_, ?_, ?_, ?_, ?_, ?_, ?_⟩
  · exact State.committing_geo s tb
  · simpa [State.commit, State.committing, State.gateCondition, State.nextTransaction] using hmode
  all_goals simp [State.commit, State.gateCondition, State.nextTransaction]
  · exact htrk
  · exact congrArg (fun p => Planner.commit p tb.line.length) hplan
  · exact hsup
  · exact hbrk
  · exact htally
  · exact hdrive

end Machine

open Machine

/-- Settles O20, the refusals by the chain of R3 and the tables by the stages of R4. -/
theorem commitReplacesTables : Obligations.CommitReplacesTables := by
  unfold Obligations.CommitReplacesTables
  refine ⟨fun h s ht => ?_, fun g f hf => ?_, fun g tb htb k => held_of_validate htb k, fun h tb s ht hc hfree htb => ?_⟩
  · intro refused
    have hrefuse : ∀ x : Reason, s.configurable → (s.advance h.dt).commitRefusal = some x →
        refused (.reason x) := fun x hc hx =>
      exec_taken_of_eq (r := .commitGeometry) rfl ht (State.commitGeometry_refused (s := s.advance h.dt) hc hx)
    refine ⟨fun hc => exec_taken_of_eq (r := .commitGeometry) rfl ht (State.commitGeometry_mode (s := s.advance h.dt) hc),
      fun hmode hrun => hrefuse .run (.inr hmode) ?_, fun hmode hrun hstill => hrefuse .motion (.inr hmode) ?_,
      fun hmode hrun hstill hgates => hrefuse .gates (.inr hmode) ?_, fun f hc hfree hf => ?_⟩
    · exact (if_pos hmode).trans (if_pos hrun)
    · exact (if_pos hmode).trans ((if_neg (by simp [hrun])).trans (if_pos (by simp [hstill])))
    · have hshut : s.gates.shut = false := by
        rw [← Bool.not_eq_true, Gates.shut_iff, not_not]
        exact hgates
      exact (if_pos hmode).trans ((if_neg (by simp [hrun])).trans ((if_neg (by simp [hstill])).trans (if_pos (by simp [hshut]))))
    · exact exec_taken_of_eq (r := .commitGeometry) rfl ht
        (State.commitGeometry_failed (s := s.advance h.dt) hc (State.commitRefusal_eq_none (s := s.advance h.dt) hfree) hf)
  · have hfits := fits_of_validate hf
    exact ⟨hfits.incomplete, hfits.missing, hfits.entry, hfits.before⟩
  · obtain ⟨hmap, hheld, hrecords⟩ := (s.advance h.dt).commit_records tb
    obtain ⟨hgeo, hmode, htrk, hplan, hsup, hbrk, hdoors, htally, hlinks, hdrive, hctl⟩ := (s.advance h.dt).commit_elsewhere tb
    have hlocked : s.line.mode.afterCommit = .locked := by rcases hc with h | h <;> rw [h] <;> rfl
    refine ⟨_, exec_taken_transmit (r := .commitGeometry) rfl ht (State.commitGeometry_passed (s := s.advance h.dt) hc
      (State.commitRefusal_eq_none (s := s.advance h.dt) hfree) htb), ?_⟩
    rw [stationList_eq]
    simp only [State.flagged_frame, State.replied_frame, hgeo, hmode, htrk, hplan, hsup, hbrk, hdoors, htally, hlinks, hdrive]
    exact ⟨trivial, hlocked, trivial, rfl, rfl, rfl, rfl, rfl, rfl, rfl, rfl, rfl, rfl, rfl, rfl, rfl, rfl, rfl, rfl,
      fun n => Planner.commit_watches _ _ n, hmap, hheld, hrecords, State.replied_ctl hctl _ _, rfl, rfl, rfl, rfl, rfl, rfl⟩

end Sys2Proof
end

section
/-! PROOFS. What a position sample measures, and the expected markers that a car misses. -/

namespace Sys2Proof
namespace Machine

variable {s : State} {t u : Tracker} {c : Car}

/-! ### The measures -/

/-- The measures of a sample, which the tests of expected markers leave alone. -/
structure Tracker.Measures (t u : Tracker) : Prop where
  xA : u.xA = t.xA
  xB : u.xB = t.xB
  v : u.v = t.v
  window : u.window = t.window
  stillCount : u.stillCount = t.stillCount
  still : u.still = t.still
  motion : u.motion = t.motion
  lastDir : u.lastDir = t.lastDir
  sampleTime : u.sampleTime = t.sampleTime
  count : u.count = t.count
  sigma : u.sigma = t.sigma

theorem Tracker.Measures.refl (t : Tracker) : t.Measures t := ⟨rfl, rfl, rfl, rfl, rfl, rfl, rfl, rfl, rfl, rfl, rfl⟩

theorem Tracker.Measures.trans {w : Tracker} (h : t.Measures u) (g : u.Measures w) : t.Measures w :=
  ⟨g.xA.trans h.xA, g.xB.trans h.xB, g.v.trans h.v, g.window.trans h.window, g.stillCount.trans h.stillCount,
    g.still.trans h.still, g.motion.trans h.motion, g.lastDir.trans h.lastDir, g.sampleTime.trans h.sampleTime,
    g.count.trans h.count, g.sigma.trans h.sigma⟩

theorem Tracker.Measures.pos (h : t.Measures u) (c : Car) : u.pos c = t.pos c := by
  cases c
  · exact h.xA
  · exact h.xB

theorem Tracker.enter_measures (t : Tracker) (k : Confidence) : t.Measures (t.enter k) := by
  cases k <;> exact ⟨rfl, rfl, rfl, rfl, rfl, rfl, rfl, rfl, rfl, rfl, rfl⟩

/-! ### Misses -/

/-- A car has passed its expected marker by 2,000 mm. -/
def Tracker.Passed (t : Tracker) (c : Car) (e : Expected) : Prop := t.expected.get c = some e ∧ e.passedBy (t.pos c) = true

/-- The tracker with a miss counted and the expectation formed beyond the marker. -/
def Tracker.missed (t : Tracker) (ms : List Marker) (c : Car) (e : Expected) : Tracker :=
  { t with
    misses := t.misses.set c (t.misses.get c + 1), good := 0
    expected := t.expected.set c (t.expectation ms c e.pos) }

theorem State.missTest_of_passed {e : Expected} (h : s.trk.Passed c e) : s.missTest c =
    State.confEvent { s with trk := s.trk.missed s.geo.markers c e }
      (missOutcome s.trk.conf (s.trk.misses.get c + 1)) .missed (some c) (some e.id) none := by
  obtain ⟨he, hp⟩ := h
  rw [State.missTest, he]
  exact if_pos hp

theorem State.missTest_of_none (h : ∀ e, ¬s.trk.Passed c e) : s.missTest c = s := by
  unfold State.missTest
  split
  · rfl
  next e he => exact if_neg (fun hp => h e ⟨he, hp⟩)

theorem State.missTest_trk_of_passed {e : Expected} (h : s.trk.Passed c e) : (s.missTest c).trk =
    if s.trk.conf = missOutcome s.trk.conf (s.trk.misses.get c + 1) then s.trk.missed s.geo.markers c e
    else (s.trk.missed s.geo.markers c e).enter (missOutcome s.trk.conf (s.trk.misses.get c + 1)) := by
  rw [State.missTest_of_passed h, State.confEvent_trk, State.setConf_trk]
  rfl

theorem State.missTest_measures (s : State) (c : Car) : s.trk.Measures (s.missTest c).trk := by
  by_cases h : ∃ e, s.trk.Passed c e
  · obtain ⟨e, he⟩ := h
    have hmissed : s.trk.Measures (s.trk.missed s.geo.markers c e) := ⟨rfl, rfl, rfl, rfl, rfl, rfl, rfl, rfl, rfl, rfl, rfl⟩
    rw [State.missTest_trk_of_passed he]
    split
    · exact hmissed
    · exact hmissed.trans (Tracker.enter_measures _ _)
  · rw [State.missTest_of_none (fun e he => h ⟨e, he⟩)]
    exact .refl _

/-- The first miss in a row leaves the confidence, the second makes it DEGRADED and the third LOST (R34). -/
theorem State.missTest_trk_first {e : Expected} (h : s.trk.Passed c e) (hn : s.trk.misses.get c + 1 = 1) :
    (s.missTest c).trk = s.trk.missed s.geo.markers c e := by
  rw [State.missTest_trk_of_passed h, hn]
  exact if_pos rfl

theorem State.missTest_trk_second {e : Expected} (h : s.trk.Passed c e) (hn : s.trk.misses.get c + 1 = 2) :
    (s.missTest c).trk = { s.trk.missed s.geo.markers c e with conf := .degraded } := by
  rw [State.missTest_trk_of_passed h, hn]
  exact Tracker.enter_degraded (s.trk.missed s.geo.markers c e) rfl

theorem State.missTest_trk_third {e : Expected} (h : s.trk.Passed c e) (hn : 3 ≤ s.trk.misses.get c + 1)
    (hl : s.trk.conf ≠ .lost) : (s.missTest c).trk = { s.trk.missed s.geo.markers c e with
      conf := .lost, expected := .const none, misses := .const 0 } := by
  have hout : missOutcome s.trk.conf (s.trk.misses.get c + 1) = .lost := if_pos hn
  rw [State.missTest_trk_of_passed h, hout, if_neg hl]
  rfl

/-- The first two misses in a row: the count, the car's expectation, and the confidence. -/
theorem State.missTest_trk_low {e : Expected} (h : s.trk.Passed c e) (hn : s.trk.misses.get c + 1 ≤ 2) :
    ∃ k, (s.missTest c).trk = { s.trk.missed s.geo.markers c e with conf := k } ∧
      (s.trk.misses.get c + 1 = 1 → k = s.trk.conf) ∧ (s.trk.misses.get c + 1 = 2 → k = .degraded) := by
  rcases (by omega : s.trk.misses.get c + 1 = 1 ∨ s.trk.misses.get c + 1 = 2) with h1 | h2
  · exact ⟨s.trk.conf, State.missTest_trk_first h h1, fun _ => rfl, by omega⟩
  · exact ⟨.degraded, State.missTest_trk_second h h2, by omega, fun _ => rfl⟩

/-- A miss of one car leaves the expectation of the other, or ends both. -/
theorem State.missTest_expected {e : Expected} (h : s.trk.Passed c e) {k : Car} (hk : k ≠ c) :
    (s.missTest c).trk.expected.get k = s.trk.expected.get k ∨ (s.missTest c).trk.expected.get k = none := by
  have hmissed : (s.trk.missed s.geo.markers c e).expected.get k = s.trk.expected.get k := by simp [Tracker.missed, hk]
  rw [State.missTest_trk_of_passed h]
  split
  · exact .inl hmissed
  · cases missOutcome s.trk.conf (s.trk.misses.get c + 1) with
    | unknown => exact .inr (by simp [Tracker.enter])
    | lost => exact .inr (by simp [Tracker.enter])
    | degraded => exact .inl hmissed
    | confirmed => exact .inl hmissed
    | referenced => exact .inl hmissed

/-! ### The sample of the tracker -/

/-- The tracker once a sample has measured it. -/
def State.measuredTrk (s : State) : Tracker :=
  ((s.trk.moveBase s.geo.scale).place s.geo.length ((s.trk.moveBase s.geo.scale).freshX s.geo.scale)).measure s.now

theorem State.trackSample_trk (s : State) : s.trackSample.trk =
    if s.measuredTrk.lastDir = s.trk.lastDir then s.measuredTrk else s.measuredTrk.expectAll s.geo.markers := rfl

/-- A sample's measures, by R20 to R24. -/
theorem State.measuredTrk_spec (s : State) :
    s.measuredTrk.xA = s.trk.freshX s.geo.scale ∧
    s.measuredTrk.xB = s.geo.length + s.trk.sigma - s.measuredTrk.xA ∧
    s.measuredTrk.v = windowSpeed s.measuredTrk.xA s.trk.window ∧
    s.measuredTrk.window = pushWindow s.measuredTrk.xA s.trk.window ∧
    s.measuredTrk.stillCount = stillCountAfter s.trk.stillCount s.measuredTrk.v ∧
    s.measuredTrk.still = (s.measuredTrk.stillCount == 51) ∧ s.measuredTrk.motion = motionOf s.measuredTrk.v ∧
    s.measuredTrk.lastDir = s.measuredTrk.motion.or s.trk.lastDir ∧ s.measuredTrk.sampleTime = s.now ∧
    s.measuredTrk.count = s.trk.count ∧ s.measuredTrk.sigma = s.trk.sigma ∧ s.measuredTrk.conf = s.trk.conf ∧
    s.measuredTrk.misses = s.trk.misses ∧ s.measuredTrk.good = s.trk.good ∧ s.measuredTrk.expected = s.trk.expected := by
  obtain ⟨hfresh, -⟩ := baseMoveKeepsPosition s.trk s.geo.scale
  have hxA : s.measuredTrk.xA = (s.trk.moveBase s.geo.scale).freshX s.geo.scale := rfl
  rw [hxA, hfresh]
  obtain ⟨b, x, hbase⟩ := s.trk.moveBase_eq s.geo.scale
  rw [State.measuredTrk, hfresh, hbase]
  exact ⟨rfl, rfl, rfl, rfl, rfl, rfl, rfl, rfl, rfl, rfl, rfl, rfl, rfl, rfl, rfl⟩

theorem State.trackSample_measures (s : State) : s.measuredTrk.Measures s.trackSample.trk := by
  rw [State.trackSample_trk]
  split
  · exact .refl _
  · exact ⟨rfl, rfl, rfl, rfl, rfl, rfl, rfl, rfl, rfl, rfl, rfl⟩

theorem State.tracker_measures (s : State) : s.measuredTrk.Measures s.tracker.trk :=
  (s.trackSample_measures.trans (s.trackSample.missTest_measures .A)).trans ((s.trackSample.missTest .A).missTest_measures .B)

/-- After a change of the last direction no car has passed the marker it expects afresh. -/
theorem Tracker.expectAll_not_passed {ms : List Marker} (e : Expected) : ¬(t.expectAll ms).Passed c e := by
  rintro ⟨he, hp⟩
  have hget : t.expectation ms c (t.pos c) = some e := by cases c <;> exact he
  unfold Tracker.expectation at hget
  split at hget
  next d hd =>
    split at hget
    · cases hget
    · obtain ⟨hinc, m, -, -, hpos, ⟨-, hahead⟩, -⟩ := (nextMarker_expects ms c (d.sense c) (t.pos c)).1 e hget
      have hsame : (t.expectAll ms).pos c = t.pos c := by cases c <;> rfl
      rw [hsame, Expected.passedBy, hinc] at hp
      split at hp
      next hup =>
        rw [if_pos hup, hpos] at hahead
        have := of_decide_eq_true hp
        omega
      next hup =>
        rw [if_neg hup, hpos] at hahead
        have := of_decide_eq_true hp
        omega
  next => cases hget

theorem State.tracker_of_turned (h : s.measuredTrk.lastDir ≠ s.trk.lastDir) : s.tracker = s.trackSample ∧
    s.trackSample.trk = s.measuredTrk.expectAll s.geo.markers := by
  have htrk : s.trackSample.trk = s.measuredTrk.expectAll s.geo.markers := by rw [State.trackSample_trk, if_neg h]
  have hnone : ∀ c, s.trackSample.missTest c = s.trackSample := fun c =>
    State.missTest_of_none (fun e => by rw [htrk]; exact Tracker.expectAll_not_passed e)
  exact ⟨by rw [State.tracker, hnone, hnone], htrk⟩

theorem State.trackSample_of_straight (h : s.measuredTrk.lastDir = s.trk.lastDir) : s.trackSample.trk = s.measuredTrk := by
  rw [State.trackSample_trk, if_pos h]

/-- A car that has passed its marker alone is the only one tested. -/
theorem State.tracker_of_passed {e : Expected} (h : s.trackSample.trk.Passed c e)
    (hother : ∀ e', ¬s.trackSample.trk.Passed c.other e') : s.tracker = s.trackSample.missTest c := by
  cases c with
  | A =>
    have hnone : ∀ e', ¬(s.trackSample.missTest .A).trk.Passed .B e' := by
      rintro e' ⟨he, hp⟩
      rw [(s.trackSample.missTest_measures .A).pos] at hp
      rcases State.missTest_expected h (k := .B) (by decide) with hsame | hnone
      · exact hother e' ⟨hsame.symm.trans he, hp⟩
      · rw [hnone] at he
        cases he
    rw [State.tracker, State.missTest_of_none hnone]
  | B =>
    have hother' : s.trackSample.missTest .A = s.trackSample := State.missTest_of_none hother
    rw [State.tracker, hother']

end Machine
end Sys2Proof
end

section
/-! PROOFS. What a sample leaves after its measures: the outputs where it has dropped them, and the tally where no run waits. -/

namespace Sys2Proof
namespace Machine

variable {s u : State} {c : Car}

/-! ### Outputs that a sample has dropped -/

/-- The outputs are dropped under no run or a TRIPPED one, with a valid trip record. -/
structure Control.Down (c : Control) : Prop where
  sbr : c.sbr = false
  ebr : c.ebr = false
  ten : c.ten = false
  seq : c.seq = .rest
  run : c.run = none ∨ c.run = some .tripped
  record : c.record.isSome = true

theorem Control.Down.step {c d : Control} (h : Control.Step c d) (hc : c.Down) : d.Down := by
  obtain ⟨hsbr, hebr, hten, hseq, hrun, hrec⟩ := hc
  cases h with
  | hold x hx hm =>
    rcases hrun with hr | hr
    · rw [hr] at hx; cases hx
    · obtain rfl := Option.some.inj (hr.symm.trans hx)
      cases hm
  | trip y w => exact ⟨rfl, rfl, rfl, rfl, by rcases hrun with hr | hr <;> simp [Control.tripped, Control.rested, hr], rfl⟩
  | escalate e => exact ⟨hsbr, hebr, hten, hseq, hrun, by simpa using hrec⟩
  | unwatch v => exact ⟨hsbr, hebr, hten, hseq, hrun, hrec⟩
  | close x => exact ⟨hsbr, hebr, hten, hseq, .inl rfl, hrec⟩
  | plan _ hnone => rw [hnone] at hrec; cases hrec
  | resume hx => rcases hrun with hr | hr <;> simp [hr] at hx
  | go _ hx => rw [hseq] at hx; cases hx
  | abort hx => rw [hseq] at hx; cases hx
  | fail _ hx => rw [hseq] at hx; rcases hx with hx | hx <;> cases hx
  | phase x y hx hm =>
    rcases hrun with hr | hr
    · rw [hr] at hx; cases hx
    · obtain rfl := Option.some.inj (hr.symm.trans hx)
      cases hm
  | stop hx => rcases hrun with hr | hr <;> simp [hr] at hx
  | stopped _ hx => rw [hseq] at hx; cases hx
  | grant => exact ⟨hsbr, hebr, hten, hseq, hrun, hrec⟩
  | lock => exact ⟨hsbr, hebr, hten, hseq, hrun, hrec⟩

theorem State.Moves.down {t : State} (h : s.Moves t) (hs : s.control.Down) : t.control.Down :=
  Control.Moves.keeps (fun _ _ hstep hc => hc.step hstep) h hs

theorem State.control_down_of_emergency (s : State) (k : Cause) (f : Figures) : (s.emergency k f).control.Down := by
  obtain ⟨hsbr, hebr, hten, hseq⟩ := s.emergency_dropped k f
  refine ⟨hsbr, hebr, hten, hseq, ?_, by simp [State.control, State.emergency_trip]⟩
  cases hr : s.plan.run with
  | none => exact .inl (by simp [State.control, hr])
  | some r => exact .inr (by simp [State.control, hr, Run.trip_state])

theorem State.control_down_of_raise (s : State) (k : Cause) : (s.raise k).control.Down :=
  s.raising.control_down_of_emergency _ _

theorem State.planRun_control_of_down (h : u.control.Down) (found : Option StopPoint) : (u.planRun found).control = u.control := by
  rw [State.planRun_of_tripped (fun r hr => ?_)]
  · simp
  · have hrun : u.control.run = some r.state := State.control_run hr
    rcases h.run with hx | hx
    · rw [hx] at hrun; cases hrun
    · exact Option.some.inj (hrun.symm.trans hx)

theorem State.sample_down (h : s.measured.control.Down) : s.sample.control.Down := by
  have hseen : s.motionSeen.control.Down := by
    unfold State.motionSeen
    split
    · exact (State.Moves.refl s.measured).stillTests.down h
    · exact h
  rw [State.sample_control, State.planRun_control_of_down (s.watched_moves.down hseen)]
  exact s.watched_moves.down hseen

/-! ### The tally under no run -/

@[simp] theorem State.tripRun_tally (s : State) (k : Cause) : (s.tripRun k).tally = s.tally := by
  unfold State.tripRun
  split
  · split <;> simp
  · rfl

theorem State.escalateAll_tally (y : EscSource) : ∀ (es : List EscCause) (s : State), (s.escalateAll es y).tally = s.tally
  | [], _ => rfl
  | e :: es, s => (State.escalateAll_tally y es (s.escalate e y)).trans (by simp)

@[simp] theorem State.emergency_tally (s : State) (k : Cause) (f : Figures) : (s.emergency k f).tally = s.tally := by
  have hnotice : ∀ (w : State) b, (w.tripNotice b k f).tally = w.tally := fun w b => by simp
  rw [State.emergency_eq, hnotice, State.escalateAll_tally]
  simp [State.recorded, State.dropping, State.startWatch]

@[simp] theorem State.raise_tally (s : State) (k : Cause) : (s.raise k).tally = s.tally := State.emergency_tally _ _ _

@[simp] theorem State.hold_tally (s : State) (k : HoldCause) : (s.hold k).tally = s.tally := by
  unfold State.hold
  split
  · split <;> simp [State.setRun]
  · rfl

/-- Under no run an operation opens no run and leaves the tally alone. -/
def State.Idles (s t : State) : Prop := s.plan.run = none → t.plan.run = none ∧ t.tally = s.tally

theorem State.Idles.trans {t w : State} (h : s.Idles t) (g : t.Idles w) : s.Idles w := fun hs => by
  obtain ⟨ht, htally⟩ := h hs
  obtain ⟨hw, htally'⟩ := g ht
  exact ⟨hw, htally'.trans htally⟩

theorem State.Idles.refl (s : State) : s.Idles s := fun h => ⟨h, rfl⟩

theorem State.Idles.of_eq {t : State} (hrun : t.plan.run = s.plan.run) (htally : t.tally = s.tally) : s.Idles t :=
  fun h => ⟨hrun.trans h, htally⟩

theorem State.emergency_idles (s : State) (k : Cause) (f : Figures) : s.Idles (s.emergency k f) := fun h =>
  ⟨by simp [h], by simp⟩

theorem State.raise_idles (s : State) (k : Cause) : s.Idles (s.raise k) := fun h => ⟨by simp [h], by simp⟩

theorem State.hold_idles (s : State) (k : HoldCause) : s.Idles (s.hold k) := fun h =>
  ⟨by simpa [h] using s.hold_isNone k, by simp⟩

theorem State.confEvent_idles (s : State) (k : Confidence) (p : PosCause) (car : Option Car) (id : Option Nat) (value : Option Int) :
    s.Idles (s.confEvent k p car id value) := by
  by_cases hl : s.trk.conf ≠ .lost ∧ k = .lost
  · obtain ⟨hconf, rfl⟩ := hl
    rw [State.confEvent_lost_eq hconf]
    have hlosing : s.Idles (s.losing p car id value) := State.Idles.of_eq (by rw [State.losing_plan]) (by simp)
    split
    · exact hlosing.trans (State.raise_idles _ _)
    · refine hlosing.trans (fun h => ?_)
      rw [State.closePlanned_of_not_planned (fun r hr => by rw [h] at hr; cases hr)]
      exact ⟨h, rfl⟩
  · have hset : s.Idles (s.setConf k) := fun h => by
      refine ⟨?_, by simp⟩
      unfold State.setConf
      split
      · exact h
      · simp [State.lowerCruise, h]
    rw [State.confEvent_of_not_lost (by by_contra hn; exact hl (by simpa using hn))]
    exact hset.trans (State.Idles.of_eq (by simp) (by simp))

theorem State.missTest_idles (s : State) (c : Car) : s.Idles (s.missTest c) := by
  by_cases h : ∃ e, s.trk.Passed c e
  · obtain ⟨e, he⟩ := h
    rw [State.missTest_of_passed he]
    exact State.confEvent_idles { s with trk := s.trk.missed s.geo.markers c e } _ _ _ _ _
  · rw [State.missTest_of_none (fun e he => h ⟨e, he⟩)]
    exact State.Idles.refl s

theorem State.measured_idles (s : State) : s.Idles s.measured := by
  have hsample : s.Idles s.trackSample := State.Idles.of_eq rfl rfl
  have htracked := (hsample.trans (State.missTest_idles _ .A)).trans (State.missTest_idles _ .B)
  exact htracked.trans (State.Idles.of_eq (by simp [State.measured, State.tracker]) (by simp [State.measured, State.tracker]))

theorem State.motionTest_idles (s : State) (x : Door) : s.Idles (s.motionTest x) := by
  have hnotice : s.Idles (s.inMotionNotice x) := State.Idles.of_eq (by simp [State.inMotionNotice]) (by simp [State.inMotionNotice])
  simp only [State.motionTest]
  split
  · exact State.Idles.refl s
  · split
    · exact State.Idles.refl s
    · exact hnotice.trans (State.hold_idles _ _)
    · exact hnotice.trans (State.raise_idles _ _)

theorem State.linkTest_idles (s : State) (c : Car) : s.Idles (s.linkTest c) := by
  unfold State.linkTest
  split
  · exact State.Idles.refl s
  · split
    · exact State.hold_idles _ _
    · exact State.Idles.refl s
  · split
    · exact State.Idles.refl s
    · exact State.raise_idles _ _

theorem State.stillTests_idles (s : State) : s.Idles s.stillTests := by
  have htests : ∀ (ds : List Door) (w : State), w.Idles (ds.foldl (fun w x => w.motionTest x) w) := by
    intro ds
    induction ds with
    | nil => exact fun w => State.Idles.refl w
    | cons d ds ih => exact fun w => (w.motionTest_idles d).trans (ih _)
  have hdoors : s.Idles (if s.plan.run.isNone then s.withdrawDoors else s) := by
    split
    · exact State.Idles.of_eq (by simp) (by simp)
    · exact State.Idles.refl s
  exact ((hdoors.trans (htests Door.all _)).trans (State.linkTest_idles _ .A)).trans (State.linkTest_idles _ .B)

theorem State.motionSeen_idles (s : State) : s.Idles s.motionSeen := by
  unfold State.motionSeen
  split
  · exact s.measured_idles.trans (State.stillTests_idles _)
  · exact s.measured_idles

theorem State.bands_idles (s : State) : s.Idles s.bands := fun h => by
  rw [State.bands, h]
  exact ⟨h, rfl⟩

theorem State.motionCheck_idles (s : State) : s.Idles s.motionCheck := by
  unfold State.motionCheck
  extract_lets b armed n
  split
  · exact State.Idles.of_eq rfl rfl
  · exact fun h => State.emergency_idles _ _ _ h

theorem State.watched_idles (s : State) : s.Idles s.watched :=
  ((s.motionSeen_idles.trans (State.bands_idles _)).trans (State.motionCheck_idles _)).trans
    (State.Idles.of_eq (by simp [State.watched, State.supervised]) (by simp [State.watched, State.supervised]))

/-! ### The end of a sample -/

theorem State.sample_trk (s : State) : s.sample.trk = s.tracker.trk := by
  rw [State.sample_eq]
  simp [State.watched, State.supervised, State.motionSeen, State.measured, apply_ite]

/-- What a sample sends the drive (R195). -/
theorem State.sample_drive (s : State) :
    s.sample.drive.lastRef = (if s.sample.brk.ten then max (-14000) (min s.sample.plan.ref 14000) else 0) ∧
      s.sample.drive.lastFrame = driveFrame s.sample.drive.lastRef (s.sample.plan.run.map (fun r => r.dir)) := by
  have hdrive : s.sample.drive = (s.watched.planRun s.stopPoint).sendReference.drive := by rw [State.sample_eq]; simp
  have hplan : s.sample.plan = (s.watched.planRun s.stopPoint).plan := by rw [State.sample_eq]; simp
  have hbrk : s.sample.brk = (s.watched.planRun s.stopPoint).brk := by rw [State.sample_eq]; simp
  rw [hdrive, hplan, hbrk]
  exact ⟨rfl, rfl⟩

/-- Under no run a sample opens the stop windows of the cars, on the tally as it stood. -/
theorem State.sample_tally_of_none (h : s.plan.run = none) : ∃ w : State, w.tally = s.tally ∧ w.plan.run = none ∧
    w.geo = s.geo ∧ w.trk = s.sample.trk ∧ s.sample.tally = w.tallyWindows.tally ∧
      s.sample.line.conds = w.tallyWindows.line.conds := by
  obtain ⟨hrun, htally⟩ := s.watched_idles h
  have hplan : s.watched.planRun s.stopPoint = s.watched.setRef 0 :=
    State.planRun_of_tripped (fun r hr => by rw [hrun] at hr; cases hr)
  refine ⟨(s.watched.setRef 0).sendReference, by simpa [State.sendReference] using htally,
    by simpa [State.sendReference] using hrun, ?_, ?_, ?_, ?_⟩
  · simp [State.watched, State.supervised, State.motionSeen, State.measured, apply_ite]
  · rw [State.sample_eq, hplan]; simp
  · rw [State.sample_eq, hplan]; simp
  · rw [State.sample_eq, hplan]; simp

end Machine
end Sys2Proof
end

section
/-! PROOFS. The position sample: its measures, its misses and the stop windows it opens. -/

namespace Sys2Proof
namespace Machine

variable {s : State} {c : Car} {e : Expected}

/-! ### Measures and misses of a sample -/

theorem State.sample_measures (s : State) : s.measuredTrk.Measures s.sample.trk := by
  rw [State.sample_trk]
  exact s.tracker_measures

theorem Expected.passedBy_iff (e : Expected) (x : Int) :
    e.passedBy x = true ↔ 2000 ≤ (if e.increasing then x - e.pos else e.pos - x) := by
  unfold Expected.passedBy
  split <;> exact decide_eq_true_iff

/-- A car that passes the marker it expected, said of what the sample found and of where the cars then stand. -/
theorem State.passed_iff (h : s.sample.trk.lastDir = s.trk.lastDir) : s.trackSample.trk.Passed c e ↔
    s.trk.expected.get c = some e ∧
      2000 ≤ (if e.increasing then s.sample.trk.pos c - e.pos else e.pos - s.sample.trk.pos c) := by
  obtain ⟨-, -, -, -, -, -, -, -, -, -, -, -, -, -, hexpected⟩ := s.measuredTrk_spec
  rw [s.sample_measures.lastDir] at h
  rw [State.trackSample_of_straight h, Tracker.Passed, hexpected, Expected.passedBy_iff, s.sample_measures.pos]

/-- A change of direction forms both expected markers afresh (R33). -/
theorem State.sample_turned (h : s.sample.trk.lastDir ≠ s.trk.lastDir) :
    s.sample.trk.conf = s.trk.conf ∧ s.sample.trk.misses = s.trk.misses ∧ s.sample.trk.good = s.trk.good ∧
      (s.trk.conf ≠ .unknown → s.trk.conf ≠ .lost → ∀ d, s.sample.trk.lastDir = some d → ∀ c : Car,
        Expects s.geo.markers c (d.increases c) (s.sample.trk.pos c) (s.sample.trk.expected.get c)) := by
  obtain ⟨-, -, -, -, -, -, -, -, -, -, -, hconf, hmisses, hgood, -⟩ := s.measuredTrk_spec
  have hturned : s.measuredTrk.lastDir ≠ s.trk.lastDir := by rwa [s.sample_measures.lastDir] at h
  obtain ⟨htracker, htrk⟩ := State.tracker_of_turned hturned
  have hsample : s.sample.trk = s.measuredTrk.expectAll s.geo.markers := by rw [State.sample_trk, htracker, htrk]
  rw [hsample]
  refine ⟨hconf, hmisses, hgood, fun hunknown hlost d hd c => ?_⟩
  have hruns : s.measuredTrk.conf.noRuns = false := by
    rw [hconf]
    cases hk : s.trk.conf <;> simp_all [Confidence.noRuns]
  cases c <;> exact Tracker.expectation_expects hruns hd _ _ _

/-- Without a marker passed the sample moves no confidence, count or expectation. -/
theorem State.sample_not_passed (h : s.sample.trk.lastDir = s.trk.lastDir)
    (hnone : ∀ c e, ¬s.trackSample.trk.Passed c e) : s.sample.trk.conf = s.trk.conf ∧
      s.sample.trk.misses = s.trk.misses ∧ s.sample.trk.good = s.trk.good ∧ s.sample.trk.expected = s.trk.expected := by
  obtain ⟨-, -, -, -, -, -, -, -, -, -, -, hspec⟩ := s.measuredTrk_spec
  rw [s.sample_measures.lastDir] at h
  have hA : s.trackSample.missTest .A = s.trackSample := State.missTest_of_none (hnone .A)
  rw [State.sample_trk, State.tracker, hA, State.missTest_of_none (hnone .B), State.trackSample_of_straight h]
  exact hspec

/-- The third miss in a row in motion trips the line (R34, R36). -/
theorem State.missTest_down (h : s.trk.Passed c e) (hn : 3 ≤ s.trk.misses.get c + 1) (hl : s.trk.conf ≠ .lost)
    (hm : s.carsMoving = true) : (s.missTest c).control.Down := by
  have hout : missOutcome s.trk.conf (s.trk.misses.get c + 1) = .lost := if_pos hn
  have hlost := (State.confEvent_lost_eq (s := { s with trk := s.trk.missed s.geo.markers c e }) hl .missed (some c)
    (some e.id) none).trans (if_pos hm)
  rw [State.missTest_of_passed h, hout, hlost]
  exact State.control_down_of_raise _ _

/-- A car alone that passes its marker: the first two misses, and the third (R34). -/
theorem State.sample_passed (h : s.sample.trk.lastDir = s.trk.lastDir) (hp : s.trackSample.trk.Passed c e)
    (hother : ∀ e', ¬s.trackSample.trk.Passed c.other e') (hunknown : s.trk.conf ≠ .unknown) (hlost : s.trk.conf ≠ .lost) :
    let n := s.trk.misses.get c + 1
    s.sample.trk.good = 0 ∧ (n = 1 → s.sample.trk.conf = s.trk.conf) ∧ (n = 2 → s.sample.trk.conf = .degraded) ∧
      (n ≤ 2 → s.sample.trk.misses.get c = n ∧ s.sample.trk.misses.get c.other = s.trk.misses.get c.other ∧
        s.sample.trk.expected.get c.other = s.trk.expected.get c.other ∧
        ∀ d, s.trk.lastDir = some d → Expects s.geo.markers c (d.increases c) e.pos (s.sample.trk.expected.get c)) ∧
      (3 ≤ n → s.sample.trk.conf = .lost ∧ s.sample.trk.expected = .const none ∧ s.sample.trk.misses = .const 0) := by
  obtain ⟨-, -, -, -, -, -, -, -, -, -, -, hconf, hmisses, -, hexpected⟩ := s.measuredTrk_spec
  have hstraight : s.measuredTrk.lastDir = s.trk.lastDir := by rwa [s.sample_measures.lastDir] at h
  have htrk : s.trackSample.trk = s.measuredTrk := State.trackSample_of_straight hstraight
  have hsample : s.sample.trk = (s.trackSample.missTest c).trk := by
    rw [State.sample_trk, State.tracker_of_passed hp hother]
  have hgeo : s.trackSample.geo = s.geo := rfl
  rw [← hmisses, ← hconf, ← hexpected, ← htrk, hsample]
  intro n
  rcases Nat.lt_or_ge 2 n with hn | hn
  · rw [State.missTest_trk_third hp hn (by rw [htrk, hconf]; exact hlost)]
    exact ⟨rfl, by omega, by omega, by omega, fun _ => ⟨rfl, rfl, rfl⟩⟩
  · obtain ⟨k, hk, hfirst, hsecond⟩ := State.missTest_trk_low hp hn
    have hruns : s.trackSample.trk.conf.noRuns = false := by
      rw [htrk, hconf]
      cases hk : s.trk.conf <;> simp_all [Confidence.noRuns]
    rw [hk]
    refine ⟨rfl, hfirst, hsecond, fun _ => ⟨?_, ?_, ?_, fun d hd => ?_⟩, by omega⟩
    · simp [Tracker.missed, n]
    · simp [Tracker.missed, Car.other_ne]
    · simp [Tracker.missed, Car.other_ne]
    · have hexp := Tracker.expectation_expects hruns (t := s.trackSample.trk) (d := d) (by rw [htrk, hstraight, hd]) s.geo.markers c e.pos
      simpa [Tracker.missed] using hexp

theorem State.sample_passed_down (h : s.sample.trk.lastDir = s.trk.lastDir) (hp : s.trackSample.trk.Passed c e)
    (hother : ∀ e', ¬s.trackSample.trk.Passed c.other e') (hlost : s.trk.conf ≠ .lost)
    (hn : 3 ≤ s.trk.misses.get c + 1) (hm : s.sample.trk.still = false ∨ s.runInMotion = true) :
    s.sample.control.Down := by
  obtain ⟨-, -, -, -, -, -, -, -, -, -, -, hconf, hmisses, -⟩ := s.measuredTrk_spec
  rw [s.sample_measures.lastDir] at h
  rw [s.sample_measures.still] at hm
  have htrk : s.trackSample.trk = s.measuredTrk := State.trackSample_of_straight h
  have hmoving : s.trackSample.carsMoving = true := by
    have hrun : s.trackSample.runInMotion = s.runInMotion := rfl
    rw [State.carsMoving, htrk, hrun]
    rcases hm with hm | hm <;> simp [hm]
  refine State.sample_down ?_
  have hcontrol : s.measured.control = s.tracker.control := by simp [State.measured, State.control]
  rw [hcontrol, State.tracker_of_passed hp hother]
  exact State.missTest_down hp (by rw [htrk, hmisses]; exact hn) (by rw [htrk, hconf]; exact hlost) hmoving

/-! ### Stop windows -/

/-- The first station that a position stands within 300 mm of. -/
theorem Geometry.stationAt?_of_first {g : Geometry} {tb : Tables} {x : Int} {pre post : List Station} {st : Station}
    (hg : g.committed = some tb) (hst : tb.stations = pre ++ st :: post) (hpre : ∀ p ∈ pre, ¬(x - p.stopPos).natAbs ≤ 300)
    (hnear : (x - st.stopPos).natAbs ≤ 300) : g.stationAt? x = some st := by
  simp only [Geometry.stationAt?, Geometry.stations, hg, hst]
  rw [List.find?_append, List.find?_eq_none.2 (fun p hp => by rw [within_iff]; exact hpre p hp), Option.none_or]
  exact List.find?_cons_of_pos ((within_iff _ _).2 hnear)

theorem State.tryWindow_tally_other (s : State) {k : Car} (h : k ≠ c) : (s.tryWindow c).tally.get k = s.tally.get k := by
  rw [State.tryWindow_tally]
  split
  · exact if_neg h
  · rfl

theorem State.tryWindow_windowStation (s : State) {k : Car} (h : k ≠ c) :
    (s.tryWindow c).windowStation k = s.windowStation k := by
  simp [State.windowStation, State.tryWindow_tally_other s h]

theorem State.tallyWindows_get (s : State) (c : Car) : s.tallyWindows.tally.get c =
    (match s.windowStation c with
      | some st => (s.tally.get c).openWindow st (s.geo.capacity c)
      | none => s.tally.get c) := by
  cases c with
  | A =>
    rw [State.tallyWindows, State.tryWindow_tally_other _ (by decide), State.tryWindow_tally]
    cases s.windowStation .A <;> rfl
  | B =>
    rw [State.tallyWindows, State.tryWindow_tally, State.tryWindow_windowStation s (by decide),
      State.tryWindow_tally_other s (by decide), show (s.tryWindow .A).geo = s.geo by simp]
    cases s.windowStation .B <;> rfl

theorem State.tryWindow_excess (s : State) (k c : Car) : (s.tryWindow k).line.conds.excess.get c =
    if c = k ∧ (s.windowStation k).isSome = true then false else s.line.conds.excess.get c := by
  simp only [State.tryWindow]
  split
  next h => simp [h]
  next st h => by_cases hk : c = k <;> simp [h, hk, Conditions.put]

theorem State.tallyWindows_excess (h : (s.windowStation c).isSome = true) :
    s.tallyWindows.line.conds.excess.get c = false := by
  rw [State.tallyWindows, State.tryWindow_excess, State.tryWindow_excess, State.tryWindow_windowStation s (by decide)]
  cases c <;> simp [h]

/-- Under no run a sample opens no window of a car that has one, moves, or stands at no station. -/
theorem State.sample_window_kept (hrun : s.plan.run = none) (h : (s.tally.get c).window.isSome = true ∨
    s.sample.trk.still = false ∨ ∀ st ∈ s.geo.stations, ¬(s.sample.trk.pos c - st.stopPos).natAbs ≤ 300) :
    s.sample.tally.get c = s.tally.get c := by
  obtain ⟨w, htally, -, hgeo, htrk, hsample, -⟩ := State.sample_tally_of_none hrun
  have hnone : w.windowStation c = none := by
    rw [State.windowStation, htally, htrk]
    rcases h with h | h | h
    · rw [Option.isSome_iff_exists] at h
      obtain ⟨n, hn⟩ := h
      simp [hn]
    · simp [h]
    · have hat : w.geo.stationAt? (s.sample.trk.pos c) = none := by
        rw [hgeo]
        exact List.find?_eq_none.2 (fun p hp => by rw [within_iff]; exact h p hp)
      rw [hat, ite_self]
  rw [hsample, State.tallyWindows_get, hnone, htally]

/-- Under no run a sample opens the window of a car at rest at a station (R164). -/
theorem State.sample_window_opened {pre post : List Station} {st : Station} {tb : Tables} (hrun : s.plan.run = none)
    (hwindow : (s.tally.get c).window = none) (hstill : s.sample.trk.still = true) (hg : s.geo.committed = some tb)
    (hst : tb.stations = pre ++ st :: post) (hpre : ∀ p ∈ pre, ¬(s.sample.trk.pos c - p.stopPos).natAbs ≤ 300)
    (hnear : (s.sample.trk.pos c - st.stopPos).natAbs ≤ 300) :
    s.sample.tally.get c = (s.tally.get c).openWindow st (tb.cars.get c).capacity ∧
      s.sample.line.conds.excess.get c = false := by
  obtain ⟨w, htally, hnorun, hgeo, htrk, hsample, hconds⟩ := State.sample_tally_of_none hrun
  have hstation : w.windowStation c = some st := by
    rw [State.windowStation, htally, htrk, hwindow, hstill, hnorun, hgeo]
    exact Geometry.stationAt?_of_first hg hst hpre hnear
  have hcapacity : w.geo.capacity c = (tb.cars.get c).capacity := by rw [hgeo, Geometry.capacity, hg]
  rw [hsample, hconds, State.tallyWindows_get, hstation, hcapacity, htally]
  exact ⟨rfl, State.tallyWindows_excess (by rw [hstation]; rfl)⟩

theorem pushWindow_eq (x : Int) (ws : List Int) : pushWindow x ws = (if ws.length < 10 then ws else ws.tail) ++ [x] := by
  rw [pushWindow, List.drop_one]

/-- A sample's speed window, standstill count, direction and reference, by R20 to R24 and R195. -/
theorem State.sample_spec (s : State) :
    s.sample.trk.xA = s.trk.freshX s.geo.scale ∧ s.sample.trk.xB = s.geo.length + s.trk.sigma - s.sample.trk.xA ∧
    s.sample.trk.v = windowSpeed s.sample.trk.xA s.trk.window ∧
    s.sample.trk.window = (if s.trk.window.length < 10 then s.trk.window else s.trk.window.tail) ++ [s.sample.trk.xA] ∧
    s.sample.trk.stillCount = stillCountAfter s.trk.stillCount s.sample.trk.v ∧
    s.sample.trk.still = decide (s.sample.trk.stillCount = 51) ∧ s.sample.trk.motion = motionOf s.sample.trk.v ∧
    s.sample.trk.lastDir = s.sample.trk.motion.or s.trk.lastDir ∧ s.sample.trk.sampleTime = s.now ∧
    s.sample.trk.count = s.trk.count ∧ s.sample.trk.sigma = s.trk.sigma := by
  obtain ⟨hxA, hxB, hv, hwindow, hcount, hstill, hmotion, hdir, htime, hquad, hsigma, -⟩ := s.measuredTrk_spec
  have hm := s.sample_measures
  rw [hm.xA, hm.xB, hm.v, hm.window, hm.stillCount, hm.still, hm.motion, hm.lastDir, hm.sampleTime, hm.count, hm.sigma,
    ← pushWindow_eq]
  exact ⟨hxA, hxB, hv, hwindow, hcount, hstill, hmotion, hdir, htime, hquad, hsigma⟩

/-- Settles O23: the measures are those of the tracker at the sample, which later parts of a sample leave; a car alone past its
marker is the only one tested; and under no run the stop windows open on the tally as it stood. -/
theorem positionSampleMeasures : Obligations.PositionSampleMeasures := by
  intro dt s
  refine ⟨_, exec_transmit_of_eq (u := (s.advance dt).sample) rfl, ?_⟩
  simp only [State.flagged_frame]
  obtain ⟨hxA, hxB, hv, hwindow, hcount, hstill, hmotion, hdir, htime, hquad, hsigma⟩ := (s.advance dt).sample_spec
  obtain ⟨href, hframe⟩ := (s.advance dt).sample_drive
  refine ⟨hxA, hxB, hv, hwindow, hcount, hstill, hmotion, hdir, htime, hquad, hsigma, href, hframe, ?_, ?_, ?_, ?_, ?_, ?_,
    ?_, State.sample_turned, ?_, ?_⟩
  · simp
  · simp
  · simp
  · simp
  · simp
  · simp
  · simp
  · intro hsame
    have hiff := fun c e => State.passed_iff (s := s.advance dt) (c := c) (e := e) hsame
    refine ⟨fun hnone => State.sample_not_passed hsame (fun c e he => hnone c e ((hiff c e).1 he)),
      fun c e hp hother hunknown hlost => ?_⟩
    have hpassed := (hiff c e).2 hp
    have halone := fun e' he => hother e' ((hiff c.other e').1 he)
    obtain ⟨hgood, hfirst, hsecond, hlow, hthird⟩ := State.sample_passed hsame hpassed halone hunknown hlost
    refine ⟨hgood, hfirst, hsecond, hlow, fun hn => ?_⟩
    obtain ⟨hconf, hexpected, hmisses⟩ := hthird hn
    refine ⟨hconf, hexpected, hmisses, fun hmoving => ?_⟩
    obtain ⟨hsbr, hebr, hten, hseq, -, hrecord⟩ := State.sample_passed_down hsame hpassed halone hlost hn hmoving
    exact ⟨⟨hsbr, hebr, hten, hseq⟩, hrecord⟩
  · intro c hrun
    refine ⟨State.sample_window_kept (s := s.advance dt) hrun, fun pre st post tb hwindow hstill hg hst hpre hnear => ?_⟩
    exact State.sample_window_opened (s := s.advance dt) hrun hwindow hstill hg hst hpre hnear

end Machine
end Sys2Proof
end

section
/-! PROOFS. The tests of a sample before its bands: what their holds, emergencies and closes leave of a run under way, of the
band record and of the outputs. -/

namespace Sys2Proof
namespace Machine

variable {s t u : State} {b l : Bool} {c : Car} {r x : Run}

/-! ### Acts of the tests -/

/-- An act of the tests of a sample on the run, the outputs and the trip record; holds are among them where `b` is set, and
the lowering of the cruise where `l` is. -/
inductive State.Test (b l : Bool) : State → State → Prop
  | quiet {s t : State} (hrun : t.plan.run = s.plan.run) (hsup : t.sup = s.sup) (hbrk : t.brk = s.brk) : Test b l s t
  | lower (s : State) (hl : l = true) : Test b l s s.lowerCruise
  | hold (s : State) (k : HoldCause) (hb : b = true) (hk : k ≠ .cancel) : Test b l s (s.hold k)
  | raise (s : State) (k : Cause) : Test b l s (s.raise k)
  | close (s : State) (y : CloseReason) : Test b l s (s.closePlanned y)

/-- Acts of the tests in a row. -/
def State.Tests (b l : Bool) (s t : State) : Prop := Relation.ReflTransGen (State.Test b l) s t

theorem State.Tests.refl (b l : Bool) (s : State) : s.Tests b l s := Relation.ReflTransGen.refl

theorem State.Tests.act {w : State} (h : s.Tests b l t) (g : State.Test b l t w) : s.Tests b l w := Relation.ReflTransGen.tail h g

theorem State.Tests.keeps {P : State → Prop} (hstep : ∀ {v w : State}, State.Test b l v w → P v → P w) (h : s.Tests b l t)
    (hs : P s) : P t := by
  induction h with
  | refl => exact hs
  | tail _ hlast ih => exact hstep hlast ih

theorem State.Tests.setConf (h : s.Tests b true t) (k : Confidence) : s.Tests b true (t.setConf k) := by
  unfold State.setConf
  split
  · exact h
  · exact (h.act (.quiet (by simp) (by simp) (by simp))).act (.lower _ rfl)

theorem State.Tests.confEvent (h : s.Tests b true t) (k : Confidence) (p : PosCause) (car : Option Car) (id : Option Nat)
    (value : Option Int) : s.Tests b true (t.confEvent k p car id value) := by
  have hset := (h.setConf k).act (.quiet (t := (t.setConf k).posNotice p car id value t.trk.conf) (by simp) (by simp) (by simp))
  simp only [State.confEvent, State.lostEffects]
  split
  · split
    · exact hset.act (.raise _ _)
    · exact hset.act (.close _ _)
  · exact hset

theorem State.Tests.missTest (h : s.Tests b true t) (c : Car) : s.Tests b true (t.missTest c) := by
  by_cases hp : ∃ e, t.trk.Passed c e
  · obtain ⟨e, he⟩ := hp
    rw [State.missTest_of_passed he]
    exact (h.act (.quiet (t := { t with trk := t.trk.missed t.geo.markers c e }) rfl rfl rfl)).confEvent _ _ _ _ _
  · rw [State.missTest_of_none (fun e he => hp ⟨e, he⟩)]
    exact h

theorem State.Tests.motionTest (h : s.Tests true l t) (x : Door) : s.Tests true l (t.motionTest x) := by
  have hnotice := h.act (.quiet (t := t.inMotionNotice x) (by simp [State.inMotionNotice]) (by simp [State.inMotionNotice])
    (by simp [State.inMotionNotice]))
  simp only [State.motionTest]
  split
  · exact h
  · split
    · exact h
    · exact hnotice.act (.hold _ _ rfl (by decide))
    · exact hnotice.act (.raise _ _)

theorem State.Tests.linkTest (h : s.Tests true l t) (c : Car) : s.Tests true l (t.linkTest c) := by
  unfold State.linkTest
  split
  · exact h
  · split
    · exact h.act (.hold _ _ rfl (by decide))
    · exact h
  · split
    · exact h
    · exact h.act (.raise _ _)

theorem State.Tests.motionTests (ds : List Door) (h : s.Tests true l t) :
    s.Tests true l (ds.foldl (fun w x => w.motionTest x) t) := by
  induction ds generalizing t with
  | nil => exact h
  | cons d ds ih => exact ih (h.motionTest d)

theorem State.Tests.stillTests (h : s.Tests true l t) : s.Tests true l t.stillTests := by
  have hdoors : s.Tests true l (if t.plan.run.isNone then t.withdrawDoors else t) := by
    split
    · exact h.act (.quiet (by simp) (by simp) (by simp))
    · exact h
  exact ((State.Tests.motionTests Door.all hdoors).linkTest .A).linkTest .B

theorem State.measured_tests (s : State) (b : Bool) : s.Tests b true s.measured := by
  have htracked := ((((State.Tests.refl b true s).act (.quiet (t := s.trackSample) rfl rfl rfl)).missTest .A).missTest .B)
  exact htracked.act (.quiet (by simp [State.measured, State.tracker]) (by simp [State.measured, State.tracker])
    (by simp [State.measured, State.tracker]))

/-- A sample that does not find STILL becoming clear makes no hold before its bands. -/
theorem State.motionSeen_tests (s : State) : s.Tests (s.trk.still && !s.measured.trk.still) true s.motionSeen := by
  unfold State.motionSeen
  split
  next h =>
    rw [h]
    exact (s.measured_tests true).stillTests
  next => exact s.measured_tests _

/-! ### The band record and the outputs -/

theorem State.warningExit_band (s : State) : s.warningExit.sup.band = { s.sup.band with warning := none } := by
  unfold State.warningExit
  split
  next h => rw [← h]
  next => simp

/-- The band record but for its warning state. -/
def BandRec.silent (x : BandRec) : BandRec := { x with warning := none }

theorem State.tripRun_silent (s : State) (k : Cause) : (s.tripRun k).sup.band.silent = s.sup.band.silent := by
  unfold State.tripRun
  split
  · split
    · rfl
    · rw [State.warningExit_band]
      simp [BandRec.silent]
  · rfl

theorem State.escalateAll_sup (y : EscSource) : ∀ (es : List EscCause) (s : State), (s.escalateAll es y).sup.band = s.sup.band
  | [], _ => rfl
  | e :: es, s => (State.escalateAll_sup y es (s.escalate e y)).trans (by simp)

theorem State.emergency_silent (s : State) (k : Cause) (f : Figures) : (s.emergency k f).sup.band.silent = s.sup.band.silent := by
  have hnotice : ∀ (w : State) z, (w.tripNotice z k f).sup.band = w.sup.band := fun w z => by simp
  rw [State.emergency_eq, hnotice, State.escalateAll_sup]
  simp only [State.recorded, State.dropping, State.startWatch, State.handOver_frame]
  rw [State.tripRun_silent]
  simp

theorem State.closePlanned_silent (s : State) (y : CloseReason) : (s.closePlanned y).sup.band.silent = s.sup.band.silent := by
  unfold State.closePlanned
  split
  · split
    · simp [State.closeRun, State.warningExit_band, BandRec.silent]
    · rfl
  · rfl

theorem State.Tests.silent (h : s.Tests b l t) : t.sup.band.silent = s.sup.band.silent := by
  refine h.keeps (P := fun w => w.sup.band.silent = s.sup.band.silent) (fun {v w} g hv => ?_) rfl
  cases g with
  | quiet hrun hsup hbrk => rw [hsup]; exact hv
  | lower hl => simpa using hv
  | hold k hb hk => simpa using hv
  | raise k => exact (State.emergency_silent _ _ _).trans hv
  | close y => exact (State.closePlanned_silent _ _).trans hv

/-- Both release outputs de-energised. -/
def Brakes.released (x : Brakes) : Bool := x.sbr || x.ebr

theorem State.Tests.unreleased (h : s.Tests b l t) (hs : s.brk.released = false) : t.brk.released = false := by
  refine h.keeps (P := fun w => w.brk.released = false) (fun {v w} g hv => ?_) hs
  cases g with
  | quiet hrun hsup hbrk => rw [hbrk]; exact hv
  | lower hl => simpa using hv
  | hold k hb hk => simpa using hv
  | raise k =>
    obtain ⟨hsbr, hebr, -, -⟩ := v.raise_dropped k
    simp [Brakes.released, hsbr, hebr]
  | close y => simpa using hv

/-! ### A run under way -/

/-- What the tests of a sample, with holds among them where `b` is set and the lowering of the cruise where `l` is, keep of a
run under way that they do not trip. -/
structure Run.Kept (b l : Bool) (r x : Run) : Prop where
  id : x.id = r.id
  dir : x.dir = r.dir
  cruise : x.cruise ≤ r.cruise
  starting : r.state = .starting → x.state = .starting ∧ (x.pendingStop = some .cancel ↔ r.pendingStop = some .cancel)
  holding : r.state = .holding → x.state = .holding ∧ x.holdCause = r.holdCause ∧ x.stop = r.stop
  moving : r.state.moving = true → x.state.moving = true ∧ (r.stop.isAsap = true → x.stop.isAsap = true)
  apart : b = false → x = { r with cruise := x.cruise }
  steady : l = false → x.cruise = r.cruise

theorem Run.Kept.refl (b l : Bool) (r : Run) : r.Kept b l r :=
  ⟨rfl, rfl, le_rfl, fun h => ⟨h, Iff.rfl⟩, fun h => ⟨h, rfl, rfl⟩, fun h => ⟨h, fun ha => ha⟩, fun _ => rfl, fun _ => rfl⟩

theorem Run.Kept.lower (h : r.Kept b true x) {n : Nat} (hn : n ≤ x.cruise) : r.Kept b true { x with cruise := n } :=
  ⟨h.id, h.dir, hn.trans h.cruise, h.starting, h.holding, h.moving, fun hb => by
    have := h.apart hb
    rw [this], nofun⟩

theorem RunState.evaluated_iff (y : RunState) : y.evaluated = true ↔ y = .starting ∨ y = .holding ∨ y.moving = true := by
  cases y <;> decide

theorem Run.Kept.evaluated (h : r.Kept b l x) (hr : r.state.evaluated = true) : x.state.evaluated = true := by
  rw [RunState.evaluated_iff] at hr ⊢
  exact hr.imp (fun hst => (h.starting hst).1) (Or.imp (fun hst => (h.holding hst).1) (fun hm => (h.moving hm).1))

theorem State.lowerCruise_run (hx : s.plan.run = some x) :
    ∃ n, n ≤ x.cruise ∧ s.lowerCruise.plan.run = some { x with cruise := n } := by
  simp only [State.lowerCruise, hx, Option.map_some]
  split
  · exact ⟨_, min_le_left _ _, rfl⟩
  · exact ⟨_, le_rfl, rfl⟩

theorem RunState.apart_of_moving {y : RunState} (h : y.moving = true) : y ≠ .starting ∧ y ≠ .holding := by
  cases y <;> simp_all [RunState.moving]

/-- A hold other than CANCEL keeps a run under way. -/
theorem State.hold_kept (h : r.Kept true l x) (hr : r.state.evaluated = true) (hx : s.plan.run = some x) {k : HoldCause}
    (hk : k ≠ .cancel) : ∃ y, (s.hold k).plan.run = some y ∧ r.Kept true l y := by
  rcases (RunState.evaluated_iff _).1 hr with hst | hst | hst
  · obtain ⟨hxst, hpending⟩ := h.starting hst
    rw [State.hold_of_starting hx hxst]
    refine ⟨_, rfl, h.id, h.dir, h.cruise, fun _ => ⟨hxst, ?_⟩, by simp [hst], by simp [hst, RunState.moving], nofun, h.steady⟩
    rw [← hpending]
    dsimp only [pendingWith]
    split
    next hc => exact Iff.rfl
    next hc => exact ⟨fun hy => absurd (Option.some.inj hy) hk, fun hy => absurd hy hc⟩
  · rw [State.hold_of_not_inMotion (by simp [State.runInMotion, hx, (h.holding hst).1, RunState.inMotion])]
    exact ⟨x, hx, h⟩
  · obtain ⟨hmoving, hasap⟩ := h.moving hst
    obtain ⟨hstarting, hholding⟩ := RunState.apart_of_moving hst
    rw [State.hold_of_moving hx hmoving]
    cases ha : x.stop.isAsap with
    | true =>
      rw [State.takeHold_of_asap ha, if_neg hk]
      exact ⟨x, rfl, h⟩
    | false =>
      rw [State.takeHold_plan ha]
      exact ⟨_, rfl, h.id, h.dir, h.cruise, fun hy => absurd hy hstarting, fun hy => absurd hy hholding, fun _ => ⟨rfl, fun _ => rfl⟩, nofun, h.steady⟩

/-- Dropped outputs, said of another state with the same outputs, record and run state. -/
theorem State.down_of (h : s.control.Down) (hbrk : t.brk = s.brk) (htrip : t.sup.trip = s.sup.trip)
    (hrun : t.control.run = s.control.run) : t.control.Down := by
  obtain ⟨hsbr, hebr, hten, hseq, hidle, hrecord⟩ := h
  exact ⟨(congrArg Brakes.sbr hbrk :).trans hsbr, (congrArg Brakes.ebr hbrk :).trans hebr, (congrArg Brakes.ten hbrk :).trans hten,
    (congrArg Brakes.seq hbrk :).trans hseq, by rw [hrun]; exact hidle, (congrArg Option.isSome htrip :).trans hrecord⟩

/-- The run `r` is under way under the envelope `e`, or has been tripped with the outputs dropped. -/
def State.Under (b l : Bool) (r : Run) (e : Option Envelope) (s : State) : Prop :=
  ∃ x, s.plan.run = some x ∧ x.id = r.id ∧ ((x.state = .tripped ∧ s.control.Down) ∨ (r.Kept b l x ∧ s.sup.env = e))

theorem Run.trip_id (r : Run) : r.trip.id = r.id := by
  unfold Run.trip
  split <;> rfl

theorem State.raise_under {e : Option Envelope} (h : s.Under b l r e) (k : Cause) : (s.raise k).Under b l r e := by
  obtain ⟨x, hx, hid, -⟩ := h
  exact ⟨x.trip, by simp [hx], x.trip_id.trans hid, .inl ⟨x.trip_state, s.control_down_of_raise k⟩⟩

theorem State.Test.under {e : Option Envelope} (h : State.Test b l s t) (hr : r.state.evaluated = true) (hs : s.Under b l r e) :
    t.Under b l r e := by
  obtain ⟨x, hx, hid, hcase⟩ := id hs
  cases h with
  | quiet hrun hsup hbrk =>
    refine ⟨x, hrun.trans hx, hid, hcase.imp (fun hdown => ⟨hdown.1, ?_⟩) (fun hkept => ⟨hkept.1, hsup ▸ hkept.2⟩)⟩
    exact State.down_of hdown.2 hbrk (congrArg _ hsup) (by rw [State.control_run hx, State.control_run (hrun.trans hx)])
  | lower hl =>
    subst hl
    obtain ⟨n, hn, hlow⟩ := State.lowerCruise_run hx
    refine ⟨_, hlow, hid, hcase.imp (fun hdown => ⟨hdown.1, ?_⟩) (fun hkept => ⟨hkept.1.lower hn, by simpa using hkept.2⟩)⟩
    exact State.down_of hdown.2 (by simp) (by simp) (by rw [State.control_run hx, State.control_run hlow])
  | hold k hb hk =>
    rcases hcase with ⟨htripped, hdown⟩ | ⟨hkept, henv⟩
    · rw [State.hold_of_not_inMotion (by simp [State.runInMotion, hx, htripped, RunState.inMotion])]
      exact hs
    · subst hb
      obtain ⟨y, hy, hkept'⟩ := State.hold_kept hkept hr hx hk
      exact ⟨y, hy, hkept'.id, .inr ⟨hkept', by simpa using henv⟩⟩
  | raise k => exact State.raise_under hs k
  | close y =>
    rw [State.closePlanned_of_not_planned]
    · exact hs
    · intro z hz hplanned
      obtain rfl := Option.some.inj (hx.symm.trans hz)
      rcases hcase with ⟨htripped, -⟩ | ⟨hkept, -⟩
      · rw [htripped] at hplanned; cases hplanned
      · have := hkept.evaluated hr
        rw [hplanned] at this
        cases this

/-- A run under way at the bands of a sample. -/
theorem State.motionSeen_under (hr : s.plan.run = some r) (heval : r.state.evaluated = true) :
    s.motionSeen.Under (s.trk.still && !s.measured.trk.still) true r s.sup.env :=
  s.motionSeen_tests.keeps (fun h hv => h.under heval hv) ⟨r, hr, rfl, .inr ⟨.refl _ _ r, rfl⟩⟩

end Machine
end Sys2Proof
end

section
/-! PROOFS. The bands of a sample: what they record, the emergency they may be, and the run and the outputs that the rest of
the sample finds. -/

namespace Sys2Proof
namespace Machine

variable {s u : State} {r x : Run}

/-! ### The findings -/

theorem curveBand_warning (v vE : Nat) : (curveBand v vE).atLeast .warning = true ↔ 20 ≤ v ∧ 90 * vE < 100 * v := by
  unfold curveBand
  (repeat' split) <;> simp [Band.atLeast, Band.code] <;> omega

theorem curveBand_service (v vE : Nat) : (curveBand v vE).atLeast .service = true ↔ 20 ≤ v ∧ 95 * vE < 100 * v := by
  unfold curveBand
  (repeat' split) <;> simp [Band.atLeast, Band.code] <;> omega

theorem curveBand_emergency (v vE : Nat) : curveBand v vE = .emergency ↔ 20 ≤ v ∧ vE < v := by
  unfold curveBand
  (repeat' split) <;> simp <;> omega

theorem ceilingBand_warning (v n : Nat) : (ceilingBand v n).atLeast .warning = true ↔ n < v := by
  unfold ceilingBand
  (repeat' split) <;> simp [Band.atLeast, Band.code] <;> omega

theorem ceilingBand_service (v n : Nat) : (ceilingBand v n).atLeast .service = true ↔ 105 * n < 100 * v := by
  unfold ceilingBand
  (repeat' split) <;> simp [Band.atLeast, Band.code] <;> omega

theorem ceilingBand_emergency (v n : Nat) : ceilingBand v n = .emergency ↔ 112 * n < 100 * v := by
  unfold ceilingBand
  (repeat' split) <;> simp <;> omega

theorem Band.max_emergency (a b : Band) : a.max b = .emergency ↔ a = .emergency ∨ b = .emergency := by
  cases a <;> cases b <;> decide

theorem Band.max_atLeast (a b k : Band) : (a.max b).atLeast k = (a.atLeast k || b.atLeast k) := by
  cases a <;> cases b <;> cases k <;> decide

/-- A level below EMERGENCY is that of the curve and the ceiling alone. -/
theorem BandFinding.level_of_not_emergency {f : BandFinding} (h : f.level ≠ .emergency) : f.level = f.curve.max f.ceiling := by
  unfold BandFinding.level at h ⊢
  split at h
  · exact absurd rfl h
  next hf => exact if_neg hf

theorem BandFinding.level_emergency_iff (f : BandFinding) : f.level = .emergency ↔
    f.limit = true ∨ f.rollback = true ∨ f.curve = .emergency ∨ f.ceiling = .emergency := by
  unfold BandFinding.level
  split
  next h =>
    have hfound : f.limit = true ∨ f.rollback = true := by simpa using h
    exact iff_of_true rfl (by rw [← or_assoc]; exact .inl hfound)
  next h =>
    obtain ⟨hlimit, hrollback⟩ : f.limit = false ∧ f.rollback = false := by simpa using h
    simp [Band.max_emergency, hlimit, hrollback]

/-! ### The bands without their emergency -/

/-- The bands find SERVICE while the latch is clear. -/
def State.servesFirst (u : State) (r : Run) : Bool := (u.findBands r).level.atLeast .service && u.sup.band.latch.isNone

/-- The state with the values, the highest level, the warning state and the latch as the bands leave them. -/
def State.banded (u : State) (r : Run) : State :=
  let v := (State.raiseHighest (u.setBand { u.sup.band with last := some (u.evalValues r) }) (u.findBands r).level).updateWarning
    (u.findBands r).warning
  if u.servesFirst r then v.setLatch (u.findBands r).latchSource else v

theorem State.combineBands_eq (u : State) (r : Run) : u.combineBands r =
    if u.servesFirst r then
      (if (u.findBands r).level = .emergency then (u.banded r).bandEmergency (u.findBands r).cause else u.banded r).hold .service
    else if (u.findBands r).level = .emergency then (u.banded r).bandEmergency (u.findBands r).cause else u.banded r := rfl

theorem State.updateWarning_plan (s : State) (w : Option Source) : (s.updateWarning w).plan = s.plan := by
  simp only [State.updateWarning]
  split <;> simp [State.interventionNotice]

theorem State.updateWarning_sup (s : State) (w : Option Source) :
    (s.updateWarning w).sup = { s.sup with band := { s.sup.band with warning := w } } := by
  simp only [State.updateWarning]
  split <;> simp [State.interventionNotice, State.setBand]

theorem State.setLatch_sup (s : State) (y : Source) :
    (s.setLatch y).sup = { s.sup with band := { s.sup.band with latch := some y } } := by
  simp [State.setLatch, State.interventionNotice, State.setBand]

theorem State.raiseHighest_run (s : State) (k : Band) (hr : s.plan.run = some r) :
    ∃ n, (s.raiseHighest k).plan.run = some { r with highest := n } := by
  unfold State.raiseHighest
  split
  · exact ⟨k, by simp [hr]⟩
  · exact ⟨r.highest, hr⟩

theorem State.raiseHighest_sup (s : State) (k : Band) :
    ∃ n, (s.raiseHighest k).sup = { s.sup with band := { s.sup.band with highest := n } } := by
  unfold State.raiseHighest
  split
  · exact ⟨k, rfl⟩
  · exact ⟨s.sup.band.highest, rfl⟩

theorem State.banded_run (hr : u.plan.run = some r) (x : Run) : ∃ n, (u.banded x).plan.run = some { r with highest := n } := by
  obtain ⟨n, hn⟩ := State.raiseHighest_run (r := r) (u.setBand { u.sup.band with last := some (u.evalValues x) }) (u.findBands x).level hr
  refine ⟨n, ?_⟩
  simp only [State.banded]
  split
  · simpa [State.setLatch, State.interventionNotice, State.updateWarning_plan] using hn
  · rw [State.updateWarning_plan]
    exact hn

theorem State.banded_sup (u : State) (x : Run) : ∃ n, (u.banded x).sup = { u.sup with band := { u.sup.band with
    last := some (u.evalValues x), highest := n, warning := (u.findBands x).warning
    latch := if u.servesFirst x then some (u.findBands x).latchSource else u.sup.band.latch } } := by
  obtain ⟨n, hn⟩ := State.raiseHighest_sup (u.setBand { u.sup.band with last := some (u.evalValues x) }) (u.findBands x).level
  refine ⟨n, ?_⟩
  simp only [State.banded]
  split
  · rw [State.setLatch_sup, State.updateWarning_sup, hn]
    rfl
  · rw [State.updateWarning_sup, hn]
    rfl

theorem State.banded_brk (u : State) (x : Run) : (u.banded x).brk = u.brk := by
  simp only [State.banded]
  split
  · simp [State.setLatch, State.interventionNotice]
  · simp

end Machine
end Sys2Proof
end

section
/-! PROOFS. What a sample makes of a run after its bands: one that it has tripped stays TRIPPED, and one that stays under way
keeps what the bands left. -/

namespace Sys2Proof
namespace Machine

variable {s u : State} {r x : Run} {n : Nat}

/-! ### A run that the sample has tripped -/

/-- The outputs are dropped, and the run is the one numbered `n`, TRIPPED. -/
def State.Tripped (n : Nat) (s : State) : Prop :=
  s.control.Down ∧ ∃ x, s.plan.run = some x ∧ x.state = .tripped ∧ x.id = n

theorem State.emergency_tripped (hx : s.plan.run = some x) (k : Cause) (f : Figures) : (s.emergency k f).Tripped x.id :=
  ⟨s.control_down_of_emergency k f, x.trip, by simp [hx], x.trip_state, x.trip_id⟩

theorem State.Tripped.of_eq {t : State} (h : s.Tripped n) (hrun : t.plan.run = s.plan.run) (hcontrol : s.Moves t) :
    t.Tripped n := by
  obtain ⟨hdown, x, hx, hspec⟩ := h
  exact ⟨hcontrol.down hdown, x, hrun.trans hx, hspec⟩

/-! ### The check of uncommanded motion -/

/-- The count of uncommanded motion that a sample comes to. -/
def State.motionCount (s : State) : Nat :=
  if (s.sup.band.umArmed || s.trk.still) && s.uncommanded then s.sup.band.umCount + 1 else 0

theorem State.motionCheck_of_low (h : s.motionCount < 21) : s.motionCheck =
    s.setBand { s.sup.band with umArmed := s.sup.band.umArmed || s.trk.still, umCount := s.motionCount } := if_pos h

/-- The state with the check disarmed and its notice queued. -/
def State.motionNoticed (s : State) : State :=
  let s := s.setBand { s.sup.band with umArmed := false, umCount := 0 }
  s.notice .intervention 3
    (Cause.uncommandedMotion.fields ++ interventionFields s.runId { s.sup.band.values with vE := 0 } s.sup.band.highest)

theorem State.motionCheck_of_high (h : 21 ≤ s.motionCount) : s.motionCheck =
    s.motionNoticed.emergency .uncommandedMotion (s.motionNoticed.sampleFigures { s.sup.band.values with vE := 0 }) :=
  if_neg (Nat.not_lt.2 h)

theorem State.motionNoticed_run (s : State) : s.motionNoticed.plan.run = s.plan.run := by simp [State.motionNoticed]

theorem State.Tripped.motionCheck (h : s.Tripped n) : s.motionCheck.Tripped n := by
  rcases Nat.lt_or_ge s.motionCount 21 with hlow | hhigh
  · exact h.of_eq (by rw [State.motionCheck_of_low hlow]; rfl) (State.Moves.refl s).motionCheck
  · obtain ⟨-, x, hx, -, hid⟩ := h
    rw [State.motionCheck_of_high hhigh, ← hid]
    exact State.emergency_tripped (s.motionNoticed_run.trans hx) _ _

theorem State.sample_tripped_of_check (h : s.motionSeen.bands.motionCheck.Tripped n) : s.sample.Tripped n := by
  have hwatched : s.watched.Tripped n :=
    h.of_eq (by simp [State.watched, State.supervised]) (State.Moves.refl _).decelTest.notifyWatches
  obtain ⟨hdown, x, hx, hst, hid⟩ := hwatched
  have hplan : s.watched.planRun s.stopPoint = s.watched.setRef 0 :=
    State.planRun_of_tripped (fun y hy => by rw [← Option.some.inj (hx.symm.trans hy)]; exact hst)
  have hrun : s.sample.plan.run = s.watched.plan.run := by rw [State.sample_eq, hplan]; simp
  refine ⟨?_, x, hrun.trans hx, hst, hid⟩
  rw [State.sample_control, hplan, State.setRef_control]
  exact hdown

theorem State.sample_tripped (h : s.motionSeen.bands.Tripped n) : s.sample.Tripped n := State.sample_tripped_of_check h.motionCheck

/-- Outputs dropped by the check of uncommanded motion stay so, and the record stays. -/
theorem State.sample_of_down (h : s.motionSeen.bands.motionCheck.control.Down) : s.sample.control.Down ∧
    s.watched.planRun s.stopPoint = s.watched.setRef 0 ∧
    ∀ y, s.motionSeen.bands.motionCheck.sup.trip = some y → ∃ z, s.sample.sup.trip = some z ∧ y.Same z := by
  have hmoves : State.Moves s.motionSeen.bands.motionCheck s.watched := (State.Moves.refl _).decelTest.notifyWatches
  have hdown : s.watched.control.Down := hmoves.down h
  have hplan : s.watched.planRun s.stopPoint = s.watched.setRef 0 := by
    refine State.planRun_of_tripped (fun y hy => ?_)
    have hrun : s.watched.control.run = some y.state := State.control_run hy
    rcases hdown.run with hnone | hsome
    · rw [hnone] at hrun; cases hrun
    · exact Option.some.inj (hrun.symm.trans hsome)
  have hcontrol : s.sample.control = s.watched.control := by rw [State.sample_control, hplan, State.setRef_control]
  refine ⟨by rw [hcontrol]; exact hdown, hplan, fun y hy => ?_⟩
  obtain ⟨z, hz, hsame⟩ := Control.Moves.record hmoves (x := y) hy
  exact ⟨z, (congrArg Control.record hcontrol :).trans hz, hsame⟩

/-! ### A run that stays under way -/

/-- A run tripped is not under way. -/
theorem Run.trip_not_evaluated (r : Run) : r.trip.state.evaluated = false := by
  rw [r.trip_state]
  rfl

theorem State.stopComplete_settled (hr : s.plan.run = some r) (hst : r.state = .braking)
    (hx : s.stopComplete.plan.run = some x) : s.stopComplete.sup = s.sup ∧ x.state = .holding ∧ x.stop = r.stop ∧
      (r.stop.isAsap = true → x.holdCause = r.holdCause) := by
  cases hstop : r.stop with
  | target =>
    rw [State.stopComplete_target hr hst hstop, (State.arrive_spec _ _).1] at hx
    cases hx
  | watch n p =>
    rw [State.stopComplete_watch hr hst hstop, State.enterHolding_run] at hx
    obtain rfl := Option.some.inj hx
    rw [State.stopComplete_watch hr hst hstop]
    exact ⟨by simp, rfl, hstop, nofun⟩
  | asap v t =>
    rw [State.stopComplete_asap hr hst hstop] at hx ⊢
    split at hx
    · simp at hx
    next hc =>
      rw [State.enterHolding_run] at hx
      obtain rfl := Option.some.inj hx
      rw [if_neg hc]
      exact ⟨by simp, rfl, hstop, fun _ => rfl⟩

theorem State.stopSequence_settled (hr : s.plan.run = some r) (hst : r.state = .braking)
    (hx : s.stopSequence.plan.run = some x) (heval : x.state.evaluated = true) : s.stopSequence.sup = s.sup ∧ x.stop = r.stop ∧
      (r.stop.isAsap = true → x.holdCause = r.holdCause) := by
  have hbase : ∀ w : State, w.plan.run = some r → w.sup = s.sup → w.brk.seq = .stopWait → w.settleApply.plan.run = some x →
      w.settleApply.sup = s.sup ∧ x.stop = r.stop ∧ (r.stop.isAsap = true → x.holdCause = r.holdCause) := by
    intro w hw hsup hseq hwx
    cases hfailed : w.brk.failedOne with
    | some i =>
      rw [State.settleApply_of_failed hfailed] at hwx
      simp only [State.raise_run, hw, Option.map_some] at hwx
      rw [← Option.some.inj hwx, r.trip_not_evaluated] at heval
      cases heval
    | none =>
      simp only [State.settleApply, hfailed, hseq] at hwx ⊢
      split at hwx
      next happlied =>
        obtain ⟨hdone, -, hkept⟩ := State.stopComplete_settled (s := w.tenOff) (by simpa using hw) hst hwx
        rw [if_pos happlied]
        exact ⟨by rw [hdone]; simpa using hsup, hkept⟩
      next happlied =>
        rw [if_neg happlied]
        obtain rfl := Option.some.inj (hw.symm.trans hwx)
        exact ⟨hsup, rfl, fun _ => rfl⟩
  exact hbase _ (by simpa [State.setBrakes] using hr) (by simp [State.setBrakes]) (by simp [State.setBrakes]) hx

theorem State.phase_sup (s : State) (r : Run) (y : RefTerms) : (s.phase r y).sup = s.sup := by
  simp only [State.phase]
  split <;> simp

theorem State.phase_run (s : State) (r : Run) (y : RefTerms) :
    (s.phase r y).plan.run = some { r with state := nextPhase r.state y } := by
  simp only [State.phase]
  split
  next h => rw [h]; rfl
  next => simp

theorem State.drivePhase_settled {tb : Tables} {d : RunDyn} {found : StopPoint}
    (hx : (s.drivePhase tb r found d).plan.run = some x) (heval : x.state.evaluated = true) :
    (s.drivePhase tb r found d).sup = s.sup ∧ x.stop = r.stop ∧ (r.stop.isAsap = true → x.holdCause = r.holdCause) := by
  simp only [State.drivePhase] at hx ⊢
  split at hx
  next hseq =>
    rw [if_pos hseq]
    split at hx
    next hstop =>
      rw [if_pos hstop]
      have hdone := State.stopSequence_settled (State.phase_run _ _ _) (by simp [hstop.1, nextPhase]) hx heval
      exact ⟨hdone.1.trans (State.phase_sup _ _ _), hdone.2⟩
    next hstop =>
      rw [State.phase_run] at hx
      obtain rfl := Option.some.inj hx
      rw [if_neg hstop]
      exact ⟨State.phase_sup _ _ _, rfl, fun _ => rfl⟩
  next hseq =>
    obtain rfl := Option.some.inj hx
    rw [if_neg hseq]
    exact ⟨rfl, rfl, fun _ => rfl⟩

/-- A run that the planner leaves under way: its stop and its hold stay, and so do the envelope and the band record. -/
theorem State.planRun_settled {found : Option StopPoint} (hr : s.plan.run = some r) (hst : r.state.evaluated = true)
    (hx : (s.planRun found).plan.run = some x) (heval : x.state.evaluated = true) : (s.planRun found).sup = s.sup ∧
      (r.state.moving = false → x = r) ∧ x.stop = r.stop ∧ (r.stop.isAsap = true → x.holdCause = r.holdCause) := by
  have hquiet : s.planRun found = s.setRef 0 → (s.planRun found).sup = s.sup ∧
      (r.state.moving = false → x = r) ∧ x.stop = r.stop ∧ (r.stop.isAsap = true → x.holdCause = r.holdCause) := by
    intro h
    rw [h] at hx ⊢
    obtain rfl := Option.some.inj (hr.symm.trans hx)
    exact ⟨rfl, fun _ => rfl, rfl, fun _ => rfl⟩
  have hplanned : r.state ≠ .planned := fun h => by rw [h] at hst; cases hst
  cases htb : s.geo.committed with
  | none => exact hquiet (by simp only [State.planRun, hr, htb])
  | some tb =>
    cases hm : r.state.moving with
    | false => exact hm ▸ hquiet (by simp only [State.planRun, hr, htb, if_neg hplanned, hm]; rfl)
    | true =>
      cases hd : r.dyn with
      | none => exact hm ▸ hquiet (by simp only [State.planRun, hr, htb, if_neg hplanned, hm, hd]; rfl)
      | some d =>
        have hdrive : s.planRun found = s.drivePhase tb r (found.getD r.stop) d := by
          simp only [State.planRun, hr, htb, if_neg hplanned, hm, hd]; rfl
        rw [hdrive] at hx ⊢
        obtain ⟨hsup, hkept⟩ := State.drivePhase_settled hx heval
        exact ⟨hsup, nofun, hkept⟩

end Machine
end Sys2Proof
end

section
/-! PROOFS. The bands of a sample that end in an emergency, and the sample that counts no miss that matters. -/

namespace Sys2Proof
namespace Machine

variable {s u : State} {r x : Run} {n : Nat} {c : Car} {e : Envelope}

/-! ### A sample that keeps the confidence -/

theorem State.missTest_conf (s : State) (c : Car) : (s.missTest c).trk.conf = s.trk.conf ∨
    (s.missTest c).trk.conf = .degraded ∨ (s.missTest c).trk.conf = .lost := by
  by_cases h : ∃ e, s.trk.Passed c e
  · obtain ⟨e, he⟩ := h
    rw [State.missTest_trk_of_passed he]
    split
    · exact .inl rfl
    · rw [Tracker.enter_conf, missOutcome]
      (repeat' split) <;> simp
  · rw [State.missTest_of_none (fun e he => h ⟨e, he⟩)]
    exact .inl rfl

/-- A miss that leaves the confidence touches neither the run nor the Supervisor nor the brakes. -/
theorem State.missTest_quiet (h : (s.missTest c).trk.conf = s.trk.conf) : (s.missTest c).plan = s.plan ∧
    (s.missTest c).sup = s.sup ∧ (s.missTest c).brk = s.brk := by
  by_cases hp : ∃ e, s.trk.Passed c e
  · obtain ⟨e, he⟩ := hp
    have hsame : s.trk.conf = missOutcome s.trk.conf (s.trk.misses.get c + 1) := by
      rw [State.missTest_trk_of_passed he] at h
      split at h
      next hout => exact hout
      next => exact (h.symm.trans (Tracker.enter_conf _ _))
    have hset : State.setConf { s with trk := s.trk.missed s.geo.markers c e } s.trk.conf =
        { s with trk := s.trk.missed s.geo.markers c e } := if_pos rfl
    rw [State.missTest_of_passed he, ← hsame]
    simp only [State.confEvent, State.lostEffects, hset]
    split
    next hlost =>
      obtain ⟨hne, hl⟩ := hlost
      exact absurd (by simpa using hl) hne
    next => exact ⟨by simp, by simp, by simp⟩
  · rw [State.missTest_of_none (fun e he => hp ⟨e, he⟩)]
    exact ⟨rfl, rfl, rfl⟩

/-- Where both tests together leave the confidence, the first does. -/
theorem State.missTest_A_conf (hexp : s.trk.conf = .unknown ∨ s.trk.conf = .lost → s.trk.expected = .const none)
    (h : ((s.missTest .A).missTest .B).trk.conf = s.trk.conf) : (s.missTest .A).trk.conf = s.trk.conf := by
  by_cases hp : ∃ e, s.trk.Passed .A e
  · obtain ⟨e, he⟩ := hp
    have hlost : s.trk.conf ≠ .lost := by
      intro hl
      have hget := he.1
      rw [hexp (.inr hl)] at hget
      cases hget
    rcases Nat.lt_or_ge 2 (s.trk.misses.get .A + 1) with hn | hn
    · have hthird := State.missTest_trk_third he hn hlost
      have hnone : (s.missTest .A).missTest .B = s.missTest .A :=
        State.missTest_of_no_expectation (by rw [hthird]) .B
      rw [hnone] at h
      exact h
    · obtain ⟨k, hk, hfirst, hsecond⟩ := State.missTest_trk_low he hn
      have hA : (s.missTest .A).trk.conf = k := by rw [hk]
      rcases (by omega : s.trk.misses.get .A + 1 = 1 ∨ s.trk.misses.get .A + 1 = 2) with h1 | h2
      · rw [hA, hfirst h1]
      · rcases (s.missTest .A).missTest_conf .B with hB | hB | hB
        · exact hB.symm.trans h
        · rw [hA, hsecond h2, ← hB, h]
        · exact absurd (h.symm.trans hB) hlost
  · rw [State.missTest_of_none (fun e he => hp ⟨e, he⟩)]

/-- A sample that leaves the confidence finds the run, the Supervisor and the brakes as they were. -/
theorem State.measured_quiet (hexp : s.ExpectationsOk) (h : s.sample.trk.conf = s.trk.conf) :
    s.measured.plan = s.plan ∧ s.measured.sup = s.sup ∧ s.measured.brk = s.brk := by
  have hmeasured : s.measured.plan = s.tracker.plan ∧ s.measured.sup = s.tracker.sup ∧ s.measured.brk = s.tracker.brk :=
    ⟨by simp [State.measured], by simp [State.measured], by simp [State.measured]⟩
  rw [hmeasured.1, hmeasured.2.1, hmeasured.2.2]
  by_cases hturned : s.measuredTrk.lastDir = s.trk.lastDir
  · have htrk := State.trackSample_of_straight hturned
    obtain ⟨-, -, -, -, -, -, -, -, -, -, -, hconf, -, -, hexpected⟩ := s.measuredTrk_spec
    have hsample : s.trackSample.trk.conf = s.trk.conf := by rw [htrk, hconf]
    rw [State.sample_trk, State.tracker, ← hsample] at h
    have hA := State.missTest_A_conf (s := s.trackSample)
      (fun hk => by rw [htrk, hexpected]; exact (hexp (hsample ▸ hk)).1) h
    obtain ⟨hplanA, hsupA, hbrkA⟩ := State.missTest_quiet hA
    obtain ⟨hplanB, hsupB, hbrkB⟩ := State.missTest_quiet (h.trans hA.symm)
    exact ⟨hplanB.trans hplanA, hsupB.trans hsupA, hbrkB.trans hbrkA⟩
  · rw [(State.tracker_of_turned hturned).1]
    exact ⟨rfl, rfl, rfl⟩

theorem State.motionSeen_of_still (h : s.trk.still = false ∨ s.sample.trk.still = true) : s.motionSeen = s.measured := by
  have hstill : s.measured.trk.still = s.sample.trk.still := by rw [State.sample_trk]; simp [State.measured]
  unfold State.motionSeen
  rw [hstill]
  exact if_neg (by rcases h with h | h <;> simp [h])

theorem State.motionSeen_trk (s : State) : s.motionSeen.trk = s.sample.trk := by
  rw [State.sample_trk]
  simp [State.motionSeen, State.measured, apply_ite]

theorem State.motionSeen_geo (s : State) : s.motionSeen.geo = s.geo := by
  simp [State.motionSeen, State.measured, State.tracker, State.trackSample, apply_ite]

theorem State.motionSeen_now (s : State) : s.motionSeen.now = s.now := by
  simp [State.motionSeen, State.measured, State.tracker, State.trackSample, apply_ite]

/-! ### The bands of a run under way -/

theorem State.bands_of_evaluated (hx : u.plan.run = some x) (heval : x.state.evaluated = true) : u.bands = u.combineBands x := by
  simp only [State.bands, hx, if_pos heval]

theorem State.bands_of_idle (h : ∀ x, u.plan.run = some x → x.state.evaluated = false) :
    u.bands = u.setBand { u.sup.band with last := some u.idleValues } := by
  unfold State.bands
  split
  next x hx => rw [h x hx]; rfl
  next => rfl

theorem State.Tripped.bands (h : u.Tripped n) : u.bands.Tripped n := by
  obtain ⟨-, x, hx, hst, -⟩ := id h
  have hidle : u.bands = u.setBand { u.sup.band with last := some u.idleValues } :=
    State.bands_of_idle (fun y hy => by rw [← Option.some.inj (hx.symm.trans hy), hst]; rfl)
  exact h.of_eq (by rw [hidle]; rfl) (State.Moves.refl u).bands

/-- Bands that are an EMERGENCY leave nothing to hold. -/
theorem State.combineBands_judged (h : (u.findBands x).level = .emergency) :
    u.combineBands x = (u.banded x).bandEmergency (u.findBands x).cause := by
  rw [State.combineBands_eq, if_pos h]
  split
  · exact State.hold_of_not_inMotion (State.emergency_atRest _ _) _
  · rfl

/-- Bands that are an EMERGENCY trip the line, with their cause where no record was valid. -/
theorem State.combineBands_emergency (hx : u.plan.run = some x) (h : (u.findBands x).level = .emergency) :
    (u.combineBands x).Tripped x.id ∧
      (u.sup.trip = none → ∃ y, (u.combineBands x).sup.trip = some y ∧ y.cause = (u.findBands x).cause) := by
  obtain ⟨m, hrun⟩ := State.banded_run hx x
  obtain ⟨k, hsup⟩ := u.banded_sup x
  rw [State.combineBands_judged h]
  refine ⟨State.emergency_tripped (x := { x with highest := m }) (by simpa [State.interventionNotice] using hrun) _ _,
    fun hnone => ⟨_, State.emergency_trip_of_none (by simp [State.interventionNotice, hsup, hnone]), rfl⟩⟩

theorem State.combineBands_calm (h : (u.findBands x).level ≠ .emergency) : u.combineBands x =
    if u.servesFirst x then (u.banded x).hold .service else u.banded x := by
  rw [State.combineBands_eq, if_neg h]

theorem State.findBands_curve_iff (he : u.sup.env = some e) : (u.findBands x).curve = .emergency ↔
    20 ≤ u.trk.v.natAbs ∧ e.vE u.trk.xA < u.trk.v.natAbs := by
  have hvE : u.sup.vE u.trk.xA = e.vE u.trk.xA := by simp [Supervisor.vE, he]
  rw [← hvE]
  exact curveBand_emergency _ _

/-- What makes the bands an EMERGENCY, by R54 to R57. -/
theorem State.findBands_emergency_iff (he : u.sup.env = some e) : (u.findBands x).level = .emergency ↔
    e.dLimit u.trk.xA < 0 ∨ 100 < -u.trk.v * x.dir.sign ∨ (20 ≤ u.trk.v.natAbs ∧ e.vE u.trk.xA < u.trk.v.natAbs) ∨
      112 * min x.cruise (min (u.geo.zone u.trk.xA).cap (u.geo.zone u.trk.xB).cap) < 100 * u.trk.v.natAbs := by
  have hlimit : (u.findBands x).limit = true ↔ e.dLimit u.trk.xA < 0 := by simp [State.findBands, limitPassed, he]
  have hback : (u.findBands x).rollback = true ↔ 100 < -u.trk.v * x.dir.sign := by simp [State.findBands, rollback]
  have hceiling := ceilingBand_emergency (mag u.trk.v) (u.ceiling x)
  rw [BandFinding.level_emergency_iff, hlimit, hback, State.findBands_curve_iff he]
  exact or_congr Iff.rfl (or_congr Iff.rfl (or_congr Iff.rfl hceiling))

theorem State.findBands_cause (he : u.sup.env = some e) : (u.findBands x).cause =
    if e.dLimit u.trk.xA < 0 then .limitPassed else if 100 < -u.trk.v * x.dir.sign then .rollback
    else if 20 ≤ u.trk.v.natAbs ∧ e.vE u.trk.xA < u.trk.v.natAbs then .overspeedCurve else .overspeedCeiling := by
  rw [BandFinding.cause, if_congr (State.findBands_curve_iff he) rfl rfl]
  simp [State.findBands, limitPassed, rollback, he]

end Machine
end Sys2Proof
end

section
/-! PROOFS. A sample by what it makes of a run under way: the overrun that trips it, and the bands that it keeps to. -/

namespace Sys2Proof
namespace Machine

variable {s u : State} {r x : Run} {n : Nat} {e : Envelope}

/-! ### The overrun (R54 to R58) -/

/-- Where the cars stand and how they move when a sample of the run `r` under the envelope `e` is an EMERGENCY. -/
def Tracker.Overruns (t : Tracker) (g : Geometry) (r : Run) (e : Envelope) : Prop :=
  e.dLimit t.xA < 0 ∨ 100 < -t.v * r.dir.sign ∨ (20 ≤ t.v.natAbs ∧ e.vE t.xA < t.v.natAbs) ∨
    112 * min r.cruise (min (g.zone t.xA).cap (g.zone t.xB).cap) < 100 * t.v.natAbs

theorem State.bands_of_overrun {b l : Bool} (hx : s.motionSeen.plan.run = some x) (hxe : x.state.evaluated = true)
    (hkept : r.Kept b l x) (he : s.motionSeen.sup.env = some e) (h : s.sample.trk.Overruns s.geo r e) :
    s.motionSeen.bands.Tripped r.id ∧ (s.motionSeen.sup.trip = none → ∃ y, s.motionSeen.bands.sup.trip = some y ∧
      y.cause = (s.motionSeen.findBands x).cause) := by
  have hlevel : (s.motionSeen.findBands x).level = .emergency := by
    rw [State.findBands_emergency_iff he, s.motionSeen_trk, s.motionSeen_geo, hkept.dir]
    refine h.imp_right (Or.imp_right (Or.imp_right (fun hc => lt_of_le_of_lt (Nat.mul_le_mul_left _ ?_) hc)))
    exact min_le_min_right _ hkept.cruise
  rw [State.bands_of_evaluated hx hxe, ← hkept.id]
  exact State.combineBands_emergency hx hlevel

theorem State.sample_overrun (hr : s.plan.run = some r) (heval : r.state.evaluated = true) (he : s.sup.env = some e)
    (h : s.sample.trk.Overruns s.geo r e) : s.sample.Tripped r.id := by
  obtain ⟨x, hx, hid, ⟨hst, hdown⟩ | ⟨hkept, henv⟩⟩ := State.motionSeen_under hr heval
  · exact State.sample_tripped (State.Tripped.bands ⟨hdown, x, hx, hst, hid⟩)
  · exact State.sample_tripped (State.bands_of_overrun hx (hkept.evaluated heval) hkept (henv.trans he) h).1

/-- The record of an overrun that is the first finding of its sample. -/
theorem State.sample_overrun_cause (hr : s.plan.run = some r) (heval : r.state.evaluated = true) (he : s.sup.env = some e)
    (h : s.sample.trk.Overruns s.geo r e) (hnone : s.sup.trip = none) (hstill : s.trk.still = false) (hexp : s.ExpectationsOk)
    (hconf : s.sample.trk.conf = s.trk.conf) : ∃ y, s.sample.sup.trip = some y ∧ y.cause =
      (if e.dLimit s.sample.trk.xA < 0 then .limitPassed else if 100 < -s.sample.trk.v * r.dir.sign then .rollback
        else if 20 ≤ s.sample.trk.v.natAbs ∧ e.vE s.sample.trk.xA < s.sample.trk.v.natAbs then .overspeedCurve
        else .overspeedCeiling) := by
  obtain ⟨hplan, hsup, -⟩ := State.measured_quiet hexp hconf
  rw [← State.motionSeen_of_still (.inl hstill)] at hplan hsup
  have hx : s.motionSeen.plan.run = some r := (congrArg (fun p => p.run) hplan :).trans hr
  have henv : s.motionSeen.sup.env = some e := (congrArg Supervisor.env hsup :).trans he
  obtain ⟨htripped, hrecord⟩ := State.bands_of_overrun hx heval (.refl true true r) henv h
  obtain ⟨y, hy, hcause⟩ := hrecord ((congrArg Supervisor.trip hsup :).trans hnone)
  rw [State.findBands_cause henv, s.motionSeen_trk] at hcause
  obtain ⟨w, hw, hsame⟩ := Control.Moves.record (State.Moves.refl s.motionSeen.bands).motionCheck (x := y) hy
  obtain ⟨z, hz, hsame'⟩ := (State.sample_of_down htripped.motionCheck.1).2.2 w hw
  exact ⟨z, hz, (hsame'.cause.trans hsame.cause).trans hcause⟩

/-! ### The bands of a run that stays under way (R53, R59, R60) -/

/-- A run `z` that follows a run `y` under way which a SERVICE hold meets (R80, R84). -/
structure Run.Serviced (y z : Run) : Prop where
  starting : y.state = .starting → z.state = .starting ∧ z.pendingStop = pendingWith y.pendingStop .service
  holding : y.state = .holding → z.state = .holding ∧ z.holdCause = y.holdCause ∧ z.stop = y.stop
  moving : y.state.moving = true → z.stop.isAsap = true ∧ (y.stop.isAsap = false → z.holdCause = some .service)

theorem State.hold_serviced (hx : s.plan.run = some x) (hxe : x.state.evaluated = true) :
    ∃ z, (s.hold .service).plan.run = some z ∧ z.state.evaluated = true ∧ x.Serviced z := by
  rcases (RunState.evaluated_iff _).1 hxe with hst | hst | hst
  · rw [State.hold_of_starting hx hst]
    exact ⟨_, rfl, hxe, fun _ => ⟨hst, rfl⟩, by simp [hst], by simp [hst, RunState.moving]⟩
  · rw [State.hold_of_not_inMotion (by simp [State.runInMotion, hx, hst, RunState.inMotion])]
    exact ⟨x, hx, hxe, by simp [hst], fun _ => ⟨hst, rfl, rfl⟩, by simp [hst, RunState.moving]⟩
  · obtain ⟨hstarting, hholding⟩ := RunState.apart_of_moving hst
    rw [State.hold_of_moving hx hst]
    cases ha : x.stop.isAsap with
    | true =>
      rw [State.takeHold_of_asap ha]
      exact ⟨_, rfl, hxe, fun h => absurd h hstarting, fun h => absurd h hholding, fun _ => ⟨ha, fun h => by simp [ha] at h⟩⟩
    | false =>
      rw [State.takeHold_plan ha]
      exact ⟨_, rfl, rfl, fun h => absurd h hstarting, fun h => absurd h hholding, fun _ => ⟨rfl, fun _ => rfl⟩⟩

/-- The bands without an emergency: the record as they leave it, and the run, held where they are the first of SERVICE. -/
theorem State.combineBands_of_calm (hx : u.plan.run = some x) (hxe : x.state.evaluated = true)
    (h : (u.findBands x).level ≠ .emergency) : (u.combineBands x).sup = (u.banded x).sup ∧
      ∃ z, (u.combineBands x).plan.run = some z ∧ z.state.evaluated = true ∧ (u.servesFirst x = true → x.Serviced z) := by
  obtain ⟨m, hm⟩ := State.banded_run hx x
  rw [State.combineBands_calm h]
  split
  · obtain ⟨z, hz, hze, hserviced⟩ := State.hold_serviced hm hxe
    exact ⟨by simp, z, hz, hze, fun _ => ⟨hserviced.starting, hserviced.holding, hserviced.moving⟩⟩
  next hfirst => exact ⟨rfl, _, hm, hxe, fun hy => absurd hy hfirst⟩

/-- What a sample that leaves the run under way made of it: `y` is the run at its bands and `z` the one they left. -/
structure State.Settled (s : State) (b : Bool) (r x y z : Run) : Prop where
  found : s.motionSeen.plan.run = some y
  kept : r.Kept b true y
  calm : (s.motionSeen.findBands y).level ≠ .emergency
  serviced : s.motionSeen.servesFirst y = true → y.Serviced z
  last : s.sample.sup.band.last = some (s.motionSeen.evalValues y)
  warning : s.sample.sup.band.warning = (s.motionSeen.findBands y).warning
  latch : s.sample.sup.band.latch =
    if s.motionSeen.servesFirst y then some (s.motionSeen.findBands y).latchSource else s.motionSeen.sup.band.latch
  env : s.sample.sup.env = s.motionSeen.sup.env
  still : z.state.moving = false → x = z
  stop : x.stop = z.stop
  hold : z.stop.isAsap = true → x.holdCause = z.holdCause

theorem State.sample_settled (hr : s.plan.run = some r) (heval : r.state.evaluated = true) (hx : s.sample.plan.run = some x)
    (hxe : x.state.evaluated = true) : ∃ y z, s.Settled (s.trk.still && !s.measured.trk.still) r x y z := by
  have hsafe : ∀ n, ¬s.sample.Tripped n := by
    rintro n ⟨-, w, hw, hst, -⟩
    rw [Option.some.inj (hx.symm.trans hw), hst] at hxe
    cases hxe
  obtain ⟨y, hy, hid, ⟨hst, hdown⟩ | ⟨hkept, henv⟩⟩ := State.motionSeen_under hr heval
  · exact absurd (State.sample_tripped (State.Tripped.bands ⟨hdown, y, hy, hst, hid⟩)) (hsafe _)
  · have hye := hkept.evaluated heval
    have hbands := State.bands_of_evaluated hy hye
    have hcalm : (s.motionSeen.findBands y).level ≠ .emergency := fun h =>
      hsafe _ (State.sample_tripped (hbands ▸ (State.combineBands_emergency hy h).1))
    obtain ⟨k, hsup⟩ := s.motionSeen.banded_sup y
    obtain ⟨hjudged, z, hz, hze, hserviced⟩ := State.combineBands_of_calm hy hye hcalm
    rw [← hbands] at hjudged hz
    have hlow : s.motionSeen.bands.motionCount < 21 := by
      by_contra hhigh
      refine hsafe z.id (State.sample_tripped_of_check ?_)
      rw [State.motionCheck_of_high (Nat.not_lt.1 hhigh)]
      exact State.emergency_tripped ((State.motionNoticed_run _).trans hz) _ _
    have hcheck := State.motionCheck_of_low hlow
    have hwz : s.watched.plan.run = some z := by
      simp only [State.watched, State.supervised, State.notifyWatches_frame, State.decelTest_frame]
      rw [hcheck]
      exact hz
    have hplan : s.sample.plan.run = (s.watched.planRun s.stopPoint).plan.run := by rw [State.sample_eq]; simp
    have hsampled : s.sample.sup = (s.watched.planRun s.stopPoint).sup := by rw [State.sample_eq]; simp
    obtain ⟨hkeeps, hstill, hstop, hhold⟩ := State.planRun_settled hwz hze (hplan ▸ hx) hxe
    have henvs : s.sample.sup.env = s.motionSeen.bands.motionCheck.sup.env := by
      rw [hsampled, hkeeps]; simp [State.watched, State.supervised]
    have hband : s.sample.sup.band = s.motionSeen.bands.motionCheck.sup.band := by
      rw [hsampled, hkeeps]; simp [State.watched, State.supervised]
    rw [hcheck] at henvs hband
    have henvs' : s.sample.sup.env = s.motionSeen.bands.sup.env := henvs
    rw [hjudged, hsup] at henvs'
    refine ⟨y, z, hy, hkept, hcalm, hserviced, ?_, ?_, ?_, henvs', hstill, hstop, hhold⟩
    · rw [hband]
      exact (congrArg (fun p => p.band.last) (hjudged.trans hsup) :)
    · rw [hband]
      exact (congrArg (fun p => p.band.warning) (hjudged.trans hsup) :)
    · rw [hband]
      exact (congrArg (fun p => p.band.latch) (hjudged.trans hsup) :)

end Machine
end Sys2Proof
end

section
/-! PROOFS. What a sample records of a run that stays under way, by the bands it kept to. -/

namespace Sys2Proof
namespace Machine

variable {s u : State} {r x y z : Run}

/-! ### The warning state and the latch -/

theorem State.findBands_warning (u : State) (y : Run) : (u.findBands y).warning =
    if (20 ≤ u.trk.v.natAbs ∧ 90 * u.sup.vE u.trk.xA < 100 * u.trk.v.natAbs) ∧ u.ceiling y < u.trk.v.natAbs then some .both
    else if 20 ≤ u.trk.v.natAbs ∧ 90 * u.sup.vE u.trk.xA < 100 * u.trk.v.natAbs then some .curve
    else if u.ceiling y < u.trk.v.natAbs then some .ceiling else none := by
  have hcurve : (u.findBands y).curve.atLeast .warning = true ↔
      20 ≤ u.trk.v.natAbs ∧ 90 * u.sup.vE u.trk.xA < 100 * u.trk.v.natAbs := curveBand_warning _ _
  have hceiling : (u.findBands y).ceiling.atLeast .warning = true ↔ u.ceiling y < u.trk.v.natAbs := ceilingBand_warning _ _
  simp only [← hcurve, ← hceiling, BandFinding.warning]
  cases (u.findBands y).curve.atLeast .warning <;> cases (u.findBands y).ceiling.atLeast .warning <;> rfl

theorem State.latch_of_calm (h : (u.findBands y).level ≠ .emergency) :
    (if u.servesFirst y then some (u.findBands y).latchSource else u.sup.band.latch) = u.sup.band.latch.or
      (if 20 ≤ u.trk.v.natAbs ∧ 95 * u.sup.vE u.trk.xA < 100 * u.trk.v.natAbs then some .curve
        else if 105 * u.ceiling y < 100 * u.trk.v.natAbs then some .ceiling else none) := by
  have hcurve : (u.findBands y).curve.atLeast .service = true ↔
      20 ≤ u.trk.v.natAbs ∧ 95 * u.sup.vE u.trk.xA < 100 * u.trk.v.natAbs := curveBand_service _ _
  have hceiling : (u.findBands y).ceiling.atLeast .service = true ↔ 105 * u.ceiling y < 100 * u.trk.v.natAbs :=
    ceilingBand_service _ _
  simp only [← hcurve, ← hceiling]
  rw [State.servesFirst, BandFinding.level_of_not_emergency h, Band.max_atLeast, BandFinding.latchSource]
  cases u.sup.band.latch <;> cases (u.findBands y).curve.atLeast .service <;>
    cases (u.findBands y).ceiling.atLeast .service <;> rfl

/-! ### The hold of a SERVICE band -/

theorem State.motionSeen_latch (s : State) : s.motionSeen.sup.band.latch = s.sup.band.latch :=
  (congrArg BandRec.latch s.motionSeen_tests.silent :)

theorem State.Settled.holds {b : Bool} (h : s.Settled b r x y z) (hfirst : s.motionSeen.servesFirst y = true) :
    (r.state.moving = true → x.stop.isAsap = true ∧ (r.stop.isAsap = false → b = false → x.holdCause = some .service)) ∧
    (r.state = .starting → x.pendingStop = some (if r.pendingStop = some .cancel then .cancel else .service)) ∧
    (r.state = .holding → x.holdCause = r.holdCause ∧ x.stop = r.stop) := by
  obtain ⟨hstarting, hholding, hmoving⟩ := h.serviced hfirst
  refine ⟨fun hst => ?_, fun hst => ?_, fun hst => ?_⟩
  · obtain ⟨hasap, hcause⟩ := hmoving (h.kept.moving hst).1
    refine ⟨h.stop ▸ hasap, fun hr hb => ?_⟩
    rw [h.hold hasap]
    refine hcause ?_
    rw [h.kept.apart hb]
    exact hr
  · obtain ⟨hy, hpending⟩ := h.kept.starting hst
    obtain ⟨hz, hstop⟩ := hstarting hy
    rw [h.still (by rw [hz]; rfl), hstop, pendingWith_eq, if_congr hpending rfl rfl]
    split <;> rfl
  · obtain ⟨hy, hcause, hstop⟩ := h.kept.holding hst
    obtain ⟨hz, hcause', hstop'⟩ := hholding hy
    rw [h.still (by rw [hz]; rfl)]
    exact ⟨hcause'.trans hcause, hstop'.trans hstop⟩

theorem State.measured_still (s : State) : s.measured.trk.still = s.sample.trk.still := by
  rw [State.sample_trk]
  simp [State.measured]

/-- The cruise that the bands find of a run under way, where the sample keeps the confidence. -/
theorem State.motionSeen_cruise {b : Bool} (hr : s.plan.run = some r) (heval : r.state.evaluated = true) (hexp : s.ExpectationsOk)
    (hconf : s.sample.trk.conf = s.trk.conf) (hy : s.motionSeen.plan.run = some y) (hkept : r.Kept b true y) :
    y.cruise = r.cruise := by
  obtain ⟨hplan, -⟩ := State.measured_quiet hexp hconf
  have hrun : s.measured.plan.run = some r := (congrArg (fun p => p.run) hplan :).trans hr
  unfold State.motionSeen at hy
  split at hy
  · obtain ⟨x, hx, -, ⟨hst, -⟩ | ⟨hsteady, -⟩⟩ := (State.Tests.refl true false s.measured).stillTests.keeps
      (P := State.Under true false r s.measured.sup.env) (fun h hv => h.under heval hv) ⟨r, hrun, rfl, .inr ⟨.refl _ _ r, rfl⟩⟩
    · obtain rfl := Option.some.inj (hx.symm.trans hy)
      have := hkept.evaluated heval
      rw [hst] at this
      cases this
    · rw [← Option.some.inj (hx.symm.trans hy)]
      exact hsteady.steady rfl
  · rw [Option.some.inj (hrun.symm.trans hy)]

/-- A sample that leaves the run under way records its values, its warning state and its latch. -/
theorem State.sample_bands (hr : s.plan.run = some r) (heval : r.state.evaluated = true) (hx : s.sample.plan.run = some x)
    (hxe : x.state.evaluated = true) : ∃ e c, s.sample.sup.band.last = some e ∧ e.time = s.now ∧ e.xA = s.sample.trk.xA ∧
      e.v = s.sample.trk.v ∧ e.vE = s.sample.sup.vE s.sample.trk.xA ∧ e.c = some c ∧
      (s.ExpectationsOk → s.sample.trk.conf = s.trk.conf →
        c = min r.cruise (min (s.geo.zone s.sample.trk.xA).cap (s.geo.zone s.sample.trk.xB).cap)) ∧
      s.sample.sup.band.warning =
        (if (20 ≤ s.sample.trk.v.natAbs ∧ 90 * e.vE < 100 * s.sample.trk.v.natAbs) ∧ c < s.sample.trk.v.natAbs then some .both
          else if 20 ≤ s.sample.trk.v.natAbs ∧ 90 * e.vE < 100 * s.sample.trk.v.natAbs then some .curve
          else if c < s.sample.trk.v.natAbs then some .ceiling else none) ∧
      s.sample.sup.band.latch = s.sup.band.latch.or
        (if 20 ≤ s.sample.trk.v.natAbs ∧ 95 * e.vE < 100 * s.sample.trk.v.natAbs then some .curve
          else if 105 * c < 100 * s.sample.trk.v.natAbs then some .ceiling else none) ∧
      (s.sup.band.latch = none → s.sample.sup.band.latch.isSome = true →
        (r.state.moving = true → x.stop.isAsap = true ∧
          (r.stop.isAsap = false → (s.trk.still = false ∨ s.sample.trk.still = true) → x.holdCause = some .service)) ∧
        (r.state = .starting → x.pendingStop = some (if r.pendingStop = some .cancel then .cancel else .service)) ∧
        (r.state = .holding → x.holdCause = r.holdCause ∧ x.stop = r.stop)) := by
  obtain ⟨y, z, h⟩ := State.sample_settled hr heval hx hxe
  have htrk := s.motionSeen_trk
  have hvE : s.motionSeen.sup.vE s.motionSeen.trk.xA = s.sample.sup.vE s.sample.trk.xA := by
    rw [htrk]
    simp only [Supervisor.vE, h.env]
  refine ⟨_, s.motionSeen.ceiling y, h.last, s.motionSeen_now, (congrArg Tracker.xA htrk :), (congrArg Tracker.v htrk :), hvE, rfl, ?_, ?_, ?_, ?_⟩
  · intro hexp hconf
    rw [← State.motionSeen_cruise hr heval hexp hconf h.found h.kept, ← htrk, ← s.motionSeen_geo]
    rfl
  · rw [h.warning, State.findBands_warning, ← htrk]
    rfl
  · rw [h.latch, State.latch_of_calm h.calm, State.motionSeen_latch, ← htrk]
    rfl
  · intro hnone hsome
    have hfirst : s.motionSeen.servesFirst y = true := by
      by_contra hno
      rw [h.latch, if_neg hno, State.motionSeen_latch, hnone] at hsome
      cases hsome
    obtain ⟨hmoving, hrest⟩ := h.holds hfirst
    refine ⟨fun hst => ?_, hrest⟩
    obtain ⟨hasap, hcause⟩ := hmoving hst
    refine ⟨hasap, fun hr hstill => hcause hr ?_⟩
    rw [s.measured_still]
    rcases hstill with hs | hs <;> simp [hs]

end Machine
end Sys2Proof
end

section
/-! PROOFS. The check of uncommanded motion at a sample (R62). -/

namespace Sys2Proof
namespace Machine

variable {s u : State} {r x y : Run} {b l : Bool}

/-! ### What the check is made of -/

/-- The part of the band record that is of uncommanded motion. -/
def BandRec.motion (x : BandRec) : Bool × Nat := (x.umArmed, x.umCount)

theorem BandRec.motion_of_silent {p q : BandRec} (h : p.silent = q.silent) : p.motion = q.motion :=
  (congrArg BandRec.motion h :)

theorem State.bandEmergency_motion (s : State) (k : Cause) : (s.bandEmergency k).sup.band.motion = s.sup.band.motion := by
  simp only [State.bandEmergency]
  rw [BandRec.motion_of_silent (State.emergency_silent _ _ _)]
  simp [State.interventionNotice, State.setBand, BandRec.motion]

/-- A run that waits in PLANNED after the tests waited there before them. -/
theorem State.Tests.planned_of {t : State} (h : s.Tests b l t) (hy : t.plan.run = some y) (hst : y.state = .planned) :
    ∃ x, s.plan.run = some x ∧ x.state = .planned := by
  refine h.keeps (P := fun w => ∀ y, w.plan.run = some y → y.state = .planned → ∃ x, s.plan.run = some x ∧ x.state = .planned)
    (fun {v w} g hv z hz hplanned => ?_) (fun x hx hplanned => ⟨x, hx, hplanned⟩) y hy hst
  cases g with
  | quiet hrun hsup hbrk => exact hv z (hrun ▸ hz) hplanned
  | lower hl =>
    cases hrun : v.plan.run with
    | none => simp [State.lowerCruise, hrun] at hz
    | some x =>
      obtain ⟨n, -, hn⟩ := State.lowerCruise_run hrun
      rw [← Option.some.inj (hn.symm.trans hz)] at hplanned
      exact hv x hrun hplanned
  | hold k hb hk =>
    cases hm : v.runInMotion with
    | false =>
      rw [State.hold_of_not_inMotion hm] at hz
      exact hv z hz hplanned
    | true =>
      have hmotion := State.hold_inMotion hm k
      simp [State.runInMotion, hz, hplanned, RunState.inMotion] at hmotion
  | raise k =>
    simp only [State.raise_run, Option.map_eq_some_iff] at hz
    obtain ⟨x, -, rfl⟩ := hz
    rw [x.trip_state] at hplanned
    cases hplanned
  | close k =>
    unfold State.closePlanned at hz
    split at hz
    · split at hz
      · simp at hz
      · exact hv z hz hplanned
    · exact hv z hz hplanned

/-- What the bands leave of the check of uncommanded motion: its record, outputs switched off, and a run that waits. -/
theorem State.bands_motion (u : State) : u.bands.sup.band.motion = u.sup.band.motion ∧
    (u.brk.released = false → u.bands.brk.released = false) ∧
    ∀ y, u.bands.plan.run = some y → y.state = .planned → u.plan.run = some y := by
  by_cases h : ∃ x, u.plan.run = some x ∧ x.state.evaluated = true
  · obtain ⟨x, hx, hxe⟩ := h
    rw [State.bands_of_evaluated hx hxe]
    obtain ⟨k, hsup⟩ := u.banded_sup x
    have hmotion : (u.banded x).sup.band.motion = u.sup.band.motion := by rw [hsup]; rfl
    by_cases hlevel : (u.findBands x).level = .emergency
    · obtain ⟨hdown, z, hz, hst, -⟩ := (State.combineBands_emergency hx hlevel).1
      refine ⟨?_, fun _ => ?_, fun y hy hplanned => ?_⟩
      · rw [State.combineBands_judged hlevel, State.bandEmergency_motion, hmotion]
      · simp only [Brakes.released]
        rw [show (u.combineBands x).brk.sbr = false from hdown.sbr, show (u.combineBands x).brk.ebr = false from hdown.ebr]
        rfl
      · rw [← Option.some.inj (hz.symm.trans hy), hst] at hplanned
        cases hplanned
    · obtain ⟨hband, z, hz, hze, -⟩ := State.combineBands_of_calm hx hxe hlevel
      refine ⟨by rw [hband, hmotion], fun hb => ?_, fun y hy hplanned => ?_⟩
      · have hbrk : (u.combineBands x).brk = u.brk := by
          rw [State.combineBands_calm hlevel]
          split <;> simp [State.banded_brk]
        rw [hbrk, hb]
      · rw [Option.some.inj (hz.symm.trans hy), hplanned] at hze
        cases hze
  · rw [State.bands_of_idle (fun x hx => Bool.eq_false_iff.2 (fun hxe => h ⟨x, hx, hxe⟩))]
    exact ⟨rfl, id, fun y hy _ => hy⟩

/-! ### The planner at rest -/

/-- A run that the planner does not take out of PLANNED leaves the Supervisor alone. -/
theorem State.planRun_sup_atRest (hrest : u.runInMotion = false) (found : Option StopPoint)
    (hleft : ∀ y, u.plan.run = some y → y.state = .planned → ∃ x, (u.planRun found).plan.run = some x ∧
      (x.state = .planned ∨ x.state = .tripped)) : (u.planRun found).sup = u.sup := by
  cases hrun : u.plan.run with
  | none => rw [State.planRun_of_tripped (fun x hx => by rw [hrun] at hx; cases hx)]; rfl
  | some y =>
    have hst : y.state.inMotion = false := by simpa [State.runInMotion, hrun] using hrest
    have hmoving : y.state.moving = false := by cases h : y.state <;> simp_all [RunState.inMotion, RunState.moving]
    cases htb : u.geo.committed with
    | none => simp only [State.planRun, hrun, htb]; rfl
    | some tb =>
      by_cases hplanned : y.state = .planned
      · obtain ⟨x, hx, hxst⟩ := hleft y hrun hplanned
        cases hcond : u.startConditions with
        | false => rw [State.planRun_of_no_conditions hrun hplanned htb hcond]; rfl
        | true =>
          have hplan := State.planRun_of_conditions hrun hplanned htb hcond found
          have hsound : (u.leaving tb y).drive.faulted = false := by simpa using State.drive_sound_of_conditions hcond
          rw [hplan] at hx
          split at hx
          · simp at hx
          · rw [(State.depart_of_sound hsound).1] at hx
            rw [← Option.some.inj hx] at hxst
            rcases hxst with h | h <;> cases h
      · simp only [State.planRun, hrun, htb, if_neg hplanned, hmoving]; rfl

end Machine
end Sys2Proof
end

section
/-! PROOFS. The check of uncommanded motion and the test of the escalation watch, as a sample makes them. -/

namespace Sys2Proof
namespace Machine

variable {s u : State} {r x y : Run}

/-! ### Uncommanded motion (R62) -/

theorem State.motionSeen_bands_trk (s : State) : s.motionSeen.bands.trk = s.sample.trk := by
  rw [← s.motionSeen_trk]
  simp

theorem State.motionSeen_bands_motion (s : State) : s.motionSeen.bands.sup.band.motion = s.sup.band.motion :=
  s.motionSeen.bands_motion.1.trans (BandRec.motion_of_silent s.motionSeen_tests.silent)

/-- The count of uncommanded motion, of what the sample found. -/
theorem State.sample_motionCount (hrest : s.runInMotion = false) (hreleased : s.brk.released = false) :
    s.motionSeen.bands.motionCount =
      if (s.sup.band.umArmed || s.sample.trk.still) = true ∧ 20 ≤ s.sample.trk.v.natAbs then s.sup.band.umCount + 1 else 0 := by
  have hmotion := s.motionSeen_bands_motion
  have harmed : s.motionSeen.bands.sup.band.umArmed = s.sup.band.umArmed := congrArg Prod.fst hmotion
  have hcount : s.motionSeen.bands.sup.band.umCount = s.sup.band.umCount := congrArg Prod.snd hmotion
  have houtputs := s.motionSeen.bands_motion.2.1 (s.motionSeen_tests.unreleased hreleased)
  have hstopped : s.motionSeen.bands.runInMotion = false := State.bands_atRest (State.motionSeen_atRest hrest)
  obtain ⟨hsbr, hebr⟩ : s.motionSeen.bands.brk.sbr = false ∧ s.motionSeen.bands.brk.ebr = false := by
    simpa [Brakes.released] using houtputs
  have huncommanded : s.motionSeen.bands.uncommanded = decide (20 ≤ s.sample.trk.v.natAbs) := by
    simp only [State.uncommanded, State.runAtRest, hstopped, hsbr, hebr, s.motionSeen_bands_trk]
    rfl
  simp only [State.motionCount, harmed, hcount, huncommanded, s.motionSeen_bands_trk, Bool.and_eq_true, decide_eq_true_eq]

theorem State.sample_sup (s : State) : s.sample.sup = (s.watched.planRun s.stopPoint).sup := by rw [State.sample_eq]; simp

theorem State.sample_run (s : State) : s.sample.plan.run = (s.watched.planRun s.stopPoint).plan.run := by
  rw [State.sample_eq]; simp

theorem State.watched_band (s : State) : s.watched.sup.band = s.motionSeen.bands.motionCheck.sup.band := by
  simp [State.watched, State.supervised]

/-- A count that stays below 21 is recorded, under a run that the sample leaves at rest. -/
theorem State.sample_motion_low (hrest : s.runInMotion = false) (hleft : ∀ r, s.plan.run = some r → r.state = .planned →
    ∃ x, s.sample.plan.run = some x ∧ (x.state = .planned ∨ x.state = .tripped)) (h : s.motionSeen.bands.motionCount < 21) :
    s.sample.sup.band.umArmed = (s.sup.band.umArmed || s.sample.trk.still) ∧
      s.sample.sup.band.umCount = s.motionSeen.bands.motionCount := by
  have hcheck := State.motionCheck_of_low h
  have hwaited : ∀ y, s.watched.plan.run = some y → y.state = .planned → ∃ r, s.plan.run = some r ∧ r.state = .planned := by
    intro y hy hst
    have hbands : s.motionSeen.bands.plan.run = some y := by
      rw [← hy]
      simp only [State.watched, State.supervised, State.notifyWatches_frame, State.decelTest_frame]
      rw [hcheck]
      rfl
    exact s.motionSeen_tests.planned_of (s.motionSeen.bands_motion.2.2 y hbands hst) hst
  have hsup : s.sample.sup = s.watched.sup := by
    rw [State.sample_sup]
    refine State.planRun_sup_atRest (State.watched_atRest hrest) _ (fun y hy hst => ?_)
    obtain ⟨r, hr, hplanned⟩ := hwaited y hy hst
    rw [← State.sample_run]
    exact hleft r hr hplanned
  have hband : s.sample.sup.band = s.motionSeen.bands.motionCheck.sup.band := by rw [hsup, s.watched_band]
  have harmed : s.motionSeen.bands.sup.band.umArmed = s.sup.band.umArmed := congrArg Prod.fst s.motionSeen_bands_motion
  rw [hband, hcheck, ← s.motionSeen_bands_trk, ← harmed]
  exact ⟨rfl, rfl⟩

theorem State.sample_motion_high (h : 21 ≤ s.motionSeen.bands.motionCount) : s.sample.sup.band.umArmed = false ∧
    s.sample.sup.band.umCount = 0 ∧ s.sample.control.Down := by
  have hcheck := State.motionCheck_of_high h
  have hdown : s.motionSeen.bands.motionCheck.control.Down := by
    rw [hcheck]
    exact State.control_down_of_emergency _ _ _
  obtain ⟨hsample, hplan, -⟩ := State.sample_of_down hdown
  have hband : s.sample.sup.band.motion = (false, 0) := by
    have hwatched : s.sample.sup.band = s.motionSeen.bands.motionCheck.sup.band := by
      rw [State.sample_sup, hplan, ← s.watched_band]
      rfl
    rw [hwatched, hcheck, BandRec.motion_of_silent (State.emergency_silent _ _ _)]
    simp [State.motionNoticed, State.setBand, BandRec.motion]
  exact ⟨congrArg Prod.fst hband, congrArg Prod.snd hband, hsample⟩

/-- The record of uncommanded motion that is the first finding of its sample (R61, R62). -/
theorem State.sample_motion_cause (h : 21 ≤ s.motionSeen.bands.motionCount) (hnone : s.sup.trip = none)
    (hstill : s.trk.still = false) (hexp : s.ExpectationsOk) (hconf : s.sample.trk.conf = s.trk.conf)
    (hruns : ∀ r, s.plan.run = some r → r.state = .planned ∨ r.state = .tripped) : ∃ y, s.sample.sup.trip = some y ∧
      y.cause = .uncommandedMotion ∧ y.fig.xA = s.sample.trk.xA ∧ y.fig.v = s.sample.trk.v ∧ y.fig.vE = 0 := by
  obtain ⟨hplan, hsup, -⟩ := State.measured_quiet hexp hconf
  rw [← State.motionSeen_of_still (.inl hstill)] at hplan hsup
  have hidle : s.motionSeen.bands = s.motionSeen.setBand { s.motionSeen.sup.band with last := some s.motionSeen.idleValues } := by
    refine State.bands_of_idle (fun x hx => ?_)
    rcases hruns x ((congrArg (fun p => p.run) hplan :).symm.trans hx) with hst | hst <;> rw [hst] <;> rfl
  have hcheck := State.motionCheck_of_high h
  have hdown : s.motionSeen.bands.motionCheck.control.Down := by
    rw [hcheck]
    exact State.control_down_of_emergency _ _ _
  have hrecord : s.motionSeen.bands.motionNoticed.sup.trip = none := by
    rw [hidle]
    simpa [State.motionNoticed, State.setBand, hsup] using hnone
  have htrip := State.emergency_trip_of_none (c := .uncommandedMotion) (f := s.motionSeen.bands.motionNoticed.sampleFigures
    { s.motionSeen.bands.sup.band.values with vE := 0 }) hrecord
  rw [← hcheck] at htrip
  obtain ⟨z, hz, hsame⟩ := (State.sample_of_down hdown).2.2 _ htrip
  have hvalues : s.motionSeen.bands.sup.band.values = s.motionSeen.idleValues := by rw [hidle]; rfl
  have hfig : z.fig = s.motionSeen.bands.motionNoticed.sampleFigures { s.motionSeen.idleValues with vE := 0 } := by
    rw [← hvalues]
    exact hsame.fig
  rw [← s.motionSeen_trk]
  exact ⟨z, hz, hsame.cause, congrArg Figures.xA hfig, congrArg Figures.v hfig, congrArg Figures.vE hfig⟩

/-! ### The test of the escalation watch (R110 to R112) -/

theorem State.decelTest_of_young {w : EscWatch} (hw : s.brk.watch = some w) (h : elapsed w.start s.now < 1000) :
    s.decelTest = s := by
  unfold State.decelTest
  rw [hw]
  exact if_neg (Nat.not_le.2 h)

/-- Too little loss of speed, 1,000 ms after the watch was started. -/
def EscWatch.Short (w : EscWatch) (v : Int) : Prop := 20 ≤ v.natAbs ∧ (w.vTrip : Int) - v.natAbs < w.aTest / 2

theorem State.decelTest_of_slowed {w : EscWatch} (hw : s.brk.watch = some w) (h : 1000 ≤ elapsed w.start s.now)
    (hshort : ¬w.Short s.trk.v) : s.decelTest = { s with brk := { s.brk with watch := none } } := by
  unfold State.decelTest
  rw [hw]
  exact (if_pos h).trans (if_neg hshort)

theorem State.decelTest_of_short {w : EscWatch} (hw : s.brk.watch = some w) (h : 1000 ≤ elapsed w.start s.now)
    (hshort : w.Short s.trk.v) : s.decelTest = s.escalate .decelShort (.sample s.now) := by
  unfold State.decelTest
  rw [hw]
  exact (if_pos h).trans (if_pos hshort)

/-- A sample in motion with the check disarmed and no run but a TRIPPED one, that keeps the confidence: the watch is tested on
the state as it was found. -/
theorem State.sample_watch (hruns : ∀ r, s.plan.run = some r → r.state = .tripped) (hstill : s.trk.still = false)
    (hmoving : s.sample.trk.still = false) (hexp : s.ExpectationsOk) (hconf : s.sample.trk.conf = s.trk.conf)
    (harmed : s.sup.band.umArmed = false) : ∃ v : State, v.brk = s.brk ∧ v.sup.trip = s.sup.trip ∧ v.trk = s.sample.trk ∧
      v.now = s.now ∧ s.sample.brk = v.decelTest.brk ∧ s.sample.sup.trip = v.decelTest.sup.trip ∧
      s.sample.line.conds.trackBrake = v.decelTest.line.conds.trackBrake := by
  obtain ⟨hplan, hsup, hbrk⟩ := State.measured_quiet hexp hconf
  rw [← State.motionSeen_of_still (.inl hstill)] at hplan hsup hbrk
  have hidle : s.motionSeen.bands = s.motionSeen.setBand { s.motionSeen.sup.band with last := some s.motionSeen.idleValues } :=
    State.bands_of_idle (fun x hx => by rw [hruns x ((congrArg (fun p => p.run) hplan :).symm.trans hx)]; rfl)
  have hcount : s.motionSeen.bands.motionCount = 0 := by
    have hdisarmed : (s.motionSeen.bands.sup.band.umArmed || s.motionSeen.bands.trk.still) = false := by
      rw [hidle]
      simp [State.setBand, hsup, harmed, s.motionSeen_trk, hmoving]
    simp only [State.motionCount, hdisarmed, Bool.false_and]
    rfl
  have hcheck := State.motionCheck_of_low (s := s.motionSeen.bands) (by rw [hcount]; decide)
  have hwatched : s.watched.planRun s.stopPoint = s.watched.setRef 0 := by
    refine State.planRun_of_tripped (fun x hx => hruns x ?_)
    rw [← hx]
    simp only [State.watched, State.supervised, State.notifyWatches_frame, State.decelTest_frame]
    rw [hcheck, hidle]
    exact (congrArg (fun p => p.run) hplan :).symm
  have hsample : s.sample = (s.watched.setRef 0).sendReference.tallyWindows.servingUpdate := by rw [State.sample_eq, hwatched]
  have hconds : ∀ w : State, w.tallyWindows.line.conds.trackBrake = w.line.conds.trackBrake := by
    intro w
    obtain ⟨x, hx⟩ := w.tryWindow_conds .A
    obtain ⟨y, hy⟩ := (w.tryWindow .A).tryWindow_conds .B
    rw [State.tallyWindows, hy, hx]
  refine ⟨s.motionSeen.bands.motionCheck, ?_, ?_, ?_, ?_, ?_, ?_, ?_⟩
  · rw [hcheck, hidle]; exact hbrk
  · rw [hcheck, hidle]; exact (congrArg Supervisor.trip hsup :)
  · rw [hcheck, hidle]; exact s.motionSeen_trk
  · rw [hcheck, hidle]; exact s.motionSeen_now
  · rw [hsample]; simp [State.watched, State.supervised]
  · rw [hsample]; simp [State.watched, State.supervised]
  · rw [hsample, State.servingUpdate_line, hconds]; simp [State.watched, State.supervised]

end Machine
end Sys2Proof
end

section
/-! PROOFS. The trips of a sample (O31). -/

namespace Sys2Proof
namespace Machine

variable {s : State}

/-- What a sample made of the state, but for the flags and the transmitters. -/
theorem eq_sample_of_exec {dt : Time} {t : State} (h : exec (.positionSample dt) s = .next t) :
    t.trk = (s.advance dt).sample.trk ∧ t.sup = (s.advance dt).sample.sup ∧ t.plan.run = (s.advance dt).sample.plan.run ∧
      t.brk = (s.advance dt).sample.brk ∧ t.line.conds = (s.advance dt).sample.line.conds := by
  have heff : effect (.positionSample dt) s = (s.advance dt).sample := rfl
  have ht := eq_transmit_of_exec h
  rw [heff] at ht
  generalize (s.advance dt).sample = u at ht ⊢
  rw [ht]
  simp

/-- Settles O31, clause by clause: the overrun trips the run, and is the cause of the record where it is the first finding; a
run that stays under way has its bands recorded; motion at rest is counted, and the 21st sample trips; and the watch is tested
on the state as the sample found it. -/
theorem sampleTripsOnOverrun : Obligations.SampleTripsOnOverrun := by
  refine ⟨fun dt r e s t hr heval he hexec => ?_, fun dt r r' s t hr heval hexec hr' heval' => ?_,
    fun dt s t hexec hruns hsbr hebr => ?_, fun dt w s t hexec hw hruns hstill hstill' hexp hconf harmed => ?_⟩
  · obtain ⟨htrk, hsup, hrun, hbrk, -⟩ := eq_sample_of_exec hexec
    rw [htrk, hsup, hrun, hbrk]
    intro passed back curve c emergency hover
    obtain ⟨⟨hsbr, hebr, hten, hseq, -, hrecord⟩, x, hx, hst, hid⟩ := State.sample_overrun (s := s.advance dt) hr heval he hover
    exact ⟨⟨hsbr, hebr, hten, hseq⟩, hrecord, ⟨x, hx, hst, hid⟩, fun hnone hstill hexp hconf =>
      State.sample_overrun_cause (s := s.advance dt) hr heval he hover hnone hstill hexp hconf⟩
  · obtain ⟨htrk, hsup, hrun, -⟩ := eq_sample_of_exec hexec
    rw [hrun] at hr'
    obtain ⟨e, c, hlast, htime, hxA, hv, hvE, hc, hceiling, hwarning, hlatch, hhold⟩ :=
      State.sample_bands (s := s.advance dt) hr heval hr' heval'
    rw [htrk, hsup]
    exact ⟨e, c, hlast, htime, hxA, hv, hvE, hc, hceiling, hwarning, hlatch, hhold⟩
  · obtain ⟨htrk, hsup, hrun, hbrk, -⟩ := eq_sample_of_exec hexec
    rw [hrun] at hruns
    rw [htrk, hsup, hbrk]
    have hrest : (s.advance dt).runInMotion = false := by
      cases hr : s.plan.run with
      | none => exact State.runInMotion_of_none hr
      | some r =>
        have hst : r.state.inMotion = false := by
          rcases hruns r hr with h | h | ⟨h, -⟩ <;> rw [h] <;> rfl
        exact (congrArg (fun o => o.any (fun x : Run => x.state.inMotion)) hr).trans hst
    have hcount := State.sample_motionCount (s := s.advance dt) hrest (by simpa [Brakes.released] using And.intro hsbr hebr)
    intro armed n
    have hn : (s.advance dt).motionSeen.bands.motionCount = n := hcount
    refine ⟨fun hlow => ?_, fun hhigh => ?_⟩
    · rw [← hn] at hlow ⊢
      refine State.sample_motion_low (s := s.advance dt) hrest (fun r hr hplanned => ?_) hlow
      rcases hruns r hr with h | h | ⟨-, h⟩
      · rw [hplanned] at h; cases h
      · rw [hplanned] at h; cases h
      · exact h
    · rw [← hn] at hhigh
      obtain ⟨harmed, hzero, ⟨hsbr, hebr, hten, hseq, -, hrecord⟩⟩ := State.sample_motion_high hhigh
      obtain ⟨y, hy⟩ := Option.isSome_iff_exists.1 hrecord
      refine ⟨harmed, hzero, ⟨hsbr, hebr, hten, hseq⟩, y, hy, fun hnone hstill hexp hconf hidle => ?_⟩
      obtain ⟨z, hz, hspec⟩ := State.sample_motion_cause hhigh hnone hstill hexp hconf hidle
      obtain rfl := Option.some.inj (hz.symm.trans hy)
      exact hspec
  · obtain ⟨htrk, hsup, -, hbrk, hconds⟩ := eq_sample_of_exec hexec
    rw [htrk] at hstill' hconf
    rw [htrk, hsup, hbrk, hconds]
    obtain ⟨v, hvbrk, hvtrip, hvtrk, hvnow, hsbrk, hstrip, hscond⟩ :=
      State.sample_watch (s := s.advance dt) hruns hstill hstill' hexp hconf harmed
    have hvw : v.brk.watch = some w := (congrArg Brakes.watch hvbrk :).trans hw
    have hvbrk' : v.brk = s.brk := hvbrk
    have hvnow' : v.now = s.now + dt := hvnow
    have hvtrip' : v.sup.trip = s.sup.trip := hvtrip
    rw [hsbrk, hstrip, hscond, ← hvtrk, ← hvnow', ← hvbrk', ← hvtrip']
    intro short
    refine ⟨fun hyoung => ?_, fun hold hlong => ?_, fun hold hshort => ?_⟩
    · rw [State.decelTest_of_young hvw hyoung]
      exact ⟨rfl, rfl⟩
    · rw [State.decelTest_of_slowed hvw hold hlong]
      exact ⟨rfl, rfl⟩
    · rw [State.decelTest_of_short hvw hold hshort]
      refine ⟨v.escalate_brk _ _, v.escalate_condition _ _, v.escalate_trip _ _, fun c => ?_⟩
      exact v.escalate_track_spec _ _ c

end Machine
end Sys2Proof
end

section
/-! PROOFS. A run in a moving phase at a sample: the holds it meets before the planner, and the brakes the planner finds. -/

namespace Sys2Proof
namespace Machine

variable {s t u : State} {b l : Bool} {r x y : Run} {k : Brakes}

/-! ### Holds of a moving run -/

/-- A run `y` that a moving run `r` has become by the tests of a sample: `r` in all but its highest level and, where it was
held, its stop, which is ASAP then, its cause and its phase. -/
structure Run.Held (r y : Run) : Prop where
  same : y = { r with highest := y.highest, stop := y.stop, holdCause := y.holdCause, state := y.state }
  stop : (y.stop = r.stop ∧ y.state = r.state) ∨ (r.stop.isAsap = false ∧ y.stop.isAsap = true ∧ y.state = .braking)

theorem Run.Held.refl (r : Run) : r.Held r := ⟨rfl, .inl ⟨rfl, rfl⟩⟩

theorem Run.Held.moving (h : r.Held y) (hr : r.state.moving = true) : y.state.moving = true := by
  rcases h.stop with ⟨-, hst⟩ | ⟨-, -, hst⟩
  · rw [hst, hr]
  · rw [hst]; rfl

theorem Run.Held.raised (h : r.Held y) (n : Band) : r.Held { y with highest := n } := by
  refine ⟨?_, h.stop⟩
  have hsame := h.same
  rw [hsame]

/-- A moving run was held in the sample exactly where its stop has changed. -/
theorem Run.Held.stop_ne_iff (h : r.Held y) : y.stop ≠ r.stop ∨ r.state = .braking ↔ y.state = .braking := by
  rcases h.stop with ⟨hstop, hst⟩ | ⟨hr, hy, hst⟩
  · simp [hstop, hst]
  · refine iff_of_true (.inl (fun h => ?_)) hst
    rw [h, hr] at hy
    cases hy

theorem State.hold_held (h : r.Held y) (hr : r.state.moving = true) (hy : s.plan.run = some y) {c : HoldCause} (hc : c ≠ .cancel) :
    ∃ z, (s.hold c).plan.run = some z ∧ r.Held z := by
  rw [State.hold_of_moving hy (h.moving hr)]
  cases ha : y.stop.isAsap with
  | true =>
    rw [State.takeHold_of_asap ha, if_neg hc]
    exact ⟨_, rfl, h⟩
  | false =>
    rw [State.takeHold_plan ha]
    refine ⟨_, rfl, ?_, .inr ⟨?_, rfl, rfl⟩⟩
    · have hsame := h.same
      rw [hsame]
      rfl
    · rcases h.stop with ⟨hstop, -⟩ | ⟨-, hasap, -⟩
      · rw [← hstop, ha]
      · rw [ha] at hasap
        cases hasap

theorem State.lowerCruise_of_moving (hy : s.plan.run = some y) (hst : y.state.moving = true) : s.lowerCruise.plan.run = some y := by
  obtain ⟨hstarting, hholding⟩ := RunState.apart_of_moving hst
  simp [State.lowerCruise, hy, hstarting, hholding]

/-! ### The tests of a sample on a moving run -/

/-- The run `r` moves on under the brakes `k`, held or not, or has been tripped with the outputs dropped. -/
def State.Drives (r : Run) (k : Brakes) (s : State) : Prop :=
  ∃ y, s.plan.run = some y ∧ y.id = r.id ∧ ((y.state = .tripped ∧ s.control.Down) ∨ (r.Held y ∧ s.brk = k))

theorem State.Test.drives (h : State.Test b l s t) (hr : r.state.moving = true) (hs : s.Drives r k) : t.Drives r k := by
  obtain ⟨y, hy, hid, hcase⟩ := id hs
  cases h with
  | quiet hrun hsup hbrk =>
    refine ⟨y, hrun.trans hy, hid, hcase.imp (fun hdown => ⟨hdown.1, ?_⟩) (fun hheld => ⟨hheld.1, hbrk.trans hheld.2⟩)⟩
    exact State.down_of hdown.2 hbrk (congrArg _ hsup) (by rw [State.control_run hy, State.control_run (hrun.trans hy)])
  | lower hl =>
    rcases hcase with ⟨hst, hdown⟩ | ⟨hheld, hbrk⟩
    · obtain ⟨n, -, hlow⟩ := State.lowerCruise_run hy
      exact ⟨_, hlow, hid, .inl ⟨hst, State.down_of hdown (by simp) (by simp)
        (by rw [State.control_run hy, State.control_run hlow])⟩⟩
    · exact ⟨y, State.lowerCruise_of_moving hy (hheld.moving hr), hid, .inr ⟨hheld, by simpa using hbrk⟩⟩
  | hold c hb hc =>
    rcases hcase with ⟨hst, hdown⟩ | ⟨hheld, hbrk⟩
    · rw [State.hold_of_not_inMotion (by simp [State.runInMotion, hy, hst, RunState.inMotion])]
      exact hs
    · obtain ⟨z, hz, hheld'⟩ := State.hold_held hheld hr hy hc
      exact ⟨z, hz, by rw [hheld'.same], .inr ⟨hheld', by simpa using hbrk⟩⟩
  | raise c => exact ⟨y.trip, by simp [hy], y.trip_id.trans hid, .inl ⟨y.trip_state, s.control_down_of_raise c⟩⟩
  | close c =>
    rw [State.closePlanned_of_not_planned]
    · exact hs
    · intro z hz hplanned
      obtain rfl := Option.some.inj (hy.symm.trans hz)
      rcases hcase with ⟨hst, -⟩ | ⟨hheld, -⟩
      · rw [hst] at hplanned; cases hplanned
      · have := hheld.moving hr
        rw [hplanned] at this
        cases this

theorem State.motionSeen_drives (hr : s.plan.run = some r) (hst : r.state.moving = true) : s.motionSeen.Drives r s.brk :=
  s.motionSeen_tests.keeps (P := State.Drives r s.brk) (fun h hv => h.drives hst hv) ⟨r, hr, rfl, .inr ⟨.refl r, rfl⟩⟩

theorem RunState.evaluated_of_moving {y : RunState} (h : y.moving = true) : y.evaluated = true :=
  (RunState.evaluated_iff y).2 (.inr (.inr h))

/-- What the planner finds of a run that the sample leaves in a moving phase. -/
theorem State.watched_of_moving (hr : s.plan.run = some r) (hst : r.state.moving = true) (hx : s.sample.plan.run = some x)
    (hxst : x.state.moving = true) : ∃ y, s.watched.plan.run = some y ∧ r.Held y ∧ s.watched.brk.seq = s.brk.seq ∧
      (s.brk.watch = none → s.watched.brk = s.brk) := by
  have hsafe : ∀ n, ¬s.sample.Tripped n := by
    rintro n ⟨-, w, hw, htripped, -⟩
    rw [Option.some.inj (hx.symm.trans hw), htripped] at hxst
    cases hxst
  obtain ⟨y, hy, hid, ⟨htripped, hdown⟩ | ⟨hheld, hbrk⟩⟩ := State.motionSeen_drives hr hst
  · exact absurd (State.sample_tripped (State.Tripped.bands ⟨hdown, y, hy, htripped, hid⟩)) (hsafe _)
  · have hbands := State.bands_of_evaluated hy (RunState.evaluated_of_moving (hheld.moving hst))
    have hcalm : (s.motionSeen.findBands y).level ≠ .emergency := fun h =>
      hsafe _ (State.sample_tripped (hbands ▸ (State.combineBands_emergency hy h).1))
    obtain ⟨m, hm⟩ := State.banded_run hy y
    obtain ⟨z, hz, hzheld, hzbrk⟩ : ∃ z, s.motionSeen.bands.plan.run = some z ∧ r.Held z ∧ s.motionSeen.bands.brk = s.brk := by
      rw [hbands, State.combineBands_calm hcalm]
      split
      · obtain ⟨z, hz, hzheld⟩ := State.hold_held (hheld.raised m) hst hm (c := .service) (by decide)
        exact ⟨z, hz, hzheld, by simp [State.banded_brk, hbrk]⟩
      · exact ⟨_, hm, hheld.raised m, by rw [State.banded_brk, hbrk]⟩
    have hlow : s.motionSeen.bands.motionCount < 21 := by
      by_contra hhigh
      refine hsafe z.id (State.sample_tripped_of_check ?_)
      rw [State.motionCheck_of_high (Nat.not_lt.1 hhigh)]
      exact State.emergency_tripped ((State.motionNoticed_run _).trans hz) _ _
    have hcheck : s.motionSeen.bands.motionCheck.plan.run = some z ∧ s.motionSeen.bands.motionCheck.brk = s.brk := by
      rw [State.motionCheck_of_low hlow]
      exact ⟨hz, hzbrk⟩
    refine ⟨z, ?_, hzheld, ?_, fun hnone => ?_⟩
    · simpa [State.watched, State.supervised] using hcheck.1
    · simp [State.watched, State.supervised, hcheck.2]
    · have hquiet : s.motionSeen.bands.motionCheck.decelTest = s.motionSeen.bands.motionCheck := by
        unfold State.decelTest
        rw [hcheck.2, hnone]
      simp [State.watched, State.supervised, hquiet, hcheck.2]

end Machine
end Sys2Proof
end

section
/-! PROOFS. The reference of a sample by its terms, and the planner's part of a sample for a moving run. -/

namespace Sys2Proof
namespace Machine

variable {s u : State} {r x y : Run} {tb : Tables} {d : RunDyn} {found : StopPoint}

/-! ### The terms of the reference (R74 to R77) -/

theorem foldl_min_spec (l : List Nat) (a : Nat) : l.foldl min a ∈ a :: l ∧ ∀ m ∈ a :: l, l.foldl min a ≤ m := by
  induction l generalizing a with
  | nil => simp
  | cons n l ih =>
    obtain ⟨hmem, hle⟩ := ih (min a n)
    have hleast : l.foldl min (min a n) ≤ min a n := hle _ (List.mem_cons_self ..)
    simp only [List.foldl_cons]
    refine ⟨?_, fun m hm => ?_⟩
    · rcases List.mem_cons.1 hmem with h | h
      · rcases min_choice a n with hmin | hmin
        · exact List.mem_cons.2 (.inl (h.trans hmin))
        · exact List.mem_cons_of_mem _ (List.mem_cons.2 (.inl (h.trans hmin)))
      · exact List.mem_cons_of_mem _ (List.mem_cons_of_mem _ h)
    · simp only [List.mem_cons] at hm
      rcases hm with rfl | rfl | hm
      · exact hleast.trans (min_le_left _ _)
      · exact hleast.trans (min_le_right _ _)
      · exact hle m (List.mem_cons_of_mem _ hm)

/-- The caps that the look-ahead of a car takes the least of. -/
def lookCaps (t : Tables) (aSvc : Nat) (y : Int) (increasing : Bool) : List Nat :=
  (lookupZone t.zones t.line.defaultCap y).cap :: (boundaries t.zones y increasing).map (capTerm t aSvc y)

theorem State.lookAhead_spec (s : State) (t : Tables) (dir : Dir) (aSvc : Nat) :
    s.lookAhead t dir aSvc ∈ lookCaps t aSvc s.trk.xA (dir.increases .A) ++ lookCaps t aSvc s.trk.xB (dir.increases .B) ∧
      ∀ m ∈ lookCaps t aSvc s.trk.xA (dir.increases .A) ++ lookCaps t aSvc s.trk.xB (dir.increases .B),
        s.lookAhead t dir aSvc ≤ m := by
  obtain ⟨hmemA, hleA⟩ := foldl_min_spec ((boundaries t.zones s.trk.xA (dir.increases .A)).map (capTerm t aSvc s.trk.xA))
    (lookupZone t.zones t.line.defaultCap s.trk.xA).cap
  obtain ⟨hmemB, hleB⟩ := foldl_min_spec ((boundaries t.zones s.trk.xB (dir.increases .B)).map (capTerm t aSvc s.trk.xB))
    (lookupZone t.zones t.line.defaultCap s.trk.xB).cap
  refine ⟨?_, fun m hm => ?_⟩
  · rcases min_choice (lookAheadCar t aSvc s.trk.xA (dir.increases .A)) (lookAheadCar t aSvc s.trk.xB (dir.increases .B)) with h | h
    · rw [State.lookAhead, h]
      exact List.mem_append_left _ hmemA
    · rw [State.lookAhead, h]
      exact List.mem_append_right _ hmemB
  · rcases List.mem_append.1 hm with hm | hm
    · exact (min_le_left _ _).trans (hleA m hm)
    · exact (min_le_right _ _).trans (hleB m hm)

theorem RefTerms.vRef_le {X : RefTerms} (h : X.vRef ≠ 0) : X.vRef ≤ X.cruise ∧ X.vRef ≤ X.lookAhead ∧ X.vRef ≤ X.envelope := by
  have hzero : ¬X.zero = true := fun hz => h (if_pos hz)
  rw [RefTerms.vRef, if_neg hzero]
  omega

/-- The reference and the phase by the terms, where `S` is the stop term unless the reference is put to 0. -/
theorem RefTerms.vRef_eq {X : RefTerms} {S : Nat} (hS : X.zero = false → X.stop = S) :
    X.vRef = if X.zero = true then 0 else min X.ramp (min X.cruise (min X.lookAhead (min S X.envelope))) := by
  unfold RefTerms.vRef
  split
  · rfl
  next h => rw [hS (by simpa using h), min_assoc, min_assoc, min_assoc]

theorem RefTerms.braking_iff {X : RefTerms} {S : Nat} (hS : X.zero = false → X.stop = S) :
    X.braking = true ↔ X.zero = true ∨ (S ≤ X.ramp ∧ S ≤ X.cruise ∧ S ≤ X.lookAhead ∧ S ≤ X.envelope) := by
  cases hz : X.zero with
  | true => simp [RefTerms.braking, hz]
  | false => simp [RefTerms.braking, hz, hS hz, and_assoc]

theorem RefTerms.rampLeast_iff {X : RefTerms} {S : Nat} (hS : X.stop = S) :
    X.rampLeast = true ↔ X.ramp < X.cruise ∧ X.ramp < X.lookAhead ∧ X.ramp < S ∧ X.ramp < X.envelope := by
  simp [RefTerms.rampLeast, hS, and_assoc]

/-! ### The planner on a moving run -/

/-- The run with its effective cruise lowered by a step under a confidence cap (R68). -/
def Run.stepped (y : Run) (d : RunDyn) (k : Confidence) : Run := { y with cruise := stepCruise y.cruise d.aSvc k.cruiseCap }

/-- The terms of the reference of a sample. -/
def State.terms (u : State) (tb : Tables) (y : Run) (found : StopPoint) (d : RunDyn) : RefTerms :=
  u.refTerms tb (y.stepped d u.trk.conf) found d

/-- The state with the reference formed and the phase entered. -/
def State.driven (u : State) (tb : Tables) (y : Run) (found : StopPoint) (d : RunDyn) : State :=
  (u.setRef ((u.terms tb y found d).vRef * y.dir.sign)).phase (y.stepped d u.trk.conf) (u.terms tb y found d)

theorem State.drivePhase_eq (hseq : u.brk.seq = .moving) (y : Run) : u.drivePhase tb y found d =
    if y.state = .braking ∧ (u.terms tb y found d).vRef = 0 ∧ u.trk.still = true then
      (u.driven tb y found d).stopSequence else u.driven tb y found d := by
  have hstill : (u.driven tb y found d).trk.still = u.trk.still := by simp [State.driven]
  rw [← hstill]
  exact if_pos hseq

theorem State.drivePhase_of_apart (hseq : u.brk.seq ≠ .moving) (y : Run) : u.drivePhase tb y found d =
    (u.setRef 0).setRun (some (y.stepped d u.trk.conf)) := if_neg hseq

theorem State.driven_run (u : State) (y : Run) : (u.driven tb y found d).plan.run =
    some { y.stepped d u.trk.conf with state := nextPhase y.state (u.terms tb y found d) } := State.phase_run _ _ _

theorem State.driven_ref (u : State) (y : Run) :
    (u.driven tb y found d).plan.ref = (u.terms tb y found d).vRef * y.dir.sign := by simp [State.driven]

theorem State.driven_sup (u : State) (y : Run) : (u.driven tb y found d).sup = u.sup := State.phase_sup _ _ _

theorem State.driven_brk (u : State) (y : Run) : (u.driven tb y found d).brk = u.brk := by simp [State.driven]

/-! ### A reference of 0 -/

theorem State.raise_ref (h : s.plan.ref = 0) (k : Cause) : (s.raise k).plan.ref = 0 := by
  have htrip : ∀ w : State, w.plan.ref = 0 → (w.tripRun k).plan.ref = 0 := by
    intro w hw
    unfold State.tripRun
    split
    · split
      · exact hw
      · simp
    · exact hw
  have hall : ∀ (es : List EscCause) (w : State), (w.escalateAll es (.emergency k)).plan = w.plan := by
    intro es
    induction es with
    | nil => exact fun w => rfl
    | cons e es ih => exact fun w => (ih (w.escalate e (.emergency k))).trans (by simp)
  have hnotice : ∀ (w : State) z f, (w.tripNotice z k f).plan = w.plan := fun w z f => by simp
  rw [State.raise_eq, State.emergency_eq, hnotice, hall]
  simpa [State.recorded, State.dropping, State.startWatch] using htrip _ (by simpa [State.raising] using h)

theorem State.stopSequence_ref (h : s.plan.ref = 0) : s.stopSequence.plan.ref = 0 := by
  simp only [State.stopSequence, State.settleApply]
  split
  · exact State.raise_ref (by simpa using h) _
  · split
    · simpa using h
    · simpa using h

theorem State.depart_ref_of_sound (hsound : s.drive.faulted = false) (r : Run) : (s.depart r).plan.ref = s.plan.ref := by
  simp only [State.depart]
  generalize hu : State.enterRun _ _ _ _ = u
  have hdrive : u.drive.faulted = false := by subst hu; simpa using hsound
  rw [State.startSequence_of_sound hdrive]
  subst hu
  simp

/-- A reference other than 0 is that of a moving run with the sequence in MOVING. -/
theorem State.planRun_ref {o : Option StopPoint} (h : (u.planRun o).plan.ref ≠ 0) : ∃ y tb d, u.plan.run = some y ∧
    u.geo.committed = some tb ∧ y.state.moving = true ∧ (u.terms tb y (o.getD y.stop) d).vRef ≠ 0 ∧
    u.planRun o = u.driven tb y (o.getD y.stop) d := by
  have hquiet : u.planRun o ≠ u.setRef 0 := fun heq => h (by rw [heq]; rfl)
  cases hrun : u.plan.run with
  | none => exact absurd (by simp only [State.planRun, hrun]) hquiet
  | some y =>
    cases htb : u.geo.committed with
    | none => exact absurd (by simp only [State.planRun, hrun, htb]) hquiet
    | some tb =>
      by_cases hplanned : y.state = .planned
      · cases hcond : u.startConditions with
        | false => exact absurd (State.planRun_of_no_conditions hrun hplanned htb hcond o) hquiet
        | true =>
          have hsound : (u.leaving tb y).drive.faulted = false := by simpa using State.drive_sound_of_conditions hcond
          have hleaving : (u.leaving tb y).plan.ref = 0 := by simp [State.leaving, State.setRef]
          refine absurd ?_ h
          rw [State.planRun_of_conditions hrun hplanned htb hcond]
          split
          · simpa using hleaving
          · rw [State.depart_ref_of_sound hsound, hleaving]
      · cases hm : y.state.moving with
        | false => exact absurd (by simp only [State.planRun, hrun, htb, if_neg hplanned, hm]; rfl) hquiet
        | true =>
          cases hd : y.dyn with
          | none => exact absurd (by simp only [State.planRun, hrun, htb, if_neg hplanned, hm, hd]; rfl) hquiet
          | some d =>
            have hplan : u.planRun o = u.drivePhase tb y (o.getD y.stop) d := by
              simp only [State.planRun, hrun, htb, if_neg hplanned, hm, hd]; rfl
            by_cases hseq : u.brk.seq = .moving
            · rw [hplan, State.drivePhase_eq hseq] at h ⊢
              split at h
              next hstop =>
                exact absurd (State.stopSequence_ref (by rw [State.driven_ref, hstop.2.1]; simp)) h
              next hstop =>
                rw [State.driven_ref] at h
                rw [if_neg hstop]
                exact ⟨y, tb, d, rfl, rfl, hm, fun hv => h (by rw [hv]; simp), rfl⟩
            · refine absurd ?_ h
              rw [hplan, State.drivePhase_of_apart hseq]
              rfl

end Machine
end Sys2Proof
end

section
/-! PROOFS. The reference that a sample sends (O38). -/

namespace Sys2Proof
namespace Machine

variable {s u : State} {r x y : Run} {tb : Tables} {d : RunDyn} {found : StopPoint}

/-! ### The bound of the reference (R74, R75, R195) -/

theorem Geometry.zone_of_committed {g : Geometry} (h : g.committed = some tb) (p : Int) :
    g.zone p = lookupZone tb.zones tb.line.defaultCap p := by rw [Geometry.zone, h]

theorem State.lookAhead_le_caps (h : s.geo.committed = some tb) (dir : Dir) (aSvc : Nat) :
    s.lookAhead tb dir aSvc ≤ (s.geo.zone s.trk.xA).cap ∧ s.lookAhead tb dir aSvc ≤ (s.geo.zone s.trk.xB).cap := by
  obtain ⟨-, hle⟩ := s.lookAhead_spec tb dir aSvc
  rw [Geometry.zone_of_committed h, Geometry.zone_of_committed h]
  exact ⟨hle _ (List.mem_append_left _ (List.mem_cons_self ..)), hle _ (List.mem_append_right _ (List.mem_cons_self ..))⟩

/-- A reference other than 0 by the planner: the run it is of and its bounds. -/
theorem State.planRun_ref_spec {o : Option StopPoint} (h : (u.planRun o).plan.ref ≠ 0) : ∃ r, ∃ n : Nat,
    (u.planRun o).plan.run = some r ∧ r.state.moving = true ∧ n ≠ 0 ∧ (u.planRun o).plan.ref = n * r.dir.sign ∧ n ≤ r.cruise ∧
      100 * n ≤ 88 * u.sup.vE u.trk.xA ∧ n ≤ (u.geo.zone u.trk.xA).cap ∧ n ≤ (u.geo.zone u.trk.xB).cap ∧
      (u.planRun o).sup = u.sup := by
  obtain ⟨y, tb, d, -, htb, hm, hv, hplan⟩ := State.planRun_ref h
  rw [hplan]
  obtain ⟨hcruise, hlook, henvelope⟩ := RefTerms.vRef_le hv
  obtain ⟨hA, hB⟩ := State.lookAhead_le_caps htb y.dir d.aSvc
  refine ⟨_, (u.terms tb y (o.getD y.stop) d).vRef, u.driven_run y, nextPhase_moving hm _, hv, u.driven_ref y, hcruise, ?_,
    hlook.trans hA, hlook.trans hB, u.driven_sup y⟩
  have hfloor : (u.terms tb y (o.getD y.stop) d).envelope = 88 * u.sup.vE u.trk.xA / 100 := rfl
  omega

theorem Dir.sign_eq (x : Dir) : x.sign = 1 ∨ x.sign = -1 := by cases x <;> simp [Dir.sign]

/-- The clamp of the drive port keeps the sense of a reference and does not raise it. -/
theorem clampRef_spec (n : Nat) (dir : Dir) : (clampRef (n * dir.sign)).natAbs ≤ n ∧
    (n ≠ 0 → 0 < clampRef (n * dir.sign) * dir.sign) := by
  unfold clampRef
  rcases dir.sign_eq with h | h <;> rw [h] <;> omega

theorem State.sample_ref (s : State) : s.sample.plan.ref = (s.watched.planRun s.stopPoint).plan.ref := by
  rw [State.sample_eq]; simp

theorem State.watched_trk (s : State) : s.watched.trk = s.sample.trk := by
  rw [← s.motionSeen_trk]
  simp [State.watched, State.supervised]

theorem State.watched_geo (s : State) : s.watched.geo = s.geo := by
  rw [← s.motionSeen_geo]
  simp [State.watched, State.supervised]

theorem State.watched_now (s : State) : s.watched.now = s.now := by
  rw [← s.motionSeen_now]
  simp [State.watched, State.supervised]

/-- A reference other than 0 that a sample sends. -/
theorem State.sample_lastRef (h : s.sample.drive.lastRef ≠ 0) : s.sample.brk.ten = true ∧ ∃ r, s.sample.plan.run = some r ∧
    r.state.moving = true ∧ 0 < s.sample.drive.lastRef * r.dir.sign ∧ s.sample.drive.lastRef.natAbs ≤ r.cruise ∧
    100 * s.sample.drive.lastRef.natAbs ≤ 88 * s.sample.sup.vE s.sample.trk.xA ∧
    s.sample.drive.lastRef.natAbs ≤ (s.geo.zone s.sample.trk.xA).cap ∧
    s.sample.drive.lastRef.natAbs ≤ (s.geo.zone s.sample.trk.xB).cap := by
  have hlast := s.sample_drive.1
  cases hten : s.sample.brk.ten with
  | false => exact absurd (by rw [hlast, hten]; rfl) h
  | true =>
    have hclamp : s.sample.drive.lastRef = clampRef (s.watched.planRun s.stopPoint).plan.ref := by
      rw [hlast, hten, ← s.sample_ref]
      rfl
    have hne : (s.watched.planRun s.stopPoint).plan.ref ≠ 0 := fun h0 => h (by rw [hclamp, h0]; rfl)
    obtain ⟨r, n, hr, hm, hn, href, hcruise, henv, hA, hB, hsup⟩ := State.planRun_ref_spec hne
    obtain ⟨hle, hpos⟩ := clampRef_spec n r.dir
    rw [State.sample_sup, hsup, ← s.watched_trk, ← s.watched_geo, hclamp, href]
    refine ⟨rfl, r, s.sample_run.trans hr, hm, hpos hn, ?_, ?_, ?_, ?_⟩
    · exact hle.trans hcruise
    · exact (Nat.mul_le_mul_left _ hle).trans henv
    · exact hle.trans hA
    · exact hle.trans hB

/-! ### A run that the sample leaves moving -/

theorem RunState.not_moving_of_trip (r : Run) : r.trip.state.moving = false := by
  rw [r.trip_state]
  rfl

/-- The stop sequence of a run that goes on braking switches the release outputs off. -/
theorem State.stopSequence_of_moving (hr : s.plan.run = some r) (hst : r.state = .braking) (hx : s.stopSequence.plan.run = some x)
    (hm : x.state.moving = true) : x = r ∧ s.stopSequence.brk = { s.brk.releaseOff s.now with seq := .stopWait } ∧
      s.stopSequence.plan.ref = s.plan.ref := by
  have hbase : ∀ w : State, w.plan.run = some r → w.brk.seq = .stopWait → w.settleApply.plan.run = some x →
      w.settleApply = w := by
    intro w hw hseq hwx
    cases hfailed : w.brk.failedOne with
    | some i =>
      rw [State.settleApply_of_failed hfailed, State.raise_run, hw] at hwx
      rw [← Option.some.inj hwx, RunState.not_moving_of_trip] at hm
      cases hm
    | none =>
      simp only [State.settleApply, hfailed, hseq] at hwx ⊢
      split at hwx
      · have hholding := (State.stopComplete_settled (s := w.tenOff) (by simpa using hw) hst hwx).2.1
        rw [hholding] at hm
        cases hm
      next happlied => exact if_neg happlied
  have hset : ∀ b : Brakes, (s.setBrakes b).brakeCondition.plan = s.plan ∧ (s.setBrakes b).brakeCondition.brk = b := fun b =>
    ⟨by simp [State.setBrakes], by simp [State.setBrakes]⟩
  obtain ⟨hplan, hbrk⟩ := hset { s.brk.releaseOff s.now with seq := .stopWait }
  have hsame : s.stopSequence = (s.setBrakes { s.brk.releaseOff s.now with seq := .stopWait }).brakeCondition :=
    hbase _ ((congrArg (fun p => p.run) hplan :).trans hr) (by rw [hbrk]) hx
  rw [hsame] at hx ⊢
  rw [hplan] at hx ⊢
  exact ⟨Option.some.inj (hx.symm.trans hr), hbrk, rfl⟩

end Machine
end Sys2Proof
end

section
/-! PROOFS. The reference of a moving run by the terms of R74 to R76, and its phase (O38). -/

namespace Sys2Proof
namespace Machine

variable {s u : State} {r x y : Run} {tb : Tables} {d : RunDyn}

/-! ### The stop term (R75, R76) -/

/-- The way to the stop point in the run's direction. -/
def stopDistance (r : Run) (p : StopPoint) (xA : Int) : Int :=
  ((match p with
    | .watch _ x => x
    | _ => r.pA) - xA) * r.dir.sign

/-- The stop term where it does not put the reference to 0. -/
def stopAmount (r : Run) (p : StopPoint) (aSvc : Nat) (xA : Int) (now : Time) : Nat :=
  match p with
  | .asap vh since => vh - aSvc * elapsed since now / 1000
  | _ => max 300 (isqrt (2 * aSvc * (stopDistance r p xA).toNat))

/-- Where the stop term puts the reference to 0. -/
def Stopped (r : Run) (p : StopPoint) (aSvc : Nat) (xA : Int) (now : Time) : Prop :=
  if p.isAsap = true then stopAmount r p aSvc xA now = 0 else stopDistance r p xA ≤ 100

theorem stopTerm_of_way (r : Run) {p : StopPoint} (hp : p.isAsap = false) (aSvc : Nat) (xA : Int) (now : Time) :
    stopTerm r p aSvc xA now = if stopDistance r p xA ≤ 100 then (0, true)
      else (max 300 (isqrt (2 * aSvc * (stopDistance r p xA).toNat)), false) := by
  cases p with
  | target => rfl
  | watch n z => rfl
  | asap v t => cases hp

theorem stopTerm_spec (r : Run) (p : StopPoint) (aSvc : Nat) (xA : Int) (now : Time) :
    ((stopTerm r p aSvc xA now).2 = true ↔ Stopped r p aSvc xA now) ∧
      ((stopTerm r p aSvc xA now).2 = false → (stopTerm r p aSvc xA now).1 = stopAmount r p aSvc xA now) := by
  have hway : ∀ {p : StopPoint}, p.isAsap = false →
      stopAmount r p aSvc xA now = max 300 (isqrt (2 * aSvc * (stopDistance r p xA).toNat)) →
      ((stopTerm r p aSvc xA now).2 = true ↔ Stopped r p aSvc xA now) ∧
        ((stopTerm r p aSvc xA now).2 = false → (stopTerm r p aSvc xA now).1 = stopAmount r p aSvc xA now) := by
    intro p hp hamount
    have hstopped : Stopped r p aSvc xA now ↔ stopDistance r p xA ≤ 100 := by rw [Stopped, if_neg (by simp [hp])]
    rw [stopTerm_of_way r hp, hstopped, hamount]
    split
    next h => exact ⟨iff_of_true rfl h, nofun⟩
    next h => exact ⟨iff_of_false (by simp) h, fun _ => rfl⟩
  cases p with
  | target => exact hway rfl rfl
  | watch n z => exact hway rfl rfl
  | asap v t => exact ⟨by simp [stopTerm, Stopped, StopPoint.isAsap, stopAmount], fun _ => rfl⟩

/-! ### The look-ahead (R75) -/

theorem lookCaps_eq (tb : Tables) (aSvc : Nat) (c : Car) (dir : Dir) (p : Int) : lookCaps tb aSvc p (dir.increases c) =
    (lookupZone tb.zones tb.line.defaultCap p).cap ::
      (if (c = .A ↔ dir = .up) then
          ((tb.zones.filter (fun z => z.enabled)).flatMap (fun z => [z.start, z.stop])).filter
            (fun q => decide (p < q ∧ q ≤ p + 200000))
        else (((tb.zones.filter (fun z => z.enabled)).flatMap (fun z => [z.start, z.stop])).map (fun q => q - 1)).filter
            (fun q => decide (p - 200000 ≤ q ∧ q < p))).map
        (fun q => isqrt ((lookupZone tb.zones tb.line.defaultCap q).cap * (lookupZone tb.zones tb.line.defaultCap q).cap +
          2 * aSvc * (q - p).natAbs)) := by
  have hincreases : dir.increases c = true ↔ (c = .A ↔ dir = .up) := by cases c <;> cases dir <;> decide
  rw [lookCaps, boundaries, if_congr hincreases rfl rfl]
  simp only [Bool.decide_and]
  rfl

/-! ### What a sample makes of a moving run -/

theorem Run.Held.terms (h : r.Held y) (u : State) (found : StopPoint) : u.terms tb y found d = u.terms tb r found d := by
  rw [h.same]
  rfl

/-- A run in a moving phase that stays in one: the sample's reference, the run and the brakes. -/
theorem State.sample_moving (htb : s.geo.committed = some tb) (hr : s.plan.run = some r) (hst : r.state.moving = true)
    (hd : r.dyn = some d) (hx : s.sample.plan.run = some x) (hxst : x.state.moving = true) : ∃ y, r.Held y ∧
      s.sample.sup.env = s.watched.sup.env ∧ (s.brk.watch = none → s.watched.brk = s.brk) ∧
      (s.brk.seq ≠ .moving → x = y.stepped d s.watched.trk.conf ∧ s.sample.plan.ref = 0) ∧
      (s.brk.seq = .moving →
        x = { y.stepped d s.watched.trk.conf with state := nextPhase y.state (s.watched.terms tb r r.stop d) } ∧
        s.sample.plan.ref = (s.watched.terms tb r r.stop d).vRef * r.dir.sign ∧
        s.sample.brk = if y.state = .braking ∧ (s.watched.terms tb r r.stop d).vRef = 0 ∧ s.watched.trk.still = true then
          { s.watched.brk.releaseOff s.watched.now with seq := .stopWait } else s.watched.brk) := by
  obtain ⟨y, hy, hheld, hseq, hbrk⟩ := State.watched_of_moving hr hst hx hxst
  have hym := hheld.moving hst
  have hdyn : y.dyn = some d := by rw [hheld.same]; exact hd
  have hdir : y.dir = r.dir := by rw [hheld.same]
  have hplanned : y.state ≠ .planned := fun h => by rw [h] at hym; cases hym
  have hplan : s.watched.planRun s.stopPoint = s.watched.drivePhase tb y r.stop d := by
    have hstop : s.stopPoint = some r.stop := by rw [State.stopPoint, hr]; rfl
    have hgeo : s.watched.geo.committed = some tb := by rw [s.watched_geo, htb]
    simp only [State.planRun, hy, hgeo, if_neg hplanned, hym, hdyn, hstop]
    rfl
  have hrun : (s.watched.drivePhase tb y r.stop d).plan.run = some x := by rw [← hplan, ← s.sample_run, hx]
  have hsup : s.sample.sup = s.watched.sup := by
    rw [State.sample_sup]
    exact (State.planRun_settled hy (RunState.evaluated_of_moving hym) (hplan ▸ hrun) (RunState.evaluated_of_moving hxst)).1
  have hsbrk : s.sample.brk = (s.watched.drivePhase tb y r.stop d).brk := by rw [State.sample_eq, hplan]; simp
  refine ⟨y, hheld, by rw [hsup], hbrk, fun hne => ?_, fun hmoving => ?_⟩
  · rw [← hseq] at hne
    rw [State.drivePhase_of_apart hne] at hrun hplan
    rw [State.sample_ref, hplan]
    exact ⟨(Option.some.inj hrun).symm, rfl⟩
  · rw [← hseq] at hmoving
    rw [State.sample_ref, hplan, hsbrk]
    rw [State.drivePhase_eq hmoving] at hrun ⊢
    rw [← hdir, ← hheld.terms]
    split at hrun
    next hstop =>
      rw [if_pos hstop, if_pos hstop]
      obtain ⟨hsame, hstopped, href⟩ := State.stopSequence_of_moving (s.watched.driven_run y) (by simp [hstop.1, nextPhase]) hrun hxst
      rw [hsame, hstopped, href, State.driven_ref, State.driven_brk]
      exact ⟨rfl, rfl, by simp [State.driven]⟩
    next hstop =>
      rw [State.driven_run] at hrun
      rw [if_neg hstop, if_neg hstop, State.driven_ref, State.driven_brk]
      exact ⟨(Option.some.inj hrun).symm, rfl, rfl⟩

end Machine
end Sys2Proof
end

section
/-! PROOFS. The reference of a sample, the phase and the brakes (O38). -/

namespace Sys2Proof
namespace Machine

variable {s u : State} {r x y : Run} {tb : Tables} {d : RunDyn} {X : RefTerms}

/-- The effective cruise of a moving run falls in steps under a confidence cap (R68). -/
theorem stepCruise_eq (n aSvc : Nat) (k : Confidence) : stepCruise n aSvc k.cruiseCap =
    if (k = .referenced ∨ k = .degraded) ∧ 3000 < n then max 3000 (n - aSvc / 100) else n := by
  cases k <;> simp [stepCruise, Confidence.cruiseCap]

theorem nextPhase_of_braking {p : RunState} (hp : p.moving = true) (h : X.braking = true) : nextPhase p X = .braking := by
  cases p with
  | accelerating => exact if_pos h
  | cruising => exact if_pos h
  | braking => rfl
  | planned => cases hp
  | starting => cases hp
  | holding => cases hp
  | tripped => cases hp

/-- The phase that follows, by the phase the sample found and whether it held the run (R77). -/
theorem Run.Held.nextPhase (h : r.Held y) (hr : r.state.moving = true) (X : RefTerms) :
    (y.stop ≠ r.stop ∨ X.braking = true ∨ r.state = .braking → nextPhase y.state X = .braking) ∧
    (¬y.stop ≠ r.stop → ¬X.braking = true → r.state = .cruising → nextPhase y.state X = .cruising) ∧
    (¬y.stop ≠ r.stop → ¬X.braking = true → r.state = .accelerating →
      nextPhase y.state X = if X.rampLeast = true then .accelerating else .cruising) := by
  have hsame : ¬y.stop ≠ r.stop → y.state = r.state := by
    intro hstop
    rcases h.stop with ⟨-, hst⟩ | ⟨hno, hasap, -⟩
    · exact hst
    · rw [not_not.1 hstop, hno] at hasap
      cases hasap
  refine ⟨fun hb => ?_, fun hstop hb hst => ?_, fun hstop hb hst => ?_⟩
  · by_cases hst : y.state = .braking
    · rw [hst]; rfl
    · have hnot := fun hc => hst (h.stop_ne_iff.1 hc)
      have hbraking : X.braking = true := by
        rcases hb with hb | hb | hb
        · exact absurd (.inl hb) hnot
        · exact hb
        · exact absurd (.inr hb) hnot
      exact nextPhase_of_braking (h.moving hr) hbraking
  · rw [hsame hstop, hst]
    simp only [Machine.nextPhase, if_neg hb]
  · rw [hsame hstop, hst]
    simp only [Machine.nextPhase, if_neg hb]

/-- The brakes with the release outputs switched off from on. -/
theorem Brakes.releaseOff_of_on {k : Brakes} (hsbr : k.sbr = true) (hebr : k.ebr = true) (now : Time) : k.releaseOff now =
    { k with
      sbr := false, ebr := false
      service := if k.confirmedApplied .service then ⟨.applied, none⟩ else ⟨.applying, some now⟩
      sheave := if k.confirmedApplied .sheave then ⟨.applied, none⟩ else ⟨.applying, some now⟩ } := by
  have hservice : k.dropRecord .service now = .deenergised (k.confirmedApplied .service) now := if_pos hsbr
  have hsheave : k.dropRecord .sheave now = .deenergised (k.confirmedApplied .sheave) now := if_pos hebr
  rw [Brakes.releaseOff, hservice, hsheave]
  rfl

/-- The terms of a sample, said of what it leaves. -/
theorem State.sample_terms (henv : s.sample.sup.env = s.watched.sup.env) (tb : Tables) (r : Run) (d : RunDyn) :
    s.watched.terms tb r r.stop d =
      { ramp := rampTerm d.aAcc r.releaseTime s.now
        cruise := stepCruise r.cruise d.aSvc s.sample.trk.conf.cruiseCap
        lookAhead := s.sample.lookAhead tb r.dir d.aSvc
        stop := (stopTerm r r.stop d.aSvc s.sample.trk.xA s.now).1
        envelope := 88 * s.sample.sup.vE s.sample.trk.xA / 100
        zero := (stopTerm r r.stop d.aSvc s.sample.trk.xA s.now).2 } := by
  have hvE : s.watched.sup.vE s.watched.trk.xA = s.sample.sup.vE s.sample.trk.xA := by
    rw [s.watched_trk]
    simp only [Supervisor.vE, henv]
  have hlook : s.watched.lookAhead tb r.dir d.aSvc = s.sample.lookAhead tb r.dir d.aSvc := by
    simp only [State.lookAhead, s.watched_trk]
  rw [← hvE, ← hlook, ← s.watched_now, ← s.watched_trk]
  rfl

/-- What a sample sends the drive is of the state that it leaves. -/
theorem eq_sample_ref_of_exec {dt : Time} {t : State} (h : exec (.positionSample dt) s = .next t) :
    t.plan.ref = (s.advance dt).sample.plan.ref ∧ t.drive = (s.advance dt).sample.drive ∧ t.geo = s.geo := by
  have heff : effect (.positionSample dt) s = (s.advance dt).sample := rfl
  have hgeo : (s.advance dt).sample.geo = s.geo := by simp
  have ht := eq_transmit_of_exec h
  rw [heff] at ht
  rw [← hgeo]
  generalize (s.advance dt).sample = u at ht ⊢
  rw [ht]
  simp

/-- Settles O38: a reference other than 0 is the planner's, of a run it drives; and for a moving run the planner is opened on
the terms as the sample leaves them, the run held or not. -/
theorem speedReferenceIsBounded : Obligations.SpeedReferenceIsBounded := by
  refine ⟨fun dt s t hexec hne => ?_, fun dt tb r x d s t hexec htb hr hst hd hx hxst => ?_⟩
  · obtain ⟨htrk, hsup, hrun, hbrk, -⟩ := eq_sample_of_exec hexec
    obtain ⟨-, hdrive, hgeo⟩ := eq_sample_ref_of_exec hexec
    rw [hdrive] at hne
    rw [htrk, hsup, hrun, hbrk, hdrive, hgeo]
    exact State.sample_lastRef (s := s.advance dt) hne
  · obtain ⟨htrk, hsup, hrun, hbrk, -⟩ := eq_sample_of_exec hexec
    obtain ⟨href, -, -⟩ := eq_sample_ref_of_exec hexec
    rw [hrun] at hx
    obtain ⟨y, hheld, henv, hwatch, hapart, hmoving⟩ := State.sample_moving (s := s.advance dt) htb hr hst hd hx hxst
    rw [State.watched_trk] at hmoving hapart
    have hycruise : y.cruise = r.cruise := by rw [hheld.same]
    have hcruise : x.cruise = stepCruise r.cruise d.aSvc (s.advance dt).sample.trk.conf.cruiseCap := by
      rw [← hycruise]
      by_cases hseq : s.brk.seq = .moving
      · rw [(hmoving hseq).1]; rfl
      · rw [(hapart hseq).1]; rfl
    rw [htrk, hsup, hbrk, href]
    intro cap edges caps capped ramp envelope stopAt dist stop zero held
    refine ⟨hcruise.trans (stepCruise_eq _ _ _), fun hseq => (hapart hseq).2, fun hseq => ?_⟩
    obtain ⟨hrun', href', hbrk'⟩ := hmoving hseq
    have hX := State.sample_terms henv tb r d
    obtain ⟨hzero, hway⟩ := stopTerm_spec r r.stop d.aSvc (s.advance dt).sample.trk.xA (s.now + dt)
    generalize (s.advance dt).watched.terms tb r r.stop d = X at hrun' href' hbrk' hX
    have hXzero : X.zero = true ↔ zero := by rw [hX]; exact hzero
    have hXstop : X.zero = false → X.stop = stop := by rw [hX]; exact hway
    have hXramp : X.ramp = ramp := by rw [hX]; rfl
    have hXcruise : X.cruise = x.cruise := by rw [hX, hcruise]
    have hXenvelope : X.envelope = envelope := by rw [hX]
    have hXlook : X.lookAhead = (s.advance dt).sample.lookAhead tb r.dir d.aSvc := by rw [hX]
    have hbraking := RefTerms.braking_iff hXstop
    have hleast : ¬zero → (X.rampLeast = true ↔ _) := fun hz => RefTerms.rampLeast_iff (hXstop (Bool.eq_false_iff.2 (fun h => hz (hXzero.1 h))))
    have hvRef := RefTerms.vRef_eq hXstop
    rw [hXramp, hXcruise, hXenvelope] at hbraking hleast hvRef
    obtain ⟨hmem, hle⟩ := (s.advance dt).sample.lookAhead_spec tb r.dir d.aSvc
    rw [← hXlook, lookCaps_eq, lookCaps_eq] at hmem hle
    have hstops : x.stop = y.stop := by rw [hrun']; rfl
    have hphase : x.state = nextPhase y.state X := by rw [hrun']
    obtain ⟨hbrakes, hcruises, haccelerates⟩ := hheld.nextPhase hst X
    refine ⟨X.lookAhead, X.vRef, hmem, hle, ?_, href', ⟨?_, ?_, ?_⟩, ?_⟩
    · rw [hvRef]
      by_cases hz : X.zero = true
      · rw [if_pos hz, if_pos (hXzero.1 hz)]
      · rw [if_neg hz, if_neg (fun h => hz (hXzero.2 h))]
    · rw [hphase]
      exact fun h => hbrakes (h.imp (hstops ▸ ·) (Or.imp_left (fun hs => hbraking.2 (hs.imp_left hXzero.2))))
    · rw [hphase]
      exact fun hno hs => hcruises (hstops ▸ hno) (fun hb => hs ((hbraking.1 hb).imp_left hXzero.1))
    · rw [hphase]
      intro hno hs hacc
      rw [haccelerates (hstops ▸ hno) (fun hb => hs ((hbraking.1 hb).imp_left hXzero.1)) hacc]
      exact if_congr (hleast (fun hz => hs (.inl hz))) rfl rfl
    · intro rests
      have hrests : rests ↔ y.state = .braking ∧ X.vRef = 0 ∧ (s.advance dt).sample.trk.still = true :=
        and_congr_left' (by rw [← hheld.stop_ne_iff, ← hstops])
      refine ⟨fun hr hnone hsbr hebr => ?_, fun hr hnone => ?_⟩
      · rw [hbrk', if_pos (hrests.1 hr), hwatch hnone, State.watched_now,
          Brakes.releaseOff_of_on (k := (s.advance dt).brk) hsbr hebr]
        rfl
      · rw [hbrk', if_neg (fun h => hr (hrests.2 h)), hwatch hnone]
        rfl

end Machine
end Sys2Proof
end

section
/-! PROOFS. The restart that follows the reply to RESTART (O6). -/

namespace Sys2Proof
namespace Machine

variable {s a b : State}

/-! ### Notices that join a queue with room -/

/-- What a class's settings make of a notice at time 0: its entry, or none. -/
def NoticeQueue.entry (q : NoticeQueue) (c : NoticeClass) (kind : Nat) (body : List Field) : List Notice :=
  if (q.settings.get c).enabled then
    [⟨c, kind, 0, body, (q.settings.get c).priority, (q.settings.get c).toC, (q.settings.get c).toS, (q.settings.get c).toC,
      (q.settings.get c).toS⟩]
  else []

theorem NoticeQueue.add_entry {q : NoticeQueue} (h : q.entries.length < 32) (c : NoticeClass) (kind : Nat) (body : List Field) :
    q.add c kind 0 body = { q with entries := q.entries ++ q.entry c kind body } := by
  cases he : (q.settings.get c).enabled with
  | false => simp [NoticeQueue.add, NoticeQueue.entry, he]
  | true => simp [NoticeQueue.add, NoticeQueue.entry, he, noticeRoom, h]

theorem NoticeQueue.entry_length (q : NoticeQueue) (c : NoticeClass) (kind : Nat) (body : List Field) :
    (q.entry c kind body).length ≤ 1 := by
  unfold NoticeQueue.entry
  split <;> simp

theorem NoticeQueue.entry_of_settings {q p : NoticeQueue} (h : q.settings = p.settings) (c : NoticeClass) (kind : Nat)
    (body : List Field) : q.entry c kind body = p.entry c kind body := by rw [NoticeQueue.entry, h, NoticeQueue.entry]

/-- A notice that is queued where `x` is set, at time 0 and with room. -/
theorem State.noticeIf_of_room (hnow : s.now = 0) (h : s.notices.entries.length < 32) (x : Bool) (c : NoticeClass) (kind : Nat)
    (body : List Field) : (s.noticeIf x c kind body).notices =
      { s.notices with entries := s.notices.entries ++ (if x = true then s.notices.entry c kind body else []) } := by
  cases x with
  | false => simp [State.noticeIf]
  | true =>
    have hnotice : s.noticeIf true c kind body = s.notice c kind body := rfl
    rw [hnotice, State.notice_notices, hnow]
    exact NoticeQueue.add_entry h c kind body

/-! ### Transmitters that owe no reply -/

/-- No port owes a reply. -/
def State.Owes (s : State) : Prop := ∃ k, (s.ctl.get k).replies ≠ []

/-- Two states with the same ports and the same notices, and no reply owed. -/
structure State.SendsAs (a b : State) : Prop where
  ctl : a.ctl = b.ctl
  notices : a.notices = b.notices
  free : ¬a.Owes

theorem State.sendNext_of_free {k : Port} (h : (s.ctl.get k).replies = []) : s.sendNext k = s.sendNotice k := by
  simp only [State.sendNext, h]

theorem State.SendsAs.ask (h : a.SendsAs b) (k : Port) : (a.ask k).SendsAs (b.ask k) := by
  have hfree : ∀ j, (a.ctl.get j).replies = [] := fun j => by
    by_contra hj
    exact h.free ⟨j, hj⟩
  cases htx : (a.ctl.get k).tx with
  | some x =>
    have hb : (b.ctl.get k).tx = some x := by rw [← h.ctl, htx]
    have ha : a.ask k = a := by simp only [State.ask, htx]
    have hb' : b.ask k = b := by simp only [State.ask, hb]
    rw [ha, hb']
    exact h
  | none =>
    have hb : (b.ctl.get k).tx = none := by rw [← h.ctl, htx]
    have ha : a.ask k = a.sendNotice k := by simp only [State.ask, htx, State.sendNext_of_free (hfree k)]
    have hb' : b.ask k = b.sendNotice k := by
      simp only [State.ask, hb, State.sendNext_of_free (h.ctl ▸ hfree k)]
    rw [ha, hb']
    cases hn : a.notices.choose k with
    | none =>
      have hbn : b.notices.choose k = none := by rw [← h.notices, hn]
      simp only [State.sendNotice, hn, hbn]
      exact h
    | some n =>
      have hbn : b.notices.choose k = some n := by rw [← h.notices, hn]
      simp only [State.sendNotice, hn, hbn]
      refine ⟨by simp [State.setPort, h.ctl, h.notices], by simp [State.setPort, h.notices], fun ⟨j, hj⟩ => hj ?_⟩
      by_cases hjk : j = k
      · subst hjk
        simpa [State.setPort] using hfree j
      · simpa [State.setPort, hjk] using hfree j

theorem State.SendsAs.transmit (h : a.SendsAs b) : a.transmit.SendsAs b.transmit := (h.ask .C).ask .S

/-! ### The restart -/

theorem resetConditions_level (x y : Bool) : (resetConditions x y).level = if x then .fatal else .degraded := by
  cases x <;> cases y <;> rfl

theorem State.resetBlocks_reported (s : State) (k : ResetKind) (i : Inputs) :
    (s.resetBlocks k i).line.reported = (s.resetBlocks k i).line.memory := Severity.max_self _

/-- What a reset reports changes the ports and the notices alone. -/
theorem State.resetReport_frame (s : State) (k : ResetKind) (m : Mode) :
    (s.resetReport k m).now = s.now ∧ (s.resetReport k m).geo = s.geo ∧ (s.resetReport k m).trk = s.trk ∧
      (s.resetReport k m).sup = s.sup ∧ (s.resetReport k m).plan = s.plan ∧ (s.resetReport k m).brk = s.brk ∧
      (s.resetReport k m).doors = s.doors ∧ (s.resetReport k m).gates = s.gates ∧ (s.resetReport k m).tally = s.tally ∧
      (s.resetReport k m).line = s.line ∧ (s.resetReport k m).links = s.links ∧ (s.resetReport k m).drive = s.drive ∧
      (s.resetReport k m).freeSeq = s.freeSeq ∧ (s.resetReport k m).notices.settings = s.notices.settings ∧
      (s.resetReport k m).notices.threshold = s.notices.threshold := by
  simp [State.resetReport]

theorem State.ask_lost (h : s.notices.lost = .const 0) (k : Port) : (s.ask k).notices.lost = .const 0 := by
  simp only [State.ask, State.sendNext, State.sendNotice, State.setPort]
  split
  · exact h
  · split
    · split
      · simp only [NoticeQueue.handed, h]
        cases k <;> rfl
      · exact h
    · split <;> exact h

theorem State.transmit_lost (h : s.notices.lost = .const 0) : s.transmit.notices.lost = .const 0 := State.ask_lost (State.ask_lost h _) _

/-- The state whose transmitters are asked as STARTED is queued: as `s`, but for the ports and the notices of the restart. -/
def State.startedOf (s : State) (m : Mode) (k : Severity) : State :=
  { s with
    ctl := .const ⟨.hunting, [], none⟩
    notices := { s.notices with entries := s.notices.entry .mode 1 [.code 2, .code m.code, .code k.code], lost := .const 0 } }

/-- The same once the other notices are queued behind what is left of it. -/
def State.restartedOf (s u : State) (m : Mode) (body : List Field) : State :=
  { u with notices := { u.notices with
    entries := u.notices.entries ++
      (if s.line.mode = m then [] else s.notices.entry .mode 0 [.code s.line.mode.code, .code m.code, .code 2]) ++
      s.notices.entry .severity 0 body } }

/-- What a restart reports: STARTED, asked for at once, then MODE where it changes, then SEVERITY. -/
theorem State.doReset_restart_sends (s : State) (i : Inputs) : ∃ body,
    (s.doReset .restart i).SendsAs (s.restartedOf
      (s.startedOf (s.resetBlocks .restart i).line.mode (s.resetBlocks .restart i).line.memory).transmit
      (s.resetBlocks .restart i).line.mode body) ∧ (s.doReset .restart i).notices.lost = .const 0 := by
  have hreported := s.resetBlocks_reported .restart i
  generalize hw : s.resetBlocks .restart i = w at hreported ⊢
  have hnow : w.now = 0 := by rw [← hw]; rfl
  have hnotices : w.notices = ⟨[], s.notices.settings, s.notices.threshold, .const 0⟩ := by rw [← hw]; rfl
  have hctl : w.ctl = .const ⟨.hunting, [], none⟩ := by rw [← hw]; rfl
  have hmemory : w.line.memory = .fatal ∨ w.line.memory = .degraded := by
    have hlevel : w.line.memory = (resetConditions s.sup.trip.isSome w.doors.anyIsolated).level := by rw [← hw]; rfl
    rw [hlevel, resetConditions_level]
    split <;> simp
  have hstarted : State.SendsAs (w.notice .mode 1 [.code 2, .code w.line.mode.code, .code w.line.memory.code])
      (s.startedOf w.line.mode w.line.memory) := by
    refine ⟨(show _ = w.ctl by simp).trans hctl, ?_, ?_⟩
    · rw [State.notice_notices, hnow, hnotices, NoticeQueue.add_entry (by simp)]
      rfl
    · rintro ⟨k, hk⟩
      apply hk
      rw [show (w.notice .mode 1 _).ctl = w.ctl by simp, hctl]
      cases k <;> rfl
  have hsent := hstarted.transmit
  have hdone : s.doReset .restart i = ((State.transmit (w.notice .mode 1 [.code 2, .code w.line.mode.code,
      .code w.line.memory.code])).noticeIf (s.line.mode != w.line.mode) .mode 0
        [.code s.line.mode.code, .code w.line.mode.code, .code 2]).noticeIf true .severity 0
        (severityBody .clear w.line.memory w.line.conds.highest w.line.conds) := by
    have hpresent : (w.line.memory != .clear) = true := by rcases hmemory with h | h <;> rw [h] <;> rfl
    rw [State.doReset, hw, State.resetReport]
    simp only [hreported, hpresent]
    rfl
  generalize hs1 : (w.notice .mode 1 [.code 2, .code w.line.mode.code, .code w.line.memory.code]).transmit = s1 at hsent hdone
  have hnow1 : s1.now = 0 := by rw [← hs1]; simpa using hnow
  have hsettings : s1.notices.settings = s.notices.settings := by rw [← hs1]; simp [hnotices]
  have hlength : s1.notices.entries.length ≤ 1 := by
    rw [hsent.notices]
    exact (State.transmit_notices_le _).trans (NoticeQueue.entry_length _ _ _ _)
  have hlost : s1.notices.lost = .const 0 := by
    rw [hsent.notices]
    exact State.transmit_lost rfl
  refine ⟨severityBody .clear w.line.memory w.line.conds.highest w.line.conds, ?_⟩
  generalize severityBody .clear w.line.memory w.line.conds.highest w.line.conds = body at hdone ⊢
  rw [hdone]
  generalize hs2 : s1.noticeIf (s.line.mode != w.line.mode) .mode 0
    [.code s.line.mode.code, .code w.line.mode.code, .code 2] = s2
  have hnow2 : s2.now = 0 := by rw [← hs2]; simpa using hnow1
  have hctl2 : s2.ctl = s1.ctl := by rw [← hs2]; simp
  have hnotices2 : s2.notices = { s1.notices with entries := s1.notices.entries ++
      (if s.line.mode = w.line.mode then [] else
        s.notices.entry .mode 0 [.code s.line.mode.code, .code w.line.mode.code, .code 2]) } := by
    rw [← hs2, State.noticeIf_of_room hnow1 (by omega), NoticeQueue.entry_of_settings hsettings]
    by_cases hmode : s.line.mode = w.line.mode <;> simp [hmode]
  have hroom : s2.notices.entries.length < 32 := by
    have hmode := s.notices.entry_length .mode 0 [.code s.line.mode.code, .code w.line.mode.code, .code 2]
    rw [hnotices2, List.length_append]
    split
    · simp only [List.length_nil]; omega
    · omega
  have hsettings2 : s2.notices.settings = s.notices.settings := by rw [hnotices2, hsettings]
  have hnotices3 := State.noticeIf_of_room hnow2 hroom true .severity 0 body
  rw [if_pos rfl, NoticeQueue.entry_of_settings hsettings2] at hnotices3
  refine ⟨⟨?_, ?_, ?_⟩, ?_⟩
  · rw [show (s2.noticeIf true .severity 0 body).ctl = s2.ctl by simp, hctl2, hsent.ctl]
    rfl
  · rw [hnotices3, hnotices2, hsent.notices]
    rfl
  · rintro ⟨k, hk⟩
    rw [show (s2.noticeIf true .severity 0 body).ctl = s2.ctl by simp, hctl2] at hk
    exact hsent.free ⟨k, hk⟩
  · rw [hnotices3, hnotices2]
    exact hlost

end Machine
end Sys2Proof
end

section
/-! PROOFS. What a restart keeps and what it resets (O6). -/

namespace Sys2Proof
namespace Machine

variable {s a b : State}

/-! ### The blocks after a restart -/

/-- A reset leaves each block as its reset value, whatever it reports. -/
theorem State.doReset_frame (s : State) (k : ResetKind) (i : Inputs) :
    (s.doReset k i).now = 0 ∧ (s.doReset k i).geo = s.resetGeo k ∧
      (s.doReset k i).trk = Tracker.afterReset (s.resetCount k) (s.resetGeo k).length ∧
      (s.doReset k i).sup = ⟨none, BandRec.afterReset, s.resetTrip k⟩ ∧ (s.doReset k i).plan = Planner.afterReset ∧
      (s.doReset k i).brk = Brakes.afterReset i ∧ (s.doReset k i).doors = s.resetDoors k ∧
      (s.doReset k i).gates = s.resetGates k ∧ (s.doReset k i).tally = .const Load.afterReset ∧
      (s.doReset k i).line = (s.resetBlocks k i).line ∧ (s.doReset k i).links = .const CarLink.afterReset ∧
      (s.doReset k i).drive = Drive.afterReset ∧ (s.doReset k i).freeSeq = s.freeSeq ∧
      (s.doReset k i).notices.settings = (s.resetNotices k).settings ∧
      (s.doReset k i).notices.threshold = (s.resetNotices k).threshold :=
  (s.resetBlocks k i).resetReport_frame k s.line.mode

/-- A restart leaves each door with its isolation alone. -/
theorem State.resetDoors_door (s : State) (x : Door) :
    (s.resetDoors .restart).door x = .afterReset (s.doors.door x).isolated := by
  obtain ⟨c, i⟩ := x
  cases c <;> cases i <;> rfl

theorem State.resetDoors_anyIsolated (s : State) :
    (s.resetDoors .restart).anyIsolated = true ↔ ∃ x, (s.doors.door x).isolated = true := by
  simp only [Doors.anyIsolated_iff, State.resetDoors_door, DoorRec.afterReset]

/-- Counted from the restart, a time is as old as it was then. -/
theorem elapsed_restart (t now : Time) : elapsed (t - now) 0 = elapsed t now := by
  simp only [elapsed]
  congr 1
  bv_omega

/-- The tickets keep their age over a restart. -/
theorem Gates.afterRestart_ages (g : Gates) (now : Time) :
    (g.afterRestart now).recent.map (fun r => (r.ticket, r.gate, elapsed r.time 0)) =
      g.recent.map (fun r => (r.ticket, r.gate, elapsed r.time now)) := by
  simp only [Gates.afterRestart, List.map_map, Function.comp_def, elapsed_restart]

/-! ### The ports after a restart -/

theorem State.SendsAs.trans {c : State} (hab : a.SendsAs b) (hbc : b.SendsAs c) : a.SendsAs c :=
  ⟨hab.ctl.trans hbc.ctl, hab.notices.trans hbc.notices, hab.free⟩

theorem State.SendsAs.flagged (h : a.SendsAs b) (q : List Instr) : (a.flagged q).SendsAs b := ⟨h.ctl, h.notices, h.free⟩

/-- The time at which the restart begins plays no part in what it puts on the ports. -/
theorem State.startedOf_advance (s : State) (dt : Time) (m : Mode) (k : Severity) :
    ((s.advance dt).startedOf m k).SendsAs (s.startedOf m k) := by
  refine ⟨rfl, rfl, ?_⟩
  rintro ⟨j, hj⟩
  apply hj
  cases j <;> rfl

theorem State.SendsAs.restarted (h : a.SendsAs b) (s : State) (dt : Time) (m : Mode) (body : List Field) :
    ((s.advance dt).restartedOf a m body).SendsAs (s.restartedOf b m body) := by
  refine ⟨h.ctl, ?_, h.free⟩
  simp only [State.restartedOf, h.notices]
  rfl

/-! ### The event -/

theorem effect_transmitterFree_restart {k : Port} {f : List Byte} (htx : (s.ctl.get k).tx = some ⟨f, true⟩) (dt : Time) :
    effect (.transmitterFree dt k) s = (s.advance dt).doReset .restart (s.advance dt).levels := by
  have hdone : ((s.ctl.get k).tx.any fun x => x.restartDone) = true := by rw [htx]; rfl
  exact if_pos hdone

/-- Settles O6: the blocks by their reset values, the ports and the notices by what the restart reports. -/
theorem restartTakesEffect : Obligations.RestartTakesEffect := by
  intro dt k f s htx
  refine ⟨_, exec_transmit_of_eq (effect_transmitterFree_restart htx dt), ?_⟩
  obtain ⟨body, hsends, hlost⟩ := (s.advance dt).doReset_restart_sends (s.advance dt).levels
  have hmemory : ((s.advance dt).resetBlocks .restart (s.advance dt).levels).line.memory =
      if s.sup.trip.isSome then .fatal else .degraded := resetConditions_level _ _
  simp only [State.transmit_frame, State.flagged_frame, State.doReset_frame]
  refine ⟨trivial, rfl, rfl, rfl, rfl, fun x => ?door, rfl, rfl, rfl, rfl, rfl, rfl, rfl, rfl, rfl, ?ages, rfl, rfl, rfl, ?dropped,
    rfl, rfl, rfl, rfl, rfl, rfl, rfl, ?isolated, hmemory, rfl, rfl, ?lost, ⟨body, ?ports⟩, rfl, rfl⟩
  case door => exact State.resetDoors_door _ x
  case ages => exact Gates.afterRestart_ages _ _
  case dropped => exact ⟨rfl, rfl, rfl, rfl⟩
  case isolated => exact State.resetDoors_anyIsolated _
  case lost => exact State.transmit_lost hlost
  case ports =>
    have hsent := ((hsends.trans ((s.startedOf_advance dt _ _).transmit.restarted s dt _ body)).flagged s.pending).transmit
    simpa only [State.restartedOf, State.startedOf, NoticeQueue.entry, State.transmit_frame] using And.intro hsent.ctl hsent.notices

end Machine
end Sys2Proof
end
